-- ==== Sys2Proof/Word.lean ====
section
/-!
DEFINITION. The small types every file speaks in: bytes, the numbered things the controller has three, four or six of,
instrument numbers, registry time, and the containers indexed by those numbers.
-/
namespace Sys2Proof

/-- A byte of a block or of a frame. -/
abbrev Byte := BitVec 8

/-- Station links 0, 1 and 2. -/
inductive Link where
  | l0 | l1 | l2
deriving DecidableEq, Repr

/-- One of four: lodgement lines 1 to 4, and filing slots F1 to F4. -/
inductive Quad where
  | q1 | q2 | q3 | q4
deriving DecidableEq, Repr

/-- Lodgement lines 1 to 4. -/
abbrev LineNo := Quad

/-- Filing slots F1 to F4. -/
abbrev FSlot := Quad

/-- Drives 1 to 6. -/
inductive DriveNo where
  | d1 | d2 | d3 | d4 | d5 | d6
deriving DecidableEq, Repr

/-- The two recording surfaces of a platter. -/
inductive Side where
  | s0 | s1
deriving DecidableEq, Repr

/-- One value for each link. -/
structure Three (α : Type) where
  a0 : α
  a1 : α
  a2 : α
deriving DecidableEq, Repr

/-- One value for each line, or for each filing slot. -/
structure Four (α : Type) where
  a1 : α
  a2 : α
  a3 : α
  a4 : α
deriving DecidableEq, Repr

/-- One value for each drive. -/
structure Six (α : Type) where
  a1 : α
  a2 : α
  a3 : α
  a4 : α
  a5 : α
  a6 : α
deriving DecidableEq, Repr

/-- An instrument number, day/sequence (spec 00, Conventions). -/
structure InstrNum where
  day : Nat
  seq : Nat
deriving DecidableEq, Repr

/-- Registry time: seconds and milliseconds (spec 00, Conventions). -/
structure Stamp where
  sec : Nat
  ms : Nat
deriving DecidableEq, Repr

/-- One side of one platter. -/
structure PlatterSide where
  platter : Nat
  side : Side
deriving DecidableEq, Repr

namespace Link

/-- The three links in order. -/
def all : List Link := [.l0, .l1, .l2]

/-- The number of a link. -/
def toNat : Link → Nat
  | .l0 => 0
  | .l1 => 1
  | .l2 => 2

/-- The link a number names, if it names one. -/
def ofNat? : Nat → Option Link
  | 0 => some .l0
  | 1 => some .l1
  | 2 => some .l2
  | _ => none

end Link

namespace Quad

/-- The four in order. -/
def all : List Quad := [.q1, .q2, .q3, .q4]

/-- The number, 1 to 4. -/
def toNat : Quad → Nat
  | .q1 => 1
  | .q2 => 2
  | .q3 => 3
  | .q4 => 4

/-- The one of four a number names, if it names one. -/
def ofNat? : Nat → Option Quad
  | 1 => some .q1
  | 2 => some .q2
  | 3 => some .q3
  | 4 => some .q4
  | _ => none

end Quad

namespace DriveNo

/-- The six drives in order. -/
def all : List DriveNo := [.d1, .d2, .d3, .d4, .d5, .d6]

/-- The number, 1 to 6. -/
def toNat : DriveNo → Nat
  | .d1 => 1
  | .d2 => 2
  | .d3 => 3
  | .d4 => 4
  | .d5 => 5
  | .d6 => 6

/-- The drive a number names, if it names one. -/
def ofNat? : Nat → Option DriveNo
  | 1 => some .d1
  | 2 => some .d2
  | 3 => some .d3
  | 4 => some .d4
  | 5 => some .d5
  | 6 => some .d6
  | _ => none

end DriveNo

namespace Side

/-- The number of a side. -/
def toNat : Side → Nat
  | .s0 => 0
  | .s1 => 1

/-- The side a byte names, if it names one. -/
def ofNat? : Nat → Option Side
  | 0 => some .s0
  | 1 => some .s1
  | _ => none

/-- The side turned over. -/
def other : Side → Side
  | .s0 => .s1
  | .s1 => .s0

end Side

namespace Three

variable {α : Type}

/-- The same value three times. -/
def const (a : α) : Three α := ⟨a, a, a⟩

/-- The value of one link. -/
def get (t : Three α) : Link → α
  | .l0 => t.a0
  | .l1 => t.a1
  | .l2 => t.a2

/-- One link's value replaced. -/
def set (t : Three α) (l : Link) (a : α) : Three α :=
  match l with
  | .l0 => { t with a0 := a }
  | .l1 => { t with a1 := a }
  | .l2 => { t with a2 := a }

end Three

namespace Four

variable {α : Type}

/-- The same value four times. -/
def const (a : α) : Four α := ⟨a, a, a, a⟩

/-- The value of one of the four. -/
def get (t : Four α) : Quad → α
  | .q1 => t.a1
  | .q2 => t.a2
  | .q3 => t.a3
  | .q4 => t.a4

/-- One value replaced. -/
def set (t : Four α) (q : Quad) (a : α) : Four α :=
  match q with
  | .q1 => { t with a1 := a }
  | .q2 => { t with a2 := a }
  | .q3 => { t with a3 := a }
  | .q4 => { t with a4 := a }

end Four

namespace Six

variable {α : Type}

/-- The same value six times. -/
def const (a : α) : Six α := ⟨a, a, a, a, a, a⟩

/-- The value of one drive. -/
def get (t : Six α) : DriveNo → α
  | .d1 => t.a1
  | .d2 => t.a2
  | .d3 => t.a3
  | .d4 => t.a4
  | .d5 => t.a5
  | .d6 => t.a6

/-- One drive's value replaced. -/
def set (t : Six α) (d : DriveNo) (a : α) : Six α :=
  match d with
  | .d1 => { t with a1 := a }
  | .d2 => { t with a2 := a }
  | .d3 => { t with a3 := a }
  | .d4 => { t with a4 := a }
  | .d5 => { t with a5 := a }
  | .d6 => { t with a6 := a }

end Six

/-- The key instrument numbers compare by: day first, then sequence (spec 00, Conventions).
A sequence is below 65,536 on the lanes (R197), so equal keys are equal numbers there. -/
def InstrNum.key (n : InstrNum) : Nat := n.day * 65536 + n.seq

/-- A stamp as one count of milliseconds, by which stamps compare. -/
def Stamp.toMs (t : Stamp) : Nat := t.sec * 1000 + t.ms

end Sys2Proof
end

