-- ==== Sys2Proof/Config.lean ====
section
/-!
DEFINITION. The figures of the spec's Table 3 and of its timeouts, and the free values: constants of which nothing is
known, one for each value the spec leaves open.
-/
namespace Sys2Proof.Config

/-- Instrument table entries (R4). -/
def maxEntries : Nat := 131072
/-- Free entries at and below which CATALOGUE_LOW is posted (R6). -/
def lowEntries : Nat := 4096
/-- Folio records (R13). -/
def maxFolios : Nat := 32768
/-- Folio links (R13). -/
def maxFolioLinks : Nat := 262144
/-- Successor links followed (R11). -/
def maxChain : Nat := 8
/-- Numbers in one list response (R16, R18). -/
def listLen : Nat := 16
/-- Records in one ACCOUNT_READ or PERIOD_TAKE response (R172, R181). -/
def recordsLen : Nat := 8
/-- Seconds in a day (R41). -/
def secondsPerDay : Nat := 86400
/-- The greatest seconds value of the clock (R29). -/
def topSec : Nat := 4294967295
/-- The trim accumulator's modulus (R27). -/
def trimUnit : Nat := 1000000
/-- The greatest sequence within a day (R42). -/
def maxSeq : Nat := 9999
/-- Stamps awaiting print on one line (R44). -/
def stampQueueLen : Nat := 4
/-- Blocks on a side (R1). -/
def sideBlocks : Nat := 307200
/-- The first block of a side an extent may take (R1). -/
def firstBlock : Nat := 16
/-- The longest extent (R1, R53). -/
def maxExtent : Nat := 4095
/-- Bytes of a block. -/
def blockBytes : Nat := 1024
/-- Blocks of the ingest ring, and of the staging area (05, introduction). -/
def ringBlocks : Nat := 4096
/-- Page starts a slot records (R54). -/
def maxPageStarts : Nat := 255
/-- Platter records (R119). -/
def maxPlatters : Nat := 160
/-- Storage slots (R122). -/
def storageSlots : Nat := 160
/-- Substitution entries (R145). -/
def maxSubst : Nat := 8
/-- Accounts (R169). -/
def maxAccounts : Nat := 64
/-- Top of a fee tally (R169). -/
def maxFees : Nat := 99999999
/-- Top of a copies tally (R169). -/
def maxCopies : Nat := 999999
/-- Top of a page tally (R169). -/
def maxPages : Nat := 9999999
/-- Top of a grand total (R177). -/
def maxGrand : Nat := 999999999
/-- Top of the copies-delivered count, the mount count and the lane counts (R3, R119, R194). -/
def max16 : Nat := 65535
/-- Top of an occurrence count and of periods spanned (R191, R179). -/
def max8 : Nat := 255
/-- Refusal responses a link queues before the lane is withheld (R184, R187). -/
def maxRefusals : Nat := 4

/-- Filing idle timeout, ms (R55). -/
def filingIdleMs : Nat := 600000
/-- Delivery stall timeout, ms (R98). -/
def deliveryMs : Nat := 30000
/-- Drive command timeout, ms (R126). -/
def driveMs : Nat := 15000
/-- Picker move timeout, ms (R129). -/
def pickerMs : Nat := 25000
/-- Residency, ms (R124). -/
def residencyMs : Nat := 20000
/-- Age at which a BULK demand ranks as FILING, ms (R136). -/
def ageingMs : Nat := 300000

/-- The most pieces of handed-over work one command may cause to be done (assumption log 42).
It bounds the model's own agenda, not anything of the spec. -/
def agendaFuel : Nat := 4096

/-- FREE VALUE. The side facing the head of a platter found in a drive that answers FAULT at start-up:
R157 gives the platter and no side (assumption log 24). Nothing is known of it. -/
opaque freeSide : Nat → BitVec 1

/-- FREE VALUE. The status of an EXPORT whose drive becomes FAULT while it unloads the platter:
R127 and R143 give the export no answer there (assumption log 25). One of the 57 statuses that are not of a refusal response
(R187); nothing more is known of it. -/
opaque freeExportStatus : Nat → Fin 57

/-- FREE VALUE. What the clock store reads at a power-on after its battery supply was broken: R36 sets the clock to 0
there, and posts the value before, which no rule gives (assumption log 45). Nothing is known of it. -/
opaque freeClock : Nat → BitVec 42

end Sys2Proof.Config
end

