-- ==== Sys2Proof/Params.lean ====
section
/-!
DEFINITION. The operands of the commands: the parameters of spec 10, Table 10-2, as the lanes carry them (a field a rule
may refuse is kept as the number it arrived as), the contents of the mechanism reports, and what a power-on and a power
failure find.
-/
namespace Sys2Proof

/-- An optional field as sent: the presence byte, then the field's bytes (R197). -/
structure OptField where
  presence : Nat
  value : Nat
deriving DecidableEq, Repr

/-- Parameters of RESTORE (R19; 10, Table 10-2). -/
structure RestoreParams where
  inst : InstrNum
  stamp : Stamp
  source : Nat
  platter : Nat
  side : Nat
  start : Nat
  len : Nat
  small : Nat
  plan : Nat
  restricted : Nat
  successor : OptField
  folioCount : Nat
  folios : List Nat
deriving DecidableEq, Repr

/-- Parameters of COMMIT (R56; 10, Table 10-2). `words` are the 4-byte entries after the counts:
folios first, then targets. -/
structure CommitParams where
  slot : Nat
  small : Nat
  plan : Nat
  restricted : Nat
  folioCount : Nat
  targetCount : Nat
  words : List Nat
deriving DecidableEq, Repr

/-- One retrieval item as asked (R80, R81; 10, Table 10-2). -/
structure ItemParams where
  inst : InstrNum
  mode : Nat
  selKind : Nat
  first : Nat
  last : Nat
deriving DecidableEq, Repr

/-- Parameters of FETCH and QUOTE (R80, R82). -/
structure FetchParams where
  item : ItemParams
  purpose : Nat
  account : Nat
  cls : Nat
deriving DecidableEq, Repr

/-- Parameters of BUNDLE (R81). -/
structure BundleParams where
  purpose : Nat
  account : Nat
  cls : Nat
  count : Nat
  items : List ItemParams
deriving DecidableEq, Repr

/-- A fee schedule record (R161; 10.3). -/
structure Schedule where
  b : Nat
  t : Nat
  s1 : Nat
  s2 : Nat
  l : Nat
  c : Nat
  h : Nat
  opens : Nat
  closes : Nat
  m : Nat
deriving DecidableEq, Repr

/-- Parameters of ACCOUNT_SET after the action (R170; 10, Table 10-2). -/
structure AccountParams where
  code : Nat
  state : Nat
  exempt : Nat
deriving DecidableEq, Repr

/-- What a drive's per-block report says (R112, R126): a block read with its bytes, a header block found written or
blank (R67), or a block written or erased. -/
inductive BlockReport where
  | data (bytes : List Byte)
  | header (written : Bool)
  | passed
deriving DecidableEq, Repr

/-- What a label read reports (R129, R151): no platter in the position, or a label, 0 for one that cannot be read. -/
inductive LabelReport where
  | empty
  | label (n : Nat)
deriving DecidableEq, Repr

/-- How a frame the lane checks refuse is known (R185): its tag byte where that had good parity, and its code byte. -/
structure BadFrame where
  tag : Option Nat
  code : Nat
deriving DecidableEq, Repr

/-- What settings memory answers at power-on (R159). -/
inductive SettingsAnswer where
  | kept
  | unrecognised
  | silent
deriving DecidableEq, Repr

/-- What catalogue memory is found to hold at power-on (R23): what it held, an unrecognised marker,
or a count or an order that does not agree. -/
inductive MemoryFound where
  | kept
  | unrecognised
  | disagrees
deriving DecidableEq, Repr

/-- A drive's answer to the UNLOAD of start-up (R157). -/
inductive DriveAnswer where
  | noPlatter
  | ejected (side : Side)
  | fault
  | silent
deriving DecidableEq, Repr

/-- What power-on finds outside the controller (R156, R157, R36). -/
structure PowerOn where
  settings : SettingsAnswer
  batteryLost : Bool
  memory : MemoryFound
  doorOpen : Bool
  gripperHolds : Bool
  drives : Six DriveAnswer
deriving DecidableEq, Repr

/-- A change that is written through the update record (R22, R174, R178), named so that a power failure can strike
while the record holds it: the record change of a slot, the release of a slot's instrument, a create, a restore, the claims of the
COMMIT whose map is read next (R8), CATALOGUE_READY's change (R21), the accrual of an operation's item, and a period close. -/
inductive UpdateChange where
  | record (slot : FSlot)
  | release (slot : FSlot)
  | createFor (line : Option LineNo) (link : Link)
  | restore (p : RestoreParams)
  | claims
  | catalogueReady
  | accrue (link : Link) (tag : Nat)
  | close
deriving DecidableEq, Repr

/-- Where in the writing of the update record a power failure strikes (R22). -/
inductive PowerCut where
  | clear
  | partly
  | complete (c : UpdateChange)
deriving DecidableEq, Repr

end Sys2Proof
end

