-- ==== Sys2Proof/Syntax.lean ====
section
/-!
DEFINITION. The commands: one constructor for each row of spec/opcode_table.json, in the table's order.
-/
namespace Sys2Proof

/-- The commands of the AJ-416: steps of the supply and the time base, presses and printers, the lanes, the requests of
spec 10, Table 10-2, and the reports and timers of the mechanisms. A request carries the link it arrives on and the tag
byte of its header. The last form of CLOCK_TRIM, of SCHEDULE_SET and of ACCOUNT_SET carries its form or action byte as well: 3, 4 and 4 are
the forms the rows name, and a byte that is no form at all stands in these rows too (assumption log 41). -/
inductive Instr where
  | powerOn (found : PowerOn)
  | linksStart
  | clockAdvance
  | trimAccumulatorOverflow
  | temporaryTrimExpiry
  | closeTargetReached
  | press (line : LineNo)
  | printerAccept (line : LineNo)
  | printerAcceptNegated (line : LineNo)
  | strayByte (link : Link)
  | badFrame (link : Link) (frame : BadFrame)
  | responseSend (link : Link)
  | responseAccepted (link : Link)
  | dataAccepted (link : Link)
  | bufferPortMove (parityFault : Bool)
  | deliveryTimeout (link : Link)
  | linkReset (link : Link)
  | linkResetRelease (link : Link)
  | lookup (link : Link) (tag : Nat) (inst : InstrNum)
  | pendingList (link : Link) (tag : Nat) (after : OptField)
  | folioSearch (link : Link) (tag : Nat) (folio : Nat) (after : OptField) (mode : Nat)
  | restore (link : Link) (tag : Nat) (p : RestoreParams)
  | catalogueReady (link : Link) (tag : Nat)
  | lodge (link : Link) (tag : Nat)
  | clockRead (link : Link) (tag : Nat)
  | clockLoad (link : Link) (tag : Nat) (value : Stamp)
  | clockStep (link : Link) (tag : Nat) (seconds : Int)
  | clockTrimBase (link : Link) (tag : Nat) (trim : Int)
  | clockTrimTemporary (link : Link) (tag : Nat) (trim : Int) (duration : Nat)
  | clockTrimEnd (link : Link) (tag : Nat) (form : Nat)
  | closeTargetSet (link : Link) (tag : Nat) (target : Nat) (mode : Nat) (value : Nat)
  | openFiling (link : Link) (tag : Nat) (inst : OptField)
  | feed (link : Link) (tag : Nat) (slot : Nat) (pageStart : Nat) (block : List Byte)
  | commit (link : Link) (tag : Nat) (p : CommitParams)
  | abandon (link : Link) (tag : Nat) (slot : Nat)
  | withdraw (link : Link) (tag : Nat) (inst : InstrNum)
  | closeSide (link : Link) (tag : Nat)
  | filingIdleTimeout (slot : FSlot)
  | fetch (link : Link) (tag : Nat) (p : FetchParams)
  | bundle (link : Link) (tag : Nat) (p : BundleParams)
  | quote (link : Link) (tag : Nat) (p : FetchParams)
  | importPlatter (link : Link) (tag : Nat)
  | exportPlatter (link : Link) (tag : Nat) (platter : Nat)
  | substitute (link : Link) (tag : Nat) (retired : Nat) (replacement : Nat)
  | driveReset (link : Link) (tag : Nat) (drive : Nat)
  | settingsSet (link : Link) (tag : Nat) (count : Nat) (enables : Four Nat)
  | scheduleSetPending (link : Link) (tag : Nat) (schedule : Option Schedule)
  | scheduleSetImmediate (link : Link) (tag : Nat) (schedule : Option Schedule)
  | scheduleSetCancelPending (link : Link) (tag : Nat) (schedule : Option Schedule)
  | scheduleSetShow (link : Link) (tag : Nat) (form : Nat) (schedule : Option Schedule)
  | accountSetCreate (link : Link) (tag : Nat) (p : AccountParams)
  | accountSetChange (link : Link) (tag : Nat) (p : AccountParams)
  | accountSetReset (link : Link) (tag : Nat) (p : AccountParams)
  | accountSetDelete (link : Link) (tag : Nat) (action : Nat) (p : AccountParams)
  | accountRead (link : Link) (tag : Nat) (after : OptField)
  | periodTake (link : Link) (tag : Nat) (after : OptField)
  | periodClear (link : Link) (tag : Nat) (period : Nat)
  | rightsSet (link : Link) (tag : Nat) (target : Nat) (rights : Nat)
  | eventsRead (link : Link) (tag : Nat)
  | eventsAck (link : Link) (tag : Nat) (kinds : Nat)
  | eventsEnable (link : Link) (tag : Nat) (kinds : Nat)
  | status (link : Link) (tag : Nat) (platter : OptField)
  | driveReadyReport (drive : DriveNo)
  | driveUnloadedReport (drive : DriveNo)
  | driveBlockReport (drive : DriveNo) (report : BlockReport)
  | driveDoneReport (drive : DriveNo)
  | driveMediumError (drive : DriveNo)
  | driveUnreadable (drive : DriveNo)
  | driveFaultReport (drive : DriveNo)
  | driveCommandTimeout (drive : DriveNo)
  | residencyExpiry (drive : DriveNo)
  | pickerMoveDone
  | pickerLabelReport (report : LabelReport)
  | pickerMoveTimeout
  | doorOpened
  | doorClosed
  | mailSlotFilled
  | mailSlotEmptied
  | powerFail (cut : PowerCut)
  | settingsWriteEnd (ok : Bool)
  | pressInputInactive (line : LineNo)
deriving DecidableEq, Repr

end Sys2Proof
end

