-- ==== Sys2Proof/WellFormed.lean ====
section
/-!
DEFINITION. Well-formed commands: every operand fits the field that carries it (10, Table 10-1 and Table 10-2). A field's
own range of meaning is not checked here: a value outside it is what the rules answer BAD_FIELD, and the meanings do that.
-/
namespace Sys2Proof

/-- Fits one byte. -/
abbrev byteOk (n : Nat) : Bool := decide (n < 256)

/-- Fits two bytes. -/
abbrev halfOk (n : Nat) : Bool := decide (n < 65536)

/-- Fits four bytes. -/
abbrev wordOk (n : Nat) : Bool := decide (n < 4294967296)

/-- An instrument number as sent: two bytes and two bytes (R197). -/
def InstrNum.fits (n : InstrNum) : Bool := halfOk n.day && halfOk n.seq

/-- A stamp as sent: four bytes and two bytes (R197). -/
def Stamp.fits (t : Stamp) : Bool := wordOk t.sec && halfOk t.ms

/-- A signed field of `bits` bits in two's complement (R197). -/
def signedOk (bits : Nat) (i : Int) : Bool :=
  decide (-(2 ^ (bits - 1) : Int) ≤ i) && decide (i < 2 ^ (bits - 1))

/-- An optional field of four bytes, and one of two bytes (R197). -/
def OptField.fits4 (o : OptField) : Bool := byteOk o.presence && wordOk o.value
@[inherit_doc OptField.fits4] def OptField.fits2 (o : OptField) : Bool := byteOk o.presence && halfOk o.value

/-- A block is 1,024 bytes (spec 00, Conventions). -/
def blockOk (b : List Byte) : Bool := decide (b.length = Config.blockBytes)

/-- RESTORE carries 1 to 4 folio entries (10, Table 10-2: lengths 33, 37, 41, 45). -/
def RestoreParams.fits (p : RestoreParams) : Bool :=
  p.inst.fits && p.stamp.fits && byteOk p.source && halfOk p.platter && byteOk p.side && wordOk p.start &&
  halfOk p.len && byteOk p.small && byteOk p.plan && byteOk p.restricted && p.successor.fits4 &&
  byteOk p.folioCount && p.folios.all wordOk && decide (1 ≤ p.folios.length) && decide (p.folios.length ≤ 4)

/-- COMMIT carries 1 to 8 entries after its counts (10, Table 10-2: lengths 10 to 38 in steps of 4). -/
def CommitParams.fits (p : CommitParams) : Bool :=
  byteOk p.slot && byteOk p.small && byteOk p.plan && byteOk p.restricted && byteOk p.folioCount &&
  byteOk p.targetCount && p.words.all wordOk && decide (1 ≤ p.words.length) && decide (p.words.length ≤ 8)

/-- The fields of one retrieval item. -/
def ItemParams.fits (p : ItemParams) : Bool :=
  p.inst.fits && byteOk p.mode && byteOk p.selKind && byteOk p.first && byteOk p.last

/-- The fields of FETCH and QUOTE. -/
def FetchParams.fits (p : FetchParams) : Bool :=
  p.item.fits && byteOk p.purpose && halfOk p.account && byteOk p.cls

/-- BUNDLE carries 1 to 8 items (10, Table 10-2: lengths 13 to 69 in steps of 8). -/
def BundleParams.fits (p : BundleParams) : Bool :=
  byteOk p.purpose && halfOk p.account && byteOk p.cls && byteOk p.count && p.items.all ItemParams.fits &&
  decide (1 ≤ p.items.length) && decide (p.items.length ≤ 8)

/-- The schedule record's fields (10.3). -/
def Schedule.fits (c : Schedule) : Bool :=
  halfOk c.b && byteOk c.t && halfOk c.s1 && halfOk c.s2 && halfOk c.l && halfOk c.c && byteOk c.h &&
  wordOk c.opens && wordOk c.closes && wordOk c.m

/-- The fields of ACCOUNT_SET after its action. -/
def AccountParams.fits (p : AccountParams) : Bool := halfOk p.code && byteOk p.state && byteOk p.exempt

/-- The command's operands fit the fields that carry them. -/
def Instr.wellFormed : Instr → Bool
  | .badFrame _ f => (match f.tag with | some t => byteOk t | none => true) && byteOk f.code
  | .lookup _ t n => byteOk t && n.fits
  | .pendingList _ t a => byteOk t && a.fits4
  | .folioSearch _ t f a m => byteOk t && wordOk f && a.fits4 && byteOk m
  | .restore _ t p => byteOk t && p.fits
  | .catalogueReady _ t => byteOk t
  | .lodge _ t => byteOk t
  | .clockRead _ t => byteOk t
  | .clockLoad _ t v => byteOk t && v.fits
  | .clockStep _ t n => byteOk t && signedOk 32 n
  | .clockTrimBase _ t n => byteOk t && signedOk 16 n
  | .clockTrimTemporary _ t n d => byteOk t && signedOk 16 n && halfOk d
  | .clockTrimEnd _ t f => byteOk t && byteOk f && f != 1 && f != 2
  | .closeTargetSet _ t g m v => byteOk t && wordOk g && byteOk m && wordOk v
  | .openFiling _ t o => byteOk t && o.fits4
  | .feed _ t f p b => byteOk t && byteOk f && byteOk p && blockOk b
  | .commit _ t p => byteOk t && p.fits
  | .abandon _ t f => byteOk t && byteOk f
  | .withdraw _ t n => byteOk t && n.fits
  | .closeSide _ t => byteOk t
  | .fetch _ t p => byteOk t && p.fits
  | .bundle _ t p => byteOk t && p.fits
  | .quote _ t p => byteOk t && p.fits
  | .importPlatter _ t => byteOk t
  | .exportPlatter _ t p => byteOk t && halfOk p
  | .substitute _ t a b => byteOk t && halfOk a && halfOk b
  | .driveReset _ t d => byteOk t && byteOk d
  | .settingsSet _ t c e => byteOk t && byteOk c && byteOk e.a1 && byteOk e.a2 && byteOk e.a3 && byteOk e.a4
  | .scheduleSetPending _ t c => byteOk t && c.all Schedule.fits
  | .scheduleSetImmediate _ t c => byteOk t && c.all Schedule.fits
  | .scheduleSetCancelPending _ t c => byteOk t && c.all Schedule.fits
  | .scheduleSetShow _ t f c => byteOk t && byteOk f && f != 1 && f != 2 && f != 3 && c.all Schedule.fits
  | .accountSetCreate _ t p => byteOk t && p.fits
  | .accountSetChange _ t p => byteOk t && p.fits
  | .accountSetReset _ t p => byteOk t && p.fits
  | .accountSetDelete _ t a p => byteOk t && byteOk a && a != 1 && a != 2 && a != 3 && p.fits
  | .accountRead _ t a => byteOk t && a.fits2
  | .periodTake _ t a => byteOk t && a.fits2
  | .periodClear _ t p => byteOk t && halfOk p
  | .rightsSet _ t l r => byteOk t && byteOk l && byteOk r
  | .eventsRead _ t => byteOk t
  | .eventsAck _ t k => byteOk t && halfOk k
  | .eventsEnable _ t k => byteOk t && halfOk k
  | .status _ t o => byteOk t && o.fits2
  | .driveBlockReport _ (.data b) => blockOk b
  | .pickerLabelReport (.label n) => halfOk n
  | .powerFail (.complete (.restore p)) => p.fits
  | .powerFail (.complete (.accrue _ t)) => decide (t < 4)
  | _ => true

end Sys2Proof
end

