-- ==== Sys2Proof/Decode.lean ====
section
/-!
DEFINITION. Commands spelled by bits: no row of spec/opcode_table.json gives bits (each row's "fields" is empty), so no
word spells a command. A command reaches the controller with its operands, in the queue of waiting commands.
-/
namespace Sys2Proof

/-- The command a word spells by the table's bits: none, since no row of the table gives bits. -/
def decodeTableWord (_nbits _w : Nat) : Option Instr := none

end Sys2Proof
end

