-- ==== Sys2Proof/Machine/State.lean ====
section
/-!
DEFINITION. The whole state of the AJ-416 as plain data, unit by unit, the outcomes' reasons, and the machine right after
reset.
-/
namespace Sys2Proof.Machine

/-! ## Outcomes -/

/-- Faults. None: the spec gives the controller no condition on which it stops; every failure it names is a status, an
event or a state (safe: nothing is hidden by a fault). -/
inductive Fault where
deriving DecidableEq, Repr

/-- Refusals. -/
inductive Refusal where
  /-- Raised by an arm of `exec` that has no meaning yet, under its row's mnemonic (safe: nothing is claimed of it). -/
  | notModelled (mnemonic : String)
deriving DecidableEq, Repr

/-! ## Statuses, requests and responses -/

/-- Completion statuses, in the order of the table of 09, section 9.6; the status code is the place in this order (10.2). -/
inductive Status where
  | done | partialDone | badFrame | busy | noRight | badField | catalogueAbsent | cataloguePresent | catalogueFull
  | clockInvalid | dayFull | settingsFault | noSuch | notLodged | duplicate | futureNumber | supersedeInvalid
  | supersedeClaimed | extentOverlap | folioFull | filingFull | noFiling | notOwner | notReceiving | tooLong | ringFull
  | badMap | writeFailed | aborted | noOpenSide | withdrawn | notRecorded | chainTooDeep | restricted | badRange
  | noAccount | accountSuspended | accountBusy | offline | notHeld | pickerJammed | mediaFault | mapDamaged
  | deliveryTimeout | noDrive | notFault | resetFailed | noSlot | noLabel | doorOpen | inventoryRunning | mailSlotEmpty
  | mailSlotFull | platterBusy | substituteInvalid | tableFull | noSnapshot | periodMismatch | lastAdmin
deriving DecidableEq, Repr

/-- The forms of SCHEDULE_SET (R163), and a form byte that names none of them. -/
inductive ScheduleForm where
  | pending | immediate | cancelPending | view
  | other (form : Nat)
deriving DecidableEq, Repr

/-- The actions of ACCOUNT_SET (R170, R171), and an action byte that names none of them. -/
inductive AccountAction where
  | create | change | reset | delete
  | other (action : Nat)
deriving DecidableEq, Repr

/-- The forms of CLOCK_TRIM (R35), and a form byte that names none of them. -/
inductive TrimForm where
  | base (trim : Int)
  | temporary (trim : Int) (duration : Nat)
  | stop
  | other (form : Nat)
deriving DecidableEq, Repr

/-- A request as LNK hands it on: the request code and its parameters (10, Table 10-2). -/
inductive Request where
  | lookup (inst : InstrNum)
  | pendingList (after : OptField)
  | folioSearch (folio : Nat) (after : OptField) (mode : Nat)
  | restore (p : RestoreParams)
  | catalogueReady
  | lodge
  | clockRead
  | clockLoad (value : Stamp)
  | clockStep (seconds : Int)
  | clockTrim (form : TrimForm)
  | closeTargetSet (target : Nat) (mode : Nat) (value : Nat)
  | openFiling (inst : OptField)
  | feed (slot : Nat) (pageStart : Nat) (block : List Byte)
  | commit (p : CommitParams)
  | abandon (slot : Nat)
  | withdraw (inst : InstrNum)
  | closeSide
  | fetch (p : FetchParams)
  | bundle (p : BundleParams)
  | quote (p : FetchParams)
  | importPlatter
  | exportPlatter (platter : Nat)
  | substitute (retired : Nat) (replacement : Nat)
  | driveReset (drive : Nat)
  | settingsSet (count : Nat) (enables : Four Nat)
  | scheduleSet (form : ScheduleForm) (schedule : Option Schedule)
  | accountSet (action : AccountAction) (p : AccountParams)
  | accountRead (after : OptField)
  | periodTake (after : OptField)
  | periodClear (period : Nat)
  | rightsSet (target : Nat) (rights : Nat)
  | eventsRead
  | eventsAck (kinds : Nat)
  | eventsEnable (kinds : Nat)
  | status (platter : OptField)
deriving DecidableEq, Repr

/-- Where a response goes: link, tag, the link's reset count when the tag was taken (R196), and the request code. -/
structure Reply where
  link : Link
  tag : Nat
  gen : Nat
  code : Nat
deriving DecidableEq, Repr

/-- A retrieval item, by its operation's link and tag and its position from 1 (10.8, the operation field of a channel). -/
structure ItemRef where
  link : Link
  tag : Nat
  pos : Nat
deriving DecidableEq, Repr

/-! ## Catalogue memory -/

/-- The validity marker (R23). -/
inductive Marker where
  | valid | absent | unrecognised
deriving DecidableEq, Repr

/-- Who asked for a lodgement (R1). -/
inductive Source where
  | line (l : LineNo)
  | link (l : Link)
deriving DecidableEq, Repr

/-- A location: platter id, side, start block, length (R1). -/
structure Location where
  platter : Nat
  side : Side
  start : Nat
  len : Nat
deriving DecidableEq, Repr

/-- Page counts (R1). -/
structure Pages where
  small : Nat
  plan : Nat
deriving DecidableEq, Repr

/-- The state of an entry with the fields Table 1-1 makes present in it only: the filing slot in FILING, the location
and pages in RECORDED (R1). -/
inductive EntryState where
  | lodged
  | filing (slot : FSlot)
  | recorded (loc : Location) (pages : Pages)
  | withdrawn
deriving DecidableEq, Repr

/-- An instrument entry (R1, Table 1-1). -/
structure Entry where
  num : InstrNum
  state : EntryState
  stamp : Stamp
  source : Source
  restricted : Bool
  successor : Option InstrNum
  claim : Option InstrNum
  copies : Nat
deriving DecidableEq, Repr

/-- A folio record (R13). -/
structure FolioRec where
  folio : Nat
  list : List InstrNum
deriving DecidableEq, Repr

/-- The state of a side, with the fill point in OPEN and FULL only (R119, R120). -/
inductive SideState where
  | unchecked
  | blank
  | opened (fill : Nat)
  | full (fill : Nat)
  | foreign
deriving DecidableEq, Repr

/-- One side of a platter record (R119). -/
structure SideRec where
  state : SideState
  fails : Nat
deriving DecidableEq, Repr

/-- Where a platter is (R119, R121). -/
inductive PlatterLoc where
  | slot (n : Nat)
  | drive (d : DriveNo)
  | picker
  | mail
  | exported
  | unknown
deriving DecidableEq, Repr

/-- A platter record (R119, Table 6-1). -/
structure Platter where
  id : Nat
  home : Option Nat
  loc : PlatterLoc
  side0 : SideRec
  side1 : SideRec
  mounts : Nat
  lastUnload : Option Stamp
deriving DecidableEq, Repr

/-- The state of a slot record other than free (R122). -/
inductive SlotUse where
  | occupied (id : Nat)
  | reserved (id : Nat)
  | foreignOccupied
deriving DecidableEq, Repr

/-- A slot record that is not free; a slot with no record here is free (R122). -/
structure SlotRec where
  slot : Nat
  use : SlotUse
deriving DecidableEq, Repr

/-- A substitution pair (R145). -/
structure Subst where
  retired : Nat
  replacement : Nat
deriving DecidableEq, Repr

/-- The four tallies of an account or of a snapshot record, and the saturated flag (R169, R179). -/
structure Tally where
  fees : Nat
  copies : Nat
  small : Nat
  plan : Nat
  saturated : Bool
deriving DecidableEq, Repr

/-- An account record (R169, Table 8-2). -/
structure Account where
  code : Nat
  suspended : Bool
  exempt : Bool
  inFlight : Nat
  tally : Tally
deriving DecidableEq, Repr

/-- A snapshot record (R179). -/
structure SnapRec where
  code : Nat
  tally : Tally
deriving DecidableEq, Repr

/-- The period snapshot while HELD (R179). -/
structure Snapshot where
  first : Nat
  last : Nat
  spanned : Nat
  grand : Nat
  records : List SnapRec
deriving DecidableEq, Repr

/-- The close target's mode (R37). -/
inductive CloseMode where
  | add | reload
deriving DecidableEq, Repr

/-- The close target (R37); target 0 is disarmed. -/
structure CloseTarget where
  target : Nat
  mode : CloseMode
  value : Nat
deriving DecidableEq, Repr

/-- Catalogue memory: everything the clearing of R23 empties, and the marker and stored count. -/
structure CatMem where
  marker : Marker
  storedCount : Nat
  table : List Entry
  folios : List FolioRec
  lastStamp : Stamp
  lastNumber : Option InstrNum
  platters : List Platter
  slots : List SlotRec
  substs : List Subst
  active : Schedule
  pendingSched : Option Schedule
  accounts : List Account
  period : Nat
  grand : Nat
  snapshot : Option Snapshot
  target : CloseTarget
deriving DecidableEq, Repr

/-- The update record (R22): clear, partly written, or holding a whole change, as the memory that the change leaves. -/
inductive UpdateRecord where
  | clear
  | partly
  | complete (result : CatMem)
deriving DecidableEq, Repr

/-! ## Clock and Lodgement Unit -/

/-- The registry clock, the clock store and the trims (R26 to R36). -/
structure Clock where
  now : Stamp
  valid : Bool
  continuity : Bool
  storeTrim : Int
  base : Int
  temp : Int
  tempLeft : Nat
  acc : Nat
deriving DecidableEq, Repr

/-- A print record (R44). -/
structure PrintRec where
  line : LineNo
  num : InstrNum
  stamp : Stamp
deriving DecidableEq, Repr

/-- A lodgement line (R44), with the levels of its press input and of its printer's accept (R45, R47). -/
structure Line where
  enabled : Bool
  queue : List PrintRec
  lamp : Bool
  offered : Bool
  pressed : Bool
  accept : Bool
deriving DecidableEq, Repr

/-! ## Settings memory -/

/-- The settings record (R159, Table 7-3). -/
structure SettingsRec where
  rights : Three (BitVec 8)
  enables : Four Bool
  drives : Nat
  trim : Int
deriving DecidableEq, Repr

/-- What a settings write is for (R159): the rights or the base trim, which are in force already when it begins, or the installed
drive count and the line enables, which are not. -/
inductive SettingsChange where
  | inForce
  | install (drives : Nat) (enables : Four Bool)
deriving DecidableEq, Repr

/-- A settings write asked for, with the response it defers (R35, R160, R190). -/
structure SettingsWrite where
  change : SettingsChange
  reply : Reply
deriving DecidableEq, Repr

/-- The settings memory and what is in force from it (R159). -/
structure Settings where
  stored : Option SettingsRec
  wasBlank : Bool
  answered : Bool
  drives : Nat
  writing : Option (SettingsRec × Reply)
  waiting : List SettingsWrite
deriving DecidableEq, Repr

/-! ## Filing Unit -/

/-- The stages of a filing (R50). -/
inductive FilingState where
  | receiving | queued | waitingMedia | writing | verifying
deriving DecidableEq, Repr

/-- What a slot holds from commit admission (R50, R58). -/
structure Commit where
  small : Nat
  plan : Nat
  restricted : Bool
  folios : List Nat
  targets : List InstrNum
  reply : Reply
  attempts : Nat
  failed : List PlatterSide
  abandonPending : Bool
  admitted : Nat
deriving DecidableEq, Repr

/-- An occupied open filing slot (R50, Table 3-1). -/
structure Filing where
  inst : InstrNum
  owner : Link
  state : FilingState
  blocks : Nat
  starts : List Nat
  overflow : Bool
  idleSince : Nat
  commit : Option Commit
  extent : Option Location
deriving DecidableEq, Repr

/-- What FIL's use of a side for the head is doing (R67 to R71). -/
inductive FilStage where
  | demanded
  | listed (d : DriveNo)
  | check (d : DriveNo)
  | headErase (d : DriveNo)
  | headWrite (d : DriveNo)
  | erase (d : DriveNo)
  | write (d : DriveNo)
  | verify (d : DriveNo)
deriving DecidableEq, Repr

/-- FIL's use of a side for the head of the commit queue; the slot is absent while a header step of an abandoned
head runs to its end (R60). -/
structure FilUse where
  side : PlatterSide
  stage : FilStage
  slot : Option FSlot
  openTime : Stamp
  sawWritten : Bool
deriving DecidableEq, Repr

/-- A COMMIT waiting for its page map to be read (R57, R116). -/
structure MapRead where
  reply : Reply
  p : CommitParams
deriving DecidableEq, Repr

/-! ## Retrieval Unit -/

/-- What is delivered (R80). -/
inductive Purpose where
  | view | copy | certified
deriving DecidableEq, Repr

/-- The priority classes (R80, R133). -/
inductive MountClass where
  | counter | filing | bulk
deriving DecidableEq, Repr

/-- A requested selection (R80). -/
inductive Selection where
  | all
  | range (first last : Nat)
deriving DecidableEq, Repr

/-- A fee quote (R164). -/
structure Quote where
  fee : Nat
  ns : Nat
  np : Nat
  certified : Bool
  afterHours : Bool
deriving DecidableEq, Repr

/-- A fee receipt (R99, R174). -/
structure Receipt where
  account : Nat
  period : Nat
  quote : Quote
  stamp : Stamp
deriving DecidableEq, Repr

/-- Results of locator decode (R88). -/
inductive Decode where
  | staged
  | drive (d : DriveNo)
  | mount
  | fail (s : Status)
deriving DecidableEq, Repr

/-- Item phases (R79). -/
inductive Phase where
  | pending
  | waitingSpace
  | waitingMount
  | ready
  | delivering
  | ended (s : Status)
deriving DecidableEq, Repr

/-- What check 3 stores with an item (R84). -/
structure Resolved where
  inst : InstrNum
  links : Nat
  loc : Location
  pages : Pages
deriving DecidableEq, Repr

/-- A retrieval item (R79, Table 4-2). -/
structure Item where
  named : InstrNum
  current : Bool
  sel : Selection
  resolved : Option Resolved
  range : Option (Nat × Nat)
  quote : Option Quote
  decode : Option Decode
  phase : Phase
  delivered : Nat
  receipt : Option Receipt
deriving DecidableEq, Repr

/-- A retrieval operation (R78, Table 4-1). `current` is the position of the item whose turn runs, 0 for none. -/
structure Op where
  reply : Reply
  bundle : Bool
  purpose : Purpose
  account : Nat
  cls : MountClass
  admTime : Nat
  admReading : Stamp
  items : List Item
  current : Nat
deriving DecidableEq, Repr

/-! ## Buffer Unit -/

/-- Marks of a ring block (R104). -/
inductive Mark where
  | live | written | discarded
deriving DecidableEq, Repr

/-- A held ring block (R104). -/
structure RingBlock where
  pos : Nat
  slot : FSlot
  ext : Nat
  mark : Mark
deriving DecidableEq, Repr

/-- A staging segment (R107); FILLING while `staged` is below `len`. Blocks are numbered from the start of the
staging area. `filler` is the user that made the segment and whose demand starts its fill (R91, R110); `started` says
the fill has started. -/
structure Segment where
  inst : InstrNum
  first : Nat
  len : Nat
  staged : Nat
  users : List ItemRef
  fill : Option DriveNo
  filler : Option ItemRef
  started : Bool
deriving DecidableEq, Repr

/-- An entry of the staging-waiter FIFO (R109). -/
structure SpaceWaiter where
  item : ItemRef
  inst : InstrNum
  len : Nat
deriving DecidableEq, Repr

/-- Channel states (R111, Table 5-1). DONE and FAULT are left in the change that enters them, so no state between
commands shows them. -/
inductive ChanState where
  | idle | running | waiting | paused | done | fault
deriving DecidableEq, Repr

/-- The operation a channel serves (R111). A channel filling a segment serves the item that made the segment. -/
inductive ChanOp where
  | none
  | slot (f : FSlot)
  | item (r : ItemRef)
deriving DecidableEq, Repr

/-- Address modes (R111). -/
inductive ChanMode where
  | lane | sequential | ring
deriving DecidableEq, Repr

/-- Completion actions (R111). -/
inductive ChanAction where
  | none | startVerify | endItem | markWritten
deriving DecidableEq, Repr

/-- A channel record (R111). The address mode is absent in IDLE and in a header check or header write (Table 5-1, R112). The
cascade partners are worked out from the segments, by `State.partners`. -/
structure Chan where
  state : ChanState
  op : ChanOp
  mode : Option ChanMode
  next : Nat
  remaining : Nat
  action : ChanAction
deriving DecidableEq, Repr

/-- The side header record that FIL forms: platter id, side, open time (R67 step 4). -/
structure HeaderRec where
  platter : Nat
  side : Side
  openTime : Stamp
deriving DecidableEq, Repr

/-- What a drive channel passes to its drive: a ring block of a write pass, or the header record of a header write (R112). -/
inductive Passed where
  | block (bytes : List Byte)
  | header (h : HeaderRec)
deriving DecidableEq, Repr

/-- A drive channel: its record, the blocks the drive has passed that wait for the port or for a compare, the ring block read for a
compare, and what the channel passed to the drive last (R112, R116). -/
structure DriveChan where
  chan : Chan
  held : List (List Byte)
  ringBlock : Option (List Byte)
  passed : Option Passed
deriving DecidableEq, Repr

/-- An inbound channel: its record and its one-block store (R113). -/
structure InChan where
  chan : Chan
  store : Option (List Byte)
deriving DecidableEq, Repr

/-- A DATA frame (R97; 10, Table 10-1). -/
structure DataFrame where
  item : ItemRef
  code : Nat
  page : Nat
  block : Nat
  bytes : List Byte
deriving DecidableEq, Repr

/-- An outbound channel: its record, the page offsets once the map has been checked (R96), the DATA frame formed,
how many queued responses go ahead of it (R115), and when the frame was offered (R98). -/
structure OutChan where
  chan : Chan
  offsets : Option (List Nat)
  frame : Option DataFrame
  ahead : Nat
  offeredAt : Nat
deriving DecidableEq, Repr

/-! ## Library Unit -/

/-- Drive states (R124). -/
inductive DriveState where
  | absent | empty | loading | ready | busy | unloading | fault
deriving DecidableEq, Repr

/-- The platter in a drive, its id absent while it is unidentified (R157), and the side facing the head. -/
structure InDrive where
  id : Option Nat
  side : Side
deriving DecidableEq, Repr

/-- A use of a drive (R125). -/
inductive Use where
  | fill (inst : InstrNum)
  | filing
deriving DecidableEq, Repr

/-- Drive commands (R126); the header commands are the block commands on blocks 0 to 15. -/
inductive DriveCmd where
  | load
  | unload
  | eject
  | erase (start len : Nat)
  | write (start len : Nat)
  | read (start len : Nat)
deriving DecidableEq, Repr

/-- A drive record (R124, Table 6-4), with the command that runs, the blocks reported of it and its timer (R126), the
response of a DRIVE_RESET in progress (R128), and the model's mark that a DONE is still due from a read that ended
without it (assumption log 13). -/
structure Drive where
  state : DriveState
  platter : Option InDrive
  loadTime : Option Stamp
  residency : Option Nat
  pinned : Bool
  retry : Bool
  work : List Use
  cmd : Option DriveCmd
  reported : Nat
  since : Nat
  reset : Option Reply
  staleDone : Bool
deriving DecidableEq, Repr

/-- Picker states (R129). -/
inductive PickerState where
  | idle | moving | jammed | halted
deriving DecidableEq, Repr

/-- Positions (R129). -/
inductive Pos where
  | slot (n : Nat)
  | mail
  | drive (d : DriveNo)
deriving DecidableEq, Repr

/-- A picker command: a move, or a label read, which has no to position (R129). -/
structure Move where
  src : Pos
  dst : Option Pos
  flip : Bool
deriving DecidableEq, Repr

/-- Pieces of picker work and the point each has reached (R130). -/
inductive Piece where
  /-- The inventory sweep (R151). -/
  | sweep
  /-- Step 1 of a mount sequence: UNLOAD issued to drive d (R138). -/
  | mountUnload (d : DriveNo) (want : PlatterSide)
  /-- Step 2 for another platter: it is moved to a slot. -/
  | mountEvict (d : DriveNo) (want : PlatterSide)
  /-- Step 2 for the demanded platter: it is turned over. -/
  | mountFlip (d : DriveNo) (want : PlatterSide)
  /-- Step 3: the demanded platter is moved into the drive. -/
  | mountFetch (d : DriveNo) (want : PlatterSide)
  /-- A return-home piece reads the label of an unidentified platter (R158). -/
  | homeLabel (d : DriveNo)
  /-- A return-home piece moves the platter to a slot. -/
  | homeMove (d : DriveNo)
  /-- An import reads the label at the mail slot (R141). -/
  | importLabel (reply : Option Reply)
  /-- An import moves the platter to a slot. -/
  | importMove (reply : Option Reply) (id : Nat)
  /-- An export moves the platter from its slot (R143). -/
  | exportMove (reply : Reply) (id : Nat)
  /-- An export waits for the drive to unload. -/
  | exportUnload (reply : Reply) (id : Nat) (d : DriveNo)
  /-- An export moves the platter from the drive. -/
  | exportDrive (reply : Reply) (id : Nat) (d : DriveNo)
deriving DecidableEq, Repr

/-- The picker record (R129), the timer of its command, and its piece of work (R130). -/
structure Picker where
  state : PickerState
  held : Option Nat
  move : Option Move
  since : Option Nat
  piece : Option Piece
deriving DecidableEq, Repr

/-- A queued IMPORT (with no response for one made without a request, R146) or EXPORT (R130). -/
inductive MediaReq where
  | importReq (reply : Option Reply)
  | exportReq (reply : Reply) (id : Nat)
deriving DecidableEq, Repr

/-- A waiter of a demand (R133). -/
inductive Waiter where
  | item (r : ItemRef) (cls : MountClass) (age : Nat)
  | filing (age : Nat)
deriving DecidableEq, Repr

/-- A mount demand (R133): WAITING, or MOUNTING with its drive. Class and age are worked out from the waiters. -/
structure Demand where
  side : PlatterSide
  mounting : Option DriveNo
  waiters : List Waiter
deriving DecidableEq, Repr

/-- The mail slot record (R123). -/
inductive MailState where
  | empty
  | incoming
  | outgoing (id : Nat)
deriving DecidableEq, Repr

/-- The sweep record (R151); position 161 is the mail slot, and 162 stands past it (assumption log 80). -/
structure Sweep where
  running : Bool
  next : Nat
  found : List Nat
  foundCount : Nat
  created : Nat
  foreign : Nat
  duplicates : Nat
  homesLost : Nat
deriving DecidableEq, Repr

/-- The outcome of the last import made without a request (R146). -/
structure ImportOutcome where
  status : Status
  id : Nat
deriving DecidableEq, Repr

/-- The Library Unit's working store (06, introduction; 07). -/
structure Library where
  drives : Six Drive
  picker : Picker
  returns : List DriveNo
  media : List MediaReq
  demands : List Demand
  mail : MailState
  doorOpen : Bool
  sweep : Sweep
  sweptOnce : Bool
  sweepDue : Bool
  outcome : Option ImportOutcome
deriving DecidableEq, Repr

/-! ## Link Unit -/

/-- Event kinds, in the order of 10, Table 10-5. -/
inductive EventKind where
  | stampIssued | stampRefused | mediaAlert | door | inventoryDone | periodClosed | clockChanged | driveFault
  | catalogueLow | filingTimeout
deriving DecidableEq, Repr

/-- The channel a BUFFER_PARITY alert names (10, Table 10-5). -/
inductive ChanName where
  | drive (d : DriveNo)
  | inbound (l : Link)
  | outbound (l : Link)
  | mapRead
deriving DecidableEq, Repr

/-- Causes of CLOCK_CHANGED (R33, R34, R36). -/
inductive ClockCause where
  | load | step | powerOn
deriving DecidableEq, Repr

/-- Reasons of STAMP_REFUSED (R45). -/
inductive RefuseReason where
  | queueFull
  | status (s : Status)
deriving DecidableEq, Repr

/-- An event with its detail (R191; 10.7). -/
inductive Event where
  | stampIssued (num : InstrNum) (stamp : Stamp) (source : Source)
  | stampRefused (line : LineNo) (reason : RefuseReason)
  | noBlankMedia (slot : FSlot) (inst : InstrNum)
  | writeFailed (inst : InstrNum) (sides : List PlatterSide)
  | pickerJammed (move : Option Move) (lost : Option Nat)
  | bufferParity (chan : ChanName) (block : Nat)
  | door (opened : Bool)
  | inventoryDone (found created foreign duplicates homesLost madeUnknown : Nat)
  | periodClosed (closed new first last spanned : Nat) (changed : Bool)
  | clockChanged (cause : ClockCause) (before after : Stamp)
  | driveFault (d : DriveNo) (platter : Option InDrive) (timeout : Bool)
  | catalogueLow (free : Nat)
  | filingTimeout (slot : FSlot) (inst : InstrNum) (owner : Link) (blocks : Nat)
deriving DecidableEq, Repr

/-- A kind of a link's attention set, with its latest event and occurrence count (R191). -/
structure Attention where
  kind : EventKind
  event : Event
  count : Nat
deriving DecidableEq, Repr

/-- The item entry of a retrieval response (10, Table 10-4). -/
structure ItemEntry where
  status : Status
  resolved : Option InstrNum
  links : Nat
  first : Nat
  last : Nat
  delivered : Nat
  receipt : Option Receipt
deriving DecidableEq, Repr

/-- A channel's part of STATUS: channel, state, operation, blocks remaining (10, Table 10-6). -/
structure ChanView where
  name : ChanName
  state : ChanState
  op : ChanOp
  remaining : Nat
deriving DecidableEq, Repr

/-- A retrieval operation's part of STATUS (R103; 10, Table 10-6). -/
structure OpView where
  link : Link
  tag : Nat
  code : Nat
  current : Nat
  phase : Option Phase
  demand : Option PlatterSide
  delivered : Nat
  selected : Nat
deriving DecidableEq, Repr

/-- A demand's part of STATUS (R147; 10, Table 10-6). -/
structure DemandView where
  side : PlatterSide
  mounting : Option DriveNo
  cls : MountClass
  aged : Bool
  age : Nat
  waiters : Nat
deriving DecidableEq, Repr

/-- A drive's part of STATUS (R147; 10, Table 10-6). -/
structure DriveView where
  state : DriveState
  platter : Option InDrive
  loadTime : Option Stamp
  pinned : Bool
  retry : Bool
  work : Nat
deriving DecidableEq, Repr

/-- A line's part of STATUS (R194). -/
structure LineView where
  enabled : Bool
  queued : Nat
  lamp : Bool
  offered : Bool
deriving DecidableEq, Repr

/-- A filing slot's part of STATUS (R77). -/
structure FilingView where
  state : Option FilingState
  inst : InstrNum
  owner : Link
  blocks : Nat
  attempts : Nat
deriving DecidableEq, Repr

/-- A segment's part of STATUS (R118). -/
structure SegmentView where
  inst : InstrNum
  len : Nat
  staged : Nat
  complete : Bool
  users : Nat
deriving DecidableEq, Repr

/-- A link's part of STATUS (R194). -/
structure LinkView where
  rights : BitVec 8
  tags : BitVec 4
  queued : Nat
  frameErrors : Nat
  strays : Nat
  resetAsserted : Bool
deriving DecidableEq, Repr

/-- The clock as CLOCK_READ and STATUS show it (R32). -/
structure ClockView where
  now : Stamp
  valid : Bool
  effective : Int
  base : Int
  tempLeft : Nat
  target : CloseTarget
deriving DecidableEq, Repr

/-- The STATUS response (R194; 10, Table 10-6). -/
structure StatusBody where
  absentMode : Bool
  entries : Nat
  clock : ClockView
  lines : List LineView
  filings : List FilingView
  commitQueue : List FSlot
  filingSide : Option (PlatterSide × Nat)
  ops : List OpView
  ringHeld : Nat
  ringFree : Nat
  ringTail : Option FSlot
  ringLive : List Nat
  stagingFree : Nat
  stagingRun : Nat
  spaceWaiters : Nat
  segments : List SegmentView
  channels : List ChanView
  drives : List DriveView
  picker : PickerState
  pickerHeld : Option Nat
  pickerMove : Option Move
  doorOpen : Bool
  mail : MailState
  outcome : Option ImportOutcome
  sweepRunning : Bool
  sweptOnce : Bool
  demands : List DemandView
  platters : Nat
  freeSlots : Nat
  reservedSlots : Nat
  foreignSlots : Nat
  named : Option Platter
  grand : Nat
  period : Nat
  snapshotHeld : Bool
  inFlight : List (Nat × Nat)
  links : List LinkView
  settingsBlank : Bool
  drivesInForce : Nat
  enablesInForce : List Bool
  stored : SettingsRec
deriving DecidableEq, Repr

/-- What a response carries, by request (the rule of each; 10.4 to 10.8). -/
inductive Body where
  | none
  | entry (e : Entry)
  | numbers (nums : List InstrNum) (more : Option InstrNum)
  | folioNumbers (folio : Nat) (nums : List InstrNum) (more : Option InstrNum)
  | sideMarked (marked : Bool)
  | lastIssued (stamp : Stamp) (num : Option InstrNum)
  | stamped (num : InstrNum) (stamp : Stamp)
  | clock (c : ClockView)
  | clockLoaded (before after : Stamp)
  | clockStepped (after : Stamp) (clamped : Bool)
  | opened (slot : FSlot) (inst : InstrNum)
  | fed (blocks : Nat)
  | committed (inst : InstrNum) (loc : Location) (attempts : Nat)
  | writeFailed (inst : InstrNum) (sides : List PlatterSide)
  | abandoned (inst : InstrNum) (pending : Bool)
  | sideClosed (side : PlatterSide) (fill : Nat)
  | item (e : ItemEntry)
  | items (es : List ItemEntry)
  | quoted (inst : InstrNum) (links : Nat) (first last : Nat) (q : Quote)
  | imported (id : Nat) (slot : Nat)
  | exported (id : Nat)
  | settings (drives : Nat) (enables : Four Bool)
  | schedules (active : Schedule) (pending : Option Schedule)
  | account (a : Account)
  | accounts (period : Nat) (grand : Nat) (held : Bool) (recs : List Account) (more : Option Nat)
  | snapshot (snap : Option Snapshot) (recs : List SnapRec) (more : Option Nat)
  | lastPeriod (last : Nat)
  | released (first last spanned : Nat)
  | rights (sets : Three (BitVec 8))
  | attention (set : List Attention) (enable : BitVec 10)
  | attentionKinds (set : List EventKind)
  | bothSets (set : List EventKind) (enable : BitVec 10)
  | status (b : StatusBody)
deriving DecidableEq, Repr

/-- A response frame (10, Table 10-1); no tag for a refused frame whose tag is not known (R185). -/
structure Response where
  tag : Option Nat
  code : Nat
  status : Status
  body : Body
deriving DecidableEq, Repr

/-- The frame a link's outbound lane carries (R186). -/
inductive OutFrame where
  | response (r : Response)
  | data (f : DataFrame)
deriving DecidableEq, Repr

/-- What waits on a link's inbound lane, whose bytes the controller does not acknowledge (R184). -/
inductive LaneInput where
  | stray
  | bad (f : BadFrame)
  | request (tag : Nat) (r : Request)
deriving DecidableEq, Repr

/-- A link's record in LNK (R184 to R196), but for its rights, which stand in `State.rights`. -/
structure LinkRec where
  tags : BitVec 4
  responses : List Response
  out : Option OutFrame
  lane : List LaneInput
  attention : List Attention
  enable : BitVec 10
  resetCount : Nat
  frameErrors : Nat
  strays : Nat
  resetAsserted : Bool
deriving DecidableEq, Repr

/-! ## The machine -/

/-- Whether the controller is unpowered, in the first phase of start-up, or running its links (R156). -/
inductive Power where
  | off | starting | running
deriving DecidableEq, Repr

/-- Work that one unit has handed another inside a change and that is not yet done (assumption log 3). -/
inductive Task where
  /-- The next item's turn of an operation starts, or its response is formed (R90, R100). -/
  | nextTurn (link : Link) (tag : Nat)
  /-- The turn of one item starts (R90). -/
  | turn (r : ItemRef)
  /-- An item ends with a status other than DONE (R101). -/
  | endItem (r : ItemRef) (s : Status)
  /-- BUF tries the staging-waiter FIFO (R109). -/
  | spaceTry
  /-- An outbound channel takes a READY item of its link (R114). -/
  | outTake (l : Link)
  /-- The head of a drive's work list is given the drive (R125). -/
  | driveNext (d : DriveNo)
  /-- The turn of the head of the commit queue starts (R65). -/
  | headTurn
  /-- FIL searches for a side for the head (R66). -/
  | sideSearch
  /-- FIL searches again for a head in WAITING_MEDIA (R69). -/
  | mediaRetry
  /-- The picker is given its next piece, and the arbiter runs (R130, R136). -/
  | pickerNext
  /-- Every demand for a platter that became unreachable ends (R140). -/
  | unreachable (platter : Nat) (s : Status)
deriving DecidableEq, Repr

/-- The whole machine. -/
structure State where
  /-- The commands waiting to be taken, first in, first out. -/
  pending : List Instr
  power : Power
  /-- The millisecond reference (02, section 2.1). -/
  ref : Nat
  cat : CatMem
  update : UpdateRecord
  /-- Catalogue-absent mode (R23). -/
  absentMode : Bool
  /-- Folio reservations of the filing slots, empty for none (R14). -/
  reserved : Four (List Nat)
  clock : Clock
  lines : Four Line
  settings : Settings
  /-- The rights sets in force (R189). -/
  rights : Three (BitVec 8)
  links : Three LinkRec
  /-- Events of the first phase, waiting for the links to start (R156). -/
  startEvents : List Event
  filings : Four (Option Filing)
  commitQueue : List FSlot
  lastFiling : Option PlatterSide
  filUse : Option FilUse
  mapReads : List MapRead
  ops : List Op
  /-- Buffer memory: address = block × 1,024 + byte, in the canonical form of `Memory.wf`. -/
  mem : List Host.Cell
  ring : List RingBlock
  ringNext : Nat
  segments : List Segment
  spaceFifo : List SpaceWaiter
  driveChans : Six DriveChan
  inChans : Three InChan
  outChans : Three OutChan
  lib : Library
  agenda : List Task
  /-- How many free values have been used (assumption log 4). -/
  freeCtr : Nat
deriving DecidableEq, Repr

/-! ## The machine right after reset -/

/-- The default fee schedule (R161). -/
def Schedule.default : Schedule :=
  { b := 0, t := 0, s1 := 0, s2 := 0, l := 0, c := 0, h := 0, opens := 0, closes := 86399, m := 999999 }

/-- Tallies of 0 with the saturated flag clear (R169). -/
def Tally.zero : Tally := { fees := 0, copies := 0, small := 0, plan := 0, saturated := false }

/-- Account 0, counter cash, as clearing leaves it (R169). -/
def Account.cash : Account := { code := 0, suspended := false, exempt := false, inFlight := 0, tally := Tally.zero }

/-- Catalogue memory as clearing leaves it: empty, marker ABSENT, count 0, fee defaults, target disarmed (R23, R183,
R37). -/
def CatMem.cleared : CatMem :=
  { marker := .absent, storedCount := 0, table := [], folios := [], lastStamp := ⟨0, 0⟩, lastNumber := none,
    platters := [], slots := [], substs := [], active := Schedule.default, pendingSched := none,
    accounts := [Account.cash], period := 1, grand := 0, snapshot := none,
    target := { target := 0, mode := .add, value := 86400 } }

/-- The settings record whose fields a blank settings memory stands for (R159, Table 7-3). -/
def SettingsRec.default : SettingsRec :=
  { rights := Three.const 255#8, enables := Four.const true, drives := 6, trim := 0 }

/-- A line after power-on (R48). -/
def Line.start (enabled pressed accept : Bool) : Line :=
  { enabled := enabled, queue := [], lamp := false, offered := false, pressed := pressed, accept := accept }

/-- An IDLE channel (R111, R118). -/
def Chan.idle : Chan := { state := .idle, op := .none, mode := none, next := 0, remaining := 0, action := .none }

/-- An IDLE drive channel (R118). -/
def DriveChan.idle : DriveChan := { chan := Chan.idle, held := [], ringBlock := none, passed := none }

/-- An IDLE inbound channel (R118). -/
def InChan.idle : InChan := { chan := Chan.idle, store := none }

/-- An IDLE outbound channel (R118). -/
def OutChan.idle : OutChan := { chan := Chan.idle, offsets := none, frame := none, ahead := 0, offeredAt := 0 }

/-- A drive that holds no platter and runs no command. -/
def Drive.vacant (st : DriveState) : Drive :=
  { state := st, platter := none, loadTime := none, residency := none, pinned := false, retry := false, work := [],
    cmd := none, reported := 0, since := 0, reset := none, staleDone := false }

/-- A link after power-on (R196, Table 9-1). -/
def LinkRec.start (resetAsserted : Bool) : LinkRec :=
  { tags := 0#4, responses := [], out := none, lane := [], attention := [], enable := 0#10, resetCount := 0,
    frameErrors := 0, strays := 0, resetAsserted := resetAsserted }

/-- The sweep record at power-on (R151), whose fields other than the state no rule gives: the model's choice (assumption log 80). -/
def Sweep.none : Sweep :=
  { running := false, next := 1, found := [], foundCount := 0, created := 0, foreign := 0, duplicates := 0, homesLost := 0 }

/-- The Library Unit with every drive EMPTY, the gripper empty and the door closed (R157). -/
def Library.start : Library :=
  { drives := Six.const (Drive.vacant .empty),
    picker := { state := .idle, held := none, move := none, since := none, piece := none },
    returns := [], media := [], demands := [], mail := .empty, doorOpen := false, sweep := Sweep.none,
    sweptOnce := false, sweepDue := false, outcome := none }

/-- The machine right after reset: the end of the first phase of start-up (R156) of a machine whose memories hold
nothing, whose door is closed, whose gripper is empty and whose six drives answered UNLOADED with no platter; the links
have not started (assumption log 1). -/
def State.reset : State :=
  { pending := [], power := .starting, ref := 0, cat := CatMem.cleared, update := .clear, absentMode := true,
    reserved := Four.const [],
    clock := { now := ⟨0, 0⟩, valid := false, continuity := false, storeTrim := 0, base := 0, temp := 0, tempLeft := 0,
               acc := 0 },
    lines := Four.const (Line.start true false false),
    settings := { stored := none, wasBlank := true, answered := true, drives := 6, writing := none, waiting := [] },
    rights := Three.const 255#8, links := Three.const (LinkRec.start false),
    startEvents := [.clockChanged .powerOn ⟨0, 0⟩ ⟨0, 0⟩],
    filings := Four.const none, commitQueue := [], lastFiling := none, filUse := none, mapReads := [], ops := [],
    mem := [], ring := [], ringNext := 0, segments := [], spaceFifo := [],
    driveChans := Six.const DriveChan.idle, inChans := Three.const InChan.idle, outChans := Three.const OutChan.idle,
    lib := Library.start, agenda := [], freeCtr := 0 }

end Sys2Proof.Machine
end

