-- ==== Sys2Proof/Machine/Flags.lean ====
section
/-!
DEFINITION. Flags and counts: saturating additions, event kinds and attention sets (R191), kind sets, status codes.
-/
namespace Sys2Proof.Machine

/-! ## Saturating counts -/

/-- A saturating addition (spec 00, Conventions). -/
def satAdd (top a b : Nat) : Nat := if a + b ≤ top then a + b else top

/-- Whether that addition clamps. -/
def clamps (top a b : Nat) : Bool := decide (top < a + b)

/-! ## Event kinds -/

/-- The kind of an event (10, Table 10-5). -/
def Event.kind : Event → EventKind
  | .stampIssued _ _ _ => .stampIssued
  | .stampRefused _ _ => .stampRefused
  | .noBlankMedia _ _ | .writeFailed _ _ | .pickerJammed _ _ | .bufferParity _ _ => .mediaAlert
  | .door _ => .door
  | .inventoryDone _ _ _ _ _ _ => .inventoryDone
  | .periodClosed _ _ _ _ _ _ => .periodClosed
  | .clockChanged _ _ _ => .clockChanged
  | .driveFault _ _ _ => .driveFault
  | .catalogueLow _ => .catalogueLow
  | .filingTimeout _ _ _ _ => .filingTimeout

/-- The number of a kind, its bit in a kind set (10, Table 10-5). -/
def EventKind.num : EventKind → Nat
  | .stampIssued => 0
  | .stampRefused => 1
  | .mediaAlert => 2
  | .door => 3
  | .inventoryDone => 4
  | .periodClosed => 5
  | .clockChanged => 6
  | .driveFault => 7
  | .catalogueLow => 8
  | .filingTimeout => 9

/-- An event taken into an attention set, kept in kind order: a new kind enters with count 1; a kind already present has its
event replaced and its count raised, holding at 255 (R191). -/
def attend (e : Event) : List Attention → List Attention
  | [] => [{ kind := e.kind, event := e, count := 1 }]
  | a :: rest =>
    if a.kind = e.kind then { kind := a.kind, event := e, count := satAdd Config.max8 a.count 1 } :: rest
    else if e.kind.num < a.kind.num then { kind := e.kind, event := e, count := 1 } :: a :: rest
    else a :: attend e rest

/-- A kind set names only the ten kinds: none of bits 10 to 15 is set (10.3). -/
def kindSetOk (n : Nat) : Bool := decide (n < 1024)

/-- A kind is in a kind set. -/
def inKindSet (set : BitVec 10) (k : EventKind) : Bool := set.getLsbD k.num

/-- The kinds of an attention set. -/
def kinds (l : List Attention) : List EventKind := l.map (·.kind)

/-- The attention output: the attention set and the enable set have a kind in common (R191). -/
def LinkRec.attentionOut (l : LinkRec) : Bool := l.attention.any (fun a => inKindSet l.enable a.kind)

/-! ## Status codes -/

/-- The statuses in the order of 09, section 9.6. -/
def Status.all : List Status :=
  [.done, .partialDone, .badFrame, .busy, .noRight, .badField, .catalogueAbsent, .cataloguePresent, .catalogueFull,
   .clockInvalid, .dayFull, .settingsFault, .noSuch, .notLodged, .duplicate, .futureNumber, .supersedeInvalid,
   .supersedeClaimed, .extentOverlap, .folioFull, .filingFull, .noFiling, .notOwner, .notReceiving, .tooLong, .ringFull,
   .badMap, .writeFailed, .aborted, .noOpenSide, .withdrawn, .notRecorded, .chainTooDeep, .restricted, .badRange,
   .noAccount, .accountSuspended, .accountBusy, .offline, .notHeld, .pickerJammed, .mediaFault, .mapDamaged,
   .deliveryTimeout, .noDrive, .notFault, .resetFailed, .noSlot, .noLabel, .doorOpen, .inventoryRunning, .mailSlotEmpty,
   .mailSlotFull, .platterBusy, .substituteInvalid, .tableFull, .noSnapshot, .periodMismatch, .lastAdmin]

/-- The status code: the row number of the status, counting DONE as 0 (10.2). -/
def Status.code (s : Status) : Nat := Status.all.idxOf s

/-- The status of a row number. -/
def Status.ofCode (n : Nat) : Status := Status.all.getD n .done

/-- A refusal response: status BAD_FRAME or BUSY (R187). -/
def Response.isRefusal (r : Response) : Bool := r.status == .badFrame || r.status == .busy

end Sys2Proof.Machine
end

