-- ==== Sys2Proof/Machine/Memory.lean ====
section
/-!
DEFINITION. Buffer memory (05, introduction): 8,192 blocks of 1,024 bytes, kept as the list of the bytes that are not 0,
in rising order of address. A byte nothing has written reads 0 (assumption log 2).
-/
namespace Sys2Proof.Machine

/-- Buffer memory as cells. -/
abbrev Memory := List Host.Cell

namespace Memory

/-- Blocks of buffer memory: ring blocks 0 to 4,095, staging blocks 4,096 to 8,191. -/
def blocks : Nat := 8192

/-- The address of a block's first byte. -/
def base (blk : Nat) : Nat := blk * Config.blockBytes

/-- What an unlisted address reads as. -/
def unlisted : Byte := 0#8

/-- The byte at an address. -/
def read (m : Memory) (a : Nat) : Byte :=
  match m.find? (fun c => c.1 == a) with
  | some c => c.2
  | none => unlisted

/-- The canonical form: addresses of the memory, strictly rising, none listed that holds the unlisted value. -/
def wf : Memory → Bool
  | [] => true
  | c :: rest => c.2 != unlisted && decide (c.1 < blocks * Config.blockBytes) && rest.all (fun d => decide (c.1 < d.1)) && wf rest

/-- The cells of a run of bytes from an address on. -/
def cellsFrom (a : Nat) : List Byte → Memory
  | [] => []
  | b :: rest => if b = unlisted then cellsFrom (a + 1) rest else (a, b) :: cellsFrom (a + 1) rest

/-- One block replaced, as the port writes it (R116). -/
def writeBlock (m : Memory) (blk : Nat) (bytes : List Byte) : Memory :=
  if blk < blocks then
    m.filter (fun c => decide (c.1 < base blk)) ++ cellsFrom (base blk) (bytes.take Config.blockBytes) ++
      m.filter (fun c => decide (base blk + Config.blockBytes ≤ c.1))
  else m

/-- `n` bytes from an address on, over cells none of which lies below it. -/
def bytesFrom : Nat → Nat → Memory → List Byte
  | 0, _, _ => []
  | n + 1, a, [] => unlisted :: bytesFrom n (a + 1) []
  | n + 1, a, c :: rest =>
    if c.1 = a then c.2 :: bytesFrom n (a + 1) rest else unlisted :: bytesFrom n (a + 1) (c :: rest)

/-- One block read, as the port reads it (R116). -/
def readBlock (m : Memory) (blk : Nat) : List Byte :=
  bytesFrom Config.blockBytes (base blk) (m.filter (fun c => decide (base blk ≤ c.1)))

end Memory

end Sys2Proof.Machine
end

