-- ==== Sys2Proof/Machine/Operands.lean ====
section
/-!
DEFINITION. Operand forms: the values of enumerated bytes, presence bytes and counts (R197; 10, Table 10-5), request codes and
lengths (Table 10-2), and the right each request needs (R189).
-/
namespace Sys2Proof.Machine

/-! ## Enumerated and optional fields -/

/-- A flag byte: 0 clear, 1 set. -/
def flag? : Nat → Option Bool
  | 0 => some false
  | 1 => some true
  | _ => none

/-- An optional instrument number: the outer none is a presence byte that is neither 0 nor 1 (R197). The number is the
four bytes, day first. -/
def optInst? (o : OptField) : Option (Option InstrNum) :=
  match o.presence with
  | 0 => some none
  | 1 => some (some ⟨o.value / 65536, o.value % 65536⟩)
  | _ => none

/-- An optional number (an account code, a platter id). -/
def optNat? (o : OptField) : Option (Option Nat) :=
  match o.presence with
  | 0 => some none
  | 1 => some (some o.value)
  | _ => none

/-- A 4-byte entry as an instrument number. -/
def instOfWord (w : Nat) : InstrNum := ⟨w / 65536, w % 65536⟩

/-- The source byte: 01h to 04h lines, 10h to 12h links. -/
def source? (n : Nat) : Option Source :=
  match Quad.ofNat? n with
  | some q => some (.line q)
  | none => if 16 ≤ n then (Link.ofNat? (n - 16)).map .link else none

/-- Retrieval mode: is it CURRENT. -/
def mode? : Nat → Option Bool
  | 1 => some true
  | 2 => some false
  | _ => none

/-- Folio search mode: is it LIVE. -/
def searchMode? : Nat → Option Bool
  | 1 => some true
  | 2 => some false
  | _ => none

/-- Purpose. -/
def purpose? : Nat → Option Purpose
  | 1 => some .view
  | 2 => some .copy
  | 3 => some .certified
  | _ => none

/-- Selection: the first and last bytes are not examined for ALL. -/
def selection? (kind first last : Nat) : Option Selection :=
  match kind with
  | 1 => some .all
  | 2 => some (.range first last)
  | _ => none

/-- Class: COUNTER or BULK. -/
def class? : Nat → Option MountClass
  | 1 => some .counter
  | 2 => some .bulk
  | _ => none

/-- Close target mode. -/
def closeMode? : Nat → Option CloseMode
  | 1 => some .add
  | 2 => some .reload
  | _ => none

/-- The form a CLOCK_TRIM's byte names, other than BASE and TEMPORARY: END, or none (R197). -/
def trimForm (n : Nat) : TrimForm := if n = 3 then .stop else .other n

/-- The form a SCHEDULE_SET's byte names, other than the first three: the request for both schedules, or none (R197). -/
def scheduleForm (n : Nat) : ScheduleForm := if n = 4 then .view else .other n

/-- The action an ACCOUNT_SET's byte names, other than the first three: DELETE, or none (R197). -/
def accountAction (n : Nat) : AccountAction := if n = 4 then .delete else .other n

/-- Account state: is it SUSPENDED. -/
def accountState? : Nat → Option Bool
  | 1 => some false
  | 2 => some true
  | _ => none

/-! ## Request codes and lengths -/

/-- The request code (10, Table 10-2). -/
def Request.code : Request → Nat
  | .lookup _ => 0x10
  | .pendingList _ => 0x11
  | .folioSearch _ _ _ => 0x12
  | .restore _ => 0x13
  | .catalogueReady => 0x14
  | .lodge => 0x20
  | .clockRead => 0x21
  | .clockLoad _ => 0x22
  | .clockStep _ => 0x23
  | .clockTrim _ => 0x24
  | .closeTargetSet _ _ _ => 0x25
  | .openFiling _ => 0x30
  | .feed _ _ _ => 0x31
  | .commit _ => 0x32
  | .abandon _ => 0x33
  | .withdraw _ => 0x34
  | .closeSide => 0x35
  | .fetch _ => 0x40
  | .bundle _ => 0x41
  | .quote _ => 0x42
  | .importPlatter => 0x50
  | .exportPlatter _ => 0x51
  | .substitute _ _ => 0x52
  | .driveReset _ => 0x53
  | .settingsSet _ _ => 0x54
  | .scheduleSet _ _ => 0x60
  | .accountSet _ _ => 0x61
  | .accountRead _ => 0x62
  | .periodTake _ => 0x63
  | .periodClear _ => 0x64
  | .rightsSet _ _ => 0x70
  | .eventsRead => 0x71
  | .eventsAck _ => 0x72
  | .eventsEnable _ => 0x73
  | .status _ => 0x74

/-- The request codes of Chapter 10. -/
def knownCodes : List Nat :=
  [0x10, 0x11, 0x12, 0x13, 0x14, 0x20, 0x21, 0x22, 0x23, 0x24, 0x25, 0x30, 0x31, 0x32, 0x33, 0x34, 0x35, 0x40, 0x41, 0x42,
   0x50, 0x51, 0x52, 0x53, 0x54, 0x60, 0x61, 0x62, 0x63, 0x64, 0x70, 0x71, 0x72, 0x73, 0x74]

/-- The frame's length is one Chapter 10 allows for its code (R185). A SCHEDULE_SET is 1 or 25 bytes whatever its form;
that the length agrees with the form is the unit's check. -/
def Request.lengthOk : Request → Bool
  | .restore p => decide (1 ≤ p.folios.length) && decide (p.folios.length ≤ 4)
  | .feed _ _ b => decide (b.length = Config.blockBytes)
  | .commit p => decide (1 ≤ p.words.length) && decide (p.words.length ≤ 8)
  | .bundle p => decide (1 ≤ p.items.length) && decide (p.items.length ≤ 8)
  | _ => true

/-! ## Rights -/

/-- The bit of each right in a rights set (10.3). -/
def rRetrieve : BitVec 8 := 0x01#8
@[inherit_doc rRetrieve] def rCopy : BitVec 8 := 0x02#8
@[inherit_doc rRetrieve] def rCertify : BitVec 8 := 0x04#8
@[inherit_doc rRetrieve] def rRestricted : BitVec 8 := 0x08#8
@[inherit_doc rRetrieve] def rFile : BitVec 8 := 0x10#8
@[inherit_doc rRetrieve] def rAccounts : BitVec 8 := 0x20#8
@[inherit_doc rRetrieve] def rMedia : BitVec 8 := 0x40#8
@[inherit_doc rRetrieve] def rAdmin : BitVec 8 := 0x80#8

/-- A rights set holds one of the rights of a mask. -/
def holds (set mask : BitVec 8) : Bool := set &&& mask != 0#8

/-- The rights LNK checks, as the mask of those of which one is needed; 0 for none (R189). -/
def Request.mask : Request → BitVec 8
  | .lookup _ | .folioSearch _ _ _ => rRetrieve
  | .pendingList _ => rFile
  | .restore _ | .catalogueReady => rAdmin
  | .lodge => rFile
  | .clockRead => 0#8
  | .clockLoad _ | .clockStep _ | .clockTrim _ | .closeTargetSet _ _ _ => rAdmin
  | .openFiling _ | .feed _ _ _ | .commit _ => rFile
  | .abandon _ => rFile ||| rAdmin
  | .withdraw _ | .closeSide => rAdmin
  | .fetch _ | .bundle _ | .quote _ => rRetrieve
  | .importPlatter | .exportPlatter _ | .substitute _ _ => rMedia
  | .driveReset _ | .settingsSet _ _ => rAdmin
  | .scheduleSet _ _ | .accountSet _ _ | .accountRead _ | .periodTake _ | .periodClear _ => rAccounts
  | .rightsSet _ _ => rAdmin
  | .eventsRead | .eventsAck _ | .eventsEnable _ | .status _ => 0#8

/-- A link with these rights may make the request (R188, R189). -/
def Request.allowed (set : BitVec 8) (r : Request) : Bool := r.mask == 0#8 || holds set r.mask

/-- The requests taken in catalogue-absent mode (R24). -/
def Request.takenAbsent : Request → Bool
  | .restore _ | .catalogueReady | .status _ => true
  | .clockRead | .clockLoad _ | .clockStep _ | .clockTrim _ | .closeTargetSet _ _ _ => true
  | .eventsRead | .eventsAck _ | .eventsEnable _ | .rightsSet _ _ => true
  | _ => false

end Sys2Proof.Machine
end

