-- ==== Sys2Proof/Machine/Ops.lean ====
section
/-!
DEFINITION. The named operations every unit uses: lists kept in key order, updates of one record of the state, timers on the
millisecond reference, posting an event, and handing LNK a response.
-/
namespace Sys2Proof.Machine

/-! ## Lists in key order -/

/-- Inserts a record at its place in key order, in place of one with the same key. -/
def insertKeyed {α : Type} (key : α → Nat) (a : α) : List α → List α
  | [] => [a]
  | b :: rest =>
    if key a < key b then a :: b :: rest
    else if key a = key b then a :: rest
    else b :: insertKeyed key a rest

/-- The record with a key. -/
def findKeyed {α : Type} (key : α → Nat) (k : Nat) (l : List α) : Option α := l.find? (fun a => key a == k)

/-- The record with a key changed. -/
def updateKeyed {α : Type} (key : α → Nat) (k : Nat) (f : α → α) (l : List α) : List α :=
  l.map (fun a => if key a = k then f a else a)

/-- Keys strictly rising. -/
def risingKeys {α : Type} (key : α → Nat) : List α → Bool
  | [] => true
  | a :: rest => rest.all (fun b => decide (key a < key b)) && risingKeys key rest

/-- A list without repetitions, each value at its first place. -/
def distinct {α : Type} [DecidableEq α] : List α → List α
  | [] => []
  | a :: rest => a :: (distinct rest).filter (fun b => b ≠ a)

/-! ## Updates of one record -/

namespace State

/-- Hands work to the units, after what this change has already handed them (assumption log 3). -/
def later (s : State) (ts : List Task) : State := { s with agenda := s.agenda ++ ts }

/-- Catalogue memory changed. -/
def modCat (s : State) (f : CatMem → CatMem) : State := { s with cat := f s.cat }

/-- One link's record changed. -/
def modLink (s : State) (l : Link) (f : LinkRec → LinkRec) : State := { s with links := s.links.set l (f (s.links.get l)) }

/-- One line changed. -/
def modLine (s : State) (l : LineNo) (f : Line → Line) : State := { s with lines := s.lines.set l (f (s.lines.get l)) }

/-- One filing slot replaced. -/
def setFiling (s : State) (q : FSlot) (f : Option Filing) : State := { s with filings := s.filings.set q f }

/-- One occupied filing slot changed. -/
def modFiling (s : State) (q : FSlot) (f : Filing → Filing) : State := s.setFiling q ((s.filings.get q).map f)

/-- The commit of one filing slot changed. -/
def modCommit (s : State) (q : FSlot) (f : Commit → Commit) : State :=
  s.modFiling q (fun g => { g with commit := g.commit.map f })

/-- The Library Unit's working store changed. -/
def modLib (s : State) (f : Library → Library) : State := { s with lib := f s.lib }

/-- One drive record. -/
def drive (s : State) (d : DriveNo) : Drive := s.lib.drives.get d

/-- One drive record changed. -/
def modDrive (s : State) (d : DriveNo) (f : Drive → Drive) : State :=
  { s with lib := { s.lib with drives := s.lib.drives.set d (f (s.lib.drives.get d)) } }

/-- The picker record changed. -/
def modPicker (s : State) (f : Picker → Picker) : State := { s with lib := { s.lib with picker := f s.lib.picker } }

/-- One drive channel changed. -/
def modDriveChan (s : State) (d : DriveNo) (f : DriveChan → DriveChan) : State :=
  { s with driveChans := s.driveChans.set d (f (s.driveChans.get d)) }

/-- One inbound channel replaced. -/
def setInChan (s : State) (l : Link) (c : InChan) : State := { s with inChans := s.inChans.set l c }

/-- One outbound channel changed. -/
def modOutChan (s : State) (l : Link) (f : OutChan → OutChan) : State :=
  { s with outChans := s.outChans.set l (f (s.outChans.get l)) }

/-- The operation of a link and tag. -/
def op? (s : State) (l : Link) (t : Nat) : Option Op := s.ops.find? (fun o => o.reply.link == l && o.reply.tag == t)

/-- The operation of a link and tag changed. -/
def modOp (s : State) (l : Link) (t : Nat) (f : Op → Op) : State :=
  { s with ops := s.ops.map (fun o => if o.reply.link = l ∧ o.reply.tag = t then f o else o) }

/-- An item, with its operation. -/
def item? (s : State) (r : ItemRef) : Option (Op × Item) :=
  match s.op? r.link r.tag with
  | none => none
  | some o => (o.items[r.pos - 1]?).map (fun i => (o, i))

/-- One item changed. -/
def modItem (s : State) (r : ItemRef) (f : Item → Item) : State :=
  s.modOp r.link r.tag (fun o => { o with items := o.items.modify (r.pos - 1) f })

/-- An item's phase set. -/
def setPhase (s : State) (r : ItemRef) (p : Phase) : State := s.modItem r (fun i => { i with phase := p })

/-- The segment of an instrument. -/
def segment? (s : State) (n : InstrNum) : Option Segment := s.segments.find? (fun g => g.inst == n)

/-- The segment of an instrument changed in place. -/
def modSegment (s : State) (n : InstrNum) (f : Segment → Segment) : State :=
  { s with segments := s.segments.map (fun g => if g.inst = n then f g else g) }

/-- A platter record. -/
def platter? (s : State) (id : Nat) : Option Platter := findKeyed Platter.id id s.cat.platters

/-- A platter record changed. -/
def modPlatter (s : State) (id : Nat) (f : Platter → Platter) : State :=
  s.modCat (fun c => { c with platters := updateKeyed Platter.id id f c.platters })

/-- A free value is taken: the counter moves on, so that the next one is another (assumption log 4). -/
def useFree (s : State) : State := { s with freeCtr := s.freeCtr + 1 }

/-! ## Timers -/

/-- `ms` milliseconds of the reference have passed since a count of it (spec 00, Conventions: Timeouts). -/
def passed (s : State) (since ms : Nat) : Bool := decide (since + ms ≤ s.ref)

/-! ## Events and responses -/

/-- One link takes a posting, unless its link reset input is asserted (R191). -/
def postTo (e : Event) (r : LinkRec) : LinkRec :=
  if r.resetAsserted then r else { r with attention := attend e r.attention }

/-- A unit posts an event: to all three links in one change while they run (R191); before that it waits for them to start
(R156). -/
def post (s : State) (e : Event) : State :=
  match s.power with
  | .running =>
    { s with links := ⟨postTo e s.links.a0, postTo e s.links.a1, postTo e s.links.a2⟩ }
  | .starting => { s with startEvents := s.startEvents ++ [e] }
  | .off => s

/-- A unit hands LNK a response: it goes to the tail of the link's queue, or is dropped where the link has been reset since the
tag was taken (R188, R196). -/
def respond (s : State) (r : Reply) (st : Status) (b : Body) : State :=
  if (s.links.get r.link).resetCount = r.gen then
    s.modLink r.link (fun k => { k with responses := k.responses ++ [{ tag := some r.tag, code := r.code, status := st, body := b }] })
  else s

/-- A response that carries a status alone. -/
def answer (s : State) (r : Reply) (st : Status) : State := s.respond r st .none

/-- A response to a request that may have none (an import made without a request, R146). -/
def answerOpt (s : State) (r : Option Reply) (st : Status) (b : Body) : State :=
  match r with
  | some r => s.respond r st b
  | none => s

end State

/-! ## Queries on items -/

/-- The item has ended. -/
def Item.hasEnded (i : Item) : Bool :=
  match i.phase with
  | .ended _ => true
  | _ => false

/-- The segment is COMPLETE (R107). -/
def Segment.complete (g : Segment) : Bool := decide (g.len ≤ g.staged)

end Sys2Proof.Machine
end

