-- ==== Sys2Proof/Machine/Clock.lean ====
section
/-!
DEFINITION. The registry clock and its trims (02, sections 2.1 and 2.2), as arithmetic on the clock record.
-/
namespace Sys2Proof.Machine

/-- The top value of the clock (R29). -/
def topStamp : Stamp := ⟨Config.topSec, 999⟩

/-- The effective trim (R27). -/
def Clock.effective (c : Clock) : Int := if 0 < c.tempLeft then c.temp else c.base

/-- A stamp moved on by some milliseconds, holding at the top (R26, R29). -/
def Stamp.plusMs (t : Stamp) (n : Nat) : Stamp :=
  let m := t.toMs + n
  if topStamp.toMs < m then topStamp else ⟨m / 1000, m % 1000⟩

/-- The accumulator reaches 1,000,000 at the next millisecond of the reference (R27). -/
def Clock.overflows (c : Clock) : Bool :=
  decide (c.effective ≠ 0) && decide (Config.trimUnit ≤ c.acc + c.effective.natAbs)

/-- The milliseconds the next advance moves the clock by (R27). -/
def Clock.stride (c : Clock) : Nat :=
  if c.overflows then (if 0 < c.effective then 2 else 0) else 1

/-- The accumulator after the next millisecond of the reference (R27). -/
def Clock.accAfter (c : Clock) : Nat :=
  if c.overflows then c.acc + c.effective.natAbs - Config.trimUnit else c.acc + c.effective.natAbs

/-- The next advance raises the seconds part (R28). -/
def Clock.secondRises (c : Clock) : Bool := decide (c.now.sec < (Stamp.plusMs c.now c.stride).sec)

/-- The next advance ends the temporary trim (R28). -/
def Clock.expires (c : Clock) : Bool := c.secondRises && c.tempLeft == 1

/-- One millisecond of the reference (R26 to R29). -/
def Clock.advance (c : Clock) : Clock :=
  { c with
    now := Stamp.plusMs c.now c.stride
    tempLeft := if c.secondRises then c.tempLeft - 1 else c.tempLeft
    acc := if c.expires then 0 else c.accAfter }

/-- The trims changed; the accumulator is cleared if the effective trim changes value (R27). -/
def Clock.retrim (old new : Clock) : Clock :=
  if new.effective = old.effective then new else { new with acc := 0 }

/-- The base trim set, in force and in the clock store (R35). -/
def Clock.setBase (c : Clock) (t : Int) : Clock := Clock.retrim c { c with base := t, storeTrim := t }

/-- A temporary trim started or replaced (R28). -/
def Clock.setTemp (c : Clock) (t : Int) (d : Nat) : Clock := Clock.retrim c { c with temp := t, tempLeft := d }

/-- The temporary trim ended by CLOCK_TRIM END (R28). -/
def Clock.endTemp (c : Clock) : Clock := Clock.retrim c { c with tempLeft := 0 }

/-- A trim in its range (R27). -/
def trimOk (t : Int) : Bool := decide (-200 ≤ t) && decide (t ≤ 200)

/-- The clock stepped by a signed number of seconds, and whether a limit was applied (R34). -/
def Clock.stepped (c : Clock) (n : Int) : Stamp × Bool :=
  let v := (c.now.sec : Int) + n
  if v < 0 then (⟨0, c.now.ms⟩, true)
  else if (Config.topSec : Int) < v then (topStamp, true)
  else (⟨v.toNat, c.now.ms⟩, false)

/-- The clock as CLOCK_READ and STATUS show it (R32). -/
def Clock.view (c : Clock) (t : CloseTarget) : ClockView :=
  { now := c.now, valid := c.valid, effective := c.effective, base := c.base, tempLeft := c.tempLeft, target := t }

/-- The seconds of day of a reading (spec 00, Conventions: Time). -/
def timeOfDay (t : Stamp) : Nat := t.sec % Config.secondsPerDay

/-! ## The close target -/

/-- The target is reached (R38). -/
def CloseTarget.reached (t : CloseTarget) (c : Clock) : Bool :=
  c.valid && t.target != 0 && decide (t.target ≤ c.now.sec)

/-- The target moved on after a close (R38). -/
def CloseTarget.moved (t : CloseTarget) (sec : Nat) : CloseTarget :=
  match t.mode with
  | .add =>
    let n := t.target + t.value * ((sec - t.target) / t.value + 1)
    { t with target := if n ≤ Config.topSec then n else 0 }
  | .reload => { t with target := if sec < t.value then t.value else 0 }

end Sys2Proof.Machine
end

