-- ==== Sys2Proof/Machine/Fees.lean ====
section
/-!
DEFINITION. Copy fees and accounts (08) as arithmetic on catalogue memory: the quote, the accrual, the period close and the
account table.
-/
namespace Sys2Proof.Machine

/-! ## The copy fee -/

/-- A schedule FEE takes (R161). -/
def scheduleOk (c : Schedule) : Bool :=
  decide (c.b ≤ 9999) && decide (c.t ≤ 255) && decide (c.s1 ≤ 999) && decide (c.s2 ≤ 999) && decide (c.l ≤ 9999) &&
  decide (c.c ≤ 9999) && decide (c.h ≤ 100) && decide (c.opens ≤ 86399) && decide (c.closes ≤ 86399) &&
  decide (c.opens < c.closes) && decide (1 ≤ c.m) && decide (c.m ≤ 999999)

/-- How many pages lie both in f to l and in a to b (R165). -/
def overlapCount (f l a b : Nat) : Nat := min l b + 1 - max f a

/-- The amount before surcharge (R166). -/
def subtotal (c : Schedule) (ns np : Nat) (certified : Bool) : Nat :=
  c.b + c.s1 * min ns c.t + c.s2 * (ns - c.t) + c.l * np + (if certified then c.c else 0)

/-- After hours (R167). -/
def isAfterHours (c : Schedule) (tod : Nat) : Bool := decide (tod < c.opens) || decide (c.closes ≤ tod)

/-- The quote of a copy (R164 to R168). -/
def computeQuote (c : Schedule) (pg : Pages) (f l : Nat) (certified exempt : Bool) (tod : Nat) : Quote :=
  let ns := overlapCount f l 1 pg.small
  let np := overlapCount f l (pg.small + 1) (pg.small + pg.plan)
  let amount := subtotal c ns np certified
  let late := isAfterHours c tod
  let charged := if late then (amount * (100 + c.h) + 50) / 100 else amount
  { fee := min (if exempt then 0 else charged) c.m, ns := ns, np := np, certified := certified, afterHours := late }

/-! ## Accounts -/

/-- An account record. -/
def CatMem.account? (c : CatMem) (code : Nat) : Option Account := findKeyed Account.code code c.accounts

/-- An account record changed. -/
def CatMem.modAccount (c : CatMem) (code : Nat) (f : Account → Account) : CatMem :=
  { c with accounts := updateKeyed Account.code code f c.accounts }

/-- A copy's fee and pages added to a tally (R174, R176). -/
def Tally.accrue (t : Tally) (q : Quote) : Tally :=
  { fees := satAdd Config.maxFees t.fees q.fee
    copies := satAdd Config.maxCopies t.copies 1
    small := satAdd Config.maxPages t.small q.ns
    plan := satAdd Config.maxPages t.plan q.np
    saturated := t.saturated || clamps Config.maxFees t.fees q.fee || clamps Config.maxCopies t.copies 1 ||
      clamps Config.maxPages t.small q.ns || clamps Config.maxPages t.plan q.np }

/-- One tally added into another (R180). -/
def Tally.merge (t u : Tally) : Tally :=
  { fees := satAdd Config.maxFees t.fees u.fees
    copies := satAdd Config.maxCopies t.copies u.copies
    small := satAdd Config.maxPages t.small u.small
    plan := satAdd Config.maxPages t.plan u.plan
    saturated := t.saturated || u.saturated || clamps Config.maxFees t.fees u.fees ||
      clamps Config.maxCopies t.copies u.copies || clamps Config.maxPages t.small u.small ||
      clamps Config.maxPages t.plan u.plan }

/-- All four tallies are 0. -/
def Tally.isZero (t : Tally) : Bool := t.fees == 0 && t.copies == 0 && t.small == 0 && t.plan == 0

/-- A delivered copy accrued: the account's tallies, the grand current total, the in-flight count (R174, R177). -/
def CatMem.accrue (c : CatMem) (code : Nat) (q : Quote) : CatMem :=
  { c.modAccount code (fun a => { a with tally := a.tally.accrue q, inFlight := a.inFlight - 1 }) with
    grand := satAdd Config.maxGrand c.grand q.fee }

/-- A copy's in-flight count released without accrual (R175). -/
def CatMem.releaseCopy (c : CatMem) (code : Nat) : CatMem := c.modAccount code (fun a => { a with inFlight := a.inFlight - 1 })

/-- A copy's in-flight count raised (R173). -/
def CatMem.raiseCopy (c : CatMem) (code : Nat) : CatMem := c.modAccount code (fun a => { a with inFlight := a.inFlight + 1 })

/-! ## The period close -/

/-- A snapshot record for an account that has none (R179, R180). -/
def snapOf (a : Account) : SnapRec := { code := a.code, tally := a.tally }

/-- One account's current tallies merged into the snapshot records (R180). -/
def mergeSnap (l : List SnapRec) (a : Account) : List SnapRec :=
  match findKeyed SnapRec.code a.code l with
  | some _ => updateKeyed SnapRec.code a.code (fun r => { r with tally := r.tally.merge a.tally }) l
  | none => insertKeyed SnapRec.code (snapOf a) l

/-- The snapshot a close leaves (R179, R180). -/
def CatMem.closeSnapshot (c : CatMem) : Snapshot :=
  match c.snapshot with
  | none => { first := c.period, last := c.period, spanned := 1, grand := c.grand, records := c.accounts.map snapOf }
  | some n =>
    { first := n.first, last := c.period, spanned := satAdd Config.max8 n.spanned 1,
      grand := satAdd Config.maxGrand n.grand c.grand, records := c.accounts.foldl mergeSnap n.records }

/-- The period number after a period (R178). -/
def nextPeriod (p : Nat) : Nat := if p = 65535 then 1 else p + 1

/-- A period close with the target moved on, as one change (R38, R178). -/
def CatMem.close (c : CatMem) (sec : Nat) : CatMem :=
  { c with
    snapshot := some c.closeSnapshot
    accounts := c.accounts.map (fun a => { a with tally := Tally.zero })
    grand := 0
    period := nextPeriod c.period
    active := c.pendingSched.getD c.active
    pendingSched := none
    target := c.target.moved sec }

/-- The event of a close (R178). -/
def CatMem.closeEvent (c : CatMem) : Event :=
  let n := c.closeSnapshot
  .periodClosed c.period (nextPeriod c.period) n.first n.last n.spanned c.pendingSched.isSome

/-- A period close is taken and the target moved on (R38, R178). -/
def State.closePeriod (s : State) : State :=
  (s.modCat (fun c => c.close s.clock.now.sec)).post s.cat.closeEvent

/-- The close target is tested (R38). -/
def State.testClose (s : State) : State := if s.cat.target.reached s.clock then s.closePeriod else s

end Sys2Proof.Machine
end

