-- ==== Sys2Proof/Machine/Catalogue.lean ====
section
/-!
DEFINITION. The Catalogue Unit (01): the instrument table, successors and claims, the folio index and its reservations, the
changes other units ask of it, and the requests it owns.
-/
namespace Sys2Proof.Machine

/-- The order of entries: their numbers' order (R4). -/
def Entry.key (e : Entry) : Nat := e.num.key

namespace CatMem

/-! ## The instrument table -/

/-- The entry of a number. -/
def entry? (c : CatMem) (n : InstrNum) : Option Entry := c.table.find? (fun e => e.num == n)

/-- The entry of a number changed. -/
def modEntry (c : CatMem) (n : InstrNum) (f : Entry → Entry) : CatMem :=
  { c with table := c.table.map (fun e => if e.num = n then f e else e) }

/-- An entry inserted at its place, with the stored entry count (R4). -/
def insertEntry (c : CatMem) (e : Entry) : CatMem :=
  { c with table := insertKeyed Entry.key e c.table, storedCount := c.storedCount + 1 }

/-- The create change of a stamp issue (R4, R5, Table 1-2). -/
def addLodged (c : CatMem) (n : InstrNum) (t : Stamp) (src : Source) : CatMem :=
  let e : Entry := { num := n, state := .lodged, stamp := t, source := src, restricted := false, successor := none, claim := none, copies := 0 }
  { (c.insertEntry e) with lastStamp := t, lastNumber := some n }

/-- The open change (R2). -/
def openEntry (c : CatMem) (n : InstrNum) (q : FSlot) : CatMem := c.modEntry n (fun e => { e with state := .filing q })

/-- The entry is FILING. -/
def isFiling (c : CatMem) (n : InstrNum) : Bool :=
  match c.entry? n with
  | some e => match e.state with | .filing _ => true | _ => false
  | none => false

/-- The claim removed from every entry whose claim names an instrument (R9, R14). -/
def dropClaims (c : CatMem) (n : InstrNum) : CatMem :=
  { c with table := c.table.map (fun e => if e.claim = some n then { e with claim := none } else e) }

/-- The release change, without the reservation, which is not catalogue memory (R2, R9). -/
def releaseEntry (c : CatMem) (n : InstrNum) : CatMem :=
  if c.isFiling n then (c.modEntry n (fun e => { e with state := .lodged })).dropClaims n else c

/-- The withdraw change (R2). -/
def withdrawEntry (c : CatMem) (n : InstrNum) : CatMem := c.modEntry n (fun e => { e with state := .withdrawn })

/-- One more copy delivered (R3). -/
def countCopy (c : CatMem) (n : InstrNum) : CatMem :=
  c.modEntry n (fun e => { e with copies := satAdd Config.max16 e.copies 1 })

/-- The LODGED entries, in number order. -/
def lodged (c : CatMem) : List Entry := c.table.filter (fun e => e.state == .lodged)

/-! ## Successors and claims -/

/-- Resolution in CURRENT mode: the instrument reached and the links followed, or nothing where a further link remains after
`fuel` of them (R11). -/
def follow (c : CatMem) : Nat → InstrNum → Nat → Option (InstrNum × Nat)
  | fuel, n, count =>
    match (c.entry? n).bind (·.successor) with
    | none => some (n, count)
    | some m =>
      match fuel with
      | 0 => none
      | fuel + 1 => follow c fuel m (count + 1)

/-- A supersede target has an invalid fault (R8, Table 1-4), but for its repetition among the targets. -/
def targetInvalid (c : CatMem) (claimant : Entry) (n : InstrNum) : Bool :=
  match c.entry? n with
  | none => true
  | some e =>
    (match e.state with | .recorded _ _ => false | _ => true) || e.successor.isSome ||
      decide (claimant.stamp.toMs ≤ e.stamp.toMs)

/-- The fault of a claim change, if any (R8). -/
def claimFault (c : CatMem) (claimant : InstrNum) (targets : List InstrNum) : Option Status :=
  match c.entry? claimant with
  | none => if targets.isEmpty then none else some .supersedeInvalid
  | some e =>
    if targets.any (c.targetInvalid e) || decide (distinct targets ≠ targets) then some .supersedeInvalid
    else if targets.any (fun n => ((c.entry? n).bind (·.claim)).isSome) then some .supersedeClaimed
    else none

/-- The claims set (R8). -/
def setClaims (c : CatMem) (claimant : InstrNum) (targets : List InstrNum) : CatMem :=
  { c with table := c.table.map (fun e => if targets.contains e.num then { e with claim := some claimant } else e) }

/-! ## The folio index -/

/-- The folio record of a folio. -/
def folio? (c : CatMem) (f : Nat) : Option FolioRec := findKeyed FolioRec.folio f c.folios

/-- Links used (R13). -/
def linksUsed (c : CatMem) : Nat := (c.folios.map (fun r => r.list.length)).sum

/-- A number inserted in a folio's list (R15). -/
def addLink (n : InstrNum) (l : List FolioRec) (f : Nat) : List FolioRec :=
  match findKeyed FolioRec.folio f l with
  | none => insertKeyed FolioRec.folio { folio := f, list := [n] } l
  | some _ => updateKeyed FolioRec.folio f (fun r => { r with list := insertKeyed InstrNum.key n r.list }) l

/-- A number inserted in the lists of distinct folios, in ascending folio order (R15, R20). -/
def addLinks (c : CatMem) (n : InstrNum) (fs : List Nat) : CatMem :=
  { c with folios := ((distinct fs).foldl (fun l f => insertKeyed id f l) []).foldl (addLink n) c.folios }

/-- The record change (R10). -/
def recordEntry (c : CatMem) (n : InstrNum) (loc : Location) (pg : Pages) (restricted : Bool) (fs : List Nat) : CatMem :=
  let c := c.modEntry n (fun e => { e with state := .recorded loc pg, restricted := restricted })
  let c : CatMem := { c with table := c.table.map (fun e : Entry =>
    if e.claim = some n then { e with claim := none, successor := some n } else e) }
  c.addLinks n fs

/-! ## Substitution -/

/-- A retired id taken as its replacement (R19 check 5, R20, R88). -/
def canonId (c : CatMem) (id : Nat) : Nat :=
  match c.substs.find? (fun p => p.retired == id) with
  | some p => p.replacement
  | none => id

/-- Two extents on one platter-side share a block, retired ids taken as their replacements (R19). -/
def overlaps (c : CatMem) (a b : Location) : Bool :=
  c.canonId a.platter == c.canonId b.platter && a.side == b.side && decide (a.start < b.start + b.len) &&
    decide (b.start < a.start + a.len)

end CatMem

/-- The location of a RECORDED entry. -/
def Entry.loc? (e : Entry) : Option Location :=
  match e.state with
  | .recorded l _ => some l
  | _ => none

/-- One side of a platter record. -/
def Platter.sideRec (p : Platter) : Side → SideRec
  | .s0 => p.side0
  | .s1 => p.side1

/-- One side of a platter record changed. -/
def Platter.modSide (p : Platter) (sd : Side) (f : SideRec → SideRec) : Platter :=
  match sd with
  | .s0 => { p with side0 := f p.side0 }
  | .s1 => { p with side1 := f p.side1 }

/-- The fill point of a side, in OPEN and FULL (R119). -/
def SideState.fill? : SideState → Option Nat
  | .opened f => some f
  | .full f => some f
  | _ => none

/-- The side made FULL by a RESTORE that names blocks up to a block (R20). -/
def SideState.restoredTo (st : SideState) (b : Nat) : SideState := .full (max (st.fill?.getD b) b)

/-! ## Reservations -/

/-- All reserved folio numbers, slot by slot (R14). -/
def State.reservedAll (s : State) : List Nat := s.reserved.a1 ++ s.reserved.a2 ++ s.reserved.a3 ++ s.reserved.a4

/-- Links reserved, R_links (R14). -/
def State.rLinks (s : State) : Nat := s.reservedAll.length

/-- Distinct reserved folios that have no record, R_new (R14). -/
def State.rNew (s : State) : Nat := ((distinct s.reservedAll).filter (fun f => (s.cat.folio? f).isNone)).length

/-- There is index room for these distinct folios (R14). -/
def State.folioRoom (s : State) (fs : List Nat) : Bool :=
  let n := (fs.filter (fun f => (s.cat.folio? f).isNone && !s.reservedAll.contains f)).length
  decide (s.cat.linksUsed + s.rLinks + fs.length ≤ Config.maxFolioLinks) &&
    decide (s.cat.folios.length + s.rNew + n ≤ Config.maxFolios)

/-- The release change with its reservation (R2, R9, R15). -/
def State.releaseInst (s : State) (n : InstrNum) (q : FSlot) : State :=
  if s.cat.isFiling n then
    { s.modCat (fun c => c.releaseEntry n) with reserved := s.reserved.set q [] }
  else s

/-! ## Stamp issue (02, section 2.4) -/

/-- The stamp an issue taken now would carry; none where no later stamp exists (R40). -/
def State.formStamp (s : State) : Option Stamp :=
  if topStamp.toMs ≤ s.cat.lastStamp.toMs then none
  else
    let next := Stamp.plusMs s.cat.lastStamp 1
    some (if next.toMs ≤ s.clock.now.toMs then s.clock.now else next)

/-- The number that goes with a stamp (R41). -/
def State.formNumber (s : State) (t : Stamp) : InstrNum :=
  let day := t.sec / Config.secondsPerDay
  match s.cat.lastNumber with
  | some n => if n.day = day then ⟨day, n.seq + 1⟩ else ⟨day, 1⟩
  | none => ⟨day, 1⟩

/-- The tests of an issue, in order: the first that fails, or the number and stamp (R42, Table 2-1). -/
def State.issueTest (s : State) : Except Status (InstrNum × Stamp) :=
  if !s.clock.valid then .error .clockInvalid
  else if s.absentMode then .error .catalogueAbsent
  else if Config.maxEntries ≤ s.cat.table.length then .error .catalogueFull
  else
    match s.formStamp with
    | none => .error .dayFull
    | some t =>
      let n := s.formNumber t
      if Config.maxSeq < n.seq then .error .dayFull else .ok (n, t)

/-- CATALOGUE_LOW is posted where few entries are free (R6). -/
def State.postLow (s : State) : State :=
  let free := Config.maxEntries - s.cat.table.length
  if free ≤ Config.lowEntries then s.post (.catalogueLow free) else s

/-- An issue that has passed its tests: the entry, the last-issued values, and the events (R43). -/
def State.issue (s : State) (n : InstrNum) (t : Stamp) (src : Source) : State :=
  ((s.modCat (fun c => c.addLodged n t src)).post (.stampIssued n t src)).postLow

/-! ## Requests (01, section 1.6) -/

/-- The first records of a list response, and the last of them where more follow (R16, R18, R172, R181). -/
def pageOf {α : Type} (n : Nat) (l : List α) : List α × Option α :=
  (l.take n, if n < l.length then (l.take n).getLast? else none)

/-- Numbers later than a start-after number, or all. -/
def afterNum {α : Type} (key : α → Nat) (start : Option Nat) (l : List α) : List α :=
  match start with
  | some k => l.filter (fun a => decide (k < key a))
  | none => l

/-- LOOKUP (R17). -/
def handleLookup (s : State) (r : Reply) (n : InstrNum) : State :=
  match s.cat.entry? n with
  | none => s.answer r .noSuch
  | some e => s.respond r .done (.entry e)

/-- PENDING_LIST (R18). -/
def handlePendingList (s : State) (r : Reply) (after : OptField) : State :=
  match optInst? after with
  | none => s.answer r .badField
  | some start =>
    let p := pageOf Config.listLen ((afterNum Entry.key (start.map InstrNum.key) s.cat.lodged).map (·.num))
    s.respond r .done (.numbers p.1 p.2)

/-- FOLIO_SEARCH (R16). -/
def handleFolioSearch (s : State) (r : Reply) (folio : Nat) (after : OptField) (mode : Nat) : State :=
  match optInst? after, searchMode? mode with
  | some start, some live =>
    if folio < 1 ∨ 999999 < folio then s.answer r .badField
    else
      let all := match s.cat.folio? folio with | some f => f.list | none => []
      let qualifying := (afterNum InstrNum.key (start.map InstrNum.key) all).filter
        (fun n => !live || ((s.cat.entry? n).bind (·.successor)).isNone)
      let p := pageOf Config.listLen qualifying
      s.respond r .done (.folioNumbers folio p.1 p.2)
  | _, _ => s.answer r .badField

/-- A RESTORE's fields in their ranges, with the values they stand for (R19 check 1). The range of the sequence is tested of the number
restored alone; a successor outside it is left to check 4 (assumption log 64). -/
def restoreFields (p : RestoreParams) : Option (Source × Location × Bool × Option InstrNum) :=
  match source? p.source, Side.ofNat? p.side, flag? p.restricted, optInst? p.successor with
  | some src, some sd, some res, some suc =>
    if p.inst.day ≤ 65535 ∧ 1 ≤ p.inst.seq ∧ p.inst.seq ≤ Config.maxSeq ∧ p.stamp.ms ≤ 999 ∧
        p.stamp.sec / Config.secondsPerDay = p.inst.day ∧ 1 ≤ p.platter ∧ p.platter ≤ 65535 ∧
        Config.firstBlock ≤ p.start ∧ 2 ≤ p.len ∧ p.len ≤ Config.maxExtent ∧ p.start + p.len ≤ Config.sideBlocks ∧
        1 ≤ p.small + p.plan ∧ p.small + p.plan ≤ 255 ∧ p.folioCount = p.folios.length ∧ 1 ≤ p.folioCount ∧
        p.folioCount ≤ 4 ∧ p.folios.all (fun f => decide (1 ≤ f ∧ f ≤ 999999)) then
      some (src, ⟨p.platter, sd, p.start, p.len⟩, res, suc)
    else none
  | _, _, _, _ => none

/-- The extents of occupied filing slots (R68). -/
def State.filingExtents (s : State) : List Location :=
  Quad.all.filterMap (fun q => (s.filings.get q).bind (·.extent))

/-- Check 3 fails: the number or the stamp is later than the last issued, or no number has been issued (R19; assumption log
34). -/
def State.isFuture (s : State) (n : InstrNum) (t : Stamp) : Bool :=
  match s.cat.lastNumber with
  | none => true
  | some l => decide (l.key < n.key) || decide (s.cat.lastStamp.toMs < t.toMs)

/-- Check 4 passes (R19). -/
def CatMem.successorOk (c : CatMem) (t : Stamp) : Option InstrNum → Bool
  | none => true
  | some n =>
    match c.entry? n with
    | some e => e.loc?.isSome && decide (t.toMs < e.stamp.toMs)
    | none => false

/-- The checks of a RESTORE in order: the first status that fails, or the values (R19, Table 1-6). -/
def State.restoreTest (s : State) (p : RestoreParams) : Except Status (Source × Location × Bool × Option InstrNum) :=
  match restoreFields p with
  | none => .error .badField
  | some v =>
    if (s.cat.entry? p.inst).isSome then .error .duplicate
    else if !s.absentMode && s.isFuture p.inst p.stamp then .error .futureNumber
    else if !s.cat.successorOk p.stamp v.2.2.2 then .error .supersedeInvalid
    else if (s.cat.table.filterMap Entry.loc? ++ s.filingExtents).any (s.cat.overlaps v.2.1) then .error .extentOverlap
    else if Config.maxEntries ≤ s.cat.table.length then .error .catalogueFull
    else if !s.folioRoom (distinct p.folios) then .error .folioFull
    else .ok v

/-- The restore change on catalogue memory (R20). -/
def CatMem.restored (c : CatMem) (p : RestoreParams) (v : Source × Location × Bool × Option InstrNum) : CatMem :=
  let e : Entry := { num := p.inst, state := .recorded v.2.1 ⟨p.small, p.plan⟩, stamp := p.stamp, source := v.1, restricted := v.2.2.1, successor := v.2.2.2, claim := none, copies := 0 }
  let c := (c.insertEntry e).addLinks p.inst p.folios
  let mark (x : SideRec) : SideRec := { x with state := x.state.restoredTo (p.start + p.len) }
  { c with platters := updateKeyed Platter.id (c.canonId p.platter) (fun q => q.modSide v.2.1.side mark) c.platters }

/-- RESTORE (R19, R20). -/
def handleRestore (s : State) (r : Reply) (p : RestoreParams) : State :=
  match s.restoreTest p with
  | .error st => s.answer r st
  | .ok v =>
    let marked := (s.platter? (s.cat.canonId p.platter)).isSome
    ((s.modCat (fun c => c.restored p v)).postLow).respond r .done (.sideMarked marked)

/-- The larger of two stamps. -/
def Stamp.max (a b : Stamp) : Stamp := if a.toMs < b.toMs then b else a

/-- Catalogue memory as CATALOGUE_READY leaves it (R21). -/
def CatMem.ready (c : CatMem) : CatMem :=
  { c with
    lastStamp := c.table.foldl (fun t e => Stamp.max t e.stamp) ⟨0, 0⟩
    lastNumber := c.table.getLast?.map (·.num)
    marker := .valid
    storedCount := c.table.length }

/-- CATALOGUE_READY (R21); FIL is told (R69). -/
def handleCatalogueReady (s : State) (r : Reply) : State :=
  if !s.absentMode then s.answer r .cataloguePresent
  else
    let s := { (s.modCat CatMem.ready) with absentMode := false }
    (s.respond r .done (.lastIssued s.cat.lastStamp s.cat.lastNumber)).later [.mediaRetry]

end Sys2Proof.Machine
end

