-- ==== Sys2Proof/Machine/Lodgement.lean ====
section
/-!
DEFINITION. The Clock and Lodgement Unit (02): the time base, the clock requests, the lodgement lines, the LODGE request; and the
writes of settings memory (07, section 7.4).
-/
namespace Sys2Proof.Machine

/-! ## The time base -/

/-- The controller is powered. -/
def State.powered (s : State) : Bool := s.power != .off

/-- One millisecond (R26). Powered, it is a millisecond of the reference, and the close target is tested after the advance;
unpowered, it is one of the clock store's battery oscillator, and the reference stands still. -/
def State.tick (s : State) : State :=
  if s.powered then State.testClose { s with ref := s.ref + 1, clock := s.clock.advance }
  else { s with clock := s.clock.advance }

/-! ## Settings memory -/

/-- The settings record as the controller knows it: none of a blank memory, and a memory that did not answer at power-on is blank
(R159). -/
def Settings.known (x : Settings) : Option SettingsRec := if x.answered then x.stored else none

/-- The record a write puts in settings memory (R159): rights and base trim as in force, where a change of theirs stands already;
enables and drive count as stored, or as in force while the memory is blank, with the change applied. -/
def State.settingsRecord (s : State) (c : SettingsChange) : SettingsRec :=
  let inForce : Four Bool := ⟨s.lines.a1.enabled, s.lines.a2.enabled, s.lines.a3.enabled, s.lines.a4.enabled⟩
  let old : SettingsRec :=
    { rights := s.rights, enables := (s.settings.known.map (·.enables)).getD inForce,
      drives := (s.settings.known.map (·.drives)).getD s.settings.drives, trim := s.clock.base }
  match c with
  | .inForce => old
  | .install n e => { old with drives := n, enables := e }

/-- The oldest waiting write is begun if none runs. -/
def State.beginWrite (s : State) : State :=
  match s.settings.writing, s.settings.waiting with
  | none, w :: rest =>
    { s with settings := { s.settings with writing := some (s.settingsRecord w.change, w.reply), waiting := rest } }
  | _, _ => s

/-- A write is asked for; its response is given when it ends (R35, R160, R190). -/
def State.askWrite (s : State) (c : SettingsChange) (r : Reply) : State :=
  State.beginWrite { s with settings := { s.settings with waiting := s.settings.waiting ++ [{ change := c, reply := r }] } }

/-- What the response of a write carries: the stored drive count and enables of SETTINGS_SET, the sets in force of RIGHTS_SET, nothing for
CLOCK_TRIM (R160, R190, R35). That the stored values are these two is the model's choice (assumption log 84). -/
def State.writeBody (s : State) (code : Nat) (rec : SettingsRec) : Body :=
  if code = (Request.settingsSet 0 (Four.const 0)).code then .settings rec.drives rec.enables
  else if code = (Request.rightsSet 0 0).code then .rights s.rights
  else .none

/-- The settings memory write ends (R35, R159): a write of a memory that did not answer at power-on fails. -/
def State.endWrite (s : State) (ok : Bool) : State :=
  match s.settings.writing with
  | none => s
  | some (rec, reply) =>
    let good := ok && s.settings.answered
    let s : State := { s with settings := { s.settings with
      writing := none, stored := if good then some rec else s.settings.stored } }
    let s := if good then s.respond reply .done (s.writeBody reply.code rec) else s.answer reply .settingsFault
    s.beginWrite

/-- SETTINGS_SET (R160). -/
def handleSettingsSet (s : State) (r : Reply) (count : Nat) (enables : Four Nat) : State :=
  match flag? enables.a1, flag? enables.a2, flag? enables.a3, flag? enables.a4 with
  | some a, some b, some c, some d =>
    if count < 1 ∨ 6 < count then s.answer r .badField else s.askWrite (.install count ⟨a, b, c, d⟩) r
  | _, _, _, _ => s.answer r .badField

/-! ## Clock requests (02, section 2.2) -/

/-- CLOCK_READ (R32). -/
def handleClockRead (s : State) (r : Reply) : State := s.respond r .done (.clock (s.clock.view s.cat.target))

/-- CLOCK_LOAD (R33). -/
def handleClockLoad (s : State) (r : Reply) (v : Stamp) : State :=
  if 999 < v.ms then s.answer r .badField
  else
    let before := s.clock.now
    let s : State := { s with clock := { s.clock with now := v, valid := true, continuity := true } }
    ((s.post (.clockChanged .load before v)).testClose).respond r .done (.clockLoaded before v)

/-- CLOCK_STEP (R34); the range is tested before the validity (assumption log 32). -/
def handleClockStep (s : State) (r : Reply) (n : Int) : State :=
  if n < -86400 ∨ 86400 < n then s.answer r .badField
  else if !s.clock.valid then s.answer r .clockInvalid
  else
    let before := s.clock.now
    let v := s.clock.stepped n
    let s : State := { s with clock := { s.clock with now := v.1 } }
    ((s.post (.clockChanged .step before v.1)).testClose).respond r .done (.clockStepped v.1 v.2)

/-- CLOCK_TRIM (R35): BASE answers when its settings write has ended. -/
def handleClockTrim (s : State) (r : Reply) (f : TrimForm) : State :=
  match f with
  | .base t =>
    if trimOk t then State.askWrite { s with clock := s.clock.setBase t } .inForce r else s.answer r .badField
  | .temporary t d =>
    if trimOk t && decide (1 ≤ d) && decide (d ≤ 65535) then
      State.answer { s with clock := s.clock.setTemp t d } r .done
    else s.answer r .badField
  | .stop => State.answer { s with clock := s.clock.endTemp } r .done
  | .other _ => s.answer r .badField

/-- CLOSE_TARGET_SET is refused (R37). -/
def State.closeTargetBad (s : State) (target : Nat) (m : CloseMode) (value : Nat) : Bool :=
  (m == .add && (decide (value < 1) || decide (604800 < value))) ||
    (s.clock.valid && target != 0 && decide (target ≤ s.clock.now.sec))

/-- CLOSE_TARGET_SET (R37). -/
def handleCloseTargetSet (s : State) (r : Reply) (target mode value : Nat) : State :=
  match closeMode? mode with
  | none => s.answer r .badField
  | some m =>
    if s.closeTargetBad target m value then s.answer r .badField
    else (s.modCat (fun c => { c with target := { target := target, mode := m, value := value } })).answer r .done

/-! ## Lodgement lines (02, section 2.5) -/

/-- The head record is offered where the offer is IDLE, the queue is not empty and accept is negated (R47). -/
def Line.offer (l : Line) : Line :=
  if !l.offered && !l.queue.isEmpty && !l.accept then { l with offered := true } else l

/-- A press is refused: the lamp is lit and STAMP_REFUSED is posted (R45, R46). -/
def State.refusePress (s : State) (q : LineNo) (why : RefuseReason) : State :=
  (s.modLine q (fun l => { l with lamp := true })).post (.stampRefused q why)

/-- The press input, becoming active, makes a press (R45): a level already active is no edge, a disabled line ignores its input, and before
the controller has finished start-up no press is stamped (R48). -/
def State.pressEdge (s : State) (q : LineNo) : Bool :=
  !(s.lines.get q).pressed && (s.lines.get q).enabled && s.power == .running

/-- The tests of a press: the reason it is refused for, or the number and stamp it is given (R45). -/
def State.pressTest (s : State) (q : LineNo) : Except RefuseReason (InstrNum × Stamp) :=
  if Config.stampQueueLen ≤ (s.lines.get q).queue.length then .error .queueFull
  else
    match s.issueTest with
    | .error st => .error (.status st)
    | .ok v => .ok v

/-- A leading edge on an enabled line (R45). -/
def State.takePress (s : State) (q : LineNo) : State :=
  match s.pressTest q with
  | .error why => s.refusePress q why
  | .ok (n, t) =>
    (s.issue n t (.line q)).modLine q (fun l =>
      Line.offer { l with queue := l.queue ++ [{ line := q, num := n, stamp := t }], lamp := false })

/-- The press input becomes active (R45). -/
def State.pressInput (s : State) (q : LineNo) : State :=
  let s' := s.modLine q (fun l => { l with pressed := true })
  if s.pressEdge q then s'.takePress q else s'

/-- The press input returns to inactive (R45). -/
def State.pressRelease (s : State) (q : LineNo) : State := s.modLine q (fun l => { l with pressed := false })

/-- The printer asserts accept (R47): while OFFERED it takes the head record; otherwise, and while still asserted, it is
ignored. -/
def State.printerAccept (s : State) (q : LineNo) : State :=
  s.modLine q (fun l =>
    if l.offered && !l.accept then { l with accept := true, queue := l.queue.tail, offered := false }
    else { l with accept := true })

/-- The printer negates accept (R47). -/
def State.printerRelease (s : State) (q : LineNo) : State := s.modLine q (fun l => Line.offer { l with accept := false })

/-- LODGE (R49). -/
def handleLodge (s : State) (r : Reply) : State :=
  match s.issueTest with
  | .error st => s.answer r st
  | .ok (n, t) => (s.issue n t (.link r.link)).respond r .done (.stamped n t)

end Sys2Proof.Machine
end

