-- ==== Sys2Proof/Machine/Accounts.lean ====
section
/-!
DEFINITION. The requests of the Fee Unit (08): schedules, accounts, and the period snapshot.
-/
namespace Sys2Proof.Machine

/-- SCHEDULE_SET answers with both schedules as they stand (R163). -/
def State.answerSchedules (s : State) (r : Reply) : State :=
  s.respond r .done (.schedules s.cat.active s.cat.pendingSched)

/-- SCHEDULE_SET (R163). An IMMEDIATE form needs ADMIN besides (assumption log 32 on the order of the two refusals); a length that does
not agree with the form is BAD_FIELD (10.3). -/
def handleScheduleSet (s : State) (r : Reply) (f : ScheduleForm) (sched : Option Schedule) : State :=
  match f, sched with
  | .pending, some c =>
    if scheduleOk c then (s.modCat (fun m => { m with pendingSched := some c })).answerSchedules r else s.answer r .badField
  | .immediate, sched =>
    if !holds (s.rights.get r.link) rAdmin then s.answer r .noRight
    else
      match sched with
      | some c => if scheduleOk c then (s.modCat (fun m => { m with active := c })).answerSchedules r else s.answer r .badField
      | none => s.answer r .badField
  | .cancelPending, none => (s.modCat (fun m => { m with pendingSched := none })).answerSchedules r
  | .view, none => s.answerSchedules r
  | _, _ => s.answer r .badField

/-- ACCOUNT_SET answers with the record as it stands (R170). -/
def State.answerAccount (s : State) (r : Reply) (code : Nat) : State :=
  match s.cat.account? code with
  | some a => s.respond r .done (.account a)
  | none => s.answer r .done

/-- CREATE (R170). The exempt byte is tested with the state byte, before the account: the model's choice (assumption log 90). -/
def accountCreate (s : State) (r : Reply) (p : AccountParams) : State :=
  match accountState? p.state, flag? p.exempt with
  | some susp, some ex =>
    if (s.cat.account? p.code).isSome then s.answer r .duplicate
    else if Config.maxAccounts ≤ s.cat.accounts.length then s.answer r .tableFull
    else
      let a : Account := { code := p.code, suspended := susp, exempt := ex, inFlight := 0, tally := Tally.zero }
      (s.modCat (fun c => { c with accounts := insertKeyed Account.code a c.accounts })).answerAccount r p.code
  | _, _ => s.answer r .badField

/-- CHANGE (R170). The exempt byte is tested with the state byte, before the account: the model's choice (assumption log 90). -/
def accountChange (s : State) (r : Reply) (p : AccountParams) : State :=
  match accountState? p.state, flag? p.exempt with
  | some susp, some ex =>
    if (s.cat.account? p.code).isNone then s.answer r .noAccount
    else
      (s.modCat (fun c => c.modAccount p.code (fun a => { a with suspended := susp, exempt := ex }))).answerAccount r p.code
  | _, _ => s.answer r .badField

/-- The snapshot records changed. -/
def CatMem.modSnapRecs (c : CatMem) (f : List SnapRec → List SnapRec) : CatMem :=
  { c with snapshot := c.snapshot.map (fun n => { n with records := f n.records }) }

/-- RESET on catalogue memory (R171). -/
def CatMem.resetAccount (c : CatMem) (code : Nat) : CatMem :=
  (c.modAccount code (fun a => { a with tally := Tally.zero })).modSnapRecs
    (updateKeyed SnapRec.code code (fun r => { r with tally := Tally.zero }))

/-- RESET (R171). -/
def accountReset (s : State) (r : Reply) (p : AccountParams) : State :=
  if !holds (s.rights.get r.link) rAdmin then s.answer r .noRight
  else
    match s.cat.account? p.code with
    | none => s.answer r .noAccount
    | some a =>
      if 0 < a.inFlight then s.answer r .accountBusy
      else (s.modCat (fun c => c.resetAccount p.code)).answerAccount r p.code

/-- The snapshot holds a record for the code with a tally that is not 0 (R171). -/
def CatMem.snapBusy (c : CatMem) (code : Nat) : Bool :=
  match c.snapshot with
  | some n => n.records.any (fun x => x.code == code && !x.tally.isZero)
  | none => false

/-- DELETE on catalogue memory (R171). -/
def CatMem.deleteAccount (c : CatMem) (code : Nat) : CatMem :=
  CatMem.modSnapRecs { c with accounts := c.accounts.filter (fun a => a.code ≠ code) }
    (fun l => l.filter (fun x => x.code ≠ code))

/-- DELETE (R171). -/
def accountDelete (s : State) (r : Reply) (p : AccountParams) : State :=
  if p.code = 0 then s.answer r .badField
  else
    match s.cat.account? p.code with
    | none => s.answer r .noAccount
    | some a =>
      if decide (0 < a.inFlight) || !a.tally.isZero || s.cat.snapBusy p.code then s.answer r .accountBusy
      else (s.modCat (fun c => c.deleteAccount p.code)).answerAccount r p.code

/-- ACCOUNT_SET (R170, R171). -/
def handleAccountSet (s : State) (r : Reply) (act : AccountAction) (p : AccountParams) : State :=
  match act with
  | .create => accountCreate s r p
  | .change => accountChange s r p
  | .reset => accountReset s r p
  | .delete => accountDelete s r p
  | .other _ => s.answer r .badField

/-- ACCOUNT_READ (R172). -/
def handleAccountRead (s : State) (r : Reply) (after : OptField) : State :=
  match optNat? after with
  | none => s.answer r .badField
  | some start =>
    let p := pageOf Config.recordsLen (afterNum Account.code start s.cat.accounts)
    s.respond r .done (.accounts s.cat.period s.cat.grand s.cat.snapshot.isSome p.1 (p.2.map (·.code)))

/-- PERIOD_TAKE (R181). -/
def handlePeriodTake (s : State) (r : Reply) (after : OptField) : State :=
  match optNat? after with
  | none => s.answer r .badField
  | some start =>
    match s.cat.snapshot with
    | none => s.respond r .done (.snapshot none [] none)
    | some n =>
      let p := pageOf Config.recordsLen (afterNum SnapRec.code start n.records)
      s.respond r .done (.snapshot (some { n with records := [] }) p.1 (p.2.map (·.code)))

/-- PERIOD_CLEAR (R182). -/
def handlePeriodClear (s : State) (r : Reply) (period : Nat) : State :=
  match s.cat.snapshot with
  | none => s.answer r .noSnapshot
  | some n =>
    if period ≠ n.last then s.respond r .periodMismatch (.lastPeriod n.last)
    else (s.modCat (fun c => { c with snapshot := none })).respond r .done (.released n.first n.last n.spanned)

end Sys2Proof.Machine
end

