-- ==== Sys2Proof/Machine/Buffer.lean ====
section
/-!
DEFINITION. The Buffer Unit (05): the ingest ring, staging segments and their users, and the page map as it is read.
-/
namespace Sys2Proof.Machine

/-! ## The ingest ring -/

/-- Free ring blocks (R104). -/
def State.ringFree (s : State) : Nat := Config.ringBlocks - s.ring.length

/-- A block appended at the head of the ring (R104). -/
def State.appendRing (s : State) (q : FSlot) (ext : Nat) : State :=
  { s with ring := s.ring ++ [{ pos := s.ringNext, slot := q, ext := ext, mark := .live }],
           ringNext := (s.ringNext + 1) % Config.ringBlocks }

/-- The tail blocks that are WRITTEN or DISCARDED removed (R105). -/
def reclaimRing (l : List RingBlock) : List RingBlock := l.dropWhile (fun b => b.mark ≠ .live)

/-- Every block of a slot marked, and the ring reclaimed (R105). -/
def State.markSlot (s : State) (q : FSlot) (m : Mark) : State :=
  { s with ring := reclaimRing (s.ring.map (fun b => if b.slot = q then { b with mark := m } else b)) }

/-- The ring position of a LIVE block of a slot (R106). Where the slot holds no such block, as beyond its last, position 0: the model's choice, since
R106 gives a channel no next block there (assumption log 72). -/
def State.ringPos (s : State) (q : FSlot) (ext : Nat) : Nat :=
  match s.ring.find? (fun b => b.slot == q && b.mark == .live && b.ext == ext) with
  | some b => b.pos
  | none => 0

/-- The LIVE blocks of a slot (R118). -/
def State.liveBlocks (s : State) (q : FSlot) : Nat := (s.ring.filter (fun b => b.slot == q && b.mark == .live)).length

/-! ## Page maps -/

/-- A 2-byte field of a block (R197). -/
def field2 (b : List Byte) (i : Nat) : Nat := (b.getD i 0#8).toNat * 256 + (b.getD (i + 1) 0#8).toNat

/-- The page count of a map block (R198). -/
def mapCount (b : List Byte) : Nat := field2 b 0

/-- The offsets a map gives: entries 1 up to the last that is not 0 (R198). -/
def mapOffsets (b : List Byte) : List Nat :=
  ((((List.range 255).map (fun i => field2 b (2 + 2 * i))).reverse).dropWhile (· == 0)).reverse

/-- Strictly ascending. -/
def ascending : List Nat → Bool
  | [] => true
  | a :: rest => rest.all (fun b => decide (a < b)) && ascending rest

/-- A map agrees with a page count and an extent length (R57, R96). -/
def mapOk (b : List Byte) (pages len : Nat) : Bool :=
  let offs := mapOffsets b
  mapCount b == pages && offs.length == pages && decide (1 ≤ pages) && decide (pages ≤ 255) && ascending offs &&
    offs.head? == some 1 && offs.all (fun o => decide (o < len))

/-! ## Staging -/

/-- The buffer block of a staging block (05, introduction). -/
def stagingBlock (n : Nat) : Nat := Config.ringBlocks + n

/-- A run of free staging blocks from a block on (R107). -/
def runFree (segs : List Segment) (first len : Nat) : Bool :=
  decide (first + len ≤ Config.ringBlocks) &&
    segs.all (fun g => decide (first + len ≤ g.first) || decide (g.first + g.len ≤ first))

/-- The lowest first block of a free run of at least a length (R108 step 2). A free run begins at block 0 or where a segment
ends. -/
def findRun (segs : List Segment) (len : Nat) : Option Nat :=
  ((0 :: segs.map (fun g => g.first + g.len)).filter (fun a => runFree segs a len)).min?

/-- Unused COMPLETE segments removed, least recently used first, until a run is found or none is left (R108 steps 2
to 4). -/
def makeRoom : Nat → List Segment → Nat → List Segment × Option Nat
  | 0, segs, len => (segs, findRun segs len)
  | n + 1, segs, len =>
    match findRun segs len with
    | some a => (segs, some a)
    | none =>
      match segs.find? (fun g => g.complete && g.users.isEmpty) with
      | none => (segs, none)
      | some g => makeRoom n (segs.filter (fun h => h.inst ≠ g.inst)) len

/-- A segment moved to the most-recently-used end (R107). -/
def State.touchSegment (s : State) (n : InstrNum) : State :=
  match s.segment? n with
  | some g => { s with segments := s.segments.filter (fun h => h.inst ≠ n) ++ [g] }
  | none => s

/-- An item becomes a user of a segment and is READY (R93, R95). -/
def State.joinSegment (s : State) (r : ItemRef) (n : InstrNum) : State :=
  (((s.modSegment n (fun g => { g with users := g.users ++ [r] })).touchSegment n).setPhase r .ready).later [.outTake r.link]

/-- A segment created FILLING for an item, with every staging waiter of the same instrument as a further user (R91, R108,
R109). -/
def State.createSegment (s : State) (r : ItemRef) (n : InstrNum) (first len : Nat) : State :=
  let g : Segment := { inst := n, first := first, len := len, staged := 0, users := [r], fill := none, filler := some r, started := false }
  let others := (s.spaceFifo.filter (fun w => decide (w.inst = n) && decide (w.item ≠ r))).map (·.item)
  let s : State := { s with segments := s.segments ++ [g],
                            spaceFifo := s.spaceFifo.filter (fun w => w.inst ≠ n) }
  let s := others.foldl (fun s o => s.joinSegment o n) s
  if others.isEmpty then s else s.later [.spaceTry]

/-- A segment taken off the list; its run becomes free and the FIFO is tried (R109, R110). -/
def State.dropSegment (s : State) (n : InstrNum) : State :=
  State.later { s with segments := s.segments.filter (fun g => g.inst ≠ n) } [.spaceTry]

/-- An outbound channel made IDLE with no completion action taken (R114). -/
def State.idleOut (s : State) (l : Link) : State := { s with outChans := s.outChans.set l OutChan.idle }

/-- The outbound channel of the item's link serves the item. -/
def State.serves (s : State) (r : ItemRef) : Bool := (s.outChans.get r.link).chan.op == .item r

/-- An item leaves a segment whose fill, if any is due, goes on without it (R93). -/
def State.leaveSegment (s : State) (r : ItemRef) (g : Segment) : State :=
  let users := g.users.filter (fun u => u ≠ r)
  let s := (s.modSegment g.inst (fun h => { h with users := users })).touchSegment g.inst
  if g.complete && users.isEmpty then s.later [.spaceTry] else s

end Sys2Proof.Machine
end

