-- ==== Sys2Proof/Machine/Library.lean ====
section
/-!
DEFINITION. The Library Unit (06): the library map and slot table, drive commands and work lists, mount demands, the drive
arbiter, and the picker's pieces of work as they are started, interrupted and ended (06, 07).
-/
namespace Sys2Proof.Machine

/-! ## The library map and the slot table -/

/-- A slot's record; none is free (R122). -/
def CatMem.slotUse? (c : CatMem) (n : Nat) : Option SlotUse := (findKeyed SlotRec.slot n c.slots).map (·.use)

/-- A slot's record set. -/
def CatMem.setSlot (c : CatMem) (n : Nat) (u : Option SlotUse) : CatMem :=
  match u with
  | some u => { c with slots := insertKeyed SlotRec.slot { slot := n, use := u } c.slots }
  | none => { c with slots := c.slots.filter (fun r => r.slot ≠ n) }

/-- The lowest free slot (R122). -/
def CatMem.lowestFree (c : CatMem) : Option Nat :=
  (List.range' 1 Config.storageSlots).find? (fun n => (c.slotUse? n).isNone)

/-- A new side (R119). -/
def SideRec.new : SideRec := { state := .unchecked, fails := 0 }

/-- A new platter record at a slot (R119). -/
def Platter.new (id slot : Nat) : Platter :=
  { id := id, home := some slot, loc := .slot slot, side0 := SideRec.new, side1 := SideRec.new, mounts := 0, lastUnload := none }

/-- A platter record inserted with its home slot (R119, R122). -/
def CatMem.addPlatter (c : CatMem) (id slot : Nat) : CatMem :=
  CatMem.setSlot { c with platters := insertKeyed Platter.id (Platter.new id slot) c.platters } slot (some (.occupied id))

/-- A platter's home slot, where the slot record is occupied by it (R158). -/
def CatMem.usableHome (c : CatMem) (p : Platter) : Option Nat :=
  match p.home with
  | some n => if c.slotUse? n = some (.occupied p.id) then some n else none
  | none => none

/-- The slot a known platter is returned to: its home, or else the lowest free slot (R122, R158). -/
def CatMem.returnSlot (c : CatMem) (p : Platter) : Option Nat :=
  match c.usableHome p with
  | some n => some n
  | none => c.lowestFree

/-- A slot made the occupied home of a platter; a reservation or home it had elsewhere is freed (R122, R158, R152). -/
def CatMem.giveHome (c : CatMem) (id n : Nat) : CatMem :=
  let c : CatMem := { c with slots := c.slots.filter (fun r => r.slot = n ∨ (r.use ≠ .occupied id ∧ r.use ≠ .reserved id)) }
  { (c.setSlot n (some (.occupied id))) with
    platters := updateKeyed Platter.id id (fun p => { p with home := some n }) c.platters }

/-- A platter's location, if it has a record. -/
def State.locOf (s : State) (id : Nat) : Option PlatterLoc := (s.platter? id).map (fun p => p.loc)

/-- A platter's location set. -/
def State.setLoc (s : State) (id : Nat) (l : PlatterLoc) : State := s.modPlatter id (fun p => { p with loc := l })

/-- The OPEN side, with its fill point (R120). -/
def State.openSide (s : State) : Option (PlatterSide × Nat) :=
  s.cat.platters.findSome? (fun p =>
    match p.side0.state with
    | .opened f => some (⟨p.id, .s0⟩, f)
    | _ => match p.side1.state with
      | .opened f => some (⟨p.id, .s1⟩, f)
      | _ => none)

/-- A side's record. -/
def State.sideRec? (s : State) (ps : PlatterSide) : Option SideRec := (s.platter? ps.platter).map (·.sideRec ps.side)

/-- A side's state, if the platter has a record. -/
def State.sideState? (s : State) (ps : PlatterSide) : Option SideState := (s.sideRec? ps).map (fun x => x.state)

/-- A side's record changed (R120). -/
def State.modSide (s : State) (ps : PlatterSide) (f : SideRec → SideRec) : State :=
  s.modPlatter ps.platter (fun p => p.modSide ps.side f)

/-- A side's state set. -/
def State.setSide (s : State) (ps : PlatterSide) (st : SideState) : State := s.modSide ps (fun x => { x with state := st })

/-- FULL at the fill point a side has, or at 16 where it has none (R120). -/
def SideState.closed (st : SideState) : SideState := .full (st.fill?.getD Config.firstBlock)

/-! ## Drives -/

/-- The drive a side is mounted in: LOADING, READY or BUSY with it (R124). -/
def State.mountedIn (s : State) (ps : PlatterSide) : Option DriveNo :=
  DriveNo.all.find? (fun d =>
    let r := s.drive d
    (r.state == .loading || r.state == .ready || r.state == .busy) && r.platter == some ⟨some ps.platter, ps.side⟩)

/-- A command issued to a drive, with its timer (R126). -/
def State.command (s : State) (d : DriveNo) (c : DriveCmd) : State :=
  s.modDrive d (fun r => { r with
    cmd := some c
    reported := 0
    since := s.ref
    retry := false
    state := match c with
      | .load => .loading
      | .unload => .unloading
      | .eject => r.state
      | _ => .busy })

/-- The command of a drive has ended with a report: the retry flag is cleared, and a BUSY drive is READY (R124, R126). -/
def State.endCmd (s : State) (d : DriveNo) : State :=
  s.modDrive d (fun r => { r with
    cmd := none
    reported := 0
    retry := false
    state := if r.state = .busy then .ready else r.state })

/-- A drive's channel made IDLE. -/
def State.idleChan (s : State) (d : DriveNo) : State := { s with driveChans := s.driveChans.set d DriveChan.idle }

/-- The length of a block command. -/
def DriveCmd.len : DriveCmd → Nat
  | .erase _ n | .write _ n | .read _ n => n
  | _ => 0

/-- A read command. -/
def DriveCmd.isRead : DriveCmd → Bool
  | .read _ _ => true
  | _ => false

/-- A use appended to a drive's work list; a use that becomes the head is given the drive (R125). -/
def State.appendUse (s : State) (d : DriveNo) (u : Use) : State :=
  (s.modDrive d (fun r => { r with work := r.work ++ [u] })).later [.driveNext d]

/-- A use taken off a drive's work list; the next use is given the drive, or the arbiter runs (R125, R136). -/
def State.removeUse (s : State) (d : DriveNo) (u : Use) : State :=
  let s := s.modDrive d (fun r => { r with work := r.work.erase u })
  if (s.drive d).work.isEmpty then s.later [.pickerNext] else s.later [.driveNext d]

/-- The use a waiter asks for (R134, R138). -/
def State.useOf (s : State) (w : Waiter) : Option Use :=
  match w with
  | .filing _ => some .filing
  | .item r _ _ => ((s.item? r).bind (fun p => p.2.resolved)).map (fun v => .fill v.inst)

/-- A waiter handed over to a drive that holds its side; FIL is told that its side is mounted (R134, R138). -/
def State.handOver (s : State) (d : DriveNo) (w : Waiter) : State :=
  let s : State := match w with
    | .filing _ => { s with filUse := s.filUse.map (fun u => { u with stage := .listed d }) }
    | .item _ _ _ => s
  match s.useOf w with
  | some u => s.appendUse d u
  | none => s

/-! ## Mount demands -/

/-- A waiter's class (R133). -/
def Waiter.cls : Waiter → MountClass
  | .item _ c _ => c
  | .filing _ => .filing

/-- A waiter's admission time (R133). -/
def Waiter.age : Waiter → Nat
  | .item _ _ a => a
  | .filing a => a

/-- The order of classes, COUNTER first (R136). -/
def MountClass.rank : MountClass → Nat
  | .counter => 0
  | .filing => 1
  | .bulk => 2

/-- A demand's effective class (R133); of a MOUNTING demand left with no waiters, BULK (assumption log 54). -/
def Demand.cls (q : Demand) : MountClass :=
  q.waiters.foldl (fun c w => if w.cls.rank < c.rank then w.cls else c) .bulk

/-- A demand's age (R133); of a MOUNTING demand left with no waiters, 0 (assumption log 54). -/
def Demand.age (q : Demand) : Nat :=
  match (q.waiters.map Waiter.age).min? with
  | some a => a
  | none => 0

/-- The demand ranks as FILING for its age (R136). -/
def State.aged (s : State) (q : Demand) : Bool := q.cls == .bulk && s.passed q.age Config.ageingMs

/-- A demand's rank: class, then age; lower first (R136). -/
def State.rankKey (s : State) (q : Demand) : Nat × Nat :=
  (if s.aged q then MountClass.filing.rank else q.cls.rank, q.age)

/-- A demand placed in rank order after those of equal rank (R136). -/
def rankInsert (key : Demand → Nat × Nat) (q : Demand) : List Demand → List Demand
  | [] => [q]
  | p :: rest =>
    if (key q).1 < (key p).1 ∨ ((key q).1 = (key p).1 ∧ (key q).2 < (key p).2) then q :: p :: rest
    else p :: rankInsert key q rest

/-- Demands in rank order, equal ranks in the order they were made (R136). -/
def State.ranked (s : State) (l : List Demand) : List Demand := l.foldl (fun acc q => rankInsert s.rankKey q acc) []

/-- The demand for a platter-side. -/
def State.demand? (s : State) (ps : PlatterSide) : Option Demand := s.lib.demands.find? (fun q => q.side == ps)

/-- The demands changed. -/
def State.modDemands (s : State) (f : List Demand → List Demand) : State :=
  s.modLib (fun l => { l with demands := f l.demands })

/-- One demand changed. -/
def State.modDemand (s : State) (ps : PlatterSide) (f : Demand → Demand) : State :=
  s.modDemands (List.map (fun q => if q.side = ps then f q else q))

/-- A demand removed. -/
def State.dropDemand (s : State) (ps : PlatterSide) : State := s.modDemands (List.filter (fun q => q.side ≠ ps))

/-- A waiter joins a queued demand; one that raises its class has the arbiter run (R133, R136). -/
def State.joinDemand (s : State) (q : Demand) (w : Waiter) : State :=
  let s := s.modDemand q.side (fun q => { q with waiters := q.waiters ++ [w] })
  if w.cls.rank < q.cls.rank then s.later [.pickerNext] else s

/-- A new WAITING demand, and the arbiter runs (R133). -/
def State.newDemand (s : State) (ps : PlatterSide) (w : Waiter) : State :=
  (s.modDemands (fun l => l ++ [{ side := ps, mounting := none, waiters := [w] }])).later [.pickerNext]

/-- The drive that holds a side and is not pinned, in which a demand for the side is met at once (R134). -/
def State.meetIn (s : State) (ps : PlatterSide) : Option DriveNo :=
  (s.mountedIn ps).bind (fun d => if (s.drive d).pinned then none else some d)

/-- A waiter asks for a platter-side: it joins a MOUNTING demand; or it is met at once by a drive that holds the side and is not
pinned; or it joins or makes a WAITING demand (R133, R134). -/
def State.submit (s : State) (ps : PlatterSide) (w : Waiter) : State :=
  match s.demand? ps with
  | some q =>
    if q.mounting.isSome then s.joinDemand q w
    else
      match s.meetIn ps with
      | some d => s.handOver d w
      | none => s.joinDemand q w
  | none =>
    match s.meetIn ps with
    | some d => s.handOver d w
    | none => s.newDemand ps w

/-- WAITING demands without waiters removed (R135). -/
def State.pruneDemands (s : State) : State :=
  s.modDemands (List.filter (fun q => q.mounting.isSome || !q.waiters.isEmpty))

/-- An item's waiters removed from every demand (R135). -/
def State.leaveDemands (s : State) (r : ItemRef) : State :=
  (s.modDemands (List.map (fun q => { q with waiters := q.waiters.filter (fun w =>
    match w with | .item r' _ _ => decide (r' ≠ r) | .filing _ => true) }))).pruneDemands

/-- The filing waiter removed from every demand (R60, R135). -/
def State.leaveFiling (s : State) : State :=
  (s.modDemands (List.map (fun q => { q with waiters := q.waiters.filter (fun w =>
    match w with | .item _ _ _ => true | .filing _ => false) }))).pruneDemands

/-- A demand is met in a drive: it is removed, and its waiters are handed over in waiter order (R134, R138 step 5). -/
def State.meet (s : State) (d : DriveNo) (q : Demand) : State := q.waiters.foldl (fun s w => s.handOver d w) (s.dropDemand q.side)

/-- WAITING demands for the side mounted in a drive that is not pinned are met (R134). -/
def State.meetMounted (s : State) (d : DriveNo) : State :=
  match (s.drive d).platter with
  | some ⟨some id, sd⟩ =>
    match s.demand? ⟨id, sd⟩ with
    | some q =>
      if q.mounting.isNone && !(s.drive d).pinned && s.mountedIn ⟨id, sd⟩ == some d then s.meet d q else s
    | none => s
  | _ => s

/-- FIL's use of a drive ends: the pin is cleared, the use leaves the work list, demands held back by the pin are met, and the
arbiter runs (R125, R134, R136). -/
def State.endFilUse (s : State) (d : DriveNo) : State :=
  let s : State := { s.modDrive d (fun r => { r with pinned := false }) with filUse := none }
  ((s.removeUse d .filing).meetMounted d).later [.pickerNext]

/-- Every demand for a platter that became unreachable ends: retrieval waiters with a status, the filing waiter back to the side
test (R140). -/
def State.endDemands (s : State) (platter : Nat) (st : Status) : State :=
  let gone := s.lib.demands.filter (fun q => q.side.platter = platter)
  let s := s.modDemands (List.filter (fun q => q.side.platter ≠ platter))
  (gone.flatMap (·.waiters)).foldl (fun s w =>
    match w with
    | .item r _ _ => s.later [.endItem r st]
    | .filing _ => State.later { s with filUse := none } [.headTurn]) s

/-! ## The picker -/

/-- The picker is given a command: a move that begins now, or a label read (R129). -/
def State.givePicker (s : State) (src : Pos) (dst : Option Pos) (flip : Bool) (p : Piece) : State :=
  s.modPicker (fun k => { k with state := .moving, move := some { src := src, dst := dst, flip := flip }, since := some s.ref, piece := some p })

/-- The picker waits at a drive from the issue of UNLOAD for the move out of it; its timer starts at UNLOADED (R129). -/
def State.waitAtDrive (s : State) (d : DriveNo) (dst : Option Pos) (flip : Bool) (p : Piece) : State :=
  s.modPicker (fun k => { k with state := .moving, move := some { src := .drive d, dst := dst, flip := flip }, since := none, piece := some p })

/-- The picker takes a known platter: it is the platter held, and its location is PICKER (R121, R129). -/
def State.carry (s : State) (id : Nat) : State := (s.setLoc id .picker).modPicker (fun k => { k with held := some id })

/-- The picker's command is over (R129). -/
def State.clearMove (s : State) : State := s.modPicker (fun k => { k with held := none, move := none, since := none })

/-- The position the current move goes to, where it is a storage slot. -/
def State.moveSlot (s : State) : Nat :=
  match s.lib.picker.move with
  | some ⟨_, some (.slot n), _⟩ => n
  | _ => 0

/-- An inventory sweep starts: the record is emptied, the picker is MOVING on the first label read, and a jam is cleared (R151). -/
def State.startSweep (s : State) : State :=
  let s := s.modLib (fun l => { l with sweep := { Sweep.none with running := true }, sweepDue := false })
  (s.clearMove).givePicker (.slot 1) none false .sweep

/-- The door or a held closing keeps the picker from its next command (R148, R150). -/
def State.interrupted (s : State) : Bool := s.lib.doorOpen || s.lib.sweepDue

/-- The piece of work is over: with the door open the picker is HALTED, after a closing the sweep starts, and otherwise it is IDLE
and is given its next piece (R130, R148, R150). -/
def State.endPiece (s : State) : State :=
  let s := (s.clearMove).modPicker (fun k => { k with state := .idle, piece := none })
  if s.lib.doorOpen then s.modPicker (fun k => { k with state := .halted })
  else if s.lib.sweepDue then s.startSweep
  else s.later [.pickerNext]

/-- A return-home piece queued for a drive (R158). -/
def State.queueReturn (s : State) (d : DriveNo) : State := s.modLib (fun l => { l with returns := l.returns ++ [d] })

/-- A demand goes back to WAITING; one left without waiters is removed (R139, R135). -/
def State.unmount (s : State) (ps : PlatterSide) : State := (s.modDemand ps (fun q => { q with mounting := none })).pruneDemands

/-- The slot an evicted platter goes to (R138 step 2). -/
def State.evictSlot (s : State) (id : Nat) : Option Nat := (s.platter? id).bind (fun p => s.cat.returnSlot p)

/-- The move of a known platter out of a drive to a slot, which becomes its home where it had none (R138 step 2, R158). It becomes so as
the move begins, the model's reading (assumption log 79). -/
def State.moveHome (s : State) (d : DriveNo) (id n : Nat) (sd : Side) (p : Piece) : State :=
  ((s.modCat (fun c => c.giveHome id n)).carry id).givePicker (.drive d) (some (.slot n)) (sd == .s1) p

/-! ### The arbiter (06, section 6.6) -/

/-- A drive may be evicted (R137). -/
def State.evictable (s : State) (d : DriveNo) : Bool :=
  let r := s.drive d
  r.state == .ready && r.work.isEmpty && !r.pinned && r.residency.isNone &&
    (match r.platter with
     | some ⟨some id, sd⟩ =>
       (match s.platter? id with
        | some p => (s.cat.returnSlot p).isSome
        | none => false) &&
       !s.lib.demands.any (fun q => q.mounting.isNone && q.side == ⟨id, sd⟩)
     | _ => false)

/-- The evictable drive with the earliest load time, the lowest number of equal ones (R137). -/
def State.evictee (s : State) : Option DriveNo :=
  let time (d : DriveNo) : Nat := match (s.drive d).loadTime with | some t => t.toMs | none => 0
  (DriveNo.all.filter s.evictable).foldl (fun best d =>
    match best with
    | none => some d
    | some b => if time d < time b then some d else some b) none

/-- The drive a WAITING demand can be given now, if it is not passed over (R136, R137). -/
def State.driveFor (s : State) (q : Demand) : Option DriveNo :=
  match s.locOf q.side.platter with
  | some (.drive d) =>
    let r := s.drive d
    if r.state == .ready && !r.pinned && r.work.isEmpty && r.residency.isNone then some d else none
  | some (.slot _) =>
    match DriveNo.all.find? (fun d => (s.drive d).state == .empty) with
    | some d => some d
    | none => s.evictee
  | _ => none

/-- The first demand in rank order that can be given a drive (R136). -/
def State.choice (s : State) : Option (Demand × DriveNo) :=
  (s.ranked (s.lib.demands.filter (·.mounting.isNone))).findSome? (fun q => (s.driveFor q).map (fun d => (q, d)))

/-- Step 3 of a mount sequence: the demanded platter is moved from its slot into the drive; where it is in no slot, the piece
ends (R138). -/
def State.mountFetch (s : State) (d : DriveNo) (ps : PlatterSide) : State :=
  match s.locOf ps.platter with
  | some (.slot n) => (s.carry ps.platter).givePicker (.slot n) (some (.drive d)) (ps.side == .s1) (.mountFetch d ps)
  | _ => (s.unmount ps).endPiece

/-- A demand is granted a drive, and its mount sequence begins (R136, R138). -/
def State.grant (s : State) (q : Demand) (d : DriveNo) : State :=
  let s := s.modDemand q.side (fun q => { q with mounting := some d })
  match (s.drive d).platter with
  | none => s.mountFetch d q.side
  | some ⟨id, sd⟩ =>
    let dst : Option Pos :=
      if id = some q.side.platter then some (.drive d)
      else (id.bind s.evictSlot).map .slot
    (s.command d .unload).waitAtDrive d dst (decide (id = some q.side.platter) || sd == .s1) (.mountUnload d q.side)

/-- An arbiter run: the picker is IDLE and no sweep runs (R136). -/
def State.arbiter (s : State) : State :=
  match s.choice with
  | some (q, d) => s.grant q d
  | none => s

/-! ### Return-home pieces (R158) -/

/-- The response a DRIVE_RESET in progress is owed, with its mark removed (R128). -/
def State.answerReset (s : State) (d : DriveNo) (st : Status) : State :=
  match (s.drive d).reset with
  | some r => State.answer (s.modDrive d (fun k => { k with reset := none })) r st
  | none => s

/-- A return-home piece ends: the DRIVE_RESET that waits for it is answered. A drive that has become FAULT meanwhile owes no answer of this
piece, and a new DRIVE_RESET of it is answered by its own EJECT (R127, R128). -/
def State.answerReturn (s : State) (d : DriveNo) (st : Status) : State :=
  if (s.drive d).state = .unloading then s.answerReset d st else s

/-- The move of a return-home piece begins: a known platter to its home or the lowest free slot, a new one, whose id the label read has
just given, or one without a usable label to the lowest free slot; with no slot free the platter stays in the drive (R158). -/
def State.homeMove (s : State) (d : DriveNo) (new : Option Nat) : State :=
  match (s.drive d).platter with
  | none => s.endPiece
  | some ⟨id, sd⟩ =>
    match id.bind s.platter? with
    | some p =>
      match s.cat.returnSlot p with
      | some n => s.moveHome d p.id n sd (.homeMove d)
      | none => (s.answerReset d .noSlot).endPiece
    | none =>
      match s.cat.lowestFree with
      | some n => (s.modPicker (fun k => { k with held := new })).givePicker (.drive d) (some (.slot n)) (sd == .s1) (.homeMove d)
      | none => (s.answerReset d .noSlot).endPiece

/-- A return-home piece begins: an unidentified platter's label is read first (R158). -/
def State.startReturn (s : State) (d : DriveNo) : State :=
  match (s.drive d).state, (s.drive d).platter with
  | .unloading, some ⟨none, _⟩ => s.givePicker (.drive d) none false (.homeLabel d)
  | .unloading, some ⟨some _, _⟩ => s.homeMove d none
  | _, _ => s.later [.pickerNext]

/-! ### Imports and exports (06, section 6.9) -/

/-- The outcome of an import: its response, or the outcome STATUS shows for one made without a request (R142, R146), with platter id 0 where no
label has been read: the model's choice (assumption log 71). An earlier outcome is shown until here, while this import waits or runs: the
model's choice (assumption log 88). -/
def State.importEnds (s : State) (r : Option Reply) (st : Status) (id slot : Nat) : State :=
  match r with
  | some r => if st = .done then s.respond r st (.imported id slot) else s.answer r st
  | none => s.modLib (fun l => { l with outcome := some { status := st, id := id } })

/-- An import is refused when taken (R141). -/
def State.importRefusal (s : State) : Option Status :=
  if s.lib.doorOpen then some .doorOpen
  else if s.lib.sweep.running then some .inventoryRunning
  else if s.lib.picker.state = .jammed then some .pickerJammed
  else if s.lib.mail = .empty then some .mailSlotEmpty
  else none

/-- An import is asked for (R141, R146). -/
def State.askImport (s : State) (r : Option Reply) : State :=
  match s.importRefusal with
  | some st => s.importEnds r st 0 0
  | none => (s.modLib (fun l => { l with media := l.media ++ [.importReq r] })).later [.pickerNext]

/-- In catalogue-absent mode a mail slot that becomes INCOMING is served without a request, by one import however often it is asked for
before the picker takes it (R146; assumption log 30). -/
def State.serveMail (s : State) : State :=
  if s.absentMode && s.lib.mail == .incoming && !s.lib.media.contains (.importReq none) then s.askImport none else s

/-- An export's first test that fails (R143). -/
def State.exportRefusal (s : State) (id : Nat) : Option Status :=
  match s.platter? id with
  | none => some .notHeld
  | some p =>
    let busyDrive : Bool := match p.loc with
      | .drive d => !((s.drive d).state == .ready && (s.drive d).work.isEmpty)
      | _ => false
    let placed : Bool := match p.loc with | .slot _ => true | .drive _ => true | _ => false
    let opened (x : SideRec) : Bool := match x.state with | .opened _ => true | _ => false
    if !placed then some .offline
    else if s.lib.doorOpen then some .doorOpen
    else if s.lib.sweep.running then some .inventoryRunning
    else if s.lib.picker.state = .jammed then some .pickerJammed
    else if s.lib.demands.any (fun q => q.side.platter == id) || opened p.side0 || opened p.side1 || busyDrive then some .platterBusy
    else if s.lib.mail ≠ .empty then some .mailSlotFull
    else none

/-- The picker starts a queued media request (R141, R143). -/
def State.startMedia (s : State) (m : MediaReq) : State :=
  match m with
  | .importReq r =>
    if s.lib.mail = .empty then (s.importEnds r .mailSlotEmpty 0 0).later [.pickerNext]
    else s.givePicker .mail none false (.importLabel r)
  | .exportReq r id =>
    match s.exportRefusal id with
    | some st => (s.answer r st).later [.pickerNext]
    | none =>
      match s.locOf id with
      | some (.slot n) => (s.carry id).givePicker (.slot n) (some .mail) false (.exportMove r id)
      | some (.drive d) =>
        let flip := match (s.drive d).platter with | some p => p.side == .s1 | none => false
        (s.command d .unload).waitAtDrive d (some .mail) flip (.exportUnload r id d)
      | _ => s

/-- The picker is given its next piece while it is IDLE, the door closed and no sweep running: return-home pieces, then IMPORT and
EXPORT requests, then a mount granted by the arbiter (R130). -/
def State.pickerNext (s : State) : State :=
  if s.lib.picker.state = .idle ∧ s.lib.doorOpen = false ∧ s.lib.sweep.running = false ∧ s.power = .running then
    match s.lib.returns with
    | d :: rest => (s.modLib (fun l => { l with returns := rest })).startReturn d
    | [] =>
      match s.lib.media with
      | m :: rest => (s.modLib (fun l => { l with media := rest })).startMedia m
      | [] => s.arbiter
  else s

/-! ## Requests -/

/-- IMPORT (R141). -/
def handleImport (s : State) (r : Reply) : State := s.askImport (some r)

/-- EXPORT (R143). -/
def handleExport (s : State) (r : Reply) (id : Nat) : State :=
  match s.exportRefusal id with
  | some st => s.answer r st
  | none => (s.modLib (fun l => { l with media := l.media ++ [.exportReq r id] })).later [.pickerNext]

/-- SUBSTITUTE's first test that fails (R145). -/
def State.substituteRefusal (s : State) (old new : Nat) : Option Status :=
  match s.platter? old, s.platter? new with
  | some p, some q =>
    let opened (x : SideRec) : Bool := match x.state with | .opened _ => true | _ => false
    let named := s.cat.table.any (fun e => match e.loc? with | some l => l.platter == new | none => false)
    if old = new || s.cat.substs.any (fun x => x.retired == old || x.replacement == old || x.retired == new || x.replacement == new) ||
        q.side0.state != .unchecked || q.side1.state != .unchecked || named then some .substituteInvalid
    else if opened p.side0 || opened p.side1 then some .platterBusy
    else if Config.maxSubst ≤ s.cat.substs.length then some .tableFull
    else none
  | _, _ => some .notHeld

/-- The substitution change (R145). -/
def CatMem.substitute (c : CatMem) (old new : Nat) : CatMem :=
  let close (x : SideRec) : SideRec := { x with state := x.state.closed }
  match findKeyed Platter.id old c.platters with
  | none => c
  | some p =>
    let ps := updateKeyed Platter.id new (fun q => { q with side0 := p.side0, side1 := p.side1 }) c.platters
    let ps := updateKeyed Platter.id old (fun q => { q with side0 := close q.side0, side1 := close q.side1 }) ps
    { c with platters := ps, substs := c.substs ++ [{ retired := old, replacement := new }] }

/-- SUBSTITUTE (R145); FIL is told (R69). -/
def handleSubstitute (s : State) (r : Reply) (old new : Nat) : State :=
  match s.substituteRefusal old new with
  | some st => s.answer r st
  | none => ((s.modCat (fun c => c.substitute old new)).answer r .done).later [.mediaRetry]

/-- DRIVE_RESET (R128): the drive stays FAULT until it answers the EJECT (assumption log 14). -/
def handleDriveReset (s : State) (r : Reply) (n : Nat) : State :=
  match DriveNo.ofNat? n with
  | none => s.answer r .noDrive
  | some d =>
    if (s.drive d).state = .absent then s.answer r .noDrive
    else if (s.drive d).state ≠ .fault ∨ (s.drive d).reset.isSome then s.answer r .notFault
    else (s.modDrive d (fun k => { k with reset := some r })).command d .eject

end Sys2Proof.Machine
end

