-- ==== Sys2Proof/Machine/Filing.lean ====
section
/-!
DEFINITION. The Filing Unit (03): opening and feeding, committing, the filing side, the erase, write and verify passes, failed
attempts, and the requests it owns.
-/
namespace Sys2Proof.Machine

/-! ## The filing side -/

/-- A platter is in a slot, in the picker, or in a drive that is not FAULT (R65, R66). -/
def State.reachable (s : State) (id : Nat) : Bool :=
  match s.locOf id with
  | some (.slot _) | some .picker => true
  | some (.drive d) => (s.drive d).state != .fault
  | _ => false

/-- An OPEN side with a fill point takes an extent (R65), the failed-sides list apart. -/
def State.sideTakes (s : State) (ps : PlatterSide) (fill len : Nat) : Bool :=
  s.reachable ps.platter && decide (len ≤ Config.sideBlocks - fill)

/-- The sides a filing's commit has failed on (R50). -/
def Filing.failed (f : Filing) : List PlatterSide :=
  match f.commit with
  | some c => c.failed
  | none => []

/-- The OPEN side is usable for a filing (R65). -/
def State.usable (s : State) (f : Filing) (ps : PlatterSide) (fill : Nat) : Bool :=
  s.sideTakes ps fill f.blocks && !f.failed.contains ps

/-- The head takes up a side: a FILING demand for it (R67, R68). -/
def State.demandSide (s : State) (q : FSlot) (ps : PlatterSide) : State :=
  let age := match (s.filings.get q).bind (·.commit) with | some c => c.admitted | none => s.ref
  let s : State := { s with filUse := some { side := ps, stage := .demanded, slot := some q, openTime := ⟨0, 0⟩, sawWritten := false } }
  s.submit ps (.filing age)

/-- The head of the commit queue with its slot. -/
def State.head? (s : State) : Option (FSlot × Filing) :=
  match s.commitQueue with
  | q :: _ => (s.filings.get q).map (fun f => (q, f))
  | [] => none

/-- The head's turn starts with the test of the filing side (R65). While a header step of an abandoned head still runs, it waits
(R60). -/
def State.headTurn (s : State) : State :=
  match s.filUse, s.head? with
  | none, some (q, f) =>
    if f.state ≠ .queued then s
    else
      match s.openSide with
      | some (ps, fill) =>
        if s.usable f ps fill then s.demandSide q ps
        else State.later { s.modSide ps (fun x => { x with state := x.state.closed }) with lastFiling := some ps } [.sideSearch]
      | none => s.later [.sideSearch]
  | _, _ => s

/-- The platters with a home slot, in order of home slot number (R66). -/
def State.byHome (s : State) : List Platter :=
  s.cat.platters.foldl (fun l p => if p.home.isSome then insertKeyed (fun p : Platter => p.home.getD 0) p l else l) []

/-- The side search's candidates in order (R66, Table 3-4). -/
def State.candidates (s : State) : List PlatterSide :=
  (match s.lastFiling with
   | some ps => [⟨ps.platter, ps.side.other⟩]
   | none => []) ++
  s.byHome.flatMap (fun p => [⟨p.id, .s0⟩, ⟨p.id, .s1⟩])

/-- The first candidate whose side is BLANK or UNCHECKED and that is not passed over (R66). -/
def State.findSide (s : State) (f : Filing) : Option PlatterSide :=
  s.candidates.find? (fun ps =>
    s.reachable ps.platter && !f.failed.contains ps &&
      (match s.sideRec? ps with
       | some x => x.state == .blank || x.state == .unchecked
       | none => false))

/-- The side search of the head: the side found is demanded, or the head enters or stays in WAITING_MEDIA (R66, R69). -/
def State.sideSearch (s : State) : State :=
  match s.filUse, s.head? with
  | none, some (q, f) =>
    match s.findSide f with
    | some ps => (s.modFiling q (fun f => { f with state := .queued })).demandSide q ps
    | none => (s.modFiling q (fun f => { f with state := .waitingMedia })).post (.noBlankMedia q f.inst)
  | _, _ => s

/-- FIL is told of something that may bring a side (R69). -/
def State.mediaRetry (s : State) : State :=
  match s.head? with
  | some (_, f) => if f.state = .waitingMedia then s.sideSearch else s
  | none => s

/-! ## Ends of a filing -/

/-- A slot leaves the commit queue and is freed (R64, R50). -/
def State.freeSlot (s : State) (q : FSlot) : State := { s.setFiling q none with commitQueue := s.commitQueue.erase q }

/-- The ring blocks of a slot DISCARDED, its instrument released, and the slot freed (R60 steps 2 to 4, R55). -/
def State.discardSlot (s : State) (q : FSlot) (n : InstrNum) : State := ((s.markSlot q .discarded).releaseInst n q).freeSlot q

/-- FIL gives up what the head was doing with a side: a demand or a place in a work list is withdrawn, a header step runs on without
the head, and after a pass its use of the drive ends (R60, R61). The channel of a header step goes on showing the slot now free as its operation
(assumption log 67). -/
def State.dropUse (s : State) (q : FSlot) : State :=
  match s.filUse with
  | none => s
  | some u =>
    if u.slot ≠ some q then s
    else
      match u.stage with
      | .demanded => { s.leaveFiling with filUse := none }
      | .listed d => { s.removeUse d .filing with filUse := none }
      | .check _ | .headErase _ | .headWrite _ => { s with filUse := some { u with slot := none } }
      | .erase d | .write d | .verify d => s.endFilUse d

/-- An abandon taken at once, or at a pass's end: the deferred COMMIT response is ABORTED, and the next head's turn starts (R60, R61). An
admitted block that still stands in In's store is left there, and In goes on showing the freed slot (assumption log 87). -/
def State.abandonSlot (s : State) (q : FSlot) : State :=
  match s.filings.get q with
  | none => s
  | some f =>
    let s := (s.dropUse q).discardSlot q f.inst
    let s := match f.commit with
      | some c => s.answer c.reply .aborted
      | none => s
    s.later [.headTurn]

/-! ## Opening a side and the passes -/

/-- The record of a drive channel in a use (R112); a header check or header write has no address mode. -/
def Chan.use (op : ChanOp) (mode : Option ChanMode) (next remaining : Nat) (a : ChanAction) : Chan :=
  { state := .running, op := op, mode := mode, next := next, remaining := remaining, action := a }

/-- A drive channel set up for a use. -/
def State.setChan (s : State) (d : DriveNo) (c : Chan) : State :=
  { s with driveChans := s.driveChans.set d { DriveChan.idle with chan := c } }

/-- The record of FIL's channel in a header check or header write: 16 blocks, no buffer block moved, no completion action (R112). -/
def Chan.header (op : ChanOp) : Chan := Chan.use op none 0 Config.firstBlock .none

/-- What the channel passes to the drive (R112). -/
def State.pass (s : State) (d : DriveNo) (p : Passed) : State := s.modDriveChan d (fun c => { c with passed := some p })

/-- The stage of FIL's use changed. -/
def State.stage (s : State) (g : FilStage) : State := { s with filUse := s.filUse.map (fun u => { u with stage := g }) }

/-- The operation of FIL's channel: the slot, absent once its filing has been abandoned. -/
def filOp (q : Option FSlot) : ChanOp :=
  match q with
  | some q => .slot q
  | none => .none

/-- The header check of an UNCHECKED side (R67 step 2). -/
def State.startCheck (s : State) (d : DriveNo) (q : FSlot) : State :=
  ((s.command d (.read 0 Config.firstBlock)).setChan d (Chan.header (.slot q))).stage (.check d)

/-- The erase of the header blocks of a BLANK side; the open time is read (R67 step 4, R31). The channel holds the record of the header
write from the erase on (assumption log 53). -/
def State.startHeader (s : State) (d : DriveNo) (q : FSlot) : State :=
  let s : State := { s with filUse := s.filUse.map (fun u => { u with openTime := s.clock.now }) }
  ((s.command d (.erase 0 Config.firstBlock)).setChan d (Chan.header (.slot q))).stage (.headErase d)

/-- FIL's use of a drive ends, and then the head goes on (R125). -/
def State.leaveSide (s : State) (d : DriveNo) (next : Task) : State := (s.endFilUse d).later [next]

/-- What goes on after a header step that brings no side: a search for the head, or the next head's turn (R60, R67). -/
def nextSearch (q : Option FSlot) : Task :=
  match q with
  | some _ => .sideSearch
  | none => .headTurn

/-- An extent is allocated at the fill point and the erase pass begins (R68 steps 2 to 6, R70 step 1). -/
def State.startErase (s : State) (d : DriveNo) (q : FSlot) (f : Filing) (ps : PlatterSide) (fill : Nat) : State :=
  let s := s.setSide ps (.opened (fill + f.blocks))
  let s := s.modFiling q (fun f => { f with state := .writing, extent := some ⟨ps.platter, ps.side, fill, f.blocks⟩ })
  let s := s.modDrive d (fun r => { r with pinned := true })
  (s.command d (.erase fill f.blocks)).stage (.erase d)

/-- Allocation: the side is tested again; if it is no longer usable the head goes back to the side test (R68). -/
def State.allocate (s : State) (d : DriveNo) (q : FSlot) (ps : PlatterSide) : State :=
  match s.filings.get q, s.openSide with
  | some f, some (os, fill) =>
    if os = ps ∧ s.usable f ps fill then s.startErase d q f ps fill else s.leaveSide d .headTurn
  | _, _ => s.leaveSide d .headTurn

/-- The filing side is mounted and the drive is given to FIL (R67, R68). -/
def State.fileGiven (s : State) (d : DriveNo) : State :=
  match s.filUse with
  | some ⟨ps, .listed _, some q, _, _⟩ =>
    match s.sideState? ps with
    | some .unchecked => s.startCheck d q
    | some .blank => s.startHeader d q
    | some (.opened _) => s.allocate d q ps
    | _ => s.leaveSide d .headTurn
  | _ => s

/-- A header check has ended: all blocks blank, or one written or unreadable (R67 step 3). -/
def State.endCheck (s : State) (d : DriveNo) (u : FilUse) (blank : Bool) : State :=
  let s := (s.endCmd d).idleChan d
  if s.sideState? u.side ≠ some .unchecked then s.leaveSide d (nextSearch u.slot)
  else if blank then
    let s := s.setSide u.side .blank
    match u.slot with
    | some q => s.startHeader d q
    | none => s.leaveSide d .headTurn
  else (s.setSide u.side .foreign).leaveSide d (nextSearch u.slot)

/-- The side header record of FIL's use (R67 step 4). -/
def FilUse.header (u : FilUse) : HeaderRec := { platter := u.side.platter, side := u.side.side, openTime := u.openTime }

/-- The header blocks are erased; the header record is passed to the drive for each of blocks 0 to 15 (R67 step 4, R112). -/
def State.headerErased (s : State) (d : DriveNo) (u : FilUse) : State :=
  ((((s.endCmd d).command d (.write 0 Config.firstBlock)).setChan d (Chan.header (filOp u.slot))).pass d (.header u.header)).stage (.headWrite d)

/-- The header is written: the side is OPEN with fill point 16, and its platter is the last filing platter (R67 step 5). -/
def State.headerWritten (s : State) (d : DriveNo) (u : FilUse) : State :=
  let s := (s.endCmd d).idleChan d
  if s.sideState? u.side ≠ some .blank then s.leaveSide d (nextSearch u.slot)
  else
    let s : State := { s.setSide u.side (.opened Config.firstBlock) with lastFiling := some u.side }
    match u.slot with
    | some q => s.allocate d q u.side
    | none => s.leaveSide d .headTurn

/-- The extent of the slot's pass. -/
def State.extentOf (s : State) (q : FSlot) : Location :=
  match (s.filings.get q).bind (·.extent) with
  | some l => l
  | none => ⟨0, .s0, 0, 0⟩

/-- The erase pass is done; the write pass begins (R70 step 2). -/
def State.startWrite (s : State) (d : DriveNo) (q : FSlot) : State :=
  let l := s.extentOf q
  (((s.endCmd d).command d (.write l.start l.len)).setChan d (Chan.use (.slot q) (some .ring) (s.ringPos q 0) l.len .startVerify)).stage (.write d)

/-- The verify pass begins (R71 step 1). -/
def State.startVerify (s : State) (d : DriveNo) (q : FSlot) : State :=
  let l := s.extentOf q
  let s := s.modFiling q (fun f => { f with state := .verifying })
  (((s.endCmd d).command d (.read l.start l.len)).setChan d (Chan.use (.slot q) (some .ring) (s.ringPos q 0) l.len .markWritten)).stage (.verify d)

/-- The commit of a slot, and whether its abandon is pending. -/
def State.abandonPending (s : State) (q : FSlot) : Bool :=
  match (s.filings.get q).bind (·.commit) with
  | some c => c.abandonPending
  | none => false

/-- The erase pass is done: the write pass begins, or the commit is abandoned (R70 step 2, R61; assumption log 51). -/
def State.eraseDone (s : State) (d : DriveNo) (q : FSlot) : State :=
  if s.abandonPending q then ((s.endCmd d).idleChan d).abandonSlot q else s.startWrite d q

/-- The write pass is done: the verify pass begins, or the commit is abandoned (R70 step 4, R61). -/
def State.writeDone (s : State) (d : DriveNo) (q : FSlot) : State :=
  if s.abandonPending q then ((s.endCmd d).idleChan d).abandonSlot q else s.startVerify d q

/-- The record change is made and the commit ends DONE (R73). -/
def State.recordCommit (s : State) (d : DriveNo) (q : FSlot) (f : Filing) (c : Commit) (l : Location) : State :=
  let fs := s.reserved.get q
  let s := s.modCat (fun m => m.recordEntry f.inst l ⟨c.small, c.plan⟩ c.restricted fs)
  let s : State := { s with reserved := s.reserved.set q [] }
  let s := ((s.markSlot q .written).endFilUse d).freeSlot q
  (s.respond c.reply .done (.committed f.inst l c.attempts)).later [.headTurn]

/-- The last block has compared equal (R71 step 3, R73): a pending abandon, or an entry no longer FILING, abandons the commit. The read
has passed every block, so the drive is READY; its DONE, if still to come, is taken as this read's (assumption log 13). -/
def State.verifyDone (s : State) (d : DriveNo) (q : FSlot) : State :=
  let s := s.modDrive d (fun r => { r with staleDone := r.cmd.isSome })
  let s := (s.endCmd d).idleChan d
  match s.filings.get q with
  | some f =>
    match f.commit, f.extent with
    | some c, some l =>
      if c.abandonPending || !s.cat.isFiling f.inst then s.abandonSlot q else s.recordCommit d q f c l
    | _, _ => s.abandonSlot q
  | none => s.endFilUse d

/-! ## Failed attempts (R74, R75) -/

/-- One more failed attempt on a side; at 2 it is FULL (R74 step 3). -/
def SideRec.failOnce (x : SideRec) : SideRec :=
  { state := if 2 ≤ x.fails + 1 then x.state.closed else x.state, fails := min 2 (x.fails + 1) }

/-- The commit ends WRITE_FAILED (R75). -/
def State.writeFailed (s : State) (d : DriveNo) (q : FSlot) (f : Filing) (c : Commit) : State :=
  let s := ((s.endFilUse d).discardSlot q f.inst).respond c.reply .writeFailed (.writeFailed f.inst c.failed)
  (s.post (.writeFailed f.inst c.failed)).later [.headTurn]

/-- After a failed attempt has been counted (R75). -/
def State.afterFailure (s : State) (d : DriveNo) (q : FSlot) (ps : PlatterSide) : State :=
  match s.filings.get q with
  | none => s.endFilUse d
  | some f =>
    match f.commit with
    | none => s.endFilUse d
    | some c =>
      let newSide := ((s.endFilUse d).modFiling q (fun f => { f with state := .queued, extent := none })).later [.headTurn]
      if c.abandonPending then s.abandonSlot q
      else if 2 ≤ c.failed.length then s.writeFailed d q f c
      else
        match s.openSide with
        | some (os, fill) => if os = ps ∧ s.sideTakes ps fill f.blocks then s.startErase d q f ps fill else newSide
        | none => newSide

/-- A failed attempt is counted on the slot and on the side (R74), and FIL goes on (R75). Of a header step whose filing has been
abandoned only the side's count rises (R60). A verify read that a compare failure ends is taken to be stopped, with no DONE of it due: the model's choice
(assumption log 76). -/
def State.failAttempt (s : State) (d : DriveNo) (u : FilUse) : State :=
  let s := ((s.endCmd d).idleChan d).modSide u.side SideRec.failOnce
  match u.slot with
  | none => s.leaveSide d .headTurn
  | some q =>
    let s := s.modCommit q (fun c => { c with
      attempts := c.attempts + 1
      failed := if c.failed.contains u.side then c.failed else c.failed ++ [u.side] })
    s.afterFailure d q u.side

/-- A header write fails with a medium error: the side is FULL with fill point 16, and the attempt is counted; a side a RESTORE has
meanwhile marked FULL is left, and no attempt is counted (R67). -/
def State.headerFailed (s : State) (d : DriveNo) (u : FilUse) : State :=
  if s.sideState? u.side ≠ some .blank then ((s.endCmd d).idleChan d).leaveSide d (nextSearch u.slot)
  else (s.setSide u.side (.full Config.firstBlock)).failAttempt d u

/-- FIL's use of a drive that has become FAULT ends: as a failed attempt if a pass or a header write was running, and otherwise with
the head back at the side test (R127, R67, R72). -/
def State.filFault (s : State) (d : DriveNo) (u : FilUse) : State :=
  match u.stage with
  | .headErase _ | .headWrite _ =>
    if s.sideState? u.side ≠ some .blank then s.leaveSide d (nextSearch u.slot) else s.failAttempt d u
  | .erase _ | .write _ | .verify _ => s.failAttempt d u
  | _ => s.leaveSide d .headTurn

/-! ## Requests -/

/-- A slot number's occupied slot. -/
def State.slotOf (s : State) (n : Nat) : Option (FSlot × Filing) :=
  (Quad.ofNat? n).bind (fun q => (s.filings.get q).map (fun f => (q, f)))

/-- Tests 1 to 3 of FEED and COMMIT (R53, R56). -/
def State.ownSlot (s : State) (n : Nat) (l : Link) : Except Status (FSlot × Filing) :=
  match s.slotOf n with
  | none => .error .noFiling
  | some (q, f) =>
    if f.owner ≠ l then .error .notOwner
    else if f.state ≠ .receiving then .error .notReceiving
    else .ok (q, f)

/-- The lowest-numbered free filing slot (R52). -/
def State.freeFiling (s : State) : Option FSlot := Quad.all.find? (fun q => (s.filings.get q).isNone)

/-- The instrument an OPEN_FILING takes: the one named, or the LODGED instrument with the lowest number; it must be LODGED (R52). -/
def State.openTarget (s : State) (n : Option InstrNum) : Option InstrNum :=
  match n with
  | some n => if (s.cat.lodged.any (fun e => e.num == n)) then some n else none
  | none => s.cat.lodged.head?.map (·.num)

/-- A slot as OPEN_FILING occupies it (R52). -/
def Filing.fresh (n : InstrNum) (l : Link) (now : Nat) : Filing :=
  { inst := n, owner := l, state := .receiving, blocks := 0, starts := [], overflow := false, idleSince := now, commit := none, extent := none }

/-- OPEN_FILING (R52). -/
def handleOpenFiling (s : State) (r : Reply) (o : OptField) : State :=
  match optInst? o with
  | none => s.answer r .badField
  | some n =>
    match s.openTarget n with
    | none => s.answer r .notLodged
    | some n =>
      match s.freeFiling with
      | none => s.answer r .filingFull
      | some q =>
        ((s.modCat (fun c => c.openEntry n q)).setFiling q (some (Filing.fresh n r.link s.ref))).respond r .done (.opened q n)

/-- The page-start list after a fed block (R54). -/
def Filing.startPage (f : Filing) : Filing :=
  if f.blocks = 0 then f
  else if Config.maxPageStarts ≤ f.starts.length then { f with overflow := true }
  else { f with starts := f.starts ++ [f.blocks] }

/-- The slot after a fed block (R53). -/
def Filing.fed (f : Filing) (flag : Bool) (now : Nat) : Filing :=
  let g := if flag then f.startPage else f
  { g with blocks := f.blocks + 1, idleSince := now }

/-- A FEED that passes every test: the block is appended to the ring, the inbound channel has it to write, and the DONE is queued in the same
change, before the port has written it (R53, R113; assumption log 68). -/
def State.admitFeed (s : State) (r : Reply) (q : FSlot) (f : Filing) (flag : Bool) (block : List Byte) : State :=
  let c : InChan := { chan := { state := .running, op := .slot q, mode := some .lane, next := s.ringNext, remaining := 1, action := .none },
                      store := some block }
  (((s.appendRing q f.blocks).modFiling q (fun f => f.fed flag s.ref)).setInChan r.link c).respond r .done (.fed (f.blocks + 1))

/-- FEED (R53, Table 3-2). -/
def handleFeed (s : State) (r : Reply) (slot pageStart : Nat) (block : List Byte) : State :=
  match flag? pageStart with
  | none => s.answer r .badField
  | some flag =>
    match s.ownSlot slot r.link with
    | .error st => s.answer r st
    | .ok (q, f) =>
      let restarted := s.modFiling q (fun f => { f with idleSince := s.ref })
      if Config.maxExtent ≤ f.blocks then restarted.answer r .tooLong
      else if s.ringFree = 0 then restarted.answer r .ringFull
      else s.admitFeed r q f flag block

/-- A COMMIT's fields in their ranges (R56 test 4; R197): the restricted flag, the folios and the targets. That the
flag byte, and counts that disagree with the length, are tested here, after the tests of the slot, is the model's choice (assumption log 86). -/
def commitFields (p : CommitParams) : Option (Bool × List Nat × List InstrNum) :=
  match flag? p.restricted with
  | none => none
  | some res =>
    let fs := p.words.take p.folioCount
    let ts := (p.words.drop p.folioCount).map instOfWord
    if p.folioCount + p.targetCount = p.words.length ∧ 1 ≤ p.folioCount ∧ p.folioCount ≤ 4 ∧ p.targetCount ≤ 4 ∧
        1 ≤ p.small + p.plan ∧ p.small + p.plan ≤ 255 ∧ fs.all (fun f => decide (1 ≤ f ∧ f ≤ 999999)) ∧
        ts.all (fun n => decide (n.day ≤ 65535 ∧ 1 ≤ n.seq ∧ n.seq ≤ Config.maxSeq)) then
      some (res, fs, ts)
    else none

/-- Tests 1 to 4 of a COMMIT (R56). -/
def State.commitTests (s : State) (l : Link) (p : CommitParams) :
    Except Status (FSlot × Filing × Bool × List Nat × List InstrNum) :=
  match s.ownSlot p.slot l with
  | .error st => .error st
  | .ok (q, f) =>
    match commitFields p with
    | none => .error .badField
    | some v => .ok (q, f, v)

/-- COMMIT (R56): tests 1 to 4 are made when it is taken; then it waits for the port to read the page map. A slot with no block has
no map (assumption log 12). -/
def handleCommit (s : State) (r : Reply) (p : CommitParams) : State :=
  match s.commitTests r.link p with
  | .error st => s.answer r st
  | .ok (_, f, _) =>
    if f.blocks = 0 then s.answer r .badMap else { s with mapReads := s.mapReads ++ [{ reply := r, p := p }] }

/-- The page map is valid for a filing's commit (R57). -/
def Filing.mapValid (f : Filing) (b : List Byte) (p : CommitParams) : Bool :=
  decide (2 ≤ f.blocks) && mapOk b (p.small + p.plan) f.blocks && !f.overflow && f.starts == mapOffsets b

/-- The commit is admitted (R58). -/
def State.admitCommit (s : State) (r : Reply) (q : FSlot) (p : CommitParams) (res : Bool) (fs : List Nat) (ts : List InstrNum) : State :=
  let c : Commit := { small := p.small, plan := p.plan, restricted := res, folios := fs, targets := ts, reply := r, attempts := 0, failed := [], abandonPending := false, admitted := s.ref }
  let first := s.commitQueue.isEmpty
  let s := s.modFiling q (fun f => { f with state := .queued, commit := some c })
  let s : State := { s with commitQueue := s.commitQueue ++ [q], reserved := s.reserved.set q (distinct fs) }
  if first then s.later [.headTurn] else s

/-- Tests 5 to 7 of a COMMIT whose map block has been read, in order: the first status that fails (R56, R57, R8, R14). -/
def State.admissionFault (s : State) (f : Filing) (map : List Byte) (p : CommitParams) (fs : List Nat) (ts : List InstrNum) : Option Status :=
  if !f.mapValid map p then some .badMap
  else
    match s.cat.claimFault f.inst ts with
    | some st => some st
    | none => if !s.folioRoom (distinct fs) then some .folioFull else none

/-- The port reads the page map of the COMMIT taken first of those that wait, the model's choice (assumption log 12): tests 1 to 4 again, for the slot as it now stands, and then tests 5
to 7 (R56 to R58, R116, R117). -/
def State.serveMapRead (s : State) (parity : Bool) : State :=
  match s.mapReads with
  | [] => s
  | m :: rest =>
    let s : State := { s with mapReads := rest }
    match s.commitTests m.reply.link m.p with
    | .error st => s.answer m.reply st
    | .ok (q, f, res, fs, ts) =>
      let blk := s.ringPos q 0
      if parity then (s.post (.bufferParity .mapRead blk)).answer m.reply .mediaFault
      else
        match s.admissionFault f (Memory.readBlock s.mem blk) m.p fs ts with
        | some st => s.answer m.reply st
        | none => (s.modCat (fun c => c.setClaims f.inst ts)).admitCommit m.reply q m.p res fs ts

/-- ABANDON (R59 to R61). -/
def handleAbandon (s : State) (r : Reply) (n : Nat) : State :=
  match s.slotOf n with
  | none => s.answer r .noFiling
  | some (q, f) =>
    if f.owner ≠ r.link ∧ !holds (s.rights.get r.link) rAdmin then s.answer r .notOwner
    else if f.state = .writing ∨ f.state = .verifying then
      (s.modCommit q (fun c => { c with abandonPending := true })).respond r .done (.abandoned f.inst true)
    else (s.abandonSlot q).respond r .done (.abandoned f.inst false)

/-- WITHDRAW (R62). -/
def handleWithdraw (s : State) (r : Reply) (n : InstrNum) : State :=
  if s.cat.lodged.any (fun e => e.num == n) then (s.modCat (fun c => c.withdrawEntry n)).answer r .done
  else s.answer r .notLodged

/-- CLOSE_SIDE (R63): the platter that held the closed side is the last filing platter. -/
def handleCloseSide (s : State) (r : Reply) : State :=
  match s.openSide with
  | none => s.answer r .noOpenSide
  | some (ps, fill) => State.respond { s.setSide ps (.full fill) with lastFiling := some ps } r .done (.sideClosed ps fill)

/-- The idle timer of a RECEIVING slot has reached 600 s (R55). -/
def State.idleExpired (s : State) (f : Filing) : Bool := f.state == .receiving && s.passed f.idleSince Config.filingIdleMs

/-- The idle expiry (R55). -/
def State.idleExpiry (s : State) (q : FSlot) : State :=
  match s.filings.get q with
  | some f =>
    if s.idleExpired f then (s.discardSlot q f.inst).post (.filingTimeout q f.inst f.owner f.blocks) else s
  | none => s

end Sys2Proof.Machine
end

