-- ==== Sys2Proof/Machine/Retrieval.lean ====
section
/-!
DEFINITION. The Retrieval Unit (04): admission, locator decode, the turns of items, staging space, delivery, and the ends of items
and operations; with the outbound channels that deliver (05, R114, R115).
-/
namespace Sys2Proof.Machine

/-! ## Fields -/

/-- An item as asked, its fields tested (R80): mode, selection, and a sequence that is not 0. A sequence above 9,999 names no instrument
and is left to NO_SUCH (assumption log 60). -/
def parseItem (p : ItemParams) : Option Item :=
  match mode? p.mode, selection? p.selKind p.first p.last with
  | some cur, some sel =>
    if p.inst.seq = 0 then none
    else some { named := p.inst, current := cur, sel := sel, resolved := none, range := none, quote := none, decode := none, phase := .pending, delivered := 0, receipt := none }
  | _, _ => none

/-- Every item of a list parsed, or nothing. -/
def parseItems : List ItemParams → Option (List Item)
  | [] => some []
  | p :: rest =>
    match parseItem p, parseItems rest with
    | some i, some is => some (i :: is)
    | _, _ => none

/-! ## Locator decode (R88) -/

/-- The platter-side an item's demand is for: the location's, a retired id taken as its replacement (R88, R92). -/
def State.sideOf (s : State) (v : Resolved) : PlatterSide := ⟨s.cat.canonId v.loc.platter, v.loc.side⟩

/-- Locator decode (R88, Table 4-4). -/
def State.decode (s : State) (v : Resolved) : Decode :=
  if (s.segment? v.inst).isSome then .staged
  else
    let ps := s.sideOf v
    let viaPicker : Decode := if s.lib.picker.state = .jammed then .fail .pickerJammed else .mount
    match s.locOf ps.platter with
    | none => .fail .notHeld
    | some (.drive d) =>
      if (s.drive d).state = .fault then .fail .mediaFault
      else
        match s.mountedIn ps with
        | some m => .drive m
        | none => viaPicker
    | some (.slot _) | some .picker => viaPicker
    | some .mail | some .exported | some .unknown => .fail .offline

/-! ## Admission (R83 to R87) -/

/-- The right a purpose needs (R83 check 1). -/
def Purpose.mask : Purpose → BitVec 8
  | .view => 0#8
  | .copy => rCopy
  | .certified => rCertify

/-- The clamped selection (R85); nothing for BAD_RANGE. -/
def clampSel (sel : Selection) (total : Nat) (certified : Bool) : Option (Nat × Nat) :=
  match sel with
  | .all => some (1, total)
  | .range f l =>
    let f := if f = 0 then 1 else f
    let l := if total < l then total else l
    if l < f || certified then none else some (f, l)

/-- The resolved instrument (R84): its number and the links followed, by mode. -/
def State.resolve (s : State) (i : Item) : Option (InstrNum × Nat) :=
  if i.current then s.cat.follow Config.maxChain i.named 0 else some (i.named, 0)

/-- A RECORDED entry's location and pages. -/
def Entry.place? (e : Entry) : Option (Location × Pages) :=
  match e.state with
  | .recorded l p => some (l, p)
  | _ => none

/-- Check 2: the named instrument is RECORDED (R83). -/
def State.namedFault (s : State) (n : InstrNum) : Option Status :=
  match s.cat.entry? n with
  | none => some .noSuch
  | some e =>
    match e.state with
    | .withdrawn => some .withdrawn
    | .recorded _ _ => none
    | _ => some .notRecorded

/-- Checks 5 and 6 for an item whose resolved instrument is known; `decoded` asks for check 7 besides (R82, R83). -/
def State.checkSelection (s : State) (pu : Purpose) (account : Nat) (decoded : Bool) (i : Item) (v : Resolved) : Item :=
  let i := { i with resolved := some v }
  match clampSel i.sel (v.pages.small + v.pages.plan) (pu == .certified) with
  | none => { i with phase := .ended .badRange }
  | some range =>
    let i := { i with range := some range }
    let acc := s.cat.account? account
    if pu ≠ .view ∧ acc.isNone then { i with phase := .ended .noAccount }
    else if pu ≠ .view ∧ acc.any (·.suspended) then { i with phase := .ended .accountSuspended }
    else if !decoded then i
    else
      match s.decode v with
      | .fail st => { i with decode := some (.fail st), phase := .ended st }
      | d => { i with decode := some d }

/-- The admission checks of one item, in order: the item PENDING, or ENDED with the first status that fails (R83, Table 4-3). -/
def State.checkItem (s : State) (l : Link) (pu : Purpose) (account : Nat) (decoded : Bool) (i : Item) : Item :=
  let set := s.rights.get l
  if pu.mask ≠ 0#8 ∧ !holds set pu.mask then { i with phase := .ended .noRight }
  else
    match s.namedFault i.named with
    | some st => { i with phase := .ended st }
    | none =>
      match s.resolve i with
      | none => { i with phase := .ended .chainTooDeep }
      | some (n, links) =>
        match (s.cat.entry? n).bind (fun e => e.place?.map (fun p => (e, p))) with
        | none => { i with phase := .ended .notRecorded }
        | some (e, loc, pages) =>
          let v : Resolved := { inst := n, links := links, loc := loc, pages := pages }
          if e.restricted ∧ !holds set rRestricted then { i with resolved := some v, phase := .ended .restricted }
          else s.checkSelection pu account decoded i v

/-- The quote of an item admitted or quoted now (R86, R164). -/
def State.quoteFor (s : State) (pu : Purpose) (account : Nat) (i : Item) : Option Quote :=
  match pu, i.resolved, i.range with
  | .view, _, _ => none
  | _, some v, some (f, l) =>
    some (computeQuote s.cat.active v.pages f l (pu == .certified) ((s.cat.account? account).any (·.exempt)) (timeOfDay s.clock.now))
  | _, _, _ => none

/-- An item as the admission change leaves it: an admitted copy item has its quote (R86). -/
def State.admitItem (s : State) (l : Link) (pu : Purpose) (account : Nat) (i : Item) : Item :=
  let i := s.checkItem l pu account true i
  if i.hasEnded then i else { i with quote := s.quoteFor pu account i }

/-- The operation of an admitted request, each admitted copy item counted in flight, and the first item's turn (R78, R86, R90). -/
def State.createOp (s : State) (r : Reply) (bundle : Bool) (pu : Purpose) (account : Nat) (cls : MountClass) (items : List Item) : State :=
  let op : Op := { reply := r, bundle := bundle, purpose := pu, account := account, cls := cls, admTime := s.ref, admReading := s.clock.now, items := items, current := 0 }
  let copies := items.filter (fun i => i.quote.isSome)
  let s : State := { s with ops := s.ops ++ [op] }
  (copies.foldl (fun s _ => s.modCat (fun c => c.raiseCopy account)) s).later [.nextTurn r.link r.tag]

/-- The status of an item that has ended. -/
def Item.status (i : Item) : Status :=
  match i.phase with
  | .ended s => s
  | _ => .done

/-- The entry of an item in a response; `full` keeps the resolved instrument of one that did not end DONE (R100; 10.6). Of an item that did not end
DONE, f, l and blocks delivered are 0, and so are the links followed where nothing was resolved or in a bundle: the model's choice, since R100
gives them no value (assumption log 71). -/
def Item.entry (i : Item) (full : Bool) : ItemEntry :=
  let known := i.status == .done || full
  let inst := if known then i.resolved.map (·.inst) else none
  let links := if known then (i.resolved.map (·.links)).getD 0 else 0
  if i.status = .done then
    { status := i.status, resolved := inst, links := links, first := (i.range.map (·.1)).getD 0, last := (i.range.map (·.2)).getD 0, delivered := i.delivered, receipt := i.receipt }
  else { status := i.status, resolved := inst, links := links, first := 0, last := 0, delivered := 0, receipt := none }

/-- FETCH (R80, R83, R87). -/
def handleFetch (s : State) (r : Reply) (p : FetchParams) : State :=
  match parseItem p.item, purpose? p.purpose, class? p.cls with
  | some i, some pu, some cls =>
    let i := s.admitItem r.link pu p.account i
    if i.hasEnded then s.respond r i.status (.item (i.entry true))
    else s.createOp r false pu p.account cls [i]
  | _, _, _ => s.answer r .badField

/-- BUNDLE (R81, R87). -/
def handleBundle (s : State) (r : Reply) (p : BundleParams) : State :=
  match parseItems p.items, purpose? p.purpose, class? p.cls with
  | some is, some pu, some cls =>
    if p.count ≠ p.items.length ∨ p.count < 1 ∨ 8 < p.count then s.answer r .badField
    else
      match is with
      | [] => s.answer r .badField
      | i :: rest =>
        let i := s.admitItem r.link pu p.account i
        if i.hasEnded then s.answer r i.status
        else s.createOp r true pu p.account cls (i :: rest.map (s.admitItem r.link pu p.account))
  | _, _, _ => s.answer r .badField

/-- QUOTE (R82). -/
def handleQuote (s : State) (r : Reply) (p : FetchParams) : State :=
  match parseItem p.item, purpose? p.purpose, class? p.cls with
  | some i, some pu, some _ =>
    if pu = .view then s.answer r .badField
    else
      let i := s.checkItem r.link pu p.account false i
      if i.hasEnded then s.answer r i.status
      else
        match i.resolved, i.range, s.quoteFor pu p.account i with
        | some v, some (f, l), some q => s.respond r .done (.quoted v.inst v.links f l q)
        | _, _, _ => s
  | _, _, _ => s.answer r .badField

/-! ## Leaving and ending -/

/-- Uses of a segment's fill that has not started taken off the work lists (R110). -/
def State.cancelFill (s : State) (n : InstrNum) : State :=
  DriveNo.all.foldl (fun s d => if (s.drive d).work.contains (.fill n) then s.removeUse d (.fill n) else s) s

/-- A segment whose fill has never started is removed with the item that made it: each other user leaves it, and its turn starts
again (R110). -/
def State.removeUnstarted (s : State) (g : Segment) (r : ItemRef) : State :=
  let s := (s.cancelFill g.inst).dropSegment g.inst
  (g.users.filter (fun u => u ≠ r)).foldl (fun s u =>
    let s := if s.serves u then s.idleOut u.link else s
    (s.setPhase u .pending).later [.outTake u.link, .turn u]) s

/-- An item leaves the staging-waiter FIFO, its demand, its segment and its outbound channel (R101). -/
def State.leaveAll (s : State) (r : ItemRef) : State :=
  let s : State :=
    if s.spaceFifo.any (fun w => w.item == r) then
      State.later { s with spaceFifo := s.spaceFifo.filter (fun w => w.item ≠ r) } [.spaceTry]
    else s
  let s := s.leaveDemands r
  let s := if s.serves r then s.idleOut r.link else s
  match s.segments.find? (fun g => g.users.contains r) with
  | none => s
  | some g => if g.filler = some r ∧ !g.started then s.removeUnstarted g r else s.leaveSegment r g

/-- An item ends with a status other than DONE (R101, R175). -/
def State.endItem (s : State) (r : ItemRef) (st : Status) : State :=
  match s.item? r with
  | none => s
  | some (o, i) =>
    if i.hasEnded then s
    else
      let s := s.leaveAll r
      let s := if i.quote.isSome then s.modCat (fun c => c.releaseCopy o.account) else s
      (s.setPhase r (.ended st)).later [.outTake r.link, .nextTurn r.link r.tag]

/-- The quote of a copy's item and the instrument it resolved to; a VIEW has no quote (R89, R99). -/
def Item.copyDone (i : Item) : Option (Quote × InstrNum) :=
  match i.quote, i.resolved with
  | some q, some v => some (q, v.inst)
  | _, _ => none

/-- The change of catalogue memory a copy's end makes: its accrual, and one more copy delivered of the instrument (R99, R174, R3). -/
def CatMem.copyMade (c : CatMem) (account : Nat) (q : Quote) (n : InstrNum) : CatMem := (c.accrue account q).countCopy n

/-- The last selected block of an item has been accepted: it ends DONE, a copy accrued with its receipt and counted on the
instrument (R99, R174, R3). -/
def State.itemDone (s : State) (r : ItemRef) : State :=
  match s.item? r with
  | none => s
  | some (o, i) =>
    let s := match i.copyDone with
      | some (q, n) =>
        let rec' : Receipt := { account := o.account, period := s.cat.period, quote := q, stamp := s.clock.now }
        (s.modCat (fun c => c.copyMade o.account q n)).modItem r (fun i => { i with receipt := some rec' })
      | none => s
    ((s.leaveAll r).setPhase r (.ended .done)).later [.outTake r.link, .nextTurn r.link r.tag]

/-- The response of an operation whose items have all ended (R100). -/
def Op.finish (o : Op) : Status × Body :=
  if o.bundle then
    (if o.items.all (fun i => i.status == .done) then .done else .partialDone, .items (o.items.map (fun i => i.entry false)))
  else
    match o.items with
    | i :: _ => (i.status, .item (i.entry true))
    | [] => (.done, .none)

/-- The next item's turn starts when the one before it has ended; after the last the response is formed and the operation removed
(R90, R100). -/
def State.nextTurn (s : State) (l : Link) (t : Nat) : State :=
  match s.op? l t with
  | none => s
  | some o =>
    let running := match o.current with
      | 0 => false
      | n + 1 => match o.items[n]? with | some i => !i.hasEnded | none => false
    if running then s
    else
      match (List.range' (o.current + 1) (o.items.length - o.current)).find? (fun p =>
        match o.items[p - 1]? with | some i => !i.hasEnded | none => false) with
      | some p => (s.modOp l t (fun o => { o with current := p })).later [.turn ⟨l, t, p⟩]
      | none =>
        let s : State := { s with ops := s.ops.filter (fun o => !(o.reply.link == l && o.reply.tag == t)) }
        s.respond o.reply o.finish.1 o.finish.2

/-- The operations of a link end at its reset (R102): every item that has not ended leaves what it was in, its copy released, and no
response is sent. -/
def State.abortOps (s : State) (l : Link) : State :=
  let mine := s.ops.filter (fun o => o.reply.link = l)
  let s := mine.foldl (fun s o =>
    (List.range' 1 o.items.length).foldl (fun s p =>
      match o.items[p - 1]? with
      | some i =>
        if i.hasEnded then s
        else
          let s := s.leaveAll ⟨l, o.reply.tag, p⟩
          if i.quote.isSome then s.modCat (fun c => c.releaseCopy o.account) else s
      | none => s) s) s
  { s with ops := s.ops.filter (fun o => o.reply.link ≠ l) }

/-! ## Turns and staging space -/

/-- An item whose space has been granted: its segment is made and its demand submitted (R91, R92). -/
def State.granted (s : State) (r : ItemRef) (o : Op) (v : Resolved) (first : Nat) : State :=
  let s := (s.createSegment r v.inst first v.loc.len).setPhase r .waitingMount
  s.submit (s.sideOf v) (.item r o.cls o.admTime)

/-- A request for staging space (R108): it joins a FIFO that is not empty; else it is granted, or joins. -/
def State.askSpace (s : State) (r : ItemRef) (o : Op) (v : Resolved) : State :=
  let join (s : State) : State :=
    State.setPhase { s with spaceFifo := s.spaceFifo ++ [{ item := r, inst := v.inst, len := v.loc.len }] } r .waitingSpace
  if !s.spaceFifo.isEmpty then join s
  else
    match makeRoom s.segments.length s.segments v.loc.len with
    | (segs, some first) => State.granted { s with segments := segs } r o v first
    | (segs, none) => join { s with segments := segs }

/-- The turn of an item: it is decoded again, and joins a segment, asks for space, or ends (R89, R90). -/
def State.turn (s : State) (r : ItemRef) : State :=
  match s.item? r with
  | some (o, i) =>
    match i.resolved with
    | some v =>
      if i.phase ≠ .pending then s
      else
        let d := s.decode v
        let s := s.modItem r (fun i => { i with decode := some d })
        match d with
        | .staged => s.joinSegment r v.inst
        | .drive _ | .mount => s.askSpace r o v
        | .fail st => s.endItem r st
    | none => s
  | none => s

/-- BUF tries the staging-waiter FIFO: its head is granted space if it can be made, and then, decoded once more, takes it, joins a
segment, or ends; and the new head is tried (R109, R91). -/
def State.spaceTry (s : State) : State :=
  match s.spaceFifo with
  | [] => s
  | w :: rest =>
    match makeRoom s.segments.length s.segments w.len with
    | (segs, none) => { s with segments := segs }
    | (segs, some first) =>
      let s : State := { s with segments := segs, spaceFifo := rest }
      match s.item? w.item with
      | some (o, i) =>
        match i.resolved with
        | some v =>
          let d := s.decode v
          let s := s.modItem w.item (fun i => { i with decode := some d })
          let s := match d with
            | .staged => s.joinSegment w.item v.inst
            | .drive _ | .mount => s.granted w.item o v first
            | .fail st => s.endItem w.item st
          s.later [.spaceTry]
        | none => s.later [.spaceTry]
      | none => s.later [.spaceTry]

/-! ## Fills (R94) -/

/-- The drive is given to a staging fill: the read of the extent is issued, and the item that made the segment is READY (R92, R94). The
channel shows that item until the fill ends, also where it ends before: the model's choice (assumption log 82). -/
def State.startFill (s : State) (d : DriveNo) (n : InstrNum) : State :=
  match s.segment? n with
  | some g =>
    match g.filler.bind (fun r => (s.item? r).map (fun p => (r, p.2))) with
    | some (r, i) =>
      match i.resolved with
      | some v =>
        let s := s.modSegment n (fun g => { g with fill := some d, started := true })
        let s := (s.command d (.read v.loc.start v.loc.len)).setChan d
          (Chan.use (.item r) (some .sequential) (stagingBlock g.first) g.len .none)
        (s.setPhase r .ready).later [.outTake r.link]
      | none => s.removeUse d (.fill n)
    | none => s.removeUse d (.fill n)
  | none => s.removeUse d (.fill n)

/-- Every user of a removed segment ends MEDIA_FAULT (R94, R110). -/
def State.failUsers (s : State) (g : Segment) : State := s.later (g.users.map (fun u => .endItem u .mediaFault))

/-- A fill ends in failure: the segment is removed and its users end MEDIA_FAULT; the use ends (R94, R125; assumption log 58). -/
def State.failFill (s : State) (d : DriveNo) (n : InstrNum) : State :=
  let s := ((s.endCmd d).idleChan d)
  let s := match s.segment? n with
    | some g => (s.failUsers g).dropSegment n
    | none => s
  s.removeUse d (.fill n)

/-- A fill has ended: every block is staged and the drive has reported its read done (R94 step 3). -/
def State.endFill (s : State) (d : DriveNo) (n : InstrNum) : State := (s.idleChan d).removeUse d (.fill n)

/-- The head of a drive's work list is given the drive (R125). -/
def State.driveNext (s : State) (d : DriveNo) : State :=
  if (s.drive d).state = .ready then
    match (s.drive d).work with
    | .fill n :: _ =>
      match s.segment? n with
      | some g => if g.started then s else s.startFill d n
      | none => s.removeUse d (.fill n)
    | .filing :: _ => s.fileGiven d
    | [] => s
  else s

/-! ## Outbound channels (R114, R115) -/

/-- The segment an item delivers from. -/
def State.segmentOf (s : State) (r : ItemRef) : Option Segment := s.segments.find? (fun g => g.users.contains r)

/-- The READY item of a link with the oldest admission time; operations stand in admission order (R95). -/
def State.readyItem (s : State) (l : Link) : Option ItemRef :=
  (s.ops.find? (fun o => o.reply.link == l && (match o.items[o.current - 1]? with
    | some i => decide (1 ≤ o.current) && i.phase == .ready
    | none => false))).map (fun o => ⟨l, o.reply.tag, o.current⟩)

/-- An IDLE outbound channel takes the oldest READY item of its link, and first wants the page map (R114; assumption log 16). -/
def State.outTake (s : State) (l : Link) : State :=
  if (s.outChans.get l).chan.op ≠ .none then s
  else
    match s.readyItem l with
    | none => s
    | some r =>
      match s.segmentOf r with
      | none => s
      | some g =>
        let c : Chan := { state := if 0 < g.staged then .running else .waiting, op := .item r, mode := some .sequential, next := stagingBlock g.first, remaining := 0, action := .endItem }
        let s : State := { s with outChans := s.outChans.set l { OutChan.idle with chan := c } }
        s.setPhase r .delivering

/-- The channel goes on to its next block: RUNNING where it is staged, with the queued responses ahead of it, else WAITING (R114,
R115). -/
def State.advanceOut (s : State) (l : Link) (g : Segment) : State :=
  s.modOutChan l (fun c =>
    if c.chan.next < stagingBlock (g.first + g.staged) then
      { c with chan := { c.chan with state := .running }, ahead := (s.links.get l).responses.length }
    else { c with chan := { c.chan with state := .waiting } })

/-- The outbound channels that deliver from a segment (R111). -/
def State.readers (s : State) (g : Segment) : List Link := Link.all.filter (fun l => g.users.any (fun u => u.link == l && s.serves u))

/-- The cascade partners of a channel (R111): of a drive channel filling a segment, the outbound channels delivering from it; of an outbound
channel, the drive channel filling its segment. -/
def State.partners (s : State) (c : ChanName) : List ChanName :=
  match c with
  | .drive d =>
    match s.segments.find? (fun g => g.fill == some d) with
    | some g => (s.readers g).map .outbound
    | none => []
  | .outbound l =>
    match (s.outChans.get l).chan.op with
    | .item r => ((s.segmentOf r).bind (fun g => g.fill)).toList.map .drive
    | _ => []
  | _ => []

/-- A staged block is reported to every cascade partner: one that waits goes on (R112, R114). -/
def State.reportStaged (s : State) (g : Segment) : State :=
  (s.readers g).foldl (fun s l => if (s.outChans.get l).chan.state == .waiting then s.advanceOut l g else s) s

/-- A formed frame is offered where the lane is free and no queued response goes ahead of it (R114 step 3, R115). -/
def State.offerFrame (s : State) (l : Link) : State :=
  let c := s.outChans.get l
  match c.frame with
  | some f =>
    if c.chan.state = .running ∧ c.ahead = 0 ∧ (s.links.get l).out.isNone then
      (s.modLink l (fun k => { k with out := some (.data f) })).modOutChan l
        (fun c => { c with chan := { c.chan with state := .paused }, offeredAt := s.ref })
    else s
  | none => s

/-- The page a block of an extent lies in, and its number within the page (R57, R97). -/
def pageAt (offs : List Nat) (blk : Nat) : Nat × Nat :=
  let n := (offs.filter (fun o => decide (o ≤ blk))).length
  (n, blk - offs.getD (n - 1) 0)

/-- The first selected block and the count of selected blocks (R97). -/
def selectedRun (offs : List Nat) (f l len : Nat) : Nat × Nat :=
  let a := offs.getD (f - 1) 0
  (a, (offs[l]?).getD len - a)

/-- A staging parity fault: the segment is removed, its users end MEDIA_FAULT, and a fill of it is stopped (R110, R117). -/
def State.stagingFault (s : State) (l : Link) (g : Segment) : State :=
  let s := s.post (.bufferParity (.outbound l) (s.outChans.get l).chan.next)
  let s := s.idleOut l
  let s := (s.failUsers g).dropSegment g.inst
  match g.fill with
  | some d => ((s.endCmd d).idleChan d).removeUse d (.fill g.inst)
  | none => if g.complete then s else s.cancelFill g.inst

/-- The page map is checked before the first DATA frame (R96, R97). -/
def State.checkMap (s : State) (l : Link) (r : ItemRef) (g : Segment) (v : Resolved) (range : Nat × Nat) : State :=
  let b := Memory.readBlock s.mem (stagingBlock g.first)
  if mapOk b (v.pages.small + v.pages.plan) g.len then
    let run := selectedRun (mapOffsets b) range.1 range.2 g.len
    let s := s.modOutChan l (fun c => { c with
      chan := { c.chan with next := stagingBlock (g.first + run.1), remaining := run.2 }
      offsets := some (mapOffsets b) })
    s.advanceOut l g
  else s.endItem r .mapDamaged

/-- The port serves an outbound channel: the page map, or the next selected block, whose DATA frame is formed (R114, R116, R97). -/
def State.serveOut (s : State) (l : Link) (parity : Bool) : State :=
  let c := s.outChans.get l
  match c.chan.op with
  | .item r =>
    match s.segmentOf r, s.item? r with
    | some g, some (o, i) =>
      if parity then s.stagingFault l g
      else
        match c.offsets, i.resolved, i.range with
        | none, some v, some range => s.checkMap l r g v range
        | some offs, _, _ =>
          let at' := pageAt offs (c.chan.next - stagingBlock g.first)
          let f : DataFrame := { item := r, code := o.reply.code, page := at'.1, block := at'.2, bytes := Memory.readBlock s.mem c.chan.next }
          (s.modOutChan l (fun c => { c with frame := some f })).offerFrame l
        | _, _, _ => s
    | _, _ => s
  | _ => s

/-- The host accepts a DATA frame: the channel goes on, or the item ends DONE after its last block (R114 step 4, R97). A frame whose item
has already ended only frees the lane (assumption log 19). -/
def State.dataAccepted (s : State) (l : Link) : State :=
  match (s.links.get l).out with
  | some (.data _) =>
    let c := s.outChans.get l
    let s := s.modLink l (fun k => { k with out := none })
    match c.chan.state, c.chan.op with
    | .paused, .item r =>
      let s := s.modItem r (fun i => { i with delivered := i.delivered + 1 })
      let s := s.modOutChan l (fun c => { c with chan := { c.chan with next := c.chan.next + 1, remaining := c.chan.remaining - 1 }, frame := none })
      if c.chan.remaining ≤ 1 then s.itemDone r
      else
        match s.segmentOf r with
        | some g => s.advanceOut l g
        | none => s
    | _, _ => s.offerFrame l
  | _ => s

/-- 30 s have passed without acceptance of the offered frame: it is given up, and the item ends DELIVERY_TIMEOUT (R98, R186). -/
def State.deliveryTimeout (s : State) (l : Link) : State :=
  let c := s.outChans.get l
  match c.chan.state, c.chan.op with
  | .paused, .item r =>
    if s.passed c.offeredAt Config.deliveryMs then
      (s.modLink l (fun k => { k with out := none })).endItem r .deliveryTimeout
    else s
  | _, _ => s

end Sys2Proof.Machine
end

