-- ==== Sys2Proof/Machine/Agenda.lean ====
section
/-!
DEFINITION. The work units hand one another inside a change, done depth first: what a piece of work hands on is done before
what stood behind it (assumption log 3).
-/
namespace Sys2Proof.Machine

/-- One piece of handed-over work. -/
def State.runTask (s : State) (t : Task) : State :=
  match t with
  | .nextTurn l t => s.nextTurn l t
  | .turn r => s.turn r
  | .endItem r st => s.endItem r st
  | .spaceTry => s.spaceTry
  | .outTake l => s.outTake l
  | .driveNext d => s.driveNext d
  | .headTurn => s.headTurn
  | .sideSearch => s.sideSearch
  | .mediaRetry => s.mediaRetry
  | .pickerNext => s.pickerNext
  | .unreachable p st => s.endDemands p st

/-- Pieces of work done, at most `fuel` of them; the fuel is more than any command of a run hands on, and nothing is left over
after it (assumption log 42). -/
def State.settleFor : Nat → State → State
  | 0, s => { s with agenda := [] }
  | n + 1, s =>
    match s.agenda with
    | [] => s
    | t :: rest =>
      let s' := State.runTask { s with agenda := [] } t
      State.settleFor n { s' with agenda := s'.agenda ++ rest }

/-- All the work a change has handed over is done. -/
def State.settle (s : State) : State := State.settleFor Config.agendaFuel s

end Sys2Proof.Machine
end

