-- ==== Sys2Proof/Machine/Mechanisms.lean ====
section
/-!
DEFINITION. What the drives, the picker, the door, the mail slot and the buffer port report, and what their timers bring (06, 07;
05, R116).
-/
namespace Sys2Proof.Machine

/-! ## Drive FAULT (R127) -/

/-- One use of a drive that has become FAULT ends (R127 step 1). A fill ends in failure with all its segment's users, also one that has
not started and one whose last block is staged (assumption log 58). -/
def State.faultUse (s : State) (d : DriveNo) (u : Use) : State :=
  match u with
  | .fill n => s.failFill d n
  | .filing =>
    match s.filUse with
    | some v => s.filFault d v
    | none => s.removeUse d u

/-- One demand ends: its retrieval waiters with a status, its filing waiter back to the side test (R127 step 2). -/
def State.endDemand (s : State) (q : Demand) (st : Status) : State :=
  q.waiters.foldl (fun s w =>
    match w with
    | .item r _ _ => s.later [.endItem r st]
    | .filing _ => State.later { s with filUse := none } [.headTurn]) (s.dropDemand q.side)

/-- The picker has taken the platter out of a drive and moves it. -/
def State.taken (s : State) (d : DriveNo) : Bool :=
  match s.lib.picker.piece with
  | some (.mountEvict e _) | some (.mountFlip e _) | some (.homeMove e) | some (.exportDrive _ _ e) => e == d
  | _ => false

/-- The status of an EXPORT whose drive becomes FAULT while it unloads: a free value, and none of a refusal response, BAD_FRAME or BUSY, which
end no request and hold no tag (R187; assumption log 25). -/
def exportLostStatus (n : Nat) : Status :=
  let v := (Config.freeExportStatus n).val
  Status.ofCode (if v < 2 then v else v + 2)

/-- The picker's piece that waits for a drive to unload ends with the drive; an EXPORT is answered with a free status (assumption log 25). -/
def State.faultPiece (s : State) (d : DriveNo) : State :=
  match s.lib.picker.piece with
  | some (.mountUnload e _) => if e = d then s.endPiece else s
  | some (.exportUnload r _ e) =>
    if e = d then ((s.answer r (exportLostStatus s.freeCtr)).useFree).endPiece else s
  | _ => s

/-- The demand being mounted in a drive that becomes FAULT: it returns to WAITING where the drive unloads another platter for it, an eviction,
and otherwise ends MEDIA_FAULT, a flip of its own platter included (R127 steps 2 and 3; R139). `was` is the drive's record before the FAULT. -/
def State.faultDemand (s : State) (was : Drive) (q : Demand) : State :=
  if was.state = .unloading ∧ was.platter.bind (·.id) ≠ some q.side.platter then s.unmount q.side else s.endDemand q .mediaFault

/-- A drive becomes FAULT (R127). A DRIVE_RESET whose EJECT was answered and whose return-home is not done ends RESET_FAILED (assumption
log 59). A platter the picker has taken is no longer inside, and leaves no load time (R124). -/
def State.faultDrive (s : State) (d : DriveNo) (timeout : Bool) : State :=
  let r := s.drive d
  let inside := if s.taken d then none else r.platter
  let s := s.answerReset d .resetFailed
  let s := s.modDrive d (fun r => { r with
    state := .fault, platter := inside, loadTime := inside.bind (fun _ => r.loadTime), residency := inside.bind (fun _ => r.residency),
    cmd := none, reported := 0, retry := false, staleDone := false })
  let s := (s.modLib (fun l => { l with returns := l.returns.filter (fun e => e ≠ d) })).idleChan d
  let s := r.work.foldl (fun s u => s.faultUse d u) s
  let s := (s.lib.demands.filter (fun q => q.mounting = some d)).foldl (fun s q => s.faultDemand r q) s
  let s := match inside.bind (·.id) with
    | some id => s.endDemands id .mediaFault
    | none => s
  (s.post (.driveFault d inside timeout)).faultPiece d

/-- The EJECT of a DRIVE_RESET has failed; the drive stays FAULT (R128). -/
def State.resetFailed (s : State) (d : DriveNo) : State := (s.endCmd d).answerReset d .resetFailed

/-- A FAULT report (R127, R128): an ABSENT drive reports nothing that is taken, and a drive already FAULT only ends its EJECT. -/
def State.faultReport (s : State) (d : DriveNo) : State :=
  match (s.drive d).state with
  | .absent => s
  | .fault => if (s.drive d).cmd.isSome then s.resetFailed d else s
  | _ => s.faultDrive d false

/-- The command is issued again for the blocks not yet reported (R126); a write pass goes back to the first block not yet reported. -/
def State.reissue (s : State) (d : DriveNo) : State :=
  let r := s.drive d
  let s := s.modDrive d (fun r => { r with retry := true, since := s.ref })
  match s.filUse with
  | some ⟨_, .write e, some q, _, _⟩ =>
    if e = d then
      s.modDriveChan d (fun c => { c with
        chan := { c.chan with next := s.ringPos q r.reported, remaining := (s.extentOf q).len - r.reported } })
    else s
  | _ => s

/-- 15 s have passed without a report of a drive's command (R126): it is issued again once, and the second expiry makes the drive
FAULT. -/
def State.driveTimeout (s : State) (d : DriveNo) : State :=
  let r := s.drive d
  if r.cmd.isSome && s.passed r.since Config.driveMs then
    if !r.retry then s.reissue d
    else if r.state = .fault then s.resetFailed d
    else s.faultDrive d true
  else s

/-! ## Drive reports -/

/-- READY after a load (R138 step 5): the waiters of the side's demand are handed over, and the head of the work list is given the
drive; the demand may have gone meanwhile, with uses met by R134 on the list (R124, R125). A WAITING demand for the side, which only a
load without its demand leaves, is met as well (assumption log 35). -/
def State.readyReport (s : State) (d : DriveNo) : State :=
  let r := s.drive d
  match r.cmd, r.platter with
  | some .load, some ⟨some id, sd⟩ =>
    let s := s.modDrive d (fun r => { r with state := .ready, cmd := none, retry := false, loadTime := some s.clock.now, residency := some s.ref })
    let s := s.modPlatter id (fun p => { p with mounts := satAdd Config.max16 p.mounts 1 })
    let s := match s.demand? ⟨id, sd⟩ with
      | some q => s.meet d q
      | none => s
    s.later [.driveNext d]
  | _, _ => s

/-- A platter has left its drive: the last unload time is set (R119). -/
def State.setUnloadTime (s : State) (d : DriveNo) : State :=
  match (s.drive d).platter with
  | some ⟨some id, _⟩ => s.modPlatter id (fun p => { p with lastUnload := some s.clock.now })
  | _ => s

/-- A drive that holds nothing (R124). -/
def State.vacate (s : State) (d : DriveNo) : State := s.modDrive d (fun _ => Drive.vacant .empty)

/-- The platter of a mount sequence's drive has been ejected (R138 step 2); interrupted, the demand returns to WAITING and the platter is
to be returned home (R149). -/
def State.mountUnloaded (s : State) (d : DriveNo) (ps : PlatterSide) : State :=
  if s.interrupted then ((s.unmount ps).queueReturn d).endPiece
  else
    match (s.drive d).platter with
    | some ⟨some id, sd⟩ =>
      if id = ps.platter then (s.carry id).givePicker (.drive d) (some (.drive d)) true (.mountFlip d ps)
      else
        match s.evictSlot id with
        | some n => s.moveHome d id n sd (.mountEvict d ps)
        | none => ((s.unmount ps).queueReturn d).endPiece
    | _ => (s.unmount ps).endPiece

/-- The platter of an export has been ejected (R143); interrupted, the export is answered DOOR_OPEN and the platter is to be returned home
(R149). -/
def State.exportUnloaded (s : State) (d : DriveNo) (r : Reply) (id : Nat) : State :=
  if s.interrupted then ((s.answer r .doorOpen).queueReturn d).endPiece
  else
    let flip := match (s.drive d).platter with | some p => p.side == .s1 | none => false
    (s.carry id).givePicker (.drive d) (some .mail) flip (.exportDrive r id d)

/-- UNLOADED after an EJECT (R128). -/
def State.ejected (s : State) (d : DriveNo) : State :=
  match (s.drive d).platter with
  | none => ((s.answerReset d .done).vacate d).later [.pickerNext]
  | some _ =>
    ((s.modDrive d (fun r => { r with state := .unloading, cmd := none, retry := false })).queueReturn d).later [.pickerNext]

/-- UNLOADED (R129). -/
def State.unloadedReport (s : State) (d : DriveNo) : State :=
  match (s.drive d).cmd with
  | some .eject => (s.setUnloadTime d).ejected d
  | some .unload =>
    let s := (s.setUnloadTime d).endCmd d
    match s.lib.picker.piece with
    | some (.mountUnload e ps) => if e = d then s.mountUnloaded d ps else s
    | some (.exportUnload r id e) => if e = d then s.exportUnloaded d r id else s
    | _ => s
  | _ => s

/-- What a block read or written by the head of a drive's work list belongs to (R112). -/
inductive Role where
  | fill (n : InstrNum)
  | fil (u : FilUse)
  | none
deriving DecidableEq, Repr

/-- The role of a drive's channel now. -/
def State.role (s : State) (d : DriveNo) : Role :=
  match (s.drive d).work with
  | .fill n :: _ => .fill n
  | .filing :: _ =>
    match s.filUse with
    | some u => .fil u
    | none => .none
  | [] => .none

/-- One block reported of the command that runs; the command's timer restarts (R126). -/
def State.countBlock (s : State) (d : DriveNo) : State :=
  s.modDrive d (fun r => { r with reported := r.reported + 1, since := s.ref })

/-- A block the drive has passed is held for the port, or for a compare (R112, R116). -/
def State.holdBlock (s : State) (d : DriveNo) (b : List Byte) : State :=
  (s.countBlock d).modDriveChan d (fun c => { c with held := c.held ++ [b] })

/-- One block of a header check or header write carried by the channel (R112). -/
def State.carryHeader (s : State) (d : DriveNo) : State :=
  (s.countBlock d).modDriveChan d (fun c => { c with chan := { c.chan with remaining := c.chan.remaining - 1 } })

/-- The block the drive has passed and the ring block read for it are compared when both are there (R71, R112). -/
def State.compare (s : State) (d : DriveNo) (u : FilUse) (q : FSlot) : State :=
  let c := s.driveChans.get d
  match c.held, c.ringBlock with
  | b :: rest, some rb =>
    if b = rb then
      let left := c.chan.remaining - 1
      let next := s.ringPos q ((s.extentOf q).len - left)
      let s := s.modDriveChan d (fun c => { c with chan := { c.chan with next := next, remaining := left }, held := rest, ringBlock := none })
      if left = 0 then s.verifyDone d q else s
    else s.failAttempt d u
  | _, _ => s

/-- A per-block report (R112, R126): one for a block beyond the command, or of another kind than the command reads, is not taken. -/
def State.blockReport (s : State) (d : DriveNo) (b : BlockReport) : State :=
  let r := s.drive d
  match r.cmd with
  | none => s
  | some c =>
    if c.len ≤ r.reported then s
    else
      match s.role d, c, b with
      | .fill _, .read _ _, .data bytes => s.holdBlock d bytes
      | .fil ⟨_, .check _, _, _, _⟩, .read _ _, .header w =>
        let s := s.carryHeader d
        { s with filUse := s.filUse.map (fun u => { u with sawWritten := u.sawWritten || w }) }
      | .fil ⟨ps, .verify e, some q, t, w⟩, .read _ _, .data bytes => (s.holdBlock d bytes).compare d ⟨ps, .verify e, some q, t, w⟩ q
      | .fil ⟨_, .headWrite _, _, _, _⟩, .write _ _, .passed => s.carryHeader d
      | .fil ⟨_, .write _, some _, _, _⟩, .write _ n, .passed =>
        if r.reported < n - (s.driveChans.get d).chan.remaining then s.countBlock d else s
      | .fil _, .erase _ _, .passed => s.countBlock d
      | _, _, _ => s

/-- DONE of a block command (R67, R70, R94, R112). Of a fill whose blocks still wait for the port, the drive is READY and the channel
stays RUNNING until the last is staged (assumption log 53). -/
def State.doneReport (s : State) (d : DriveNo) : State :=
  let r := s.drive d
  if r.staleDone then s.modDrive d (fun r => { r with staleDone := false })
  else
    match s.role d, r.cmd with
    | .fill n, some (.read _ len) =>
      if r.reported < len then s
      else
        let s := s.endCmd d
        if (s.driveChans.get d).chan.remaining = 0 then s.endFill d n else s
    | .fil u, some (.erase _ _) =>
      match u.stage, u.slot with
      | .headErase _, _ => s.headerErased d u
      | .erase _, some q => s.eraseDone d q
      | _, _ => s
    | .fil u, some (.write _ _) =>
      match u.stage, u.slot with
      | .headWrite _, _ => s.headerWritten d u
      | .write _, some q => if (s.driveChans.get d).chan.remaining = 0 then s.writeDone d q else s
      | _, _ => s
    | .fil u, some (.read _ len) =>
      if r.reported < len then s
      else
        match u.stage with
        | .check _ => s.endCheck d u (!u.sawWritten)
        | .verify _ => s.endCmd d
        | _ => s
    | _, _ => s

/-- MEDIUM_ERROR of an erase or a write (R70, R67, R74). -/
def State.mediumError (s : State) (d : DriveNo) : State :=
  match s.role d, (s.drive d).cmd with
  | .fil u, some (.erase _ _) | .fil u, some (.write _ _) =>
    match u.stage with
    | .headErase _ | .headWrite _ => s.headerFailed d u
    | .erase _ | .write _ => s.failAttempt d u
    | _ => s
  | _, _ => s

/-- UNREADABLE of a read (R94, R71, R67). -/
def State.unreadable (s : State) (d : DriveNo) : State :=
  match s.role d, (s.drive d).cmd with
  | .fill n, some (.read _ _) => s.failFill d n
  | .fil u, some (.read _ _) =>
    match u.stage with
    | .check _ => s.endCheck d u false
    | .verify _ => s.failAttempt d u
    | _ => s
  | _, _ => s

/-- A drive's residency timer has run 20 s (R124, R136). -/
def State.residencyExpiry (s : State) (d : DriveNo) : State :=
  match (s.drive d).residency with
  | some t =>
    if s.passed t Config.residencyMs then (s.modDrive d (fun r => { r with residency := none })).later [.pickerNext] else s
  | none => s

/-! ## The buffer port (R116, R117) -/

/-- A drive channel wants the port: a block to stage, a ring block to pass to the drive, or a ring block to compare with. -/
def State.driveWants (s : State) (d : DriveNo) : Bool :=
  let c := s.driveChans.get d
  match s.role d with
  | .fill _ => !c.held.isEmpty
  | .fil u =>
    match u.stage with
    | .write _ => decide (0 < c.chan.remaining)
    | .verify _ => decide (0 < c.chan.remaining) && c.ringBlock.isNone
    | _ => false
  | .none => false

/-- An outbound channel wants the port: RUNNING with no frame formed. -/
def State.outWants (s : State) (l : Link) : Bool :=
  let c := s.outChans.get l
  c.chan.state == .running && c.frame.isNone

/-- The port stages one block of a fill (R94, R112). Where the drive has reported its read done before, the channel is IDLE and the
use ends with the last block staged (assumption log 53). -/
def State.stageBlock (s : State) (d : DriveNo) (n : InstrNum) : State :=
  let c := s.driveChans.get d
  match c.held, s.segment? n with
  | b :: rest, some g =>
    let s : State := { s with mem := Memory.writeBlock s.mem c.chan.next b }
    let s := s.modDriveChan d (fun c => { c with chan := { c.chan with next := c.chan.next + 1, remaining := c.chan.remaining - 1 }, held := rest })
    let g : Segment := { g with staged := g.staged + 1, fill := if g.len ≤ g.staged + 1 then none else g.fill }
    let s := (s.modSegment n (fun _ => g)).reportStaged g
    let s := if g.complete && g.users.isEmpty then s.later [.spaceTry] else s
    if (s.driveChans.get d).chan.remaining = 0 ∧ (s.drive d).cmd = none then s.endFill d n else s
  | _, _ => s

/-- The port reads one ring block for a write pass, which passes it to the drive, or for a verify pass, which compares it; a parity fault
fails the attempt, and the block goes nowhere (R112, R117). A channel whose last block has been moved stays RUNNING until the drive's report ends
its use (assumption log 66). -/
def State.readRing (s : State) (d : DriveNo) (u : FilUse) (q : FSlot) (parity : Bool) : State :=
  let c := s.driveChans.get d
  if parity then (s.post (.bufferParity (.drive d) c.chan.next)).failAttempt d u
  else
    match u.stage with
    | .write _ =>
      let left := c.chan.remaining - 1
      let next := s.ringPos q ((s.extentOf q).len - left)
      (s.pass d (.block (Memory.readBlock s.mem c.chan.next))).modDriveChan d (fun c => { c with chan := { c.chan with next := next, remaining := left } })
    | _ => (s.modDriveChan d (fun c => { c with ringBlock := some (Memory.readBlock s.mem c.chan.next) })).compare d u q

/-- A buffer memory parity fault on the channel of a fill fails the fill (R94); it is posted as R117 has every such fault posted, with the
block the channel was moving (assumption log 63). -/
def State.fillParity (s : State) (d : DriveNo) (n : InstrNum) : State :=
  (s.post (.bufferParity (.drive d) (s.driveChans.get d).chan.next)).failFill d n

/-- The port serves a drive channel. -/
def State.serveDrive (s : State) (d : DriveNo) (parity : Bool) : State :=
  match s.role d with
  | .fill n => if parity then s.fillParity d n else s.stageBlock d n
  | .fil u =>
    match u.slot with
    | some q => s.readRing d u q parity
    | none => s
  | .none => s

/-- The port serves an inbound channel: its block is written to the ring, and it is IDLE (R113 step 4). It is written where
its slot has ended in the meantime too (assumption log 87). -/
def State.serveIn (s : State) (l : Link) : State :=
  let c := s.inChans.get l
  match c.store with
  | some b => State.setInChan { s with mem := Memory.writeBlock s.mem c.chan.next b } l InChan.idle
  | none => s

/-- The port moves one block for the first that wants it: D1 to D6, I0 to I2, O0 to O2, and then FIL's reads of page maps (R116). -/
def State.portMove (s : State) (parity : Bool) : State :=
  match DriveNo.all.find? s.driveWants with
  | some d => s.serveDrive d parity
  | none =>
    match Link.all.find? (fun l => (s.inChans.get l).store.isSome) with
    | some l => s.serveIn l
    | none =>
      match Link.all.find? s.outWants with
      | some l => s.serveOut l parity
      | none => s.serveMapRead parity

/-! ## The picker (R129 to R132, R149) -/

/-- The picker is on a command: a move when `toMove`, else a label read (R129). -/
def State.onCommand (s : State) (toMove : Bool) : Bool :=
  let k := s.lib.picker
  k.state == .moving && k.since.isSome && (match k.move with | some m => m.dst.isSome == toMove | none => false)

/-- A platter put into a drive: it is loaded, or lies in a drive that has become FAULT meanwhile (R138 step 4, R127). A drive that has reported no
READY since a platter came in has no load time (assumption log 73). -/
def State.putInDrive (s : State) (d : DriveNo) (ps : PlatterSide) : State :=
  let s := (s.setLoc ps.platter (.drive d)).modDrive d (fun r => { r with platter := some ⟨some ps.platter, ps.side⟩ })
  if (s.drive d).state = .fault then s.endDemands ps.platter .mediaFault else s.command d .load

/-- A drive the picker has taken the platter from is EMPTY, unless it has become FAULT (R138 step 2). -/
def State.emptied (s : State) (d : DriveNo) : State := if (s.drive d).state = .unloading then s.vacate d else s

/-- Step 2 of a mount sequence is done: step 3 follows, unless the piece is interrupted or the demand is no longer this drive's (R138,
R139). -/
def State.evicted (s : State) (d : DriveNo) (ps : PlatterSide) : State :=
  let s := match s.lib.picker.held with
    | some id => s.setLoc id (.slot s.moveSlot)
    | none => s
  let s := (s.emptied d).clearMove
  if (s.demand? ps).bind (·.mounting) = some d then
    if s.interrupted then (s.unmount ps).endPiece else s.mountFetch d ps
  else s.endPiece

/-- A return-home move is done: a new record is made, or the slot FOREIGN_OCCUPIED, at this moment (R158; assumption log 79). -/
def State.returned (s : State) (d : DriveNo) : State :=
  let n := s.moveSlot
  let s := match s.lib.picker.held with
    | some id =>
      if (s.platter? id).isSome then s.modPlatter id (fun p => { p with loc := .slot n, lastUnload := some s.clock.now })
      else s.modCat (fun c => c.addPlatter id n)
    | none => s.modCat (fun c => c.setSlot n (some .foreignOccupied))
  (((s.answerReturn d .done).emptied d).later [.mediaRetry]).endPiece

/-- An import's move is done, and a new record is made at this moment (R142; assumption log 79). -/
def State.importMoved (s : State) (r : Option Reply) (id : Nat) : State :=
  let n := s.moveSlot
  let s := if (s.platter? id).isSome then s.setLoc id (.slot n) else s.modCat (fun c => c.addPlatter id n)
  ((s.importEnds r .done id n).later [.mediaRetry]).endPiece

/-- An export's move is done (R143). -/
def State.exportMoved (s : State) (r : Reply) (id : Nat) : State :=
  let s := (s.setLoc id .mail).modLib (fun l => { l with mail := .outgoing id })
  ((s.respond r .done (.exported id)).endDemands id .offline).endPiece

/-- The picker reports a move done (R129). -/
def State.moveDone (s : State) : State :=
  if !s.onCommand true then s
  else
    match s.lib.picker.piece with
    | some (.mountEvict d ps) => s.evicted d ps
    | some (.mountFlip d ps) => (s.putInDrive d ps).endPiece
    | some (.mountFetch d ps) => (s.putInDrive d ps).endPiece
    | some (.homeMove d) => s.returned d
    | some (.importMove r id) => s.importMoved r id
    | some (.exportMove r id) => s.exportMoved r id
    | some (.exportDrive r id d) => (s.emptied d).exportMoved r id
    | _ => s

/-- What a return-home piece's label says of the platter: its id if it is one to be known by, none to treat it as unlabeled (R158). A label
recorded in the mail slot or the picker counts as a duplicate too (assumption log 27), and a report EMPTY as label 0 (assumption log 69). -/
def State.homeLabelId (s : State) (rep : LabelReport) : Option Nat :=
  match rep with
  | .label (n + 1) =>
    match s.locOf (n + 1) with
    | some .unknown | some .exported => some (n + 1)
    | some _ => none
    | none => if s.cat.platters.length < Config.maxPlatters then some (n + 1) else none
  | _ => none

/-- A return-home piece has read its label (R158). A known platter is identified in the drive; of a new id only the move that begins in
this change holds the number. Interrupted, the piece stays queued first (R149), and a platter not identified has its label read again when
the piece begins again (assumption log 55). Of a drive that has become FAULT during the read the report is not used, and the piece ends: the
model's choice (assumption log 89). -/
def State.homeLabelled (s : State) (d : DriveNo) (rep : LabelReport) : State :=
  let s := s.clearMove
  if (s.drive d).state ≠ .unloading then s.endPiece
  else
    let id := s.homeLabelId rep
    let known := id.filter (fun n => (s.platter? n).isSome)
    let s := s.modDrive d (fun r => { r with platter := r.platter.map (fun p => { p with id := known }) })
    let s := match known with
      | some n => s.setLoc n (.drive d)
      | none => s
    if s.interrupted then (s.modLib (fun l => { l with returns := d :: l.returns })).endPiece else s.homeMove d id

/-- Where an import puts the platter of a label, or its status (R142). -/
def State.importSlot (s : State) (n : Nat) : Except Status Nat :=
  let free : Except Status Nat := match s.cat.lowestFree with | some m => .ok m | none => .error .noSlot
  if n = 0 then .error .noLabel
  else
    match s.platter? n with
    | some p =>
      match p.loc with
      | .exported =>
        match p.home with
        | some h => if s.cat.slotUse? h = some (.reserved n) then .ok h else free
        | none => free
      | _ =>
        if s.lib.mail = .outgoing n then (match p.home with | some h => .ok h | none => free)
        else .error .duplicate
    | none =>
      match s.cat.lowestFree with
      | none => .error .noSlot
      | some m => if Config.maxPlatters ≤ s.cat.platters.length then .error .tableFull else .ok m

/-- An import has read its label: it is refused, or its move begins, or it is interrupted, and the mail state is INCOMING (R142, R149;
assumption log 48). What another label does at an OUTGOING mail slot is the model's choice (assumption log 78), and the moment the slot becomes
occupied its reading (assumption log 79). The mail state is EMPTY from the move's beginning, the model's choice (assumption log 83). -/
def State.importLabelled (s : State) (r : Option Reply) (rep : LabelReport) : State :=
  let n := match rep with | .label n => n | .empty => 0
  match s.importSlot n with
  | .error st => (s.importEnds r st n 0).endPiece
  | .ok m =>
    if s.interrupted then ((s.importEnds r .doorOpen n 0).modLib (fun l => { l with mail := .incoming })).endPiece
    else
      let s := if (s.platter? n).isSome then (s.modCat (fun c => c.giveHome n m)).carry n
        else s.modPicker (fun k => { k with held := some n })
      (s.modLib (fun l => { l with mail := .empty })).givePicker .mail (some (.slot m)) false (.importMove r n)

/-! ### The inventory sweep (07, section 7.2) -/

/-- The sweep record changed. -/
def State.modSweep (s : State) (f : Sweep → Sweep) : State := s.modLib (fun l => { l with sweep := f l.sweep })

/-- The platter whose home is slot n, other than one, loses its home; recorded in the slot it becomes UNKNOWN (R152). -/
def State.loseHome (s : State) (n : Nat) (other : Option Nat) : State :=
  match s.cat.platters.find? (fun p => p.home == some n && some p.id != other) with
  | none => s
  | some p =>
    let here := p.loc == .slot n
    let s := s.modPlatter p.id (fun p => { p with home := none, loc := if p.loc = .slot n then .unknown else p.loc })
    let s := s.modSweep (fun w => { w with homesLost := w.homesLost + 1 })
    if here then s.later [.unreachable p.id .offline] else s

/-- A platter is in the position with no usable label (R152). -/
def State.sweepForeign (s : State) (n : Nat) : State :=
  let s := s.loseHome n none
  (s.modCat (fun c => c.setSlot n (some .foreignOccupied))).modSweep (fun w => { w with foreign := w.foreign + 1, foundCount := w.foundCount + 1 })

/-- A platter with a label is found in slot n, with its record or with a new one (R152). -/
def State.sweepFound (s : State) (n id : Nat) : State :=
  let s := (s.loseHome n (some id)).modSweep (fun w => { w with found := w.found ++ [id], foundCount := w.foundCount + 1 })
  if (s.platter? id).isSome then (s.modCat (fun c => c.giveHome id n)).setLoc id (.slot n)
  else (s.modCat (fun c => c.addPlatter id n)).modSweep (fun w => { w with created := w.created + 1 })

/-- The label is in the found list already, or of a platter recorded in a drive or the mail slot (R152). -/
def State.isDuplicate (s : State) (id : Nat) : Bool :=
  s.lib.sweep.found.contains id ||
    (match s.locOf id with
     | some (.drive _) | some .mail => true
     | _ => false)

/-- The report for storage slot n (R152). -/
def State.sweepSlot (s : State) (n : Nat) (rep : LabelReport) : State :=
  match rep with
  | .empty => if s.cat.slotUse? n = some .foreignOccupied then s.modCat (fun c => c.setSlot n none) else s
  | .label 0 => s.sweepForeign n
  | .label (k + 1) =>
    if s.isDuplicate (k + 1) then (s.modSweep (fun w => { w with duplicates := w.duplicates + 1 })).sweepForeign n
    else if (s.platter? (k + 1)).isNone ∧ Config.maxPlatters ≤ s.cat.platters.length then s.sweepForeign n
    else s.sweepFound n (k + 1)

/-- An exported platter has been taken out of the mail slot: it is EXPORTED and its home is reserved for it (R144). -/
def State.exportComplete (s : State) (id : Nat) : State :=
  let s := s.modCat (fun c =>
    match (findKeyed Platter.id id c.platters).bind c.usableHome with
    | some n => c.setSlot n (some (.reserved id))
    | none => c)
  (s.setLoc id .exported).later [.unreachable id .offline]

/-- The report for the mail slot (R153). -/
def State.sweepMail (s : State) (rep : LabelReport) : State :=
  let setMail (s : State) (m : MailState) : State := s.modLib (fun l => { l with mail := m })
  let seen (s : State) : State := s.modSweep (fun w => { w with foundCount := w.foundCount + 1 })
  match rep, s.lib.mail with
  | .empty, .outgoing x => setMail (s.exportComplete x) .empty
  | .empty, _ => setMail s .empty
  | .label n, .outgoing x =>
    if n = x then (seen s).modSweep (fun w => { w with found := w.found ++ [x] })
    else setMail (seen (s.exportComplete x)) .incoming
  | .label _, _ => setMail (seen s) .incoming

/-- The platters recorded in a slot or the picker that the sweep has not found (R154 step 1). -/
def State.missing (s : State) : List Nat :=
  (s.cat.platters.filter (fun p =>
    (match p.loc with | .slot _ | .picker => true | _ => false) && !s.lib.sweep.found.contains p.id)).map (·.id)

/-- A drive holds an ejected platter that can now be returned to a slot, and no piece is queued for it (R154 step 4). -/
def State.returnable (s : State) (d : DriveNo) : Bool :=
  let r := s.drive d
  r.state == .unloading && r.cmd.isNone && r.platter.isSome && !s.lib.returns.contains d &&
    ((match (r.platter.bind (·.id)).bind s.platter? with
      | some p => s.cat.returnSlot p
      | none => s.cat.lowestFree).isSome)

/-- The sweep has run to its end (R154). Several drives that hold an ejected platter are queued in the order of their numbers, behind the pieces that
wait: the model's choice (assumption log 29). -/
def State.sweepEnd (s : State) : State :=
  let w := s.lib.sweep
  let gone := s.missing
  let s := gone.foldl (fun s id => (s.setLoc id .unknown).later [.unreachable id .offline]) s
  let s := s.modLib (fun l => { l with sweep := { l.sweep with running := false }, sweptOnce := true })
  let s := s.post (.inventoryDone w.foundCount w.created w.foreign w.duplicates w.homesLost gone.length)
  let s := (DriveNo.all.filter s.returnable).foldl (fun s d => s.queueReturn d) s
  (s.later [.mediaRetry]).endPiece.serveMail

/-- A label read of the sweep is taken; the next position is read, or the sweep ends or is stopped by the door (R151, R154, R155). A sweep so
stopped serves no mail slot (assumption log 30), and leaves the record's other fields as they are (assumption log 80): the model's choice. -/
def State.sweepReport (s : State) (rep : LabelReport) : State :=
  let n := s.lib.sweep.next
  let s := if n ≤ Config.storageSlots then s.sweepSlot n rep else s.sweepMail rep
  let s := s.modSweep (fun w => { w with next := w.next + 1 })
  if s.interrupted then (s.modSweep (fun w => { w with running := false })).endPiece
  else if Config.storageSlots < n then s.sweepEnd
  else if n = Config.storageSlots then s.givePicker .mail none false .sweep
  else s.givePicker (.slot (n + 1)) none false .sweep

/-- The picker reports a label (R129, R151). -/
def State.labelReport (s : State) (rep : LabelReport) : State :=
  if !s.onCommand false then s
  else
    match s.lib.picker.piece with
    | some .sweep => s.sweepReport rep
    | some (.homeLabel d) => s.homeLabelled d rep
    | some (.importLabel r) => s.importLabelled r rep
    | _ => s

/-! ### Jams (R131) -/

/-- A demand needs no picker move: its side is mounted (R131, R134, R139). -/
def State.needsPicker (s : State) (q : Demand) : Bool := (s.mountedIn q.side).isNone

/-- The retrieval waiters of the demands that need the picker end PICKER_JAMMED; filing waiters stay, and their demands wait (R131
step 2). -/
def State.jamDemands (s : State) : State :=
  let hit := s.lib.demands.filter s.needsPicker
  let isFiling (w : Waiter) : Bool := match w with | .filing _ => true | .item _ _ _ => false
  let s := (hit.flatMap (·.waiters)).foldl (fun s w =>
    match w with
    | .item r _ _ => s.later [.endItem r .pickerJammed]
    | .filing _ => s) s
  let sides := hit.map (·.side)
  (s.modDemands (List.map (fun q =>
    if sides.contains q.side then { q with mounting := none, waiters := q.waiters.filter isFiling } else q))).pruneDemands

/-- The piece of work in progress ends with a jam (R131 step 3, R128). -/
def State.jamPiece (s : State) : State :=
  match s.lib.picker.piece with
  | some (.mountEvict d _) | some (.mountFlip d _) => s.emptied d
  | some (.homeMove d) => (s.answerReturn d .pickerJammed).emptied d
  | some (.homeLabel d) => s.answerReturn d .pickerJammed
  | some (.importLabel r) => s.importEnds r .pickerJammed 0 0
  | some (.importMove r id) => s.importEnds r .pickerJammed id 0
  | some (.exportMove r _) => s.answer r .pickerJammed
  | some (.exportDrive r _ d) => (s.answer r .pickerJammed).emptied d
  | some .sweep => s.modSweep (fun w => { w with running := false })
  | _ => s

/-- Every queued IMPORT and EXPORT is answered (R131 step 4, R148). -/
def State.refuseMedia (s : State) (st : Status) : State :=
  let q := s.lib.media
  q.foldl (fun s m =>
    match m with
    | .importReq r => s.importEnds r st 0 0
    | .exportReq r _ => s.answer r st) (s.modLib (fun l => { l with media := [] }))

/-- A picker command expires: the picker is JAMMED (R131). The platter held is shown no more, since it is UNKNOWN now (assumption log
56). -/
def State.jam (s : State) : State :=
  let k := s.lib.picker
  let lost := k.held.filter (fun id => (s.platter? id).isSome)
  let s := match lost with
    | some id => s.setLoc id .unknown
    | none => s
  let s := (s.jamDemands).jamPiece
  let s := (s.clearMove).modPicker (fun k => { k with state := .jammed, piece := none })
  let s := (s.refuseMedia .pickerJammed).post (.pickerJammed k.move lost)
  let s := match lost with
    | some id => s.endDemands id .pickerJammed
    | none => s
  if s.lib.sweepDue then s.startSweep else s

/-- 25 s have passed without the picker's report (R129, R131). -/
def State.pickerTimeout (s : State) : State :=
  match s.lib.picker.state, s.lib.picker.since with
  | .moving, some t => if s.passed t Config.pickerMs then s.jam else s
  | _, _ => s

/-! ## The door and the mail slot -/

/-- The door opens (R148, R132). -/
def State.doorOpens (s : State) : State :=
  if s.lib.doorOpen then s
  else
    let s := (s.modLib (fun l => { l with doorOpen := true, sweepDue := false })).post (.door true)
    let s := if s.lib.picker.state = .idle then s.modPicker (fun k => { k with state := .halted }) else s
    s.refuseMedia .doorOpen

/-- The door closes (R150): the sweep starts, or is held while the picker finishes its command or until the links start. -/
def State.doorCloses (s : State) : State :=
  if !s.lib.doorOpen then s
  else
    let s := (s.modLib (fun l => { l with doorOpen := false })).post (.door false)
    if s.lib.picker.state = .moving ∨ s.power ≠ .running then s.modLib (fun l => { l with sweepDue := true })
    else s.startSweep

/-- The picker is moving a platter into or out of the mail slot (R123). While an EXPORT waits at its drive for UNLOADED no move has begun
yet, and the sensor's reports are taken (assumption log 57). -/
def State.mailMoving (s : State) : Bool :=
  match s.lib.picker.move, s.lib.picker.since with
  | some m, some _ => m.dst.isSome && (m.src == .mail || m.dst == some .mail)
  | _, _ => false

/-- The mail slot is filled (R123, R146). -/
def State.mailFilled (s : State) : State :=
  if s.mailMoving ∨ s.lib.mail ≠ .empty then s
  else (s.modLib (fun l => { l with mail := .incoming })).serveMail

/-- The mail slot is emptied (R123, R144). -/
def State.mailEmptied (s : State) : State :=
  if s.mailMoving then s
  else
    match s.lib.mail with
    | .empty => s
    | .incoming => s.modLib (fun l => { l with mail := .empty })
    | .outgoing id => (s.modLib (fun l => { l with mail := .empty })).exportComplete id

end Sys2Proof.Machine
end

