-- ==== Sys2Proof/Machine/Report.lean ====
section
/-!
DEFINITION. The STATUS response, part by part (09, R194; 10, Table 10-6).
-/
namespace Sys2Proof.Machine

/-- The longest run of free staging blocks (R118): a free run begins at block 0 or where a segment ends, and runs to the next
segment or the end of the area. -/
def longestRun (segs : List Segment) : Nat :=
  let starts := (0 :: segs.map (fun g => g.first + g.len)).filter (fun a => runFree segs a 1)
  let ends (a : Nat) : Nat := ((segs.map (·.first)).filter (fun b => decide (a < b))).foldl min Config.ringBlocks
  (starts.map (fun a => ends a - a)).foldl max 0

/-- The platter-side of an item's demand (R103): of the demand it waits on, and, once that has been met, of the drive whose work list
holds its fill (assumption log 81). -/
def State.demandSideOf (s : State) (r : ItemRef) (n : InstrNum) : Option PlatterSide :=
  match s.lib.demands.find? (fun q => q.waiters.any (fun w => match w with | .item r' _ _ => r' == r | .filing _ => false)) with
  | some q => some q.side
  | none =>
    (DriveNo.all.find? (fun d => (s.drive d).work.contains (.fill n))).bind (fun d =>
      (s.drive d).platter.bind (fun p => p.id.map (fun id => ⟨id, p.side⟩)))

/-- An operation's part (R103). The selected blocks are 0 for an item that is not DELIVERING or whose page map has not been read
(assumption log 61). -/
def State.opView (s : State) (o : Op) : OpView :=
  let item := if o.current = 0 then none else o.items[o.current - 1]?
  let r : ItemRef := ⟨o.reply.link, o.reply.tag, o.current⟩
  let waits : Bool := match item with | some i => i.phase == .waitingMount | none => false
  let sel : Nat := match item, (s.outChans.get o.reply.link).offsets with
    | some i, some offs =>
      if s.serves r then
        match i.range, s.segmentOf r with
        | some (f, l), some g => (selectedRun offs f l g.len).2
        | _, _ => 0
      else 0
    | _, _ => 0
  { link := o.reply.link, tag := o.reply.tag, code := o.reply.code, current := o.current, phase := item.map (·.phase),
    demand := if waits then (item.bind (·.resolved)).bind (fun v => s.demandSideOf r v.inst) else none,
    delivered := (item.map (·.delivered)).getD 0, selected := sel }

/-- A channel's part (R118). -/
def chanView (n : ChanName) (c : Chan) : ChanView := { name := n, state := c.state, op := c.op, remaining := c.remaining }

/-- The twelve channels, in the order of Table 10-6. -/
def State.chanViews (s : State) : List ChanView :=
  DriveNo.all.map (fun d => chanView (.drive d) (s.driveChans.get d).chan) ++
  Link.all.map (fun l => chanView (.inbound l) (s.inChans.get l).chan) ++
  Link.all.map (fun l => chanView (.outbound l) (s.outChans.get l).chan)

/-- A drive's part (R147). -/
def Drive.view (r : Drive) : DriveView :=
  { state := r.state, platter := r.platter, loadTime := r.loadTime, pinned := r.pinned, retry := r.retry, work := r.work.length }

/-- A demand's part (R147). -/
def State.demandView (s : State) (q : Demand) : DemandView :=
  { side := q.side, mounting := q.mounting, cls := q.cls, aged := s.aged q, age := min (s.ref - q.age) Config.topSec, waiters := q.waiters.length }

/-- A filing slot's part (R77); the attempt count of a filing not yet committed is 0, the model's choice (assumption log 71). -/
def filingView (f : Option Filing) : FilingView :=
  match f with
  | none => { state := none, inst := ⟨0, 0⟩, owner := .l0, blocks := 0, attempts := 0 }
  | some f => { state := some f.state, inst := f.inst, owner := f.owner, blocks := f.blocks, attempts := (f.commit.map (·.attempts)).getD 0 }

/-- A line's part (R194). -/
def Line.view (l : Line) : LineView := { enabled := l.enabled, queued := l.queue.length, lamp := l.lamp, offered := l.offered }

/-- A segment's part (R118). -/
def Segment.view (g : Segment) : SegmentView :=
  { inst := g.inst, len := g.len, staged := g.staged, complete := g.complete, users := g.users.length }

/-- A link's part (R194). -/
def State.linkView (s : State) (l : Link) : LinkView :=
  let k := s.links.get l
  { rights := s.rights.get l, tags := k.tags, queued := k.responses.length, frameErrors := k.frameErrors, strays := k.strays, resetAsserted := k.resetAsserted }

/-- The enables in force. -/
def State.enables (s : State) : List Bool := Quad.all.map (fun q => (s.lines.get q).enabled)

/-- The settings values stored; of a blank memory, the defaults it stands for (R159, R160; assumption log 46). -/
def State.storedSettings (s : State) : SettingsRec := s.settings.known.getD SettingsRec.default

/-- How many slot records satisfy a test. -/
def CatMem.countSlots (c : CatMem) (p : SlotUse → Bool) : Nat := (c.slots.filter (fun r => p r.use)).length

/-- STATUS (R194). The order of the operations, of the segments and of the accounts with copies in flight is the model's choice (assumption
log 91). -/
def State.statusBody (s : State) (named : Option Nat) : StatusBody :=
  { absentMode := s.absentMode, entries := s.cat.table.length, clock := s.clock.view s.cat.target,
    lines := Quad.all.map (fun q => (s.lines.get q).view),
    filings := Quad.all.map (fun q => filingView (s.filings.get q)),
    commitQueue := s.commitQueue, filingSide := s.openSide, ops := s.ops.map s.opView,
    ringHeld := s.ring.length, ringFree := s.ringFree,
    ringTail := match s.ring.head? with | some b => if b.mark = .live then some b.slot else none | none => none,
    ringLive := Quad.all.map s.liveBlocks,
    stagingFree := Config.ringBlocks - (s.segments.map (·.len)).sum, stagingRun := longestRun s.segments,
    spaceWaiters := s.spaceFifo.length, segments := s.segments.map Segment.view, channels := s.chanViews,
    drives := DriveNo.all.map (fun d => (s.drive d).view), picker := s.lib.picker.state, pickerHeld := s.lib.picker.held,
    pickerMove := s.lib.picker.move, doorOpen := s.lib.doorOpen, mail := s.lib.mail, outcome := s.lib.outcome,
    sweepRunning := s.lib.sweep.running, sweptOnce := s.lib.sweptOnce,
    demands := (s.ranked s.lib.demands).map s.demandView, platters := s.cat.platters.length,
    freeSlots := Config.storageSlots - s.cat.slots.length,
    reservedSlots := s.cat.countSlots (fun u => match u with | .reserved _ => true | _ => false),
    foreignSlots := s.cat.countSlots (fun u => u == .foreignOccupied),
    named := named.bind s.platter?, grand := s.cat.grand, period := s.cat.period, snapshotHeld := s.cat.snapshot.isSome,
    inFlight := (s.cat.accounts.filter (fun a => decide (0 < a.inFlight))).map (fun a => (a.code, a.inFlight)),
    links := Link.all.map s.linkView, settingsBlank := s.settings.wasBlank, drivesInForce := s.settings.drives,
    enablesInForce := s.enables, stored := s.storedSettings }

/-- STATUS (R194). -/
def handleStatus (s : State) (r : Reply) (o : OptField) : State :=
  match optNat? o with
  | none => s.answer r .badField
  | some named => s.respond r .done (.status (s.statusBody named))

end Sys2Proof.Machine
end

