-- ==== Sys2Proof/Machine/Links.lean ====
section
/-!
DEFINITION. The Link Unit (09): frames in and out, tags, routing and rights, attention and events, link reset.
-/
namespace Sys2Proof.Machine

/-! ## Requests LNK owns -/

/-- Some link holds ADMIN (R190). -/
def someAdmin (r : Three (BitVec 8)) : Bool := holds r.a0 rAdmin || holds r.a1 rAdmin || holds r.a2 rAdmin

/-- RIGHTS_SET (R190). -/
def handleRightsSet (s : State) (r : Reply) (target rights : Nat) : State :=
  match Link.ofNat? target with
  | none => s.answer r .badField
  | some l =>
    let set := BitVec.ofNat 8 rights
    let new := s.rights.set l set
    if !someAdmin new then s.answer r .lastAdmin
    else State.askWrite { s with rights := new } .inForce r

/-- EVENTS_READ (R192). -/
def handleEventsRead (s : State) (r : Reply) : State :=
  let k := s.links.get r.link
  s.respond r .done (.attention k.attention k.enable)

/-- EVENTS_ACK (R192). -/
def handleEventsAck (s : State) (r : Reply) (set : Nat) : State :=
  if !kindSetOk set then s.answer r .badField
  else
    let s := s.modLink r.link (fun k => { k with attention := k.attention.filter (fun a => !inKindSet (BitVec.ofNat 10 set) a.kind) })
    s.respond r .done (.attentionKinds (kinds (s.links.get r.link).attention))

/-- EVENTS_ENABLE (R193). -/
def handleEventsEnable (s : State) (r : Reply) (set : Nat) : State :=
  if !kindSetOk set then s.answer r .badField
  else
    let s := s.modLink r.link (fun k => { k with enable := BitVec.ofNat 10 set })
    s.respond r .done (.bothSets (kinds (s.links.get r.link).attention) (BitVec.ofNat 10 set))

/-! ## Routing (R188, R189) -/

/-- The unit that owns a request takes it (R189). -/
def State.handle (s : State) (r : Reply) (q : Request) : State :=
  match q with
  | .lookup n => handleLookup s r n
  | .pendingList a => handlePendingList s r a
  | .folioSearch f a m => handleFolioSearch s r f a m
  | .restore p => handleRestore s r p
  | .catalogueReady => handleCatalogueReady s r
  | .lodge => handleLodge s r
  | .clockRead => handleClockRead s r
  | .clockLoad v => handleClockLoad s r v
  | .clockStep n => handleClockStep s r n
  | .clockTrim f => handleClockTrim s r f
  | .closeTargetSet t m v => handleCloseTargetSet s r t m v
  | .openFiling o => handleOpenFiling s r o
  | .feed f p b => handleFeed s r f p b
  | .commit p => handleCommit s r p
  | .abandon f => handleAbandon s r f
  | .withdraw n => handleWithdraw s r n
  | .closeSide => handleCloseSide s r
  | .fetch p => handleFetch s r p
  | .bundle p => handleBundle s r p
  | .quote p => handleQuote s r p
  | .importPlatter => handleImport s r
  | .exportPlatter p => handleExport s r p
  | .substitute a b => handleSubstitute s r a b
  | .driveReset d => handleDriveReset s r d
  | .settingsSet c e => handleSettingsSet s r c e
  | .scheduleSet f c => handleScheduleSet s r f c
  | .accountSet a p => handleAccountSet s r a p
  | .accountRead a => handleAccountRead s r a
  | .periodTake a => handlePeriodTake s r a
  | .periodClear p => handlePeriodClear s r p
  | .rightsSet l x => handleRightsSet s r l x
  | .eventsRead => handleEventsRead s r
  | .eventsAck k => handleEventsAck s r k
  | .eventsEnable k => handleEventsEnable s r k
  | .status o => handleStatus s r o

/-- LNK's checks after the tag has been taken, and the unit (R188). -/
def State.route (s : State) (r : Reply) (q : Request) : State :=
  if !q.allowed (s.rights.get r.link) then s.answer r .noRight
  else if s.absentMode && !q.takenAbsent then s.answer r .catalogueAbsent
  else s.handle r q

/-! ## Frames in (R184, R185, R187) -/

/-- A refusal response: it takes no tag (R187). -/
def State.refuseFrame (s : State) (l : Link) (tag : Option Nat) (code : Nat) (st : Status) : State :=
  s.modLink l (fun k => { k with responses := k.responses ++ [{ tag := tag, code := code, status := st, body := .none }] })

/-- A frame refused BAD_FRAME: the frame error count rises, and the response carries the tag where it is 0 to 3 (R185), and the code as
received where it is one of Chapter 10's (10, Table 10-1). -/
def State.badFrame (s : State) (l : Link) (f : BadFrame) : State :=
  let tag := f.tag.filter (fun t => decide (t ≤ 3))
  let code := if knownCodes.contains f.code then f.code else 0
  (s.modLink l (fun k => { k with frameErrors := satAdd Config.max16 k.frameErrors 1 })).refuseFrame l tag code .badFrame

/-- A tag of a link is in use (R187). -/
def State.tagInUse (s : State) (l : Link) (t : Nat) : Bool := (s.links.get l).tags.getLsbD t

/-- A tag set in use or free. -/
def setTag (tags : BitVec 4) (t : Nat) (v : Bool) : BitVec 4 :=
  if v then tags ||| (1#4 <<< t) else tags &&& ~~~(1#4 <<< t)

/-- A request frame is taken: the frame check, the tag check, the tag, and then the route (R185, R187, R188). -/
def State.takeRequest (s : State) (l : Link) (tag : Nat) (q : Request) : State :=
  if 3 < tag ∨ !q.lengthOk then s.badFrame l { tag := some tag, code := q.code }
  else if s.tagInUse l tag then s.refuseFrame l (some tag) q.code .busy
  else
    let r : Reply := { link := l, tag := tag, gen := (s.links.get l).resetCount, code := q.code }
    (s.modLink l (fun k => { k with tags := setTag k.tags tag true })).route r q

/-- One thing taken off the inbound lane, with all that follows from it. -/
def State.takeInput (s : State) (l : Link) (x : LaneInput) : State :=
  match x with
  | .stray => s.modLink l (fun k => { k with strays := satAdd Config.max16 k.strays 1 })
  | .bad f => s.badFrame l f
  | .request t q => (s.takeRequest l t q).settle

/-- The controller acknowledges what stands on the lane (R184): the links run, the reset input is negated, and, for the first byte of a
frame, In is IDLE and fewer than four refusal responses are queued. -/
def State.acknowledges (s : State) (l : Link) (x : LaneInput) : Bool :=
  let k := s.links.get l
  s.power == .running && !k.resetAsserted &&
    (match x with
     | .stray => true
     | _ => (s.inChans.get l).store.isNone && decide ((k.responses.filter Response.isRefusal).length < Config.maxRefusals))

/-- What waits on a lane is taken, oldest first, as far as it is acknowledged. -/
def State.drainFor : Nat → State → Link → State
  | 0, s, _ => s
  | n + 1, s, l =>
    match (s.links.get l).lane with
    | [] => s
    | x :: rest =>
      if s.acknowledges l x then
        State.drainFor n ((s.modLink l (fun k => { k with lane := rest })).takeInput l x) l
      else s

/-- One lane drained. -/
def State.drain (s : State) (l : Link) : State := s.drainFor (s.links.get l).lane.length l

/-- All lanes drained, in the order of the links (assumption log 5). -/
def State.drainAll (s : State) : State := ((s.drain .l0).drain .l1).drain .l2

/-- A request on this link's lane could be taken now and handed to its unit: it would be acknowledged, a tag is free, and it passes the checks
of LNK (R184, R187, R188). -/
def State.couldAsk (s : State) (l : Link) (q : Request) : Bool :=
  s.acknowledges l (.request 0 q) && q.lengthOk && (s.links.get l).tags != 15#4 && q.allowed (s.rights.get l) && (!s.absentMode || q.takenAbsent)

/-- Something arrives on an inbound lane: it is taken, or waits behind what waits already (R184). While the controller is unpowered
nothing is held. -/
def State.arrive (s : State) (l : Link) (x : LaneInput) : State :=
  if s.power = .off then s
  else if (s.links.get l).lane.isEmpty && s.acknowledges l x then s.takeInput l x
  else s.modLink l (fun k => { k with lane := k.lane ++ [x] })

/-! ## Frames out (R115, R186) -/

/-- A queued response may be sent now: the lane has no frame in progress, and On is not forming a DATA frame that no queued response goes
ahead of (R115). -/
def State.maySend (s : State) (l : Link) : Bool :=
  let c := s.outChans.get l
  (s.links.get l).out.isNone && (c.chan.state != .running || c.offsets.isNone || decide (0 < c.ahead))

/-- A queued response is sent (R115). -/
def State.responseSend (s : State) (l : Link) : State :=
  match (s.links.get l).responses with
  | [] => s
  | r :: rest =>
    if s.maySend l then
      (s.modLink l (fun k => { k with responses := rest, out := some (.response r) })).modOutChan l (fun c => { c with ahead := c.ahead - 1 })
    else s

/-- The host has acknowledged a response's last byte: its tag, if it holds one, is free, and a DATA frame that waits may be offered (R186,
R187). -/
def State.responseAccepted (s : State) (l : Link) : State :=
  match (s.links.get l).out with
  | some (.response r) =>
    let s := s.modLink l (fun k => { k with
      out := none
      tags := match r.tag with
        | some t => if r.isRefusal then k.tags else setTag k.tags t false
        | none => k.tags })
    s.offerFrame l
  | _ => s

/-! ## Link reset (R195, R118, R102) -/

/-- A link's record as its reset leaves it (R195). -/
def LinkRec.resetLink (k : LinkRec) : LinkRec :=
  { k with tags := 0#4, responses := [], out := none, attention := [], enable := 0#10, frameErrors := 0, strays := 0, resetCount := k.resetCount + 1, resetAsserted := true }

/-- A media request of a link's (R195). -/
def MediaReq.ofLink (l : Link) (m : MediaReq) : Bool :=
  match m with
  | .importReq (some r) => r.link == l
  | .importReq none => false
  | .exportReq r _ => r.link == l

/-- The leading edge of a link reset (R195): the link forgets its work, and the units act. -/
def State.resetEdge (s : State) (l : Link) : State :=
  let s := s.modLink l LinkRec.resetLink
  let s := s.abortOps l
  let s := (s.setInChan l InChan.idle).idleOut l
  s.modLib (fun b => { b with media := b.media.filter (fun m => !m.ofLink l) })

/-- The link reset input is asserted: an edge only where it was negated; before the links run only the level is taken (assumption log 21). -/
def State.linkReset (s : State) (l : Link) : State :=
  if (s.links.get l).resetAsserted then s
  else if s.power = .running then s.resetEdge l
  else s.modLink l (fun k => { k with resetAsserted := true })

/-- The link reset input is negated: the link takes frames again (R195). -/
def State.linkRelease (s : State) (l : Link) : State := (s.modLink l (fun k => { k with resetAsserted := false })).drain l

end Sys2Proof.Machine
end

