-- ==== Sys2Proof/Machine/StartUp.lean ====
section
/-!
DEFINITION. Power-on, the start of the links, and power failure (07, section 7.3; 01, section 1.7).
-/
namespace Sys2Proof.Machine

/-! ## The first phase of start-up (R156) -/

/-- The settings record read at power-on, none for a blank memory (R159). -/
def State.readSettings (s : State) (a : SettingsAnswer) : Option SettingsRec :=
  match a with
  | .kept => s.settings.stored
  | .unrecognised | .silent => none

/-- Settings memory after its reading: a record not recognised is no record any more; a memory that does not answer keeps what it holds,
unread. -/
def State.storedAfter (s : State) (a : SettingsAnswer) : Option SettingsRec :=
  match a with
  | .unrecognised => none
  | _ => s.settings.stored

/-- The update record examined: a whole change is applied (R22). -/
def State.replay (s : State) : CatMem :=
  match s.update with
  | .complete m => m
  | _ => s.cat

/-- The events of a change that power-on completes: PERIOD_CLOSED for a close, CATALOGUE_LOW for a create that leaves few entries free (R156,
R178, R6; assumption log 52). -/
def State.replayEvents (s : State) : List Event :=
  match s.update with
  | .complete m =>
    let free := Config.maxEntries - m.table.length
    (if m.period = s.cat.period then [] else [s.cat.closeEvent]) ++
      (if s.cat.table.length < m.table.length ∧ free ≤ Config.lowEntries then [.catalogueLow free] else [])
  | _ => []

/-- The table holds what the stored count says, in strictly ascending order (R23). -/
def CatMem.agrees (c : CatMem) : Bool :=
  c.storedCount == c.table.length && risingKeys Entry.key c.table && decide (c.table.length ≤ Config.maxEntries)

/-- An entry as the power-on of a kept catalogue leaves it: FILING becomes LODGED, and no claim stands (R25). -/
def Entry.afterPower (e : Entry) : Entry :=
  { e with
    state := match e.state with
      | .filing _ => .lodged
      | st => st
    claim := none }

/-- A platter's location as power-on leaves it: UNKNOWN where it was in the picker, or in a drive that did not answer FAULT (R157). -/
def PlatterLoc.afterPower (faulty : DriveNo → Bool) (l : PlatterLoc) : PlatterLoc :=
  match l with
  | .picker => .unknown
  | .drive d => if faulty d then .drive d else .unknown
  | l => l

/-- Catalogue memory after the validity check, the power-on changes, and the in-flight counts zeroed (R23, R25, R183). -/
def CatMem.started (c : CatMem) (found : MemoryFound) : CatMem :=
  if found = .kept ∧ c.marker ≠ .unrecognised ∧ c.agrees then
    { c with
      table := if c.marker = .valid then c.table.map Entry.afterPower else c.table
      accounts := c.accounts.map (fun a => { a with inFlight := 0 }) }
  else CatMem.cleared

/-- The clock as power-on sets it (R36): `before` is the value the clock store is found with, and the base trim the store holds after its
battery supply was broken is 0 (assumption log 65). -/
def Clock.started (c : Clock) (lost : Bool) (before : Stamp) (base : Int) : Clock :=
  let kept := c.continuity && !lost
  { now := if kept then before else ⟨0, 0⟩, valid := kept && c.valid, continuity := kept,
    storeTrim := if lost then 0 else c.storeTrim, base := base, temp := 0, tempLeft := 0, acc := 0 }

/-- The side in drive d of the platter recorded there, whose side facing the head no rule gives: a free value (assumption log 24). -/
def State.freeSide (s : State) (d : DriveNo) : Side :=
  if Config.freeSide (s.freeCtr * 8 + d.toNat) = 0#1 then .s0 else .s1

/-- The drive record an answer decides (R157); drives above the installed count are ABSENT. A platter found inside has no load time, of which R157
gives none: the model's choice (assumption log 73). -/
def State.startDrive (s : State) (c : CatMem) (installed : Bool) (d : DriveNo) (a : DriveAnswer) : Drive :=
  if !installed then Drive.vacant .absent
  else
    match a with
    | .noPlatter => Drive.vacant .empty
    | .ejected sd => { Drive.vacant .unloading with platter := some { id := none, side := sd } }
    | .silent => Drive.vacant .absent
    | .fault =>
      { Drive.vacant .fault with
        platter := (c.platters.find? (fun p => p.loc == .drive d)).map (fun p => { id := some p.id, side := s.freeSide d }) }

/-- The events of the drives, of the installed count, that did not answer their UNLOAD with UNLOADED (R157). All drives are identified
together, so that a FAULT report is there before a drive's 30 s of silence are over; drives of one kind are taken in the order of their
numbers (assumption log 70). -/
def State.startFaults (s : State) (count : Nat) (answers : Six DriveAnswer) : List Event :=
  let those (a : DriveAnswer) : List DriveNo := DriveNo.all.filter (fun d => decide (d.toNat ≤ count) && answers.get d == a)
  (those .fault).map (fun d => .driveFault d (s.drive d).platter false) ++ (those .silent).map (fun d => .driveFault d none true)

/-- The Library Unit as step 6 leaves it (R157). -/
def State.startLibrary (s : State) (c : CatMem) (count : Nat) (p : PowerOn) : Library :=
  let inst (d : DriveNo) : Bool := decide (d.toNat ≤ count)
  let mk (d : DriveNo) : Drive := s.startDrive c (inst d) d (p.drives.get d)
  let drives : Six Drive := ⟨mk .d1, mk .d2, mk .d3, mk .d4, mk .d5, mk .d6⟩
  { Library.start with
    drives := drives
    picker := { Library.start.picker with state := if p.gripperHolds then .jammed else if p.doorOpen then .halted else .idle }
    returns := DriveNo.all.filter (fun d => (drives.get d).state == .unloading)
    doorOpen := p.doorOpen }

/-- The platter with the OPEN side, the last filing platter at power-on (R65). -/
def State.findLastFiling (s : State) : Option PlatterSide := s.openSide.map (·.1)

/-- What a reading of the clock store gives at power-on: a free value after its battery supply was broken (assumption log 45). -/
def State.foundClock (s : State) (lost : Bool) : Stamp :=
  if lost then
    let v := (Config.freeClock s.freeCtr).toNat
    ⟨v / 1024, v % 1024 % 1000⟩
  else s.clock.now

/-- Steps 1 to 4 of Table 7-1: settings, update record, validity check, clock and lines (R156). -/
def State.startMemory (s : State) (p : PowerOn) : State :=
  let found := s.readSettings p.settings
  let rec' := found.getD SettingsRec.default
  let cat := (s.replay).started p.memory
  let before := s.foundClock p.batteryLost
  let clock := s.clock.started p.batteryLost before rec'.trim
  { State.reset with
    pending := s.pending
    power := .starting
    cat := cat
    absentMode := decide (cat.marker ≠ .valid)
    clock := clock
    lines := ⟨Line.start rec'.enables.a1 s.lines.a1.pressed s.lines.a1.accept, Line.start rec'.enables.a2 s.lines.a2.pressed s.lines.a2.accept,
              Line.start rec'.enables.a3 s.lines.a3.pressed s.lines.a3.accept, Line.start rec'.enables.a4 s.lines.a4.pressed s.lines.a4.accept⟩
    settings := { stored := s.storedAfter p.settings, wasBlank := found.isNone, answered := decide (p.settings ≠ .silent), drives := rec'.drives, writing := none, waiting := [] }
    rights := rec'.rights
    links := ⟨LinkRec.start s.links.a0.resetAsserted, LinkRec.start s.links.a1.resetAsserted, LinkRec.start s.links.a2.resetAsserted⟩
    startEvents := s.replayEvents ++ (if clock.continuity then [] else [.clockChanged .powerOn before ⟨0, 0⟩])
    mem := s.mem
    freeCtr := s.freeCtr + 1 }

/-- Step 6 of Table 7-1: the picker and the door are read and the drives identified (R157). -/
def State.startMechanics (s : State) (p : PowerOn) : State :=
  let count := s.settings.drives
  let s := { s with lib := s.startLibrary s.cat count p }
  let s := s.modCat (fun c => { c with platters := c.platters.map (fun q => { q with
    loc := q.loc.afterPower (fun d => (s.drive d).state == .fault) }) })
  let s := if p.doorOpen then s.post (.door true) else s
  let s := if p.gripperHolds then s.post (.pickerJammed none none) else s
  { s with
    lastFiling := s.findLastFiling
    startEvents := s.startEvents ++ s.startFaults count p.drives }

/-- Power-on: the first phase of start-up, with the close target tested once between the memories and the mechanics (R156, R39). A
controller already powered takes no power-on. -/
def State.powerOn (s : State) (p : PowerOn) : State :=
  if s.power = .off then ((s.startMemory p).testClose).startMechanics p else s

/-! ## The links start (R157) -/

/-- The links start: the events of the first phase are posted, in the order they arose, and the second phase begins: the first sweep starts
where the door is CLOSED and the picker IDLE, or where a closing was held (R156, R157, R150). -/
def State.linksStart (s : State) : State :=
  if s.power = .starting then
    let evs := s.startEvents
    let s : State := { s with power := .running, startEvents := [] }
    let s := evs.foldl (fun s e => s.post e) s
    let s := if !s.lib.doorOpen && (s.lib.picker.state == .idle || s.lib.sweepDue) then s.startSweep else s
    (s.settle).drainAll
  else s

/-! ## Power failure (R22, R26) -/

/-- The commit of a slot is at its last compare: its verify pass runs, with one block remaining and no abandon pending (R71, R73). -/
def State.atLastCompare (s : State) (q : FSlot) : Bool :=
  match s.filUse with
  | some ⟨_, .verify d, some k, _, _⟩ => k == q && (s.driveChans.get d).chan.remaining == 1 && !s.abandonPending q
  | _ => false

/-- An item is at its last block: its DATA frame is offered, with one block remaining (R97, R99). -/
def State.atLastBlock (s : State) (r : ItemRef) : Bool :=
  let c := (s.outChans.get r.link).chan
  s.serves r && c.state == .paused && c.remaining == 1

/-- The catalogue memory a close leaves: one due now, or by the clock's next advance (R38, R178). -/
def State.closeImage (s : State) : CatMem :=
  let c := if s.cat.target.reached s.clock then s.clock else s.clock.advance
  if s.cat.target.reached c then s.cat.close c.now.sec else s.cat

/-- The catalogue memory a change leaves, as the update record holds it (R22, R174, R178); a change that would not be made in this state
leaves it as it is (assumption log 22). An item's end is one change, so that the record of its accrual holds the copies-delivered count as
well (R99; assumption log 62). -/
def State.imageOf (s : State) (c : UpdateChange) : CatMem :=
  match c with
  | .record q =>
    match s.filings.get q with
    | some f =>
      match f.commit, f.extent with
      | some k, some l => if s.atLastCompare q && s.cat.isFiling f.inst then s.cat.recordEntry f.inst l ⟨k.small, k.plan⟩ k.restricted (s.reserved.get q) else s.cat
      | _, _ => s.cat
    | none => s.cat
  | .release q =>
    match s.filings.get q with
    | some f => s.cat.releaseEntry f.inst
    | none => s.cat
  | .createFor (some q) _ =>
    match s.pressTest q with
    | .ok (n, t) => if s.pressEdge q then s.cat.addLodged n t (.line q) else s.cat
    | .error _ => s.cat
  | .createFor none l =>
    match s.issueTest with
    | .ok (n, t) => if s.couldAsk l .lodge then s.cat.addLodged n t (.link l) else s.cat
    | .error _ => s.cat
  | .restore p =>
    match s.restoreTest p with
    | .ok v => if Link.all.any (fun l => s.couldAsk l (.restore p)) then s.cat.restored p v else s.cat
    | .error _ => s.cat
  | .claims =>
    match s.mapReads with
    | [] => s.cat
    | m :: _ =>
      match s.commitTests m.reply.link m.p with
      | .ok (q, f, _, fs, ts) =>
        if (s.admissionFault f (Memory.readBlock s.mem (s.ringPos q 0)) m.p fs ts).isNone then s.cat.setClaims f.inst ts else s.cat
      | .error _ => s.cat
  | .catalogueReady => if s.absentMode && Link.all.any (fun l => s.couldAsk l .catalogueReady) then s.cat.ready else s.cat
  | .accrue l t =>
    match s.op? l t with
    | some o =>
      match (o.items[o.current - 1]?).bind (·.copyDone) with
      | some (q, n) => if s.atLastBlock ⟨l, t, o.current⟩ then s.cat.copyMade o.account q n else s.cat
      | none => s.cat
    | none => s.cat
  | .close => s.closeImage

/-- The update record as the failure leaves it (R22). -/
def State.cutRecord (s : State) (c : PowerCut) : UpdateRecord :=
  match c with
  | .clear => .clear
  | .partly => .partly
  | .complete c => .complete (s.imageOf c)

/-- The supply fails (R26): the controller stops; catalogue memory, settings memory and the clock store keep what they hold, the store's base
trim being the one in force, and everything in working store is lost. The levels of the inputs stay what they are, and buffer memory's contents are
never read before they are written. A frame that waits unacknowledged on an inbound lane is gone (assumption log 74), and so is a
settings write that runs or waits, the record staying as it was (assumption log 77): the model's choices. -/
def State.powerFail (s : State) (c : PowerCut) : State :=
  if s.power = .off then s
  else
    { State.reset with
      pending := s.pending
      power := .off
      cat := s.cat
      update := s.cutRecord c
      clock := { s.clock with storeTrim := s.clock.base, temp := 0, tempLeft := 0, acc := 0 }
      lines := ⟨Line.start s.lines.a1.enabled s.lines.a1.pressed s.lines.a1.accept, Line.start s.lines.a2.enabled s.lines.a2.pressed s.lines.a2.accept,
                Line.start s.lines.a3.enabled s.lines.a3.pressed s.lines.a3.accept, Line.start s.lines.a4.enabled s.lines.a4.pressed s.lines.a4.accept⟩
      settings := { s.settings with writing := none, waiting := [] }
      rights := s.rights
      links := ⟨LinkRec.start s.links.a0.resetAsserted, LinkRec.start s.links.a1.resetAsserted, LinkRec.start s.links.a2.resetAsserted⟩
      startEvents := []
      mem := s.mem
      freeCtr := s.freeCtr }

end Sys2Proof.Machine
end

