-- ==== Sys2Proof/Machine/SupplyCommands.lean ====
section
/-!
DEFINITION. The commands of the supply, of the time base and of the lodgement lines (02; 07, sections 7.3 and 7.4), and the way every
command answers.
-/
namespace Sys2Proof.Machine

/-- What a command answers: a next state, always, with the work it has handed over done (assumption log 3). -/
def done (s : State) : Host.Outcome State Fault Refusal := .next s.settle

/-! ## Supply -/

/-- POWER_ON: the first phase of start-up (R156). -/
def execPowerOn (p : PowerOn) (s : State) : Host.Outcome State Fault Refusal := done (s.powerOn p)

/-- LINKS_START: the end of the first phase (R156, R157). -/
def execLinksStart (s : State) : Host.Outcome State Fault Refusal := done s.linksStart

/-- POWER_FAIL (R26, R22). -/
def execPowerFail (c : PowerCut) (s : State) : Host.Outcome State Fault Refusal := done (s.powerFail c)

/-- SETTINGS_WRITE_END (R35, R159). -/
def execSettingsWriteEnd (ok : Bool) (s : State) : Host.Outcome State Fault Refusal := done (s.endWrite ok)

/-! ## The time base (assumption log 7) -/

/-- CLOCK_ADVANCE: one millisecond, with whatever it brings (R26). -/
def execClockAdvance (s : State) : Host.Outcome State Fault Refusal := done s.tick

/-- TRIM_ACCUMULATOR_OVERFLOW: the millisecond at which the accumulator reaches 1,000,000 (R27). -/
def execTrimAccumulatorOverflow (s : State) : Host.Outcome State Fault Refusal :=
  done (if s.clock.overflows then s.tick else s)

/-- TEMPORARY_TRIM_EXPIRY: the millisecond at which the temporary trim's remaining duration reaches 0 (R28). -/
def execTemporaryTrimExpiry (s : State) : Host.Outcome State Fault Refusal :=
  done (if s.clock.expires then s.tick else s)

/-- The target is reached by the clock's next advance (R38). -/
def State.closeComes (s : State) : Bool := s.powered && s.cat.target.reached s.clock.advance

/-- CLOSE_TARGET_REACHED: the close is taken, where the clock stands at the target or comes to it with this millisecond (R38). -/
def State.closeReached (s : State) : State :=
  if s.powered && s.cat.target.reached s.clock then s.closePeriod
  else if s.closeComes then s.tick
  else s

@[inherit_doc State.closeReached]
def execCloseTargetReached (s : State) : Host.Outcome State Fault Refusal := done s.closeReached

/-! ## Lodgement lines -/

/-- PRESS (R45). -/
def execPress (q : LineNo) (s : State) : Host.Outcome State Fault Refusal := done (s.pressInput q)

/-- PRESS_INPUT_INACTIVE (R45). -/
def execPressInputInactive (q : LineNo) (s : State) : Host.Outcome State Fault Refusal := done (s.pressRelease q)

/-- PRINTER_ACCEPT (R47). -/
def execPrinterAccept (q : LineNo) (s : State) : Host.Outcome State Fault Refusal := done (s.printerAccept q)

/-- PRINTER_ACCEPT_NEGATED (R47). -/
def execPrinterAcceptNegated (q : LineNo) (s : State) : Host.Outcome State Fault Refusal := done (s.printerRelease q)

end Sys2Proof.Machine
end

