-- ==== Sys2Proof/Machine/LaneCommands.lean ====
section
/-!
DEFINITION. The commands of the lanes, of the outbound channels and of the buffer port (05; 09, sections 9.1 to 9.3 and 9.8).
-/
namespace Sys2Proof.Machine

/-- STRAY_BYTE (R185). -/
def execStrayByte (l : Link) (s : State) : Host.Outcome State Fault Refusal := done (s.arrive l .stray)

/-- BAD_FRAME (R185). -/
def execBadFrame (l : Link) (f : BadFrame) (s : State) : Host.Outcome State Fault Refusal := done (s.arrive l (.bad f))

/-- RESPONSE_SEND (R115); a refusal response sent may let the lane be taken again (R184). -/
def execResponseSend (l : Link) (s : State) : Host.Outcome State Fault Refusal := done ((s.responseSend l).drain l)

/-- RESPONSE_ACCEPTED (R186, R187). -/
def execResponseAccepted (l : Link) (s : State) : Host.Outcome State Fault Refusal := done (s.responseAccepted l)

/-- DATA_ACCEPTED (R114, R97, R99). -/
def execDataAccepted (l : Link) (s : State) : Host.Outcome State Fault Refusal := done (s.dataAccepted l)

/-- DELIVERY_TIMEOUT (R98). -/
def execDeliveryTimeout (l : Link) (s : State) : Host.Outcome State Fault Refusal := done (s.deliveryTimeout l)

/-- BUFFER_PORT_MOVE (R116): what follows from the move is done first, and then a lane whose channel has become IDLE is taken (assumption
log 5). -/
def execBufferPortMove (parity : Bool) (s : State) : Host.Outcome State Fault Refusal :=
  done (((s.portMove parity).settle).drainAll)

/-- LINK_RESET (R195). -/
def execLinkReset (l : Link) (s : State) : Host.Outcome State Fault Refusal := done (s.linkReset l)

/-- LINK_RESET_RELEASE (R195). -/
def execLinkResetRelease (l : Link) (s : State) : Host.Outcome State Fault Refusal := done (s.linkRelease l)

end Sys2Proof.Machine
end

