-- ==== Sys2Proof/Machine/MechanismCommands.lean ====
section
/-!
DEFINITION. The reports and timers of drives, picker, door and mail slot, and the filing slots' idle timer (03; 06; 07). An unpowered
controller takes none of them (assumption log 8).
-/
namespace Sys2Proof.Machine

/-- A report or timer taken while the controller is powered. -/
def State.whenPowered (s t : State) : State := if s.powered then t else s

/-- FILING_IDLE_TIMEOUT (R55). -/
def execFilingIdleTimeout (q : FSlot) (s : State) : Host.Outcome State Fault Refusal := done (s.whenPowered (s.idleExpiry q))

/-- DRIVE_READY_REPORT (R138). -/
def execDriveReadyReport (d : DriveNo) (s : State) : Host.Outcome State Fault Refusal := done (s.whenPowered (s.readyReport d))

/-- DRIVE_UNLOADED_REPORT (R129). -/
def execDriveUnloadedReport (d : DriveNo) (s : State) : Host.Outcome State Fault Refusal :=
  done (s.whenPowered (s.unloadedReport d))

/-- DRIVE_BLOCK_REPORT (R112). -/
def execDriveBlockReport (d : DriveNo) (b : BlockReport) (s : State) : Host.Outcome State Fault Refusal :=
  done (s.whenPowered (s.blockReport d b))

/-- DRIVE_DONE_REPORT (R70, R112). -/
def execDriveDoneReport (d : DriveNo) (s : State) : Host.Outcome State Fault Refusal := done (s.whenPowered (s.doneReport d))

/-- DRIVE_MEDIUM_ERROR (R74). -/
def execDriveMediumError (d : DriveNo) (s : State) : Host.Outcome State Fault Refusal := done (s.whenPowered (s.mediumError d))

/-- DRIVE_UNREADABLE (R94, R71). -/
def execDriveUnreadable (d : DriveNo) (s : State) : Host.Outcome State Fault Refusal := done (s.whenPowered (s.unreadable d))

/-- DRIVE_FAULT_REPORT (R127). -/
def execDriveFaultReport (d : DriveNo) (s : State) : Host.Outcome State Fault Refusal := done (s.whenPowered (s.faultReport d))

/-- DRIVE_COMMAND_TIMEOUT (R126). -/
def execDriveCommandTimeout (d : DriveNo) (s : State) : Host.Outcome State Fault Refusal :=
  done (s.whenPowered (s.driveTimeout d))

/-- RESIDENCY_EXPIRY (R136). -/
def execResidencyExpiry (d : DriveNo) (s : State) : Host.Outcome State Fault Refusal :=
  done (s.whenPowered (s.residencyExpiry d))

/-- PICKER_MOVE_DONE (R129). -/
def execPickerMoveDone (s : State) : Host.Outcome State Fault Refusal := done (s.whenPowered s.moveDone)

/-- PICKER_LABEL_REPORT (R129, R142, R152, R158). -/
def execPickerLabelReport (rep : LabelReport) (s : State) : Host.Outcome State Fault Refusal :=
  done (s.whenPowered (s.labelReport rep))

/-- PICKER_MOVE_TIMEOUT (R131). -/
def execPickerMoveTimeout (s : State) : Host.Outcome State Fault Refusal := done (s.whenPowered s.pickerTimeout)

/-- DOOR_OPENED (R148). -/
def execDoorOpened (s : State) : Host.Outcome State Fault Refusal := done (s.whenPowered s.doorOpens)

/-- DOOR_CLOSED (R150). -/
def execDoorClosed (s : State) : Host.Outcome State Fault Refusal := done (s.whenPowered s.doorCloses)

/-- MAIL_SLOT_FILLED (R123). -/
def execMailSlotFilled (s : State) : Host.Outcome State Fault Refusal := done (s.whenPowered s.mailFilled)

/-- MAIL_SLOT_EMPTIED (R123). -/
def execMailSlotEmptied (s : State) : Host.Outcome State Fault Refusal := done (s.whenPowered s.mailEmptied)

end Sys2Proof.Machine
end

