-- ==== Sys2Proof/Machine/StationCommands.lean ====
section
/-!
DEFINITION. The requests of the station links as commands: each arrives as a frame on its link's inbound lane (R184 to R188).
-/
namespace Sys2Proof.Machine

/-- A request frame arrives on a lane (R184, R185, R187). -/
def request (l : Link) (tag : Nat) (q : Request) (s : State) : Host.Outcome State Fault Refusal := done (s.arrive l (.request tag q))

/-- LOOKUP (R17). -/
def execLookup (link : Link) (tag : Nat) (inst : InstrNum) (s : State) : Host.Outcome State Fault Refusal :=
  request link tag (.lookup inst) s

/-- PENDING_LIST (R18). -/
def execPendingList (link : Link) (tag : Nat) (after : OptField) (s : State) : Host.Outcome State Fault Refusal :=
  request link tag (.pendingList after) s

/-- FOLIO_SEARCH (R16). -/
def execFolioSearch (link : Link) (tag : Nat) (folio : Nat) (after : OptField) (mode : Nat) (s : State) : Host.Outcome State Fault Refusal :=
  request link tag (.folioSearch folio after mode) s

/-- RESTORE (R19). -/
def execRestore (link : Link) (tag : Nat) (p : RestoreParams) (s : State) : Host.Outcome State Fault Refusal :=
  request link tag (.restore p) s

/-- CATALOGUE_READY (R21). -/
def execCatalogueReady (link : Link) (tag : Nat) (s : State) : Host.Outcome State Fault Refusal :=
  request link tag (.catalogueReady) s

/-- LODGE (R49). -/
def execLodge (link : Link) (tag : Nat) (s : State) : Host.Outcome State Fault Refusal :=
  request link tag (.lodge) s

/-- CLOCK_READ (R32). -/
def execClockRead (link : Link) (tag : Nat) (s : State) : Host.Outcome State Fault Refusal :=
  request link tag (.clockRead) s

/-- CLOCK_LOAD (R33). -/
def execClockLoad (link : Link) (tag : Nat) (value : Stamp) (s : State) : Host.Outcome State Fault Refusal :=
  request link tag (.clockLoad value) s

/-- CLOCK_STEP (R34). -/
def execClockStep (link : Link) (tag : Nat) (seconds : Int) (s : State) : Host.Outcome State Fault Refusal :=
  request link tag (.clockStep seconds) s

/-- CLOCK_TRIM_BASE (R35). -/
def execClockTrimBase (link : Link) (tag : Nat) (trim : Int) (s : State) : Host.Outcome State Fault Refusal :=
  request link tag (.clockTrim (.base trim)) s

/-- CLOCK_TRIM_TEMPORARY (R28). -/
def execClockTrimTemporary (link : Link) (tag : Nat) (trim : Int) (duration : Nat) (s : State) : Host.Outcome State Fault Refusal :=
  request link tag (.clockTrim (.temporary trim duration)) s

/-- CLOCK_TRIM_END, or a CLOCK_TRIM whose form byte names no form (R35, R197). -/
def execClockTrimEnd (link : Link) (tag : Nat) (form : Nat) (s : State) : Host.Outcome State Fault Refusal :=
  request link tag (.clockTrim (trimForm form)) s

/-- CLOSE_TARGET_SET (R37). -/
def execCloseTargetSet (link : Link) (tag : Nat) (target : Nat) (mode : Nat) (value : Nat) (s : State) : Host.Outcome State Fault Refusal :=
  request link tag (.closeTargetSet target mode value) s

/-- OPEN_FILING (R52). -/
def execOpenFiling (link : Link) (tag : Nat) (inst : OptField) (s : State) : Host.Outcome State Fault Refusal :=
  request link tag (.openFiling inst) s

/-- FEED (R53). -/
def execFeed (link : Link) (tag : Nat) (slot : Nat) (pageStart : Nat) (block : List Byte) (s : State) : Host.Outcome State Fault Refusal :=
  request link tag (.feed slot pageStart block) s

/-- COMMIT (R56). -/
def execCommit (link : Link) (tag : Nat) (p : CommitParams) (s : State) : Host.Outcome State Fault Refusal :=
  request link tag (.commit p) s

/-- ABANDON (R59). -/
def execAbandon (link : Link) (tag : Nat) (slot : Nat) (s : State) : Host.Outcome State Fault Refusal :=
  request link tag (.abandon slot) s

/-- WITHDRAW (R62). -/
def execWithdraw (link : Link) (tag : Nat) (inst : InstrNum) (s : State) : Host.Outcome State Fault Refusal :=
  request link tag (.withdraw inst) s

/-- CLOSE_SIDE (R63). -/
def execCloseSide (link : Link) (tag : Nat) (s : State) : Host.Outcome State Fault Refusal :=
  request link tag (.closeSide) s

/-- FETCH (R80). -/
def execFetch (link : Link) (tag : Nat) (p : FetchParams) (s : State) : Host.Outcome State Fault Refusal :=
  request link tag (.fetch p) s

/-- BUNDLE (R81). -/
def execBundle (link : Link) (tag : Nat) (p : BundleParams) (s : State) : Host.Outcome State Fault Refusal :=
  request link tag (.bundle p) s

/-- QUOTE (R82). -/
def execQuote (link : Link) (tag : Nat) (p : FetchParams) (s : State) : Host.Outcome State Fault Refusal :=
  request link tag (.quote p) s

/-- IMPORT (R141). -/
def execImportPlatter (link : Link) (tag : Nat) (s : State) : Host.Outcome State Fault Refusal :=
  request link tag (.importPlatter) s

/-- EXPORT (R143). -/
def execExportPlatter (link : Link) (tag : Nat) (platter : Nat) (s : State) : Host.Outcome State Fault Refusal :=
  request link tag (.exportPlatter platter) s

/-- SUBSTITUTE (R145). -/
def execSubstitute (link : Link) (tag : Nat) (retired : Nat) (replacement : Nat) (s : State) : Host.Outcome State Fault Refusal :=
  request link tag (.substitute retired replacement) s

/-- DRIVE_RESET (R128). -/
def execDriveReset (link : Link) (tag : Nat) (drive : Nat) (s : State) : Host.Outcome State Fault Refusal :=
  request link tag (.driveReset drive) s

/-- SETTINGS_SET (R160). -/
def execSettingsSet (link : Link) (tag : Nat) (count : Nat) (enables : Four Nat) (s : State) : Host.Outcome State Fault Refusal :=
  request link tag (.settingsSet count enables) s

/-- SCHEDULE_SET_PENDING (R163). -/
def execScheduleSetPending (link : Link) (tag : Nat) (schedule : Option Schedule) (s : State) : Host.Outcome State Fault Refusal :=
  request link tag (.scheduleSet .pending schedule) s

/-- SCHEDULE_SET_IMMEDIATE (R163). -/
def execScheduleSetImmediate (link : Link) (tag : Nat) (schedule : Option Schedule) (s : State) : Host.Outcome State Fault Refusal :=
  request link tag (.scheduleSet .immediate schedule) s

/-- SCHEDULE_SET_CANCEL_PENDING (R163). -/
def execScheduleSetCancelPending (link : Link) (tag : Nat) (schedule : Option Schedule) (s : State) : Host.Outcome State Fault Refusal :=
  request link tag (.scheduleSet .cancelPending schedule) s

/-- SCHEDULE_SET_SHOW, or a SCHEDULE_SET whose form byte names no form (R163, R197). -/
def execScheduleSetShow (link : Link) (tag : Nat) (form : Nat) (schedule : Option Schedule) (s : State) : Host.Outcome State Fault Refusal :=
  request link tag (.scheduleSet (scheduleForm form) schedule) s

/-- ACCOUNT_SET_CREATE (R170). -/
def execAccountSetCreate (link : Link) (tag : Nat) (p : AccountParams) (s : State) : Host.Outcome State Fault Refusal :=
  request link tag (.accountSet .create p) s

/-- ACCOUNT_SET_CHANGE (R170). -/
def execAccountSetChange (link : Link) (tag : Nat) (p : AccountParams) (s : State) : Host.Outcome State Fault Refusal :=
  request link tag (.accountSet .change p) s

/-- ACCOUNT_SET_RESET (R171). -/
def execAccountSetReset (link : Link) (tag : Nat) (p : AccountParams) (s : State) : Host.Outcome State Fault Refusal :=
  request link tag (.accountSet .reset p) s

/-- ACCOUNT_SET_DELETE, or an ACCOUNT_SET whose action byte names no action (R171, R197). -/
def execAccountSetDelete (link : Link) (tag : Nat) (action : Nat) (p : AccountParams) (s : State) : Host.Outcome State Fault Refusal :=
  request link tag (.accountSet (accountAction action) p) s

/-- ACCOUNT_READ (R172). -/
def execAccountRead (link : Link) (tag : Nat) (after : OptField) (s : State) : Host.Outcome State Fault Refusal :=
  request link tag (.accountRead after) s

/-- PERIOD_TAKE (R181). -/
def execPeriodTake (link : Link) (tag : Nat) (after : OptField) (s : State) : Host.Outcome State Fault Refusal :=
  request link tag (.periodTake after) s

/-- PERIOD_CLEAR (R182). -/
def execPeriodClear (link : Link) (tag : Nat) (period : Nat) (s : State) : Host.Outcome State Fault Refusal :=
  request link tag (.periodClear period) s

/-- RIGHTS_SET (R190). -/
def execRightsSet (link : Link) (tag : Nat) (target : Nat) (rights : Nat) (s : State) : Host.Outcome State Fault Refusal :=
  request link tag (.rightsSet target rights) s

/-- EVENTS_READ (R192). -/
def execEventsRead (link : Link) (tag : Nat) (s : State) : Host.Outcome State Fault Refusal :=
  request link tag (.eventsRead) s

/-- EVENTS_ACK (R192). -/
def execEventsAck (link : Link) (tag : Nat) (kinds : Nat) (s : State) : Host.Outcome State Fault Refusal :=
  request link tag (.eventsAck kinds) s

/-- EVENTS_ENABLE (R193). -/
def execEventsEnable (link : Link) (tag : Nat) (kinds : Nat) (s : State) : Host.Outcome State Fault Refusal :=
  request link tag (.eventsEnable kinds) s

/-- STATUS (R194). -/
def execStatus (link : Link) (tag : Nat) (platter : OptField) (s : State) : Host.Outcome State Fault Refusal :=
  request link tag (.status platter) s

/-- The request a command carries, with its link and tag; nothing for a command that is no request. -/
def requestOf : Instr → Option (Link × Nat × Request)
  | .lookup link tag inst => some (link, tag, .lookup inst)
  | .pendingList link tag after => some (link, tag, .pendingList after)
  | .folioSearch link tag folio after mode => some (link, tag, .folioSearch folio after mode)
  | .restore link tag p => some (link, tag, .restore p)
  | .catalogueReady link tag => some (link, tag, .catalogueReady)
  | .lodge link tag => some (link, tag, .lodge)
  | .clockRead link tag => some (link, tag, .clockRead)
  | .clockLoad link tag value => some (link, tag, .clockLoad value)
  | .clockStep link tag seconds => some (link, tag, .clockStep seconds)
  | .clockTrimBase link tag trim => some (link, tag, .clockTrim (.base trim))
  | .clockTrimTemporary link tag trim duration => some (link, tag, .clockTrim (.temporary trim duration))
  | .clockTrimEnd link tag form => some (link, tag, .clockTrim (trimForm form))
  | .closeTargetSet link tag target mode value => some (link, tag, .closeTargetSet target mode value)
  | .openFiling link tag inst => some (link, tag, .openFiling inst)
  | .feed link tag slot pageStart block => some (link, tag, .feed slot pageStart block)
  | .commit link tag p => some (link, tag, .commit p)
  | .abandon link tag slot => some (link, tag, .abandon slot)
  | .withdraw link tag inst => some (link, tag, .withdraw inst)
  | .closeSide link tag => some (link, tag, .closeSide)
  | .fetch link tag p => some (link, tag, .fetch p)
  | .bundle link tag p => some (link, tag, .bundle p)
  | .quote link tag p => some (link, tag, .quote p)
  | .importPlatter link tag => some (link, tag, .importPlatter)
  | .exportPlatter link tag platter => some (link, tag, .exportPlatter platter)
  | .substitute link tag retired replacement => some (link, tag, .substitute retired replacement)
  | .driveReset link tag drive => some (link, tag, .driveReset drive)
  | .settingsSet link tag count enables => some (link, tag, .settingsSet count enables)
  | .scheduleSetPending link tag schedule => some (link, tag, .scheduleSet .pending schedule)
  | .scheduleSetImmediate link tag schedule => some (link, tag, .scheduleSet .immediate schedule)
  | .scheduleSetCancelPending link tag schedule => some (link, tag, .scheduleSet .cancelPending schedule)
  | .scheduleSetShow link tag form schedule => some (link, tag, .scheduleSet (scheduleForm form) schedule)
  | .accountSetCreate link tag p => some (link, tag, .accountSet .create p)
  | .accountSetChange link tag p => some (link, tag, .accountSet .change p)
  | .accountSetReset link tag p => some (link, tag, .accountSet .reset p)
  | .accountSetDelete link tag action p => some (link, tag, .accountSet (accountAction action) p)
  | .accountRead link tag after => some (link, tag, .accountRead after)
  | .periodTake link tag after => some (link, tag, .periodTake after)
  | .periodClear link tag period => some (link, tag, .periodClear period)
  | .rightsSet link tag target rights => some (link, tag, .rightsSet target rights)
  | .eventsRead link tag => some (link, tag, .eventsRead)
  | .eventsAck link tag kinds => some (link, tag, .eventsAck kinds)
  | .eventsEnable link tag kinds => some (link, tag, .eventsEnable kinds)
  | .status link tag platter => some (link, tag, .status platter)
  | _ => none

end Sys2Proof.Machine
end

