-- ==== Sys2Proof/Machine/Dispatch.lean ====
section
/-!
DEFINITION. The dispatch: one arm for each command, each a call of its meaning.
-/
namespace Sys2Proof.Machine

/-- The effect of a command on everything but the queue. -/
def exec (i : Instr) (s : State) : Host.Outcome State Fault Refusal :=
  match i with
  | .powerOn found => Sys2Proof.Machine.execPowerOn found s
  | .linksStart => Sys2Proof.Machine.execLinksStart s
  | .clockAdvance => Sys2Proof.Machine.execClockAdvance s
  | .trimAccumulatorOverflow => Sys2Proof.Machine.execTrimAccumulatorOverflow s
  | .temporaryTrimExpiry => Sys2Proof.Machine.execTemporaryTrimExpiry s
  | .closeTargetReached => Sys2Proof.Machine.execCloseTargetReached s
  | .press line => Sys2Proof.Machine.execPress line s
  | .printerAccept line => Sys2Proof.Machine.execPrinterAccept line s
  | .printerAcceptNegated line => Sys2Proof.Machine.execPrinterAcceptNegated line s
  | .strayByte link => Sys2Proof.Machine.execStrayByte link s
  | .badFrame link frame => Sys2Proof.Machine.execBadFrame link frame s
  | .responseSend link => Sys2Proof.Machine.execResponseSend link s
  | .responseAccepted link => Sys2Proof.Machine.execResponseAccepted link s
  | .dataAccepted link => Sys2Proof.Machine.execDataAccepted link s
  | .bufferPortMove parityFault => Sys2Proof.Machine.execBufferPortMove parityFault s
  | .deliveryTimeout link => Sys2Proof.Machine.execDeliveryTimeout link s
  | .linkReset link => Sys2Proof.Machine.execLinkReset link s
  | .linkResetRelease link => Sys2Proof.Machine.execLinkResetRelease link s
  | .lookup link tag inst => Sys2Proof.Machine.execLookup link tag inst s
  | .pendingList link tag after => Sys2Proof.Machine.execPendingList link tag after s
  | .folioSearch link tag folio after mode => Sys2Proof.Machine.execFolioSearch link tag folio after mode s
  | .restore link tag p => Sys2Proof.Machine.execRestore link tag p s
  | .catalogueReady link tag => Sys2Proof.Machine.execCatalogueReady link tag s
  | .lodge link tag => Sys2Proof.Machine.execLodge link tag s
  | .clockRead link tag => Sys2Proof.Machine.execClockRead link tag s
  | .clockLoad link tag value => Sys2Proof.Machine.execClockLoad link tag value s
  | .clockStep link tag seconds => Sys2Proof.Machine.execClockStep link tag seconds s
  | .clockTrimBase link tag trim => Sys2Proof.Machine.execClockTrimBase link tag trim s
  | .clockTrimTemporary link tag trim duration => Sys2Proof.Machine.execClockTrimTemporary link tag trim duration s
  | .clockTrimEnd link tag form => Sys2Proof.Machine.execClockTrimEnd link tag form s
  | .closeTargetSet link tag target mode value => Sys2Proof.Machine.execCloseTargetSet link tag target mode value s
  | .openFiling link tag inst => Sys2Proof.Machine.execOpenFiling link tag inst s
  | .feed link tag slot pageStart block => Sys2Proof.Machine.execFeed link tag slot pageStart block s
  | .commit link tag p => Sys2Proof.Machine.execCommit link tag p s
  | .abandon link tag slot => Sys2Proof.Machine.execAbandon link tag slot s
  | .withdraw link tag inst => Sys2Proof.Machine.execWithdraw link tag inst s
  | .closeSide link tag => Sys2Proof.Machine.execCloseSide link tag s
  | .filingIdleTimeout slot => Sys2Proof.Machine.execFilingIdleTimeout slot s
  | .fetch link tag p => Sys2Proof.Machine.execFetch link tag p s
  | .bundle link tag p => Sys2Proof.Machine.execBundle link tag p s
  | .quote link tag p => Sys2Proof.Machine.execQuote link tag p s
  | .importPlatter link tag => Sys2Proof.Machine.execImportPlatter link tag s
  | .exportPlatter link tag platter => Sys2Proof.Machine.execExportPlatter link tag platter s
  | .substitute link tag retired replacement => Sys2Proof.Machine.execSubstitute link tag retired replacement s
  | .driveReset link tag drive => Sys2Proof.Machine.execDriveReset link tag drive s
  | .settingsSet link tag count enables => Sys2Proof.Machine.execSettingsSet link tag count enables s
  | .scheduleSetPending link tag schedule => Sys2Proof.Machine.execScheduleSetPending link tag schedule s
  | .scheduleSetImmediate link tag schedule => Sys2Proof.Machine.execScheduleSetImmediate link tag schedule s
  | .scheduleSetCancelPending link tag schedule => Sys2Proof.Machine.execScheduleSetCancelPending link tag schedule s
  | .scheduleSetShow link tag form schedule => Sys2Proof.Machine.execScheduleSetShow link tag form schedule s
  | .accountSetCreate link tag p => Sys2Proof.Machine.execAccountSetCreate link tag p s
  | .accountSetChange link tag p => Sys2Proof.Machine.execAccountSetChange link tag p s
  | .accountSetReset link tag p => Sys2Proof.Machine.execAccountSetReset link tag p s
  | .accountSetDelete link tag action p => Sys2Proof.Machine.execAccountSetDelete link tag action p s
  | .accountRead link tag after => Sys2Proof.Machine.execAccountRead link tag after s
  | .periodTake link tag after => Sys2Proof.Machine.execPeriodTake link tag after s
  | .periodClear link tag period => Sys2Proof.Machine.execPeriodClear link tag period s
  | .rightsSet link tag target rights => Sys2Proof.Machine.execRightsSet link tag target rights s
  | .eventsRead link tag => Sys2Proof.Machine.execEventsRead link tag s
  | .eventsAck link tag kinds => Sys2Proof.Machine.execEventsAck link tag kinds s
  | .eventsEnable link tag kinds => Sys2Proof.Machine.execEventsEnable link tag kinds s
  | .status link tag platter => Sys2Proof.Machine.execStatus link tag platter s
  | .driveReadyReport drive => Sys2Proof.Machine.execDriveReadyReport drive s
  | .driveUnloadedReport drive => Sys2Proof.Machine.execDriveUnloadedReport drive s
  | .driveBlockReport drive report => Sys2Proof.Machine.execDriveBlockReport drive report s
  | .driveDoneReport drive => Sys2Proof.Machine.execDriveDoneReport drive s
  | .driveMediumError drive => Sys2Proof.Machine.execDriveMediumError drive s
  | .driveUnreadable drive => Sys2Proof.Machine.execDriveUnreadable drive s
  | .driveFaultReport drive => Sys2Proof.Machine.execDriveFaultReport drive s
  | .driveCommandTimeout drive => Sys2Proof.Machine.execDriveCommandTimeout drive s
  | .residencyExpiry drive => Sys2Proof.Machine.execResidencyExpiry drive s
  | .pickerMoveDone => Sys2Proof.Machine.execPickerMoveDone s
  | .pickerLabelReport report => Sys2Proof.Machine.execPickerLabelReport report s
  | .pickerMoveTimeout => Sys2Proof.Machine.execPickerMoveTimeout s
  | .doorOpened => Sys2Proof.Machine.execDoorOpened s
  | .doorClosed => Sys2Proof.Machine.execDoorClosed s
  | .mailSlotFilled => Sys2Proof.Machine.execMailSlotFilled s
  | .mailSlotEmptied => Sys2Proof.Machine.execMailSlotEmptied s
  | .powerFail cut => Sys2Proof.Machine.execPowerFail cut s
  | .settingsWriteEnd ok => Sys2Proof.Machine.execSettingsWriteEnd ok s
  | .pressInputInactive line => Sys2Proof.Machine.execPressInputInactive line s

end Sys2Proof.Machine
end

