-- ==== Sys2Proof/Machine/Format.lean ====
section
/-!
DEFINITION. The bytes on the lanes (10): the encoding of fields (R197), request frames and their reading back, response frames, DATA frames,
and the records, events and STATUS parts they carry. The commands of the model carry the fields; this file says how the lanes spell them.
-/
namespace Sys2Proof.Machine

/-! ## Fields (R197) -/

/-- A run of bytes. -/
abbrev Bytes := List Byte

/-- One byte, two bytes, four bytes, most significant first (R197). -/
def enc1 (n : Nat) : Bytes := [BitVec.ofNat 8 n]
@[inherit_doc enc1] def enc2 (n : Nat) : Bytes := enc1 (n / 256) ++ enc1 n
@[inherit_doc enc1] def enc4 (n : Nat) : Bytes := enc2 (n / 65536) ++ enc2 n

/-- A signed field in two's complement (R197). -/
def encInt2 (i : Int) : Bytes := enc2 (i % 65536).toNat
@[inherit_doc encInt2] def encInt4 (i : Int) : Bytes := enc4 (i % 4294967296).toNat

/-- A flag byte. -/
def encFlag (b : Bool) : Bytes := enc1 (if b then 1 else 0)

/-- An instrument number: day, sequence (R197). -/
def encInst (n : InstrNum) : Bytes := enc2 n.day ++ enc2 n.seq

/-- A stamp: seconds, milliseconds (R197). -/
def encStamp (t : Stamp) : Bytes := enc4 t.sec ++ enc2 t.ms

/-- A location (R197). -/
def encLoc (l : Location) : Bytes := enc2 l.platter ++ enc1 l.side.toNat ++ enc4 l.start ++ enc2 l.len

/-- A position (R197). -/
def Pos.code : Pos → Nat
  | .mail => 0
  | .slot n => n
  | .drive d => 192 + d.toNat

/-- No position. -/
def noPos : Nat := 255

/-- An optional field: a presence byte, then the field's bytes, or as many bytes of 0 (R197). -/
def encOpt {α : Type} (len : Nat) (f : α → Bytes) : Option α → Bytes
  | some a => enc1 1 ++ f a
  | none => enc1 0 ++ List.replicate len 0#8

/-- A list: a count byte, then the entries (R197). Of more than 255 entries, which STATUS's segments alone can be, the byte holds the count
modulo 256 and every entry follows: the model's choice (assumption log 75). -/
def encList {α : Type} (f : α → Bytes) (l : List α) : Bytes := enc1 l.length ++ l.flatMap f

/-! ## Enumerations (Table 10-5) -/

/-- The source byte. -/
def Source.code : Source → Nat
  | .line q => q.toNat
  | .link l => 16 + l.toNat

/-- The instrument state byte. -/
def EntryState.code : EntryState → Nat
  | .lodged => 1
  | .filing _ => 2
  | .recorded _ _ => 3
  | .withdrawn => 4

/-- The close target mode byte. -/
def CloseMode.code : CloseMode → Nat
  | .add => 1
  | .reload => 2

/-- The class byte. -/
def MountClass.code : MountClass → Nat
  | .counter => 1
  | .bulk => 2
  | .filing => 3

/-- The clock change cause byte. -/
def ClockCause.code : ClockCause → Nat
  | .load => 1
  | .step => 2
  | .powerOn => 3

/-- The channel byte. -/
def ChanName.code : ChanName → Nat
  | .drive d => d.toNat
  | .inbound l => 16 + l.toNat
  | .outbound l => 32 + l.toNat
  | .mapRead => 48

/-- The drive state byte. -/
def DriveState.code : DriveState → Nat
  | .absent => 1
  | .empty => 2
  | .loading => 3
  | .ready => 4
  | .busy => 5
  | .unloading => 6
  | .fault => 7

/-- The picker state byte. -/
def PickerState.code : PickerState → Nat
  | .idle => 1
  | .moving => 2
  | .jammed => 3
  | .halted => 4

/-- The mail slot state byte. -/
def MailState.code : MailState → Nat
  | .empty => 1
  | .incoming => 2
  | .outgoing _ => 3

/-- The filing slot state byte; 0 for a free slot. -/
def filingCode : Option FilingState → Nat
  | none => 0
  | some .receiving => 1
  | some .queued => 2
  | some .waitingMedia => 3
  | some .writing => 4
  | some .verifying => 5

/-- The item phase byte. -/
def Phase.code : Phase → Nat
  | .pending => 1
  | .waitingSpace => 2
  | .waitingMount => 3
  | .ready => 4
  | .delivering => 5
  | .ended _ => 6

/-- The channel state byte. -/
def ChanState.code : ChanState → Nat
  | .idle => 1
  | .running => 2
  | .waiting => 3
  | .paused => 4
  | .done => 5
  | .fault => 6

/-- The side state byte. -/
def SideState.code : SideState → Nat
  | .unchecked => 1
  | .blank => 2
  | .opened _ => 3
  | .full _ => 4
  | .foreign => 5

/-- The platter location: a kind byte, then the slot or drive number, or 0. -/
def encPlace : PlatterLoc → Bytes
  | .slot n => enc1 1 ++ enc1 n
  | .drive d => enc1 2 ++ enc1 d.toNat
  | .picker => enc1 3 ++ enc1 0
  | .mail => enc1 4 ++ enc1 0
  | .exported => enc1 5 ++ enc1 0
  | .unknown => enc1 6 ++ enc1 0

/-- The reason byte of STAMP_REFUSED: QUEUE_FULL is no completion status (10.2). -/
def RefuseReason.code : RefuseReason → Nat
  | .queueFull => 254
  | .status s => s.code

/-! ## Records (10.3 to 10.6) -/

/-- The schedule record, 24 bytes (10.3). -/
def encSchedule (c : Schedule) : Bytes :=
  enc2 c.b ++ enc1 c.t ++ enc2 c.s1 ++ enc2 c.s2 ++ enc2 c.l ++ enc2 c.c ++ enc1 c.h ++ enc4 c.opens ++ enc4 c.closes ++ enc4 c.m

/-- The filing slot an entry shows. -/
def EntryState.slot? : EntryState → Option FSlot
  | .filing q => some q
  | _ => none

/-- The location an entry shows. -/
def EntryState.loc? : EntryState → Option Location
  | .recorded l _ => some l
  | _ => none

/-- The pages an entry shows. -/
def EntryState.pages? : EntryState → Option Pages
  | .recorded _ p => some p
  | _ => none

/-- The instrument entry record, 40 bytes (Table 10-3). -/
def encEntry (e : Entry) : Bytes :=
  encInst e.num ++ enc1 e.state.code ++ encStamp e.stamp ++ enc1 e.source.code ++ encFlag e.restricted ++ enc2 e.copies ++
  encOpt 1 (fun q : FSlot => enc1 q.toNat) e.state.slot? ++ encOpt 9 encLoc e.state.loc? ++
  encOpt 2 (fun p : Pages => enc1 p.small ++ enc1 p.plan) e.state.pages? ++ encOpt 4 encInst e.successor ++ encOpt 4 encInst e.claim

/-- The receipt, 18 bytes (Table 10-4). -/
def encReceipt (r : Receipt) : Bytes :=
  enc2 r.account ++ enc2 r.period ++ enc4 r.quote.fee ++ enc1 r.quote.ns ++ enc1 r.quote.np ++ encFlag r.quote.certified ++
  encFlag r.quote.afterHours ++ encStamp r.stamp

/-- The retrieval item entry, 30 bytes (Table 10-4). -/
def encItem (e : ItemEntry) : Bytes :=
  enc1 e.status.code ++ encOpt 4 encInst e.resolved ++ enc1 e.links ++ enc1 e.first ++ enc1 e.last ++ enc2 e.delivered ++
  encOpt 18 encReceipt e.receipt

/-- The tallies as records carry them. -/
def encTally (t : Tally) : Bytes := enc4 t.fees ++ enc4 t.copies ++ enc4 t.small ++ enc4 t.plan ++ encFlag t.saturated

/-- The account state byte. -/
def encAccState (suspended : Bool) : Bytes := enc1 (if suspended then 2 else 1)

/-- The account record, 22 bytes (Table 10-4). -/
def encAccount (a : Account) : Bytes :=
  enc2 a.code ++ encAccState a.suspended ++ encFlag a.exempt ++ enc1 a.inFlight ++ encTally a.tally

/-- The snapshot record, 19 bytes (Table 10-4). -/
def encSnap (r : SnapRec) : Bytes := enc2 r.code ++ encTally r.tally

/-- A platter-side: platter id, side. -/
def encSide (p : PlatterSide) : Bytes := enc2 p.platter ++ enc1 p.side.toNat

/-- A kind set: two bytes, bit k for kind k (10.3). -/
def encKinds (l : List EventKind) : Bytes := enc2 ((l.map (fun k => 2 ^ k.num)).sum)

/-! ## Events (10.7) -/

/-- The detail of an event (10.7). A jam found at start-up has no move: both positions FFh. A platter in a FAULT drive that is not identified is shown
absent, the model's choice (assumption log 71). -/
def encDetail : Event → Bytes
  | .stampIssued n t s => encInst n ++ encStamp t ++ enc1 s.code
  | .stampRefused q r => enc1 q.toNat ++ enc1 r.code
  | .noBlankMedia q n => enc1 1 ++ enc1 q.toNat ++ encInst n
  | .writeFailed n sides => enc1 2 ++ encInst n ++ sides.flatMap encSide
  | .pickerJammed m lost =>
    enc1 3 ++ (match m with
      | some m => enc1 m.src.code ++ enc1 (match m.dst with | some p => p.code | none => noPos) ++ encFlag m.flip
      | none => enc1 noPos ++ enc1 noPos ++ enc1 0) ++ encOpt 2 enc2 lost
  | .bufferParity c blk => enc1 4 ++ enc1 c.code ++ enc2 blk
  | .door opened => encFlag opened
  | .inventoryDone a b c d e f => enc1 a ++ enc1 b ++ enc1 c ++ enc1 d ++ enc1 e ++ enc1 f
  | .periodClosed p n f l k changed => enc2 p ++ enc2 n ++ enc2 f ++ enc2 l ++ enc1 k ++ encFlag changed
  | .clockChanged c a b => enc1 c.code ++ encStamp a ++ encStamp b
  | .driveFault d p timeout =>
    enc1 d.toNat ++ encOpt 3 encSide (p.bind (fun x => x.id.map (fun id => ⟨id, x.side⟩))) ++ enc1 (if timeout then 2 else 1)
  | .catalogueLow n => enc4 n
  | .filingTimeout q n l b => enc1 q.toNat ++ encInst n ++ enc1 l.toNat ++ enc2 b

/-- One entry of EVENTS_READ: kind, count, detail length, detail (10.7). -/
def encAttention (a : Attention) : Bytes :=
  enc1 a.kind.num ++ enc1 a.count ++ enc1 (encDetail a.event).length ++ encDetail a.event

/-! ## CLOCK_READ and STATUS (10.8) -/

/-- The CLOCK_READ response, 22 bytes (10.8). -/
def encClock (c : ClockView) : Bytes :=
  encStamp c.now ++ encFlag c.valid ++ encInt2 c.effective ++ encInt2 c.base ++ enc2 c.tempLeft ++ enc4 c.target.target ++
  enc1 c.target.mode.code ++ enc4 c.target.value

/-- A STATUS part, preceded by its length (10.8). -/
def encPart (b : Bytes) : Bytes := enc2 b.length ++ b

/-- A line's part. -/
def encLine (l : LineView) : Bytes := encFlag l.enabled ++ enc1 l.queued ++ encFlag l.lamp ++ enc1 (if l.offered then 2 else 1)

/-- A filing slot's part, all 0 for a free slot. -/
def encFiling (f : FilingView) : Bytes :=
  match f.state with
  | none => List.replicate 9 0#8
  | some _ => enc1 (filingCode f.state) ++ encInst f.inst ++ enc1 f.owner.toNat ++ enc2 f.blocks ++ enc1 f.attempts

/-- A retrieval operation's part; the phase of one that has come to no item is 0, the model's choice (assumption log 71). -/
def encOp (o : OpView) : Bytes :=
  enc1 o.link.toNat ++ enc1 o.tag ++ enc1 o.code ++ enc1 o.current ++ enc1 ((o.phase.map Phase.code).getD 0) ++
  encOpt 3 encSide o.demand ++ enc2 o.delivered ++ enc2 o.selected

/-- The operation field of a channel: a kind byte and three bytes (10.8). -/
def encChanOp : ChanOp → Bytes
  | .none => enc4 0
  | .slot q => enc1 1 ++ enc1 q.toNat ++ enc2 0
  | .item r => enc1 2 ++ enc1 r.link.toNat ++ enc1 r.tag ++ enc1 r.pos

/-- A channel's part. -/
def encChan (c : ChanView) : Bytes := enc1 c.name.code ++ enc1 c.state.code ++ encChanOp c.op ++ enc2 c.remaining

/-- A segment's part. -/
def encSegment (g : SegmentView) : Bytes :=
  encInst g.inst ++ enc2 g.len ++ enc2 g.staged ++ enc1 (if g.complete then 2 else 1) ++ enc1 g.users

/-- A drive's part; the side byte of a drive with no platter is 0, the model's choice (assumption log 71). -/
def encDrive (d : DriveView) : Bytes :=
  enc1 d.state.code ++ encOpt 2 enc2 (d.platter.bind (fun x => x.id)) ++ enc1 (match d.platter with | some x => x.side.toNat | none => 0) ++
  encOpt 6 encStamp d.loadTime ++ encFlag d.pinned ++ encFlag d.retry ++ enc1 d.work

/-- A move's part. -/
def encMove (m : Move) : Bytes :=
  enc1 m.src.code ++ enc1 (match m.dst with | some p => p.code | none => noPos) ++ encFlag m.flip

/-- A demand's part. -/
def encDemand (q : DemandView) : Bytes :=
  encSide q.side ++ enc1 (if q.mounting.isSome then 2 else 1) ++ enc1 ((q.mounting.map DriveNo.toNat).getD 0) ++ enc1 q.cls.code ++
  encFlag q.aged ++ enc4 q.age ++ enc1 q.waiters

/-- One side of a platter record. -/
def encSideRec (x : SideRec) : Bytes :=
  enc1 x.state.code ++ encOpt 4 enc4 (match x.state with | .opened f => some f | .full f => some f | _ => none) ++ enc1 x.fails

/-- A platter record. -/
def encPlatter (p : Platter) : Bytes :=
  enc2 p.id ++ encOpt 1 enc1 p.home ++ encPlace p.loc ++ encSideRec p.side0 ++ encSideRec p.side1 ++ enc2 p.mounts ++
  encOpt 6 encStamp p.lastUnload

/-- The OUTGOING platter. -/
def MailState.outgoing? : MailState → Option Nat
  | .outgoing id => some id
  | _ => none

/-- A link's part. -/
def encLink (k : LinkView) : Bytes :=
  enc1 k.rights.toNat ++ enc1 k.tags.toNat ++ enc1 k.queued ++ enc2 k.frameErrors ++ enc2 k.strays ++ encFlag k.resetAsserted

/-- The library's part. -/
def encLibrary (b : StatusBody) : Bytes :=
  b.drives.flatMap encDrive ++ enc1 b.picker.code ++ encOpt 2 enc2 b.pickerHeld ++ encOpt 3 encMove b.pickerMove ++
  encFlag b.doorOpen ++ enc1 b.mail.code ++ encOpt 2 enc2 b.mail.outgoing? ++
  encOpt 3 (fun o : ImportOutcome => enc1 o.status.code ++ enc2 o.id) b.outcome ++ encFlag b.sweepRunning ++ encFlag b.sweptOnce ++
  encList encDemand b.demands ++ enc1 b.platters ++ enc1 b.freeSlots ++ enc1 b.reservedSlots ++ enc1 b.foreignSlots ++
  encOpt 29 encPlatter b.named

/-- The STATUS response, part by part (Table 10-6). -/
def encStatus (b : StatusBody) : Bytes :=
  encPart (enc1 (if b.absentMode then 2 else 1) ++ enc4 b.entries) ++
  encPart (encClock b.clock ++ b.lines.flatMap encLine) ++
  encPart (b.filings.flatMap encFiling ++ encList (fun q : FSlot => enc1 q.toNat) b.commitQueue ++
    encOpt 7 (fun p : PlatterSide × Nat => encSide p.1 ++ enc4 p.2) b.filingSide) ++
  encPart (encList encOp b.ops) ++
  encPart (enc2 b.ringHeld ++ enc2 b.ringFree ++ encOpt 1 (fun q : FSlot => enc1 q.toNat) b.ringTail ++ b.ringLive.flatMap enc2 ++
    enc2 b.stagingFree ++ enc2 b.stagingRun ++ enc1 b.spaceWaiters ++ encList encSegment b.segments ++ b.channels.flatMap encChan) ++
  encPart (encLibrary b) ++
  encPart (enc4 b.grand ++ enc2 b.period ++ encFlag b.snapshotHeld ++ encList (fun p : Nat × Nat => enc2 p.1 ++ enc1 p.2) b.inFlight) ++
  encPart (b.links.flatMap encLink ++ encFlag b.settingsBlank ++ enc1 b.drivesInForce ++ b.enablesInForce.flatMap encFlag ++
    Link.all.flatMap (fun l => enc1 (b.stored.rights.get l).toNat) ++ enc1 b.stored.drives ++
    Quad.all.flatMap (fun q => encFlag (b.stored.enables.get q)) ++ encInt2 b.stored.trim)

/-! ## Responses (10.2) -/

/-- The header of a PERIOD_TAKE response, all 0 while the snapshot is EMPTY (10.6). -/
def encSnapHead (s : Option Snapshot) : Bytes :=
  match s with
  | some n => enc1 1 ++ enc2 n.first ++ enc2 n.last ++ enc1 n.spanned ++ enc4 n.grand
  | none => List.replicate 10 0#8

/-- The parameters of a response: the values its rule names, in the order named (10.3; assumption log 49). -/
def encBody : Body → Bytes
  | .none => []
  | .entry e => encEntry e
  | .numbers l more => encList encInst l ++ encOpt 4 encInst more
  | .folioNumbers f l more => enc4 f ++ encList encInst l ++ encOpt 4 encInst more
  | .sideMarked m => encFlag m
  | .lastIssued t n => encStamp t ++ encOpt 4 encInst n
  | .stamped n t => encInst n ++ encStamp t
  | .clock c => encClock c
  | .clockLoaded a b => encStamp a ++ encStamp b
  | .clockStepped a clamped => encStamp a ++ encFlag clamped
  | .opened q n => enc1 q.toNat ++ encInst n
  | .fed n => enc2 n
  | .committed n l k => encInst n ++ encLoc l ++ enc1 k
  | .writeFailed n sides => encInst n ++ sides.flatMap encSide
  | .abandoned n pending => encInst n ++ encFlag pending
  | .sideClosed p fill => encSide p ++ enc4 fill
  | .item e => encItem e
  | .items l => encList encItem l
  | .quoted n k f l q =>
    encInst n ++ enc1 k ++ enc1 f ++ enc1 l ++ enc4 q.fee ++ enc1 q.ns ++ enc1 q.np ++ encFlag q.certified ++ encFlag q.afterHours
  | .imported id slot => enc2 id ++ enc1 slot
  | .exported id => enc2 id
  | .settings n e => enc1 n ++ encFlag e.a1 ++ encFlag e.a2 ++ encFlag e.a3 ++ encFlag e.a4
  | .schedules a p => encSchedule a ++ encOpt 24 encSchedule p
  | .account a => encAccount a
  | .accounts p g held l more => enc2 p ++ enc4 g ++ encFlag held ++ enc1 l.length ++ encOpt 2 enc2 more ++ l.flatMap encAccount
  | .snapshot n l more => encSnapHead n ++ enc1 l.length ++ encOpt 2 enc2 more ++ l.flatMap encSnap
  | .lastPeriod n => enc2 n
  | .released f l n => enc2 f ++ enc2 l ++ enc1 n
  | .rights r => enc1 r.a0.toNat ++ enc1 r.a1.toNat ++ enc1 r.a2.toNat
  | .attention l e => encKinds (l.map (fun a => a.kind)) ++ enc2 e.toNat ++ encList encAttention l
  | .attentionKinds l => encKinds l
  | .bothSets l e => encKinds l ++ enc2 e.toNat
  | .status b => encStatus b

/-- A RESPONSE frame (Table 10-1); FFh for no tag. -/
def Response.frame (r : Response) : Bytes :=
  enc1 129 ++ enc1 (r.tag.getD 255) ++ enc1 r.code ++ enc1 r.status.code ++ enc2 (encBody r.body).length ++ encBody r.body

/-- A DATA frame (Table 10-1). -/
def DataFrame.frame (f : DataFrame) : Bytes :=
  enc1 130 ++ enc1 f.item.tag ++ enc1 f.code ++ enc1 f.item.pos ++ enc1 f.page ++ enc2 f.block ++ f.bytes

/-! ## Request frames (Tables 10-1 and 10-2) -/

/-- An optional field as a host sends it, of four bytes or of two. -/
def encField4 (o : OptField) : Bytes := enc1 o.presence ++ enc4 o.value
@[inherit_doc encField4] def encField2 (o : OptField) : Bytes := enc1 o.presence ++ enc2 o.value

/-- One retrieval item of a BUNDLE, 8 bytes. -/
def encItemParams (p : ItemParams) : Bytes := encInst p.inst ++ enc1 p.mode ++ enc1 p.selKind ++ enc1 p.first ++ enc1 p.last

/-- The parameters of FETCH and QUOTE, 12 bytes. -/
def encFetch (p : FetchParams) : Bytes :=
  encInst p.item.inst ++ enc1 p.item.mode ++ enc1 p.purpose ++ enc1 p.item.selKind ++ enc1 p.item.first ++ enc1 p.item.last ++
  enc2 p.account ++ enc1 p.cls

/-- The form byte of SCHEDULE_SET. -/
def ScheduleForm.code : ScheduleForm → Nat
  | .pending => 1
  | .immediate => 2
  | .cancelPending => 3
  | .view => 4
  | .other n => n

/-- The action byte of ACCOUNT_SET. -/
def AccountAction.code : AccountAction → Nat
  | .create => 1
  | .change => 2
  | .reset => 3
  | .delete => 4
  | .other n => n

/-- The parameters of a request (Table 10-2). -/
def Request.params : Request → Bytes
  | .lookup n => encInst n
  | .pendingList a => encField4 a
  | .folioSearch f a m => enc4 f ++ encField4 a ++ enc1 m
  | .restore p =>
    encInst p.inst ++ encStamp p.stamp ++ enc1 p.source ++ enc2 p.platter ++ enc1 p.side ++ enc4 p.start ++ enc2 p.len ++
    enc1 p.small ++ enc1 p.plan ++ enc1 p.restricted ++ encField4 p.successor ++ enc1 p.folioCount ++ p.folios.flatMap enc4
  | .catalogueReady => []
  | .lodge => []
  | .clockRead => []
  | .clockLoad v => encStamp v
  | .clockStep n => encInt4 n
  | .clockTrim (.base t) => enc1 1 ++ encInt2 t ++ enc2 0
  | .clockTrim (.temporary t d) => enc1 2 ++ encInt2 t ++ enc2 d
  | .clockTrim .stop => enc1 3 ++ enc2 0 ++ enc2 0
  | .clockTrim (.other n) => enc1 n ++ enc2 0 ++ enc2 0
  | .closeTargetSet t m v => enc4 t ++ enc1 m ++ enc4 v
  | .openFiling o => encField4 o
  | .feed q p b => enc1 q ++ enc1 p ++ b
  | .commit p =>
    enc1 p.slot ++ enc1 p.small ++ enc1 p.plan ++ enc1 p.restricted ++ enc1 p.folioCount ++ enc1 p.targetCount ++ p.words.flatMap enc4
  | .abandon q => enc1 q
  | .withdraw n => encInst n
  | .closeSide => []
  | .fetch p => encFetch p
  | .bundle p => enc1 p.purpose ++ enc2 p.account ++ enc1 p.cls ++ enc1 p.count ++ p.items.flatMap encItemParams
  | .quote p => encFetch p
  | .importPlatter => []
  | .exportPlatter p => enc2 p
  | .substitute a b => enc2 a ++ enc2 b
  | .driveReset d => enc1 d
  | .settingsSet n e => enc1 n ++ enc1 e.a1 ++ enc1 e.a2 ++ enc1 e.a3 ++ enc1 e.a4
  | .scheduleSet f c => enc1 f.code ++ (match c with | some c => encSchedule c | none => [])
  | .accountSet a p => enc1 a.code ++ enc2 p.code ++ enc1 p.state ++ enc1 p.exempt
  | .accountRead a => encField2 a
  | .periodTake a => encField2 a
  | .periodClear p => enc2 p
  | .rightsSet l r => enc1 l ++ enc1 r
  | .eventsRead => []
  | .eventsAck k => enc2 k
  | .eventsEnable k => enc2 k
  | .status o => encField2 o

/-- The frame kind: FEED for a FEED, REQUEST for every other request (Table 10-1). -/
def Request.kind : Request → Nat
  | .feed _ _ _ => 2
  | _ => 1

/-- A request frame (Table 10-1). -/
def Request.frame (tag : Nat) (q : Request) : Bytes :=
  enc1 q.kind ++ enc1 tag ++ enc1 q.code ++ enc2 q.params.length ++ q.params

/-! ### Reading a request frame -/

/-- The number a run of bytes holds, most significant first (R197). -/
def num (b : Bytes) : Nat := b.foldl (fun n x => n * 256 + x.toNat) 0

/-- The number in `len` bytes from an offset on. -/
def fieldAt (b : Bytes) (off len : Nat) : Nat := num ((b.drop off).take len)

/-- A signed number in two bytes, and in four (R197). -/
def int2At (b : Bytes) (off : Nat) : Int :=
  let n := fieldAt b off 2
  if n < 32768 then n else (n : Int) - 65536
@[inherit_doc int2At] def int4At (b : Bytes) (off : Nat) : Int :=
  let n := fieldAt b off 4
  if n < 2147483648 then n else (n : Int) - 4294967296

/-- An instrument number, a stamp, an optional field, at an offset. -/
def instAt (b : Bytes) (off : Nat) : InstrNum := ⟨fieldAt b off 2, fieldAt b (off + 2) 2⟩
@[inherit_doc instAt] def stampAt (b : Bytes) (off : Nat) : Stamp := ⟨fieldAt b off 4, fieldAt b (off + 4) 2⟩
@[inherit_doc instAt] def opt4At (b : Bytes) (off : Nat) : OptField := ⟨fieldAt b off 1, fieldAt b (off + 1) 4⟩
@[inherit_doc instAt] def opt2At (b : Bytes) (off : Nat) : OptField := ⟨fieldAt b off 1, fieldAt b (off + 1) 2⟩

/-- `n` entries of four bytes from an offset on. -/
def wordsAt (b : Bytes) (off : Nat) : Nat → List Nat
  | 0 => []
  | n + 1 => fieldAt b off 4 :: wordsAt b (off + 4) n

/-- `n` items of eight bytes from an offset on. -/
def itemsAt (b : Bytes) (off : Nat) : Nat → List ItemParams
  | 0 => []
  | n + 1 =>
    { inst := instAt b off, mode := fieldAt b (off + 4) 1, selKind := fieldAt b (off + 5) 1, first := fieldAt b (off + 6) 1,
      last := fieldAt b (off + 7) 1 } :: itemsAt b (off + 8) n

/-- The schedule record at an offset. -/
def scheduleAt (b : Bytes) (off : Nat) : Schedule :=
  { b := fieldAt b off 2, t := fieldAt b (off + 2) 1, s1 := fieldAt b (off + 3) 2, s2 := fieldAt b (off + 5) 2,
    l := fieldAt b (off + 7) 2, c := fieldAt b (off + 9) 2, h := fieldAt b (off + 11) 1, opens := fieldAt b (off + 12) 4,
    closes := fieldAt b (off + 16) 4, m := fieldAt b (off + 20) 4 }

/-- The fields of FETCH and QUOTE. -/
def fetchAt (b : Bytes) : FetchParams :=
  { item := { inst := instAt b 0, mode := fieldAt b 4 1, selKind := fieldAt b 6 1, first := fieldAt b 7 1, last := fieldAt b 8 1 },
    purpose := fieldAt b 5 1, account := fieldAt b 9 2, cls := fieldAt b 11 1 }

/-- The fields of RESTORE. -/
def restoreAt (b : Bytes) : RestoreParams :=
  { inst := instAt b 0, stamp := stampAt b 4, source := fieldAt b 10 1, platter := fieldAt b 11 2, side := fieldAt b 13 1,
    start := fieldAt b 14 4, len := fieldAt b 18 2, small := fieldAt b 20 1, plan := fieldAt b 21 1, restricted := fieldAt b 22 1,
    successor := opt4At b 23, folioCount := fieldAt b 28 1, folios := wordsAt b 29 ((b.length - 29) / 4) }

/-- The fields of COMMIT. -/
def commitAt (b : Bytes) : CommitParams :=
  { slot := fieldAt b 0 1, small := fieldAt b 1 1, plan := fieldAt b 2 1, restricted := fieldAt b 3 1, folioCount := fieldAt b 4 1,
    targetCount := fieldAt b 5 1, words := wordsAt b 6 ((b.length - 6) / 4) }

/-- The fields of BUNDLE. -/
def bundleAt (b : Bytes) : BundleParams :=
  { purpose := fieldAt b 0 1, account := fieldAt b 1 2, cls := fieldAt b 3 1, count := fieldAt b 4 1,
    items := itemsAt b 5 ((b.length - 5) / 8) }

/-- The parameter lengths Table 10-2 allows for a code. -/
def lengthFits (code len : Nat) : Bool :=
  match code with
  | 0x10 => len == 4
  | 0x11 => len == 5
  | 0x12 => len == 10
  | 0x13 => len == 33 || len == 37 || len == 41 || len == 45
  | 0x14 | 0x20 | 0x21 | 0x35 | 0x50 | 0x71 => len == 0
  | 0x22 => len == 6
  | 0x23 => len == 4
  | 0x24 => len == 5
  | 0x25 => len == 9
  | 0x30 => len == 5
  | 0x31 => len == 1026
  | 0x32 => decide (10 ≤ len) && decide (len ≤ 38) && (len - 6) % 4 == 0
  | 0x33 => len == 1
  | 0x34 => len == 4
  | 0x40 | 0x42 => len == 12
  | 0x41 => decide (13 ≤ len) && decide (len ≤ 69) && (len - 5) % 8 == 0
  | 0x51 => len == 2
  | 0x52 => len == 4
  | 0x53 => len == 1
  | 0x54 => len == 5
  | 0x60 => len == 1 || len == 25
  | 0x61 => len == 5
  | 0x62 | 0x63 | 0x74 => len == 3
  | 0x64 | 0x70 | 0x72 | 0x73 => len == 2
  | _ => false

/-- What parameters of a fitting length say; nothing for a code that is not one of Chapter 10's. The bytes of a CLOCK_TRIM that its
form does not use are not examined: the model's choice (assumption log 85). -/
def readParams (code : Nat) (b : Bytes) : Option Request :=
  match code with
  | 0x10 => some (.lookup (instAt b 0))
  | 0x11 => some (.pendingList (opt4At b 0))
  | 0x12 => some (.folioSearch (fieldAt b 0 4) (opt4At b 4) (fieldAt b 9 1))
  | 0x13 => some (.restore (restoreAt b))
  | 0x14 => some .catalogueReady
  | 0x20 => some .lodge
  | 0x21 => some .clockRead
  | 0x22 => some (.clockLoad (stampAt b 0))
  | 0x23 => some (.clockStep (int4At b 0))
  | 0x24 =>
    match fieldAt b 0 1 with
    | 1 => some (.clockTrim (.base (int2At b 1)))
    | 2 => some (.clockTrim (.temporary (int2At b 1) (fieldAt b 3 2)))
    | n => some (.clockTrim (trimForm n))
  | 0x25 => some (.closeTargetSet (fieldAt b 0 4) (fieldAt b 4 1) (fieldAt b 5 4))
  | 0x30 => some (.openFiling (opt4At b 0))
  | 0x31 => some (.feed (fieldAt b 0 1) (fieldAt b 1 1) (b.drop 2))
  | 0x32 => some (.commit (commitAt b))
  | 0x33 => some (.abandon (fieldAt b 0 1))
  | 0x34 => some (.withdraw (instAt b 0))
  | 0x35 => some .closeSide
  | 0x40 => some (.fetch (fetchAt b))
  | 0x41 => some (.bundle (bundleAt b))
  | 0x42 => some (.quote (fetchAt b))
  | 0x50 => some .importPlatter
  | 0x51 => some (.exportPlatter (fieldAt b 0 2))
  | 0x52 => some (.substitute (fieldAt b 0 2) (fieldAt b 2 2))
  | 0x53 => some (.driveReset (fieldAt b 0 1))
  | 0x54 => some (.settingsSet (fieldAt b 0 1) ⟨fieldAt b 1 1, fieldAt b 2 1, fieldAt b 3 1, fieldAt b 4 1⟩)
  | 0x60 =>
    let c := if b.length = 1 then none else some (scheduleAt b 1)
    match fieldAt b 0 1 with
    | 1 => some (.scheduleSet .pending c)
    | 2 => some (.scheduleSet .immediate c)
    | 3 => some (.scheduleSet .cancelPending c)
    | n => some (.scheduleSet (scheduleForm n) c)
  | 0x61 =>
    let p : AccountParams := { code := fieldAt b 1 2, state := fieldAt b 3 1, exempt := fieldAt b 4 1 }
    match fieldAt b 0 1 with
    | 1 => some (.accountSet .create p)
    | 2 => some (.accountSet .change p)
    | 3 => some (.accountSet .reset p)
    | n => some (.accountSet (accountAction n) p)
  | 0x62 => some (.accountRead (opt2At b 0))
  | 0x63 => some (.periodTake (opt2At b 0))
  | 0x64 => some (.periodClear (fieldAt b 0 2))
  | 0x70 => some (.rightsSet (fieldAt b 0 1) (fieldAt b 1 1))
  | 0x71 => some .eventsRead
  | 0x72 => some (.eventsAck (fieldAt b 0 2))
  | 0x73 => some (.eventsEnable (fieldAt b 0 2))
  | 0x74 => some (.status (opt2At b 0))
  | _ => none

/-- What a frame of good parity is read as (R185). -/
inductive FrameRead where
  /-- A request, with its tag. -/
  | request (tag : Nat) (q : Request)
  /-- A frame the checks refuse. -/
  | bad (f : BadFrame)
deriving DecidableEq, Repr

/-- A frame of good parity read by the checks of R185: kind, tag, code, parameter length, and no byte missing or too many. -/
def readFrame (b : Bytes) : FrameRead :=
  let kind := fieldAt b 0 1
  let tag := fieldAt b 1 1
  let code := fieldAt b 2 1
  let len := fieldAt b 3 2
  let ps := b.drop 5
  let kindOk := if code = 0x31 then kind == 2 else kind == 1
  if decide (5 ≤ b.length) && kindOk && decide (tag ≤ 3) && lengthFits code len && ps.length == len then
    match readParams code ps with
    | some q => .request tag q
    | none => .bad { tag := some tag, code := code }
  else .bad { tag := if 2 ≤ b.length then some tag else none, code := code }

/-! ## Lane bytes (R184) -/

/-- A byte as it stands on a lane: the data, its parity bit and the frame mark (R184). -/
structure LaneByte where
  byte : Byte
  parity : Bool
  mark : Bool
deriving DecidableEq, Repr

/-- How many of a byte's bits are ones. -/
def ones (b : Byte) : Nat := ((List.range 8).filter b.getLsbD).length

/-- Parity is odd: the nine bits of data and parity together hold an odd number of ones (R184). -/
def LaneByte.good (x : LaneByte) : Bool := (ones x.byte + x.parity.toNat) % 2 == 1

/-- A byte as a sender places it on a lane. -/
def laneByte (mark : Bool) (b : Byte) : LaneByte := { byte := b, parity := ones b % 2 == 0, mark := mark }

/-- A frame on a lane: the frame mark is asserted with its first byte and negated with every other (R184). -/
def onLane : Bytes → List LaneByte
  | [] => []
  | b :: rest => laneByte true b :: rest.map (laneByte false)

/-- The frame gathered from the bytes a lane has brought, first byte marked: with a parity error it is refused, known by its tag where the
tag byte had good parity (R185), and else it is read by the other checks. -/
def readLane (l : List LaneByte) : FrameRead :=
  let b := l.map (fun x => x.byte)
  if l.all LaneByte.good then readFrame b
  else .bad { tag := (l[1]?).bind (fun x => if x.good then some x.byte.toNat else none), code := fieldAt b 2 1 }

end Sys2Proof.Machine
end

