-- ==== Sys2Proof/Safety.lean ====
section
/-!
DEFINITION. What claims speak of: when a lane takes a request, what a command meets and what it leaves, and what every step keeps.
-/
namespace Sys2Proof.Machine

/-! ## When a command is taken -/

/-- The links run and the controller has nothing of its own left to do. -/
abbrev State.Quiet (s : State) : Prop := s.power = .running ∧ s.agenda = []

/-- The controller has nothing of its own left to do, its links run, and it acknowledges the next frame of a link (R184). -/
abbrev State.LaneFree (s : State) (l : Link) : Prop :=
  s.power = .running ∧ s.agenda = [] ∧ (s.links.get l).resetAsserted = false ∧ (s.links.get l).lane = [] ∧
    (s.inChans.get l).store = none ∧ ((s.links.get l).responses.filter Response.isRefusal).length < Config.maxRefusals

/-- A request frame passes the frame and tag checks (R185, R187). -/
abbrev State.Frames (s : State) (l : Link) (t : Nat) (q : Request) : Prop :=
  s.LaneFree l ∧ t ≤ 3 ∧ q.lengthOk = true ∧ s.tagInUse l t = false

/-- A request comes to the unit that owns it: besides, its link holds the right, and the mode takes it (R188, R189, R24). -/
abbrev State.Takes (s : State) (l : Link) (t : Nat) (q : Request) : Prop :=
  s.Frames l t q ∧ q.allowed (s.rights.get l) = true ∧ (s.absentMode = true → q.takenAbsent = true)

/-- The tag of a request is taken (R187). -/
def State.tagTaken (s : State) (l : Link) (t : Nat) : State := s.modLink l (fun k => { k with tags := setTag k.tags t true })

/-- Where the response of a request taken now goes (R196). -/
def State.replyTo (s : State) (l : Link) (t : Nat) (q : Request) : Reply :=
  { link := l, tag := t, gen := (s.links.get l).resetCount, code := q.code }

/-- The tag of a request is taken and its response queued; nothing else is changed. -/
def State.answered (s : State) (l : Link) (t code : Nat) (st : Status) (b : Body) : State :=
  s.modLink l (fun k => { k with
    tags := setTag k.tags t true
    responses := k.responses ++ [{ tag := some t, code := code, status := st, body := b }] })

/-! ## What a command meets -/

/-- The item of a waiter that is a retrieval item. -/
def Waiter.item? : Waiter → Option ItemRef
  | .item r _ _ => some r
  | .filing _ => none

/-- The picker begins nothing when it is asked for its next piece: it is not IDLE, or no return-home piece, no media request and no
WAITING demand is there (R130, R136). -/
abbrev State.PickerRests (s : State) : Prop :=
  s.lib.picker.state ≠ .idle ∨ (s.lib.returns = [] ∧ s.lib.media = [] ∧ ∀ q ∈ s.lib.demands, q.mounting ≠ none)

/-- The picker waits at a drive for its UNLOADED report (R129, R138, R143). -/
def State.waitsAt (s : State) (d : DriveNo) : Bool :=
  match s.lib.picker.piece with
  | some (.mountUnload e _) | some (.exportUnload _ _ e) => e == d
  | _ => false

/-- No WAITING demand is without waiters (R135). -/
abbrev State.DemandsAwaited (s : State) : Prop := ∀ q ∈ s.lib.demands, q.mounting = none → q.waiters ≠ []

/-- The item waits for no platter-side, and no WAITING demand is without waiters (R135). -/
abbrev State.NotWaiting (s : State) (r : ItemRef) : Prop :=
  s.DemandsAwaited ∧ ∀ q ∈ s.lib.demands, ∀ w ∈ q.waiters, w.item? ≠ some r

/-- The item an operation has come to is its last, has not ended, and the operation is its link's only one, with no reset since. -/
abbrev State.AtLastItem (s : State) (o : Op) (i : Item) : Prop :=
  o ∈ s.ops ∧ (∀ p ∈ s.ops, p.reply.link = o.reply.link → p = o) ∧ (s.links.get o.reply.link).resetCount = o.reply.gen ∧ 1 ≤ o.current ∧
    o.items.length = o.current ∧ o.items[o.current - 1]? = some i ∧ i.hasEnded = false ∧ (o.bundle = false → o.current = 1)

/-- The head of the commit queue is not in WAITING_MEDIA (R69). -/
abbrev State.HeadHasMedia (s : State) : Prop :=
  ∀ q ∈ s.commitQueue.head?, ∀ f ∈ s.filings.get q, f.state ≠ .waitingMedia

/-- When its piece of work ends, the picker has nothing to begin: no closing is held, and the door is open or nothing waits (R130, R150). -/
abbrev State.NothingNext (s : State) : Prop :=
  s.lib.sweepDue = false ∧
    (s.lib.doorOpen = true ∨ (s.lib.returns = [] ∧ s.lib.media = [] ∧ ∀ q ∈ s.lib.demands, q.mounting ≠ none))

/-- The response a queued media request is owed, none for an import made without a request (R130, R146). -/
def MediaReq.reply? : MediaReq → Option Reply
  | .importReq y => y
  | .exportReq y _ => some y

/-- No link of a queued media request has been reset since it was taken (R196). -/
abbrev State.MediaCurrent (s : State) : Prop :=
  ∀ m ∈ s.lib.media, ∀ y ∈ m.reply?, (s.links.get y.link).resetCount = y.gen

/-- The picker with its piece of work over and nothing to begin: IDLE, or HALTED with the door open (R129, R148). -/
def State.pickerFreed (s : State) : Picker :=
  { state := if s.lib.doorOpen then .halted else .idle, held := none, move := none, since := none, piece := none }

/-- An item is the only user of a segment, and no other segment is of its instrument or has it as a user (R93). -/
abbrev State.SoleUser (s : State) (g : Segment) (r : ItemRef) : Prop :=
  g ∈ s.segments ∧ g.users = [r] ∧ ∀ h ∈ s.segments, (r ∈ h.users ∨ h.inst = g.inst) → h = g

/-- An item is the only user of the segment it made, whose fill has not started and stands on no work list (R91, R110). -/
abbrev State.Unstarted (s : State) (g : Segment) (r : ItemRef) : Prop :=
  s.SoleUser g r ∧ g.filler = some r ∧ g.started = false ∧ ∀ d ∈ DriveNo.all, .fill g.inst ∉ (s.lib.drives.get d).work

/-- The item an operation has come to. -/
def Op.ref (o : Op) : ItemRef := ⟨o.reply.link, o.reply.tag, o.current⟩

/-- A side that takes no filing any more: FULL or FOREIGN (R120). -/
def SideState.shut : SideState → Bool
  | .full _ | .foreign => true
  | _ => false

/-- A side that is OPEN (R120). -/
def SideState.isOpen : SideState → Bool
  | .opened _ => true
  | _ => false

/-- Every side other than one is FULL or FOREIGN, so that no other side is OPEN and a side search finds none (R66, R120). -/
abbrev State.OthersShut (s : State) (ps : PlatterSide) : Prop :=
  ∀ p ∈ s.cat.platters, (⟨p.id, .s0⟩ ≠ ps → p.side0.state.shut = true) ∧ (⟨p.id, .s1⟩ ≠ ps → p.side1.state.shut = true)

/-! ## What a command leaves -/

/-- A response is put at the tail of its link's queue. -/
def State.queued (s : State) (y : Reply) (st : Status) (b : Body) : State :=
  s.modLink y.link (fun k => { k with responses := k.responses ++ [{ tag := some y.tag, code := y.code, status := st, body := b }] })

/-- An item as its admission change leaves it: as the admission checks leave it, and, admitted for a copy, with its quote, computed from the schedule in
force for the pages selected, CERTIFIED or not, the account's exemption and the time of day (R83, R86, R164). -/
def State.admitted (s : State) (l : Link) (pu : Purpose) (account : Nat) (i : Item) : Item :=
  let c := s.checkItem l pu account true i
  let exempt := match s.cat.account? account with | some a => a.exempt | none => false
  if c.hasEnded then c
  else { c with quote :=
    if pu = .view then none
    else match c.resolved, c.range with
      | some v, some (f, k) => some (computeQuote s.cat.active v.pages f k (decide (pu = .certified)) exempt (s.clock.now.sec % 86400))
      | _, _ => none }

/-- The last item of an operation that is its link's only one has ended with a status other than DONE: a copy is in flight no more, the
outbound channel serving the item is IDLE, the response is queued, and the operation is gone (R100, R101, R175). The 0s of its entry are the model's
choice (assumption log 71). -/
def State.itemLost (s : State) (o : Op) (i : Item) (st : Status) : State :=
  let l := o.reply.link
  let entry : ItemEntry :=
    { status := st, resolved := i.resolved.map (fun v => v.inst), links := match i.resolved with | some v => v.links | none => 0,
      first := 0, last := 0, delivered := 0, receipt := none }
  let entries := (o.items.modify (o.current - 1) (fun _ => { i with phase := .ended st })).map (fun j => j.entry false)
  State.queued { s with
    ops := s.ops.filter (fun p => decide (p.reply.link ≠ l))
    cat := match i.quote with
      | some _ => { s.cat with accounts := s.cat.accounts.map (fun a => if a.code = o.account then { a with inFlight := a.inFlight - 1 } else a) }
      | none => s.cat
    outChans := if (s.outChans.get l).chan.op = .item o.ref then s.outChans.set l OutChan.idle else s.outChans }
    o.reply (if o.bundle then .partialDone else st) (if o.bundle then .items entries else .item entry)

/-- The queued media requests have each been answered with a status, in their order; an import made without a request has it as its outcome
(R131, R146, R148). -/
def State.mediaAnswered (s : State) (st : Status) : State :=
  s.lib.media.foldl (fun t m =>
    match m.reply? with
    | some y => t.queued y st .none
    | none => { t with lib := { t.lib with outcome := some { status := st, id := 0 } } }) { s with lib := { s.lib with media := [] } }

/-- A filing slot is free again with nothing filed: its ring blocks are DISCARDED and the ring reclaimed, its instrument is LODGED with its claims
released and its folio reservation dropped, and it is out of the commit queue (R9, R60, R105). -/
def State.slotFreed (s : State) (q : FSlot) (n : InstrNum) : State :=
  { s with
    ring := (s.ring.map (fun b => if b.slot = q then { b with mark := .discarded } else b)).dropWhile (fun b => b.mark ≠ .live)
    cat := { s.cat with table := s.cat.table.map (fun e =>
      { e with state := if e.num = n then .lodged else e.state, claim := if e.claim = some n then none else e.claim }) }
    reserved := s.reserved.set q []
    filings := s.filings.set q none
    commitQueue := s.commitQueue.erase q }

/-! ## What every step keeps -/

/-- Buffer memory is in its canonical form. -/
def State.MemoryOk (s : State) : Prop := Memory.wf s.mem = true

/-- Some link holds ADMIN: by the rights in force, by the stored settings record, and by the record being written (R190). -/
def State.AdminOk (s : State) : Prop :=
  someAdmin s.rights = true ∧ (∀ r, s.settings.stored = some r → someAdmin r.rights = true) ∧
    (∀ r y, s.settings.writing = some (r, y) → someAdmin r.rights = true)

/-- The clock and its trims stand in their ranges (R27, R28, R29), and so does the base trim in settings memory (R159). -/
def State.ClockOk (s : State) : Prop :=
  s.clock.now.sec ≤ Config.topSec ∧ s.clock.now.ms ≤ 999 ∧ s.clock.acc < Config.trimUnit ∧ trimOk s.clock.base = true ∧
    trimOk s.clock.temp = true ∧ trimOk s.clock.storeTrim = true ∧ s.clock.tempLeft ≤ 65535 ∧
    (∀ r, s.settings.stored = some r → trimOk r.trim = true) ∧ (∀ r y, s.settings.writing = some (r, y) → trimOk r.trim = true)

/-- Every command that waits, in the queue or on a lane, has operands that fit their fields. -/
def LaneInput.fits : LaneInput → Bool
  | .request _ (.clockLoad v) => v.fits
  | _ => true

@[inherit_doc LaneInput.fits] def State.PendingOk (s : State) : Prop :=
  (∀ c ∈ s.pending, c.wellFormed = true) ∧ ∀ l, ∀ x ∈ (s.links.get l).lane, x.fits = true

/-- No stamp queue holds more than four records, and an offer stands on a head record with accept negated (R44, R47). -/
def State.LinesOk (s : State) : Prop :=
  ∀ q, (s.lines.get q).queue.length ≤ Config.stampQueueLen ∧
    ((s.lines.get q).offered = true → (s.lines.get q).queue ≠ [] ∧ (s.lines.get q).accept = false)

/-- An attention set holds no kind twice, in kind order, each with an event of its kind and a count of 1 to 255 (R191). -/
def attentionOk (l : List Attention) : Prop :=
  l.Pairwise (fun a b => a.kind.num < b.kind.num) ∧ ∀ a ∈ l, a.event.kind = a.kind ∧ 1 ≤ a.count ∧ a.count ≤ Config.max8

@[inherit_doc attentionOk] def State.AttentionOk (s : State) : Prop := ∀ l, attentionOk (s.links.get l).attention

/-- The tables of catalogue memory stand in strictly rising order of their keys (R4, R13, R119, R122, R169). -/
def CatMem.Ordered (c : CatMem) : Prop :=
  risingKeys Entry.key c.table = true ∧ risingKeys FolioRec.folio c.folios = true ∧ risingKeys Platter.id c.platters = true ∧
    risingKeys SlotRec.slot c.slots = true ∧ risingKeys Account.code c.accounts = true

/-- The tables of catalogue memory are no longer than their capacities (R4, R145, R169). -/
def CatMem.Fits (c : CatMem) : Prop :=
  c.table.length ≤ Config.maxEntries ∧ c.substs.length ≤ Config.maxSubst ∧ c.accounts.length ≤ Config.maxAccounts

/-- A property of catalogue memory holds of it and of the image the update record holds. -/
def State.CatHas (P : CatMem → Prop) (s : State) : Prop := P s.cat ∧ ∀ m, s.update = .complete m → P m

/-- The folio index stands in rising order, and each folio's list in number order (R13). -/
def CatMem.FoliosOrdered (c : CatMem) : Prop :=
  risingKeys FolioRec.folio c.folios = true ∧ ∀ r ∈ c.folios, risingKeys InstrNum.key r.list = true

/-- How many folio links the index holds (R13). -/
def CatMem.folioLinks (c : CatMem) : Nat := (c.folios.map (fun r => r.list.length)).sum

/-- The folio index is ordered, and its links and records with the reservations of the filing slots, each slot's folios distinct, stay
within the capacities; so does the index of the image in the update record (R13, R14). -/
def State.FoliosFit (s : State) : Prop :=
  s.CatHas CatMem.FoliosOrdered ∧ (∀ q : FSlot, (s.reserved.get q).Nodup) ∧
    s.cat.folioLinks + s.rLinks ≤ Config.maxFolioLinks ∧ s.cat.folios.length + s.rNew ≤ Config.maxFolios ∧
    ∀ m, s.update = .complete m → m.folioLinks ≤ Config.maxFolioLinks ∧ m.folios.length ≤ Config.maxFolios

/-- The accounts and the snapshot's records stand in rising order of their codes (R169, R179). -/
def CatMem.RecordsOrdered (c : CatMem) : Prop :=
  risingKeys Account.code c.accounts = true ∧ ∀ n, c.snapshot = some n → risingKeys SnapRec.code n.records = true

/-- The picker carries a platter whose record is made when the platter is put down: an import, or a return home. -/
def State.Bringing (s : State) (id : Nat) : Prop :=
  (∃ y, s.lib.picker.piece = some (.importMove y id)) ∨ (∃ d, s.lib.picker.piece = some (.homeMove d) ∧ s.lib.picker.held = some id)

/-- The library map holds no more than 160 records, and has room for the record of a new platter the picker brings (R119). -/
def State.PlattersFit (s : State) : Prop :=
  s.CatHas (fun c => c.platters.length ≤ Config.maxPlatters) ∧
    ∀ id, s.Bringing id → s.platter? id = none → s.cat.platters.length < Config.maxPlatters

/-- Every LIVE block of the ring belongs to an occupied filing slot (R104). -/
def State.RingOwned (s : State) : Prop := ∀ b ∈ s.ring, b.mark = .live → s.filings.get b.slot ≠ none

/-- How many sides of the library are OPEN (R120). -/
def CatMem.openSides (c : CatMem) : Nat :=
  (c.platters.map (fun p => p.side0.state.isOpen.toNat + p.side1.state.isOpen.toNat)).sum

/-- FIL is bringing a side to OPEN: a header is checked or written on it, or it is asked for while BLANK or UNCHECKED (R66, R67). -/
def State.Opening (s : State) (u : FilUse) : Prop :=
  (∃ d, u.stage = .check d ∨ u.stage = .headErase d ∨ u.stage = .headWrite d) ∨
    ((u.stage = .demanded ∨ ∃ d, u.stage = .listed d) ∧ ∀ x, s.sideState? u.side = some x → x = .blank ∨ x = .unchecked)

/-- At most one side is OPEN, now and in the image the update record holds (R120); none is while FIL brings one to OPEN, nor while a
slot waits for media, which is then the head, with no side taken up (R65, R66, R69). -/
def State.OneSideOpen (s : State) : Prop :=
  s.agenda = [] ∧ s.CatHas (fun c => risingKeys Platter.id c.platters = true ∧ c.openSides ≤ 1) ∧
    (∀ u, s.filUse = some u → s.Opening u → s.cat.openSides = 0) ∧
    ∀ q f, s.filings.get q = some f → f.state = .waitingMedia → s.filUse = none ∧ s.cat.openSides = 0 ∧ s.commitQueue.head? = some q

end Sys2Proof.Machine
end

