-- ==== Sys2Proof/Certificates/Slice0/Obligations.lean ====
section
/-!
DEFINITION. The statements about the AJ-416: how commands are taken, what every step keeps, and what each command does. A statement about
a command gives the whole next state, so that whatever it does not name is unchanged.
-/
open Sys2Proof Sys2Proof.Machine

/-! ## Steps and what every step keeps -/

/-- A step takes the command at the front of the queue, and carries it out on the state with the queue's rest.
With no command waiting a step changes nothing. The model's choice (assumption log 6). -/
def Obligations.StepRunsFrontCommand : Prop :=
  (∀ (c : Instr) (rest : List Instr) (s : State), s.pending = c :: rest → step s = exec c { s with pending := rest }) ∧
  (∀ s : State, s.pending = [] → step s = .next s)

/-- Every command, in every state, answers a next state, with no work handed over left and the queue of commands as it was (assumption log 3; work
beyond the bound of a settling would be dropped, assumption log 42). -/
def Obligations.EveryCommandAnswersNext : Prop :=
  ∀ (c : Instr) (s : State), ∃ t, exec c s = .next t ∧ t.agenda = [] ∧ t.pending = s.pending

/-- Buffer memory stays in its canonical form (assumption log 2). -/
def Obligations.MemoryFormKept : Prop := ∀ s t : State, s.MemoryOk → step s = .next t → t.MemoryOk

/-- R190: at least one link holds ADMIN, by the rights in force, by the settings record, and by the record being written. -/
def Obligations.SomeAdminKept : Prop := ∀ s t : State, s.AdminOk → step s = .next t → t.AdminOk

/-- R27, R28, R29: the clock, its accumulator and its trims stay in their ranges, while the commands that wait carry values that fit their fields. -/
def Obligations.ClockRangesKept : Prop :=
  ∀ s t : State, s.ClockOk → s.PendingOk → step s = .next t → t.ClockOk ∧ t.PendingOk

/-- R44, R47: no stamp queue comes to hold more than four records, and a printer is offered a record only while one is queued and its accept is
negated.
R191: an attention set holds each kind once, in kind order, with an event of that kind and an occurrence count of 1 to 255. -/
def Obligations.QueuesAndAttentionKept : Prop :=
  (∀ s t : State, s.LinesOk → step s = .next t → t.LinesOk) ∧
  (∀ s t : State, s.AttentionOk → step s = .next t → t.AttentionOk)

/-- R4, R13, R119, R122, R169: the instrument, folio, platter, slot and account tables of catalogue memory, and of the image in the update record,
stay in strictly rising order.
R4, R145, R169: the instrument table, the substitution table and the account table never outgrow their capacities. -/
def Obligations.TablesKept : Prop :=
  (∀ s t : State, s.CatHas CatMem.Ordered → step s = .next t → t.CatHas CatMem.Ordered) ∧
  (∀ s t : State, s.CatHas CatMem.Fits → step s = .next t → t.CatHas CatMem.Fits)

/-- R13, R14, R15: the folio index stands in rising order, each folio's list in number order, and its links and records, with the reservations of the
filing slots, stay within 262,144 and 32,768; so do the links and records of the image in the update record.
R169, R179, R180: the accounts and the snapshot's records stand in rising order of their codes, in catalogue memory and in the image the update record
holds. -/
def Obligations.ListsOfMemoryKept : Prop :=
  (∀ s t : State, s.FoliosFit → step s = .next t → t.FoliosFit) ∧
  (∀ s t : State, s.CatHas CatMem.RecordsOrdered → step s = .next t → t.CatHas CatMem.RecordsOrdered)

/-- R119: the library map never holds more than 160 records: not now, not in the image the update record holds, and not with the record of the new
platter the picker carries to a slot. -/
def Obligations.LibraryMapFitsKept : Prop := ∀ s t : State, s.PlattersFit → step s = .next t → t.PlattersFit

/-- R120, R65, R66: at most one side of the library is OPEN, now and in the image the update record holds. Besides, no side is OPEN while FIL checks
or writes a header, while it asks for a side that is BLANK or UNCHECKED, or while a slot waits for media, which is then the head, with no side taken
up. -/
def Obligations.OneOpenSideKept : Prop := ∀ s t : State, s.OneSideOpen → step s = .next t → t.OneSideOpen

/-- R104, R105: every LIVE block of the ring belongs to an occupied filing slot. -/
def Obligations.LiveBlocksOwnedKept : Prop := ∀ s t : State, s.RingOwned → step s = .next t → t.RingOwned

/-- The machine right after reset has every one of these properties.
Reset of a fresh machine (assumption log 1): the links have not started; the clock is INVALID at 0; the catalogue is empty in catalogue-absent mode
with the default schedule and account 0 alone; every link has every right and no tag in use; every line is enabled with its queue empty, lamp off and
offer IDLE; every slot and channel is free; six drives are EMPTY. -/
def Obligations.ResetState : Prop :=
  (State.reset.MemoryOk ∧ State.reset.AdminOk ∧ State.reset.ClockOk ∧ State.reset.PendingOk ∧ State.reset.LinesOk ∧
     State.reset.AttentionOk ∧ State.reset.CatHas CatMem.Ordered ∧ State.reset.CatHas CatMem.Fits ∧
     State.reset.FoliosFit ∧ State.reset.CatHas CatMem.RecordsOrdered ∧ State.reset.PlattersFit ∧ State.reset.OneSideOpen ∧ State.reset.RingOwned) ∧
  (State.reset.power = .starting ∧ State.reset.pending = [] ∧ State.reset.clock.now = ⟨0, 0⟩ ∧ State.reset.clock.valid = false ∧
     State.reset.clock.effective = 0 ∧ State.reset.cat = CatMem.cleared ∧ State.reset.absentMode = true ∧
     State.reset.cat.table = [] ∧ State.reset.cat.accounts = [Account.cash] ∧ State.reset.cat.period = 1 ∧
     State.reset.cat.target.target = 0 ∧
     (∀ l, State.reset.rights.get l = 0xFF#8 ∧ (State.reset.links.get l).tags = 0#4 ∧ (State.reset.links.get l).responses = []) ∧
     (∀ q, State.reset.lines.get q = { enabled := true, queue := [], lamp := false, offered := false, pressed := false, accept := false }) ∧
     (∀ q, State.reset.filings.get q = none) ∧ State.reset.ops = [] ∧ State.reset.ring = [] ∧ State.reset.segments = [] ∧
     (∀ d, (State.reset.drive d).state = .empty ∧ (State.reset.driveChans.get d).chan.state = .idle) ∧
     State.reset.lib.picker.state = .idle ∧ State.reset.lib.mail = .empty)

/-! ## Frames and requests -/

/-- Every request a well-formed command carries is read back, whole and with its tag, from the frame that spells it (10, Tables 10-1 and 10-2).
R184, R185: a frame on a lane carries odd parity in every byte, eight bits of data and one of parity, and the frame mark with its first byte alone;
and a frame of good parity is read as its bytes are. One byte of bad parity makes the frame refused, its tag known where the tag byte is good.
(The bytes a CLOCK_TRIM's form does not use are spelled 0 and not examined, the model's choice, assumption log 85.) -/
def Obligations.RequestFramesReadBack : Prop :=
  (∀ (i : Instr) (l : Link) (t : Nat) (q : Request), requestOf i = some (l, t, q) → i.wellFormed = true → t ≤ 3 →
     readFrame (q.frame t) = .request t q) ∧
  ((∀ (m : Bool) (b : Byte), (laneByte m b).good = true ∧ (laneByte m b).byte = b ∧ (laneByte m b).mark = m) ∧
   (∀ (b : Byte) (f : Bytes), onLane (b :: f) = laneByte true b :: f.map (laneByte false)) ∧
   (∀ f : Bytes, readLane (onLane f) = readFrame f) ∧
   (∀ (l : List LaneByte) (x : LaneByte), x ∈ l → x.good = false →
     readLane l = .bad { tag := match l with | _ :: t :: _ => if t.good then some t.byte.toNat else none | _ => none, code := fieldAt (l.map (·.byte)) 2 1 }))

/-- R185, R187, R188, R24: of a request frame on a free lane, a bad tag or length is refused BAD_FRAME and counted, a tag in use is refused BUSY, and
neither takes the tag; then, the tag taken, the lack of a right is answered NO_RIGHT, and after it a request not taken in catalogue-absent mode
CATALOGUE_ABSENT. -/
def Obligations.LinkRefusesInOrder : Prop :=
  ∀ (i : Instr) (l : Link) (t : Nat) (q : Request) (s : State), requestOf i = some (l, t, q) → s.LaneFree l →
    ((3 < t ∨ q.lengthOk = false) →
      exec i s = .next (s.modLink l (fun k => { k with
        frameErrors := min (k.frameErrors + 1) 65535
        responses := k.responses ++ [{ tag := if t ≤ 3 then some t else none, code := q.code, status := .badFrame, body := .none }] }))) ∧
    (t ≤ 3 → q.lengthOk = true →
      ((s.links.get l).tags.getLsbD t = true →
        exec i s = .next (s.modLink l (fun k => { k with
          responses := k.responses ++ [{ tag := some t, code := q.code, status := .busy, body := .none }] }))) ∧
      ((s.links.get l).tags.getLsbD t = false →
        (q.mask ≠ 0#8 → s.rights.get l &&& q.mask = 0#8 → exec i s = .next (s.answered l t q.code .noRight .none)) ∧
        ((q.mask = 0#8 ∨ s.rights.get l &&& q.mask ≠ 0#8) → s.absentMode = true → q.takenAbsent = false →
          exec i s = .next (s.answered l t q.code .catalogueAbsent .none))))

/-- R184: what comes on a lane that is not acknowledged (its inbound channel holds a block, or four refusal responses are queued, or its link reset
input is asserted, or the links have not started, or something waits already) waits behind what waits, as a whole (assumption log 5), and nothing else
changes.
R185: a stray byte is discarded and counted, the count holding at 65,535.
R185, R187; 10, Table 10-1: a frame refused BAD_FRAME raises the frame error count, takes no tag, and is answered with its tag where that is known and
0 to 3, and with its code where that is one of Chapter 10's, else 0.
R115: the response at the head of a link's queue leaves it (assumption log 18) and is sent, one fewer going ahead of a DATA frame (assumption log 17),
when its lane carries no frame and its outbound channel has no DATA frame to go first; while a frame is in progress, or with no response queued,
nothing is sent.
R186, R187: the acknowledgement of a response's last byte frees the lane, and the tag of a response that is no refusal; the next DATA frame, if one is
formed with no response ahead of it, is offered. -/
def Obligations.LaneInputTaken : Prop :=
  (∀ (l : Link) (s : State), s.agenda = [] → s.power ≠ .off →
     (s.power = .starting ∨ (s.links.get l).resetAsserted = true ∨ (s.links.get l).lane ≠ [] ∨ (s.inChans.get l).store.isSome = true ∨
       4 ≤ ((s.links.get l).responses.filter Response.isRefusal).length) →
     (∀ (i : Instr) (t : Nat) (q : Request), requestOf i = some (l, t, q) →
       exec i s = .next (s.modLink l (fun k => { k with lane := k.lane ++ [.request t q] }))) ∧
     (∀ f : BadFrame, exec (.badFrame l f) s = .next (s.modLink l (fun k => { k with lane := k.lane ++ [.bad f] })))) ∧
  (∀ (l : Link) (s : State), s.LaneFree l →
     exec (.strayByte l) s = .next (s.modLink l (fun k => { k with strays := min (k.strays + 1) 65535 }))) ∧
  (∀ (l : Link) (f : BadFrame) (s : State), s.LaneFree l →
     exec (.badFrame l f) s = .next (s.modLink l (fun k => { k with
       frameErrors := min (k.frameErrors + 1) 65535
       responses := k.responses ++ [{ tag := match f.tag with | some t => if t ≤ 3 then some t else none | none => none,
                                      code := if f.code ∈ knownCodes then f.code else 0, status := .badFrame, body := .none }] }))) ∧
  (∀ (l : Link) (s : State), s.agenda = [] → (s.links.get l).lane = [] →
     (∀ r rest, (s.links.get l).responses = r :: rest → (s.links.get l).out = none →
       ((s.outChans.get l).chan.state ≠ .running ∨ (s.outChans.get l).offsets = none ∨ 0 < (s.outChans.get l).ahead) →
       exec (.responseSend l) s = .next ((s.modLink l (fun k => { k with responses := rest, out := some (.response r) })).modOutChan l
         (fun c => { c with ahead := c.ahead - 1 }))) ∧
     (((s.links.get l).responses = [] ∨ (s.links.get l).out ≠ none) → exec (.responseSend l) s = .next s)) ∧
  (∀ (l : Link) (s : State) (r : Response), s.agenda = [] → (s.links.get l).out = some (.response r) →
     let tags := match r.tag with
       | some t => if r.status = .badFrame ∨ r.status = .busy then (s.links.get l).tags else (s.links.get l).tags &&& ~~~(1#4 <<< t)
       | none => (s.links.get l).tags
     let s' := s.modLink l (fun k => { k with out := none, tags := tags })
     let c := s.outChans.get l
     ((c.frame = none ∨ c.chan.state ≠ .running ∨ c.ahead ≠ 0) → exec (.responseAccepted l) s = .next s') ∧
     (∀ f, c.frame = some f → c.chan.state = .running → c.ahead = 0 →
       exec (.responseAccepted l) s = .next ((s'.modLink l (fun k => { k with out := some (.data f) })).modOutChan l
         (fun c => { c with chan := { c.chan with state := .paused }, offeredAt := s.ref }))))

/-- R195, R102, R118: the leading edge of a link's reset frees its tags, empties its queue, its attention and enable sets and its counts, gives up its
frames in progress and its channels' work, and takes its queued IMPORT and EXPORT requests off; a link with no retrieval operation. Its rights stay. A
level already asserted is no edge.
R102, R175, R195: the leading edge of a link's reset ends the link's retrieval operation with no response: every copy of it is in flight no more, its
item leaves its segment, whose fill goes on, or its demand, with the segment it made whose fill has not started, and the link's channels are IDLE.
R195: when the reset input is negated the link takes frames again. -/
def Obligations.LinkResetAndRelease : Prop :=
  (∀ (l : Link) (s : State), s.Quiet →
     ((s.links.get l).resetAsserted = false → (∀ o ∈ s.ops, o.reply.link ≠ l) →
       exec (.linkReset l) s = .next { s with
         links := s.links.set l { s.links.get l with
           tags := 0#4, responses := [], out := none, attention := [], enable := 0#10, frameErrors := 0, strays := 0,
           resetCount := (s.links.get l).resetCount + 1, resetAsserted := true }
         inChans := s.inChans.set l InChan.idle
         outChans := s.outChans.set l OutChan.idle
         lib := { s.lib with media := s.lib.media.filter (fun m => !m.ofLink l) } }) ∧
     ((s.links.get l).resetAsserted = true → exec (.linkReset l) s = .next s)) ∧
  (∀ s : State, ∀ l : Link, s.Quiet → ∀ o ∈ s.ops, ∀ i : Item, o.items[o.current - 1]? = some i → o.reply.link = l → (s.links.get l).resetAsserted = false →
   (∀ p ∈ s.ops, p.reply.link = l → p = o) → 1 ≤ o.current → i.hasEnded = false → s.spaceFifo = [] → (∀ h ∈ s.segments, ∀ u ∈ h.users, u.link = l → u = o.ref) →
   (∀ q ∈ s.lib.demands, ∀ w ∈ q.waiters, ∀ u ∈ w.item?, u.link = l → u = o.ref) → s.DemandsAwaited →
   let copies := (o.items.filter (fun j => !j.hasEnded && j.quote.isSome)).length
   let reset : State := { s with
     links := s.links.set l { s.links.get l with
       tags := 0#4, responses := [], out := none, attention := [], enable := 0#10, frameErrors := 0, strays := 0,
       resetCount := (s.links.get l).resetCount + 1, resetAsserted := true }
     inChans := s.inChans.set l InChan.idle
     outChans := s.outChans.set l OutChan.idle
     cat := { s.cat with accounts := s.cat.accounts.map (fun a => if a.code = o.account then { a with inFlight := a.inFlight - copies } else a) }
     ops := s.ops.filter (fun p => decide (p.reply.link ≠ l))
     lib := { s.lib with media := s.lib.media.filter (fun m => !m.ofLink l) } }
   (∀ g ∈ s.segments, o.ref ∈ g.users → (∀ h ∈ s.segments, (o.ref ∈ h.users ∨ h.inst = g.inst) → h = g) → g.started = true → s.NotWaiting o.ref →
     exec (.linkReset l) s = .next { reset with
       segments := s.segments.filter (fun h => decide (h.inst ≠ g.inst)) ++ [{ g with users := g.users.filter (fun u => decide (u ≠ o.ref)) }] }) ∧
   (∀ g ∈ s.segments, s.Unstarted g o.ref →
     let left := s.lib.demands.map (fun h => { h with waiters := h.waiters.filter (fun w => decide (w.item? ≠ some o.ref)) })
     exec (.linkReset l) s = .next { reset with
       segments := s.segments.filter (fun h => decide (h.inst ≠ g.inst))
       lib := { reset.lib with demands := left.filter (fun h => h.mounting.isSome || !h.waiters.isEmpty) } })) ∧
  (∀ (l : Link) (s : State), s.agenda = [] → (s.links.get l).lane = [] →
     exec (.linkResetRelease l) s = .next (s.modLink l (fun k => { k with resetAsserted := false })))

/-- R191: a posting reaches all three links in one change: each whose reset input is negated takes it into its attention set, whatever its enable set
holds: a kind not present enters with count 1, and a kind present has its event replaced and its count raised, holding at 255; every other kind stays
as it is.
R192, R193: EVENTS_READ returns the attention set and the enable set; EVENTS_ACK removes the named kinds and returns what stays. -/
def Obligations.PostingReachesAllLinks : Prop :=
  (∀ (s : State) (e : Event), s.power = .running → s.AttentionOk →
     let t := s.post e
     t = { s with links := t.links } ∧
     ∀ l, t.links.get l = { s.links.get l with attention := (t.links.get l).attention } ∧
       ((s.links.get l).resetAsserted = true → (t.links.get l).attention = (s.links.get l).attention) ∧
       ((s.links.get l).resetAsserted = false →
         (∀ a ∈ (s.links.get l).attention, a.kind ≠ e.kind → a ∈ (t.links.get l).attention) ∧
         (∀ a ∈ (t.links.get l).attention, a.kind ≠ e.kind → a ∈ (s.links.get l).attention) ∧
         (∀ a ∈ (s.links.get l).attention, a.kind = e.kind →
           { kind := e.kind, event := e, count := min (a.count + 1) 255 } ∈ (t.links.get l).attention) ∧
         ((∀ a ∈ (s.links.get l).attention, a.kind ≠ e.kind) →
           { kind := e.kind, event := e, count := 1 } ∈ (t.links.get l).attention))) ∧
  (∀ (l : Link) (t : Nat) (s : State),
     (s.Takes l t .eventsRead →
       exec (.eventsRead l t) s = .next (s.answered l t 0x71 .done (.attention (s.links.get l).attention (s.links.get l).enable))) ∧
     (∀ k, s.Takes l t (.eventsAck k) →
       (k < 1024 →
         let keep := (s.links.get l).attention.filter (fun a => !(k.testBit a.kind.num))
         exec (.eventsAck l t k) s =
           .next ((s.modLink l (fun r => { r with attention := keep })).answered l t 0x72 .done (.attentionKinds (keep.map (·.kind))))) ∧
       (1024 ≤ k → exec (.eventsAck l t k) s = .next (s.answered l t 0x72 .badField .none))))

/-- R193: EVENTS_ENABLE replaces the link's enable set by the set given, leaves the attention set as it is, and returns both; a kind that is not one
of the ten is BAD_FIELD, with no change. -/
def Obligations.EventsEnableReplacesSet : Prop :=
  ∀ (l : Link) (t k : Nat) (s : State), s.Takes l t (.eventsEnable k) →
    (k < 1024 → exec (.eventsEnable l t k) s =
      .next ((s.modLink l (fun r => { r with enable := BitVec.ofNat 10 k })).answered l t 0x73 .done
        (.bothSets ((s.links.get l).attention.map (·.kind)) (BitVec.ofNat 10 k)))) ∧
    (1024 ≤ k → exec (.eventsEnable l t k) s = .next (s.answered l t 0x73 .badField .none))

/-- R190, R159: RIGHTS_SET puts a rights set in force for the link named, unless that would leave no link ADMIN, and asks for a settings write of it,
which begins at once if none runs; the response waits for the write. The record written has the base trim in force, and the enables and the drive
count as stored, or, of a memory that is blank or did not answer at power-on, as in force (assumption log 46). While a write runs the request waits in
order, with the rights in force already (the model's choice, assumption log 39). -/
def Obligations.RightsSetKeepsAnAdmin : Prop :=
  ∀ (l : Link) (t target rights : Nat) (s : State), s.Takes l t (.rightsSet target rights) →
    (2 < target → exec (.rightsSet l t target rights) s = .next (s.answered l t 0x70 .badField .none)) ∧
    ∀ m : Link, m.toNat = target →
      let new := s.rights.set m (BitVec.ofNat 8 rights)
      let reply : Reply := { link := l, tag := t, gen := (s.links.get l).resetCount, code := 0x70 }
      ((∀ k, new.get k &&& 0x80#8 = 0#8) → exec (.rightsSet l t target rights) s = .next (s.answered l t 0x70 .lastAdmin .none)) ∧
      ((∃ k, new.get k &&& 0x80#8 ≠ 0#8) → s.settings.writing = none → s.settings.waiting = [] →
        let writes (enables : Four Bool) (drives : Nat) : Prop := exec (.rightsSet l t target rights) s = .next { s.tagTaken l t with
          rights := new
          settings := { s.settings with writing := some ({ rights := new, enables := enables, drives := drives, trim := s.clock.base }, reply) } }
        (∀ r, s.settings.answered = true → s.settings.stored = some r → writes r.enables r.drives) ∧
        ((s.settings.answered = false ∨ s.settings.stored = none) →
          writes ⟨s.lines.a1.enabled, s.lines.a2.enabled, s.lines.a3.enabled, s.lines.a4.enabled⟩ s.settings.drives)) ∧
      ((∃ k, new.get k &&& 0x80#8 ≠ 0#8) → s.settings.writing ≠ none →
        exec (.rightsSet l t target rights) s = .next { s.tagTaken l t with
          rights := new, settings := { s.settings with waiting := s.settings.waiting ++ [{ change := .inForce, reply := reply }] } })

/-- R160, R159: SETTINGS_SET of a count of 1 to 6 and four enables asks for a settings write of them, with the rights and base trim in force; the
drives and lines in force are not changed, and the response waits for the write; while a write runs the request waits in order, and its record is
composed when its own write begins (assumption log 39). Any other count or enable byte is BAD_FIELD.
R159, R160, R190, R35: a settings write that ends well is the stored record, and its response is DONE, with the stored values of a SETTINGS_SET and
the rights of a RIGHTS_SET; one that fails, or of a memory that did not answer at power-on, leaves the stored record as it was and is answered
SETTINGS_FAULT; of a link reset since the request there is no response (R195). The oldest write that waits begins then: its record has the rights and
the base trim in force, and a SETTINGS_SET's count and enables, or else those now stored, or in force where the memory is blank or did not answer
(assumption logs 39 and 46). With no write running nothing happens.
(Which stored values the DONE of SETTINGS_SET carries is the model's choice, assumption log 84.) -/
def Obligations.SettingsRecordWritten : Prop :=
  (∀ (l : Link) (t n : Nat) (e : Four Nat) (s : State), s.Takes l t (.settingsSet n e) →
     ((n < 1 ∨ 6 < n ∨ ∃ q, 1 < e.get q) → exec (.settingsSet l t n e) s = .next (s.answered l t 0x54 .badField .none)) ∧
     (1 ≤ n → n ≤ 6 → (∀ q, e.get q ≤ 1) → s.settings.writing = none → s.settings.waiting = [] →
       exec (.settingsSet l t n e) s = .next { s.tagTaken l t with settings := { s.settings with
         writing := some ({ rights := s.rights, enables := ⟨e.a1 == 1, e.a2 == 1, e.a3 == 1, e.a4 == 1⟩, drives := n, trim := s.clock.base },
           { link := l, tag := t, gen := (s.links.get l).resetCount, code := 0x54 }) } }) ∧
     (1 ≤ n → n ≤ 6 → (∀ q, e.get q ≤ 1) → s.settings.writing ≠ none →
       exec (.settingsSet l t n e) s = .next { s.tagTaken l t with settings := { s.settings with waiting := s.settings.waiting ++
         [{ change := .install n ⟨e.a1 == 1, e.a2 == 1, e.a3 == 1, e.a4 == 1⟩,
            reply := { link := l, tag := t, gen := (s.links.get l).resetCount, code := 0x54 } }] } })) ∧
  ((∀ (s : State) (rec : SettingsRec) (y : Reply) (ok : Bool), s.agenda = [] → s.settings.writing = some (rec, y) →
     let respond (s : State) (st : Status) (b : Body) : State :=
       if (s.links.get y.link).resetCount = y.gen then
         s.modLink y.link (fun k => { k with responses := k.responses ++ [{ tag := some y.tag, code := y.code, status := st, body := b }] })
       else s
     let ends (x : Settings) : Prop :=
       (ok = true → s.settings.answered = true →
         exec (.settingsWriteEnd ok) s = .next (respond { s with settings := { x with stored := some rec } } .done
           (if y.code = 0x54 then .settings rec.drives rec.enables else if y.code = 0x70 then .rights s.rights else .none))) ∧
       ((ok = false ∨ s.settings.answered = false) →
         exec (.settingsWriteEnd ok) s = .next (respond { s with settings := x } .settingsFault .none))
     (s.settings.waiting = [] → ends { s.settings with writing := none }) ∧
     (∀ (w : SettingsWrite) (rest : List SettingsWrite), s.settings.waiting = w :: rest →
       let kept : Option SettingsRec := if s.settings.answered then (if ok then some rec else s.settings.stored) else none
       let begins (enables : Four Bool) (drives : Nat) : Prop := ends { s.settings with
         writing := some ({ rights := s.rights, enables := enables, drives := drives, trim := s.clock.base }, w.reply)
         waiting := rest }
       (∀ n e, w.change = .install n e → begins e n) ∧
       (w.change = .inForce →
         (∀ r, kept = some r → begins r.enables r.drives) ∧
         (kept = none → begins ⟨s.lines.a1.enabled, s.lines.a2.enabled, s.lines.a3.enabled, s.lines.a4.enabled⟩ s.settings.drives)))) ∧
   (∀ (s : State) (ok : Bool), s.agenda = [] → s.settings.writing = none → exec (.settingsWriteEnd ok) s = .next s))

/-! ## The clock, the lines and the close target -/

/-- R26, R27, R28, R29: a powered millisecond. The effective trim is the temporary one while it runs. The clock moves by 1 ms, or, at the millisecond
the accumulator reaches 1,000,000, by 2 for a trim above 0 and by 0 for one below, holding at the top; each second it comes to lowers the temporary
trim's duration, whose end clears the accumulator; and the close target is tested after it.
R27: at the millisecond the accumulator reaches 1,000,000, with no second coming and the clock below its top, the clock moves by 2 ms for a trim above
0 and stands for one below, and the accumulator is reduced by 1,000,000. A millisecond that does not bring this is not this command's (assumption log
7).
R28, R27: with the last second of its duration the temporary trim ends: the effective trim is the base trim and the accumulator is 0. An advance that
does not bring this is not this command's (assumption log 7).
R38 (assumption log 7): with the target not reached yet, CLOSE_TARGET_REACHED is the millisecond that reaches it, where the clock's next advance does;
otherwise it changes nothing. -/
def Obligations.ClockAdvances : Prop :=
  (∀ s : State, s.power ≠ .off → s.agenda = [] →
     let eff := if 0 < s.clock.tempLeft then s.clock.temp else s.clock.base
     let spill := eff ≠ 0 ∧ 1000000 ≤ s.clock.acc + eff.natAbs
     let move := if spill then (if 0 < eff then 2 else 0) else 1
     let ms := min (s.clock.now.sec * 1000 + s.clock.now.ms + move) 4294967295999
     let rises := s.clock.now.sec < ms / 1000
     let acc := if spill then s.clock.acc + eff.natAbs - 1000000 else s.clock.acc + eff.natAbs
     let t : State := { s with
       ref := s.ref + 1
       clock := { s.clock with
         now := ⟨ms / 1000, ms % 1000⟩
         tempLeft := if rises then s.clock.tempLeft - 1 else s.clock.tempLeft
         acc := if rises ∧ s.clock.tempLeft = 1 then 0 else acc } }
     let reached := s.clock.valid = true ∧ s.cat.target.target ≠ 0 ∧ s.cat.target.target ≤ ms / 1000
     (¬reached → exec .clockAdvance s = .next t) ∧ (reached → exec .clockAdvance s = exec .closeTargetReached t)) ∧
  (∀ s : State, s.power ≠ .off → s.agenda = [] →
     let eff := if 0 < s.clock.tempLeft then s.clock.temp else s.clock.base
     let t (ms : Nat) : State :=
       { s with ref := s.ref + 1, clock := { s.clock with now := ⟨s.clock.now.sec, ms⟩, acc := s.clock.acc + eff.natAbs - 1000000 } }
     (eff ≠ 0 → 1000000 ≤ s.clock.acc + eff.natAbs → s.clock.now.sec ≤ 4294967295 → s.clock.now.ms < 998 →
       (s.cat.target.target = 0 ∨ s.clock.now.sec < s.cat.target.target ∨ s.clock.valid = false) →
       exec .trimAccumulatorOverflow s = .next (t (if 0 < eff then s.clock.now.ms + 2 else s.clock.now.ms))) ∧
     ((eff = 0 ∨ s.clock.acc + eff.natAbs < 1000000) → exec .trimAccumulatorOverflow s = .next s)) ∧
  (∀ s : State, s.power ≠ .off → s.agenda = [] →
     (s.clock.tempLeft = 1 → s.clock.acc + s.clock.temp.natAbs < 1000000 → s.clock.now.ms = 999 → s.clock.now.sec < 4294967295 →
       (s.cat.target.target = 0 ∨ s.clock.now.sec + 1 < s.cat.target.target ∨ s.clock.valid = false) →
       let c : Clock := { s.clock with now := ⟨s.clock.now.sec + 1, 0⟩, tempLeft := 0, acc := 0 }
       exec .temporaryTrimExpiry s = .next { s with ref := s.ref + 1, clock := c } ∧ c.effective = s.clock.base) ∧
     (s.clock.tempLeft ≠ 1 → exec .temporaryTrimExpiry s = .next s)) ∧
  (∀ s : State, s.power ≠ .off → s.agenda = [] →
     let eff := if 0 < s.clock.tempLeft then s.clock.temp else s.clock.base
     let move := if eff ≠ 0 ∧ 1000000 ≤ s.clock.acc + eff.natAbs then (if 0 < eff then 2 else 0) else 1
     let sec := min (s.clock.now.sec * 1000 + s.clock.now.ms + move) 4294967295999 / 1000
     let reached (sec : Nat) : Prop := s.clock.valid = true ∧ s.cat.target.target ≠ 0 ∧ s.cat.target.target ≤ sec
     ¬reached s.clock.now.sec →
       (reached sec → exec .closeTargetReached s = exec .clockAdvance s) ∧ (¬reached sec → exec .closeTargetReached s = .next s))

/-- R38, R178, R179, R180: a VALID clock at or past an armed target closes the period, in one change: the current tallies pass into the snapshot,
whose first and last period, periods spanned and grand total follow; the tallies and the grand total become 0, the period number rises (65,535 to 1),
the pending schedule becomes active, the target moves on, and PERIOD_CLOSED is posted.
R180: the records of a HELD snapshot at a further close: an account with a record has its tallies added to it, each holding at its top, and one
without a record gains one. -/
def Obligations.PeriodCloseMovesTallies : Prop :=
  (∀ s : State, s.Quiet → s.clock.valid = true → s.cat.target.target ≠ 0 → s.cat.target.target ≤ s.clock.now.sec →
     let c := s.cat
     let next := if c.period = 65535 then 1 else c.period + 1
     let snap : Snapshot := match c.snapshot with
       | none => { first := c.period, last := c.period, spanned := 1, grand := c.grand, records := c.accounts.map (fun a => { code := a.code, tally := a.tally }) }
       | some n => { first := n.first, last := c.period, spanned := min (n.spanned + 1) 255, grand := min (n.grand + c.grand) 999999999,
                     records := c.accounts.foldl mergeSnap n.records }
     let target := match c.target.mode with
       | .add =>
         let n := c.target.target + c.target.value * ((s.clock.now.sec - c.target.target) / c.target.value + 1)
         if n ≤ 4294967295 then n else 0
       | .reload => if s.clock.now.sec < c.target.value then c.target.value else 0
     exec .closeTargetReached s = .next (State.post { s with cat := { c with
       snapshot := some snap
       accounts := c.accounts.map (fun a => { a with tally := ⟨0, 0, 0, 0, false⟩ })
       grand := 0
       period := next
       active := c.pendingSched.getD c.active
       pendingSched := none
       target := { c.target with target := target } } }
       (.periodClosed c.period next snap.first snap.last snap.spanned c.pendingSched.isSome))) ∧
  (∀ (l : List SnapRec) (a : Account), risingKeys SnapRec.code l = true →
     risingKeys SnapRec.code (mergeSnap l a) = true ∧
     (∀ c, c ≠ a.code → findKeyed SnapRec.code c (mergeSnap l a) = findKeyed SnapRec.code c l) ∧
     findKeyed SnapRec.code a.code (mergeSnap l a) = some { code := a.code, tally := match findKeyed SnapRec.code a.code l with
       | none => a.tally
       | some r => { fees := min (r.tally.fees + a.tally.fees) 99999999, copies := min (r.tally.copies + a.tally.copies) 999999,
                     small := min (r.tally.small + a.tally.small) 9999999, plan := min (r.tally.plan + a.tally.plan) 9999999,
                     saturated := r.tally.saturated || a.tally.saturated || decide (99999999 < r.tally.fees + a.tally.fees) ||
                       decide (999999 < r.tally.copies + a.tally.copies) || decide (9999999 < r.tally.small + a.tally.small) ||
                       decide (9999999 < r.tally.plan + a.tally.plan) } })

/-- R32: CLOCK_READ returns the clock value and validity, the effective and the base trim, the temporary trim's remaining duration and the close
target with its mode and value, as they stand; it is always DONE and changes no other state. -/
def Obligations.ClockReadReturnsClock : Prop :=
  ∀ (l : Link) (t : Nat) (s : State), s.Takes l t .clockRead →
    exec (.clockRead l t) s = .next (s.answered l t 0x21 .done (.clock { now := s.clock.now, valid := s.clock.valid, effective := if 0 < s.clock.tempLeft then s.clock.temp else s.clock.base, base := s.clock.base, tempLeft := s.clock.tempLeft, target := s.cat.target }))

/-- R33, R34, R38: CLOCK_LOAD of a stamp with milliseconds to 999, and CLOCK_STEP within a day of a VALID clock, set the clock, post CLOCK_CHANGED
with the values before and after, test the close target, and answer DONE; a load makes the clock VALID with its continuity mark set; a step keeps the
milliseconds and is limited to 0 seconds and the top. What is out of range is BAD_FIELD, and a step of an INVALID clock CLOCK_INVALID (BAD_FIELD
first: assumption log 32). -/
def Obligations.ClockLoadAndStepSetClock : Prop :=
  ∀ (l : Link) (t : Nat) (s : State), s.power = .running →
    (∀ v : Stamp, s.Takes l t (.clockLoad v) →
      (999 < v.ms → exec (.clockLoad l t v) s = .next (s.answered l t 0x22 .badField .none)) ∧
      (v.ms ≤ 999 →
        let u := State.post { s with clock := { s.clock with now := v, valid := true, continuity := true } } (.clockChanged .load s.clock.now v)
        ((s.cat.target.target = 0 ∨ v.sec < s.cat.target.target) →
          exec (.clockLoad l t v) s = .next (u.answered l t 0x22 .done (.clockLoaded s.clock.now v))) ∧
        (s.cat.target.target ≠ 0 → s.cat.target.target ≤ v.sec → ∃ w, exec .closeTargetReached u = .next w ∧
          exec (.clockLoad l t v) s = .next (w.answered l t 0x22 .done (.clockLoaded s.clock.now v))))) ∧
    (∀ n : Int, s.Takes l t (.clockStep n) →
      ((n < -86400 ∨ 86400 < n) → exec (.clockStep l t n) s = .next (s.answered l t 0x23 .badField .none)) ∧
      (-86400 ≤ n → n ≤ 86400 → s.clock.valid = false → exec (.clockStep l t n) s = .next (s.answered l t 0x23 .clockInvalid .none)) ∧
      (-86400 ≤ n → n ≤ 86400 → s.clock.valid = true →
        let sum : Int := s.clock.now.sec + n
        let v : Stamp := if sum < 0 then ⟨0, s.clock.now.ms⟩ else if 4294967295 < sum then ⟨4294967295, 999⟩ else ⟨sum.toNat, s.clock.now.ms⟩
        let clamped := decide (sum < 0 ∨ 4294967295 < sum)
        let u := State.post { s with clock := { s.clock with now := v } } (.clockChanged .step s.clock.now v)
        ((s.cat.target.target = 0 ∨ v.sec < s.cat.target.target) →
          exec (.clockStep l t n) s = .next (u.answered l t 0x23 .done (.clockStepped v clamped))) ∧
        (s.cat.target.target ≠ 0 → s.cat.target.target ≤ v.sec → ∃ w, exec .closeTargetReached u = .next w ∧
          exec (.clockStep l t n) s = .next (w.answered l t 0x23 .done (.clockStepped v clamped)))))

/-- R35, R27, R28: CLOCK_TRIM. A base trim of −200 to +200 is in force at once, and its response waits for a settings write; a temporary trim of −200
to +200 for 1 to 65,535 s is started or replaced; END ends one. The accumulator is cleared where the effective trim changes. The record written has
the rights in force, and the enables and the drive count as stored, or, of a memory that is blank or did not answer at power-on, as in force (R159;
assumption log 46); while a write runs the request waits in order, the trim in force already (the model's choice, assumption log 39). What is out of
range, or a form byte that is no form, carried by END's row (assumption log 41), is BAD_FIELD.
R37: CLOSE_TARGET_SET stores target, mode and value; an undefined mode, an ADD value outside 1 to 604,800, or a target at or below the seconds of a
VALID clock is BAD_FIELD and changes nothing; the mode and value are tested with target 0 too (assumption log 31). -/
def Obligations.TrimAndCloseTargetSet : Prop :=
  (∀ (l : Link) (t : Nat) (s : State),
     let eff (c : Clock) : Int := if 0 < c.tempLeft then c.temp else c.base
     let cleared (c : Clock) : Clock := if eff c = eff s.clock then c else { c with acc := 0 }
     (∀ n : Int, s.Takes l t (.clockTrim (.base n)) →
       (-200 ≤ n → n ≤ 200 →
         let reply : Reply := { link := l, tag := t, gen := (s.links.get l).resetCount, code := 0x24 }
         let answers (x : Settings) : Prop := exec (.clockTrimBase l t n) s = .next { s.tagTaken l t with
           clock := cleared { s.clock with base := n, storeTrim := n }
           settings := x }
         (s.settings.writing = none → s.settings.waiting = [] →
           let writes (enables : Four Bool) (drives : Nat) : Prop :=
             answers { s.settings with writing := some ({ rights := s.rights, enables := enables, drives := drives, trim := n }, reply) }
           (∀ r, s.settings.answered = true → s.settings.stored = some r → writes r.enables r.drives) ∧
           ((s.settings.answered = false ∨ s.settings.stored = none) →
             writes ⟨s.lines.a1.enabled, s.lines.a2.enabled, s.lines.a3.enabled, s.lines.a4.enabled⟩ s.settings.drives)) ∧
         (s.settings.writing ≠ none →
           answers { s.settings with waiting := s.settings.waiting ++ [{ change := .inForce, reply := reply }] })) ∧
       ((n < -200 ∨ 200 < n) → exec (.clockTrimBase l t n) s = .next (s.answered l t 0x24 .badField .none))) ∧
     (∀ (n : Int) (d : Nat), s.Takes l t (.clockTrim (.temporary n d)) →
       (-200 ≤ n → n ≤ 200 → 1 ≤ d → d ≤ 65535 →
         exec (.clockTrimTemporary l t n d) s =
           .next (State.answered { s with clock := cleared { s.clock with temp := n, tempLeft := d } } l t 0x24 .done .none)) ∧
       ((n < -200 ∨ 200 < n ∨ d = 0) → exec (.clockTrimTemporary l t n d) s = .next (s.answered l t 0x24 .badField .none))) ∧
     (s.Takes l t (.clockTrim .stop) →
       exec (.clockTrimEnd l t 3) s = .next (State.answered { s with clock := cleared { s.clock with tempLeft := 0 } } l t 0x24 .done .none)) ∧
     (∀ f : Nat, s.Takes l t (.clockTrim (.other f)) → f ≠ 3 → exec (.clockTrimEnd l t f) s = .next (s.answered l t 0x24 .badField .none))) ∧
  (∀ (l : Link) (t g m v : Nat) (s : State), s.Takes l t (.closeTargetSet g m v) →
     let bad := (m ≠ 1 ∧ m ≠ 2) ∨ (m = 1 ∧ (v < 1 ∨ 604800 < v)) ∨ (s.clock.valid = true ∧ g ≠ 0 ∧ g ≤ s.clock.now.sec)
     (bad → exec (.closeTargetSet l t g m v) s = .next (s.answered l t 0x25 .badField .none)) ∧
     (¬bad → exec (.closeTargetSet l t g m v) s = .next (State.answered { s with cat := { s.cat with target :=
       { target := g, mode := if m = 1 then .add else .reload, value := v } } } l t 0x25 .done .none)))

/-- R40, R41, R42: the tests of a stamp issue in order, and the number and stamp of one that passes them: the stamp is the later of the clock reading
and the last stamp plus 1 ms, the day is the stamp's, and the sequence follows the last number's within its day.
R43, R4, R6: what an issued stamp changes: the LODGED entry, in its place, the last-issued values, STAMP_ISSUED, and CATALOGUE_LOW where 4,096 entries
or fewer are then free.
R49, R42: LODGE issues a stamp with its link as source and returns it, or answers with the first test that fails. -/
def Obligations.LodgementIssuesStamp : Prop :=
  (∀ s : State, s.clock.now.ms ≤ 999 → s.cat.lastStamp.ms ≤ 999 →
     (s.clock.valid = false → s.issueTest = .error .clockInvalid) ∧
     (s.clock.valid = true → s.absentMode = true → s.issueTest = .error .catalogueAbsent) ∧
     (s.clock.valid = true → s.absentMode = false → 131072 ≤ s.cat.table.length → s.issueTest = .error .catalogueFull) ∧
     (s.clock.valid = true → s.absentMode = false → s.cat.table.length < 131072 →
       let last := s.cat.lastStamp.sec * 1000 + s.cat.lastStamp.ms
       let ms := max (s.clock.now.sec * 1000 + s.clock.now.ms) (last + 1)
       let day := ms / 1000 / 86400
       let seq := match s.cat.lastNumber with | some n => if n.day = day then n.seq + 1 else 1 | none => 1
       (4294967295999 ≤ last → s.issueTest = .error .dayFull) ∧
       (last < 4294967295999 → 9999 < seq → s.issueTest = .error .dayFull) ∧
       (last < 4294967295999 → seq ≤ 9999 → s.issueTest = .ok (⟨day, seq⟩, ⟨ms / 1000, ms % 1000⟩)))) ∧
  (∀ (s : State) (n : InstrNum) (t : Stamp) (src : Source),
     let e : Entry := { num := n, state := .lodged, stamp := t, source := src, restricted := false, successor := none, claim := none, copies := 0 }
     let table := insertKeyed Entry.key e s.cat.table
     let s' := State.post { s with cat := { s.cat with table := table, storedCount := s.cat.storedCount + 1, lastStamp := t, lastNumber := some n } }
       (.stampIssued n t src)
     s.issue n t src = if 131072 - table.length ≤ 4096 then s'.post (.catalogueLow (131072 - table.length)) else s') ∧
  (∀ (l : Link) (t : Nat) (s : State), s.Takes l t .lodge →
     (∀ st, s.issueTest = .error st → exec (.lodge l t) s = .next (s.answered l t 0x20 st .none)) ∧
     (∀ n v, s.issueTest = .ok (n, v) → exec (.lodge l t) s = .next ((s.issue n v (.link l)).answered l t 0x20 .done (.stamped n v))))

/-- R45, R46, R47: the leading edge of a press on an enabled line. With its queue full, or a stamp refused, the lamp is lit and STAMP_REFUSED posted;
otherwise the stamp is issued with the line as source, its record joins the queue, the lamp goes off, and a printer that is free and whose accept is
negated is offered the head. A level already active, a disabled line, or links that have not started ask for nothing (R48).
R45: the press input gone inactive re-arms its line and does nothing else.
R47: accept asserted while OFFERED removes the head record and the offer; asserted otherwise it is only noted. Negated, it lets the next queued record
be offered. -/
def Obligations.PressAsksForStamp : Prop :=
  (∀ (q : LineNo) (s : State), s.agenda = [] →
     let k := s.lines.get q
     let hold (f : Line → Line) : State := s.modLine q (fun r => f { r with pressed := true })
     ((k.pressed = true ∨ k.enabled = false ∨ s.power ≠ .running) → exec (.press q) s = .next (hold id)) ∧
     (k.pressed = false → k.enabled = true → s.power = .running →
       (4 ≤ k.queue.length →
         exec (.press q) s = .next ((hold (fun r => { r with lamp := true })).post (.stampRefused q .queueFull))) ∧
       (k.queue.length < 4 →
         (∀ st, s.issueTest = .error st →
           exec (.press q) s = .next ((hold (fun r => { r with lamp := true })).post (.stampRefused q (.status st)))) ∧
         (∀ n v, s.issueTest = .ok (n, v) →
           exec (.press q) s = .next (((hold id).issue n v (.line q)).modLine q (fun r => { r with
             queue := r.queue ++ [{ line := q, num := n, stamp := v }], lamp := false, offered := r.offered || !r.accept })))))) ∧
  (∀ (q : LineNo) (s : State), s.agenda = [] → exec (.pressInputInactive q) s = .next (s.modLine q (fun r => { r with pressed := false }))) ∧
  (∀ (q : LineNo) (s : State), s.agenda = [] →
     let k := s.lines.get q
     (k.offered = true → k.accept = false →
       exec (.printerAccept q) s = .next (s.modLine q (fun r => { r with accept := true, offered := false, queue := r.queue.tail }))) ∧
     ((k.offered = false ∨ k.accept = true) → exec (.printerAccept q) s = .next (s.modLine q (fun r => { r with accept := true }))) ∧
     exec (.printerAcceptNegated q) s =
       .next (s.modLine q (fun r => { r with accept := false, offered := r.offered || !r.queue.isEmpty })))

/-! ## The catalogue -/

/-- R17: LOOKUP returns the entry of the number named, or NO_SUCH.
R18, R16: PENDING_LIST returns the first 16 LODGED numbers after the start-after number; FOLIO_SEARCH the first 16 numbers of a folio's list after it,
for LIVE those without a successor; each with the last of them as continuation where more follow. A presence byte, a mode or a folio number that is
not defined is BAD_FIELD. -/
def Obligations.CatalogueReads : Prop :=
  (∀ (l : Link) (t : Nat) (n : InstrNum) (s : State), s.Takes l t (.lookup n) →
     ((∀ e ∈ s.cat.table, e.num ≠ n) → exec (.lookup l t n) s = .next (s.answered l t 0x10 .noSuch .none)) ∧
     (∀ e ∈ s.cat.table, e.num = n → s.cat.table.Pairwise (fun a b => a.num ≠ b.num) →
       exec (.lookup l t n) s = .next (s.answered l t 0x10 .done (.entry e)))) ∧
  (∀ (l : Link) (t : Nat) (a : OptField) (s : State),
     let after (n : InstrNum) : Bool := a.presence == 0 || decide (a.value < n.day * 65536 + n.seq)
     let more (nums : List InstrNum) : Option InstrNum := if 16 < nums.length then nums[15]? else none
     (s.Takes l t (.pendingList a) → a.presence ≤ 1 →
       let nums := ((s.cat.table.filter (fun e => e.state == .lodged)).map (·.num)).filter after
       exec (.pendingList l t a) s = .next (s.answered l t 0x11 .done (.numbers (nums.take 16) (more nums)))) ∧
     (s.Takes l t (.pendingList a) → 1 < a.presence → exec (.pendingList l t a) s = .next (s.answered l t 0x11 .badField .none)) ∧
     (∀ folio mode : Nat, s.Takes l t (.folioSearch folio a mode) →
       (a.presence ≤ 1 → (mode = 1 ∨ mode = 2) → 1 ≤ folio → folio ≤ 999999 →
         let list := match findKeyed FolioRec.folio folio s.cat.folios with | some f => f.list | none => []
         let live (n : InstrNum) : Bool := mode == 2 || (match s.cat.entry? n with | some e => e.successor.isNone | none => true)
         let nums := (list.filter after).filter live
         exec (.folioSearch l t folio a mode) s = .next (s.answered l t 0x12 .done (.folioNumbers folio (nums.take 16) (more nums)))) ∧
       ((1 < a.presence ∨ (mode ≠ 1 ∧ mode ≠ 2) ∨ folio < 1 ∨ 999999 < folio) →
         exec (.folioSearch l t folio a mode) s = .next (s.answered l t 0x12 .badField .none))))

/-- R19: the checks of a RESTORE, in order, and what the first that fails answers; nothing is changed. (In normal mode with no number issued yet it is
FUTURE_NUMBER: assumption log 34. A successor whose sequence is outside 1 to 9,999 is left to check 4: assumption log 64.)
R20, R6: a RESTORE that passes its checks inserts the RECORDED entry and a link to it in each folio named, and marks its side FULL at a fill point not
below the extent's end, where the library has the platter's record; CATALOGUE_LOW follows where few entries are free.
R15, R20: an instrument's folio links: its number joins the list of each folio named, in order, and no other list is changed. -/
def Obligations.RestoreInsertsEntry : Prop :=
  (∀ (l : Link) (t : Nat) (p : RestoreParams) (s : State), s.Takes l t (.restore p) →
     let refused (st : Status) : Prop := exec (.restore l t p) s = .next (s.answered l t 0x13 st .none)
     (restoreFields p = none → refused .badField) ∧
     ∀ src loc res suc, restoreFields p = some (src, loc, res, suc) →
       (s.cat.entry? p.inst ≠ none → refused .duplicate) ∧
       (s.cat.entry? p.inst = none →
         (s.absentMode = false → (∀ n, s.cat.lastNumber = some n → n.key < p.inst.key ∨ s.cat.lastStamp.toMs < p.stamp.toMs) →
           refused .futureNumber) ∧
         ((s.absentMode = true ∨ ∃ n, s.cat.lastNumber = some n ∧ p.inst.key ≤ n.key ∧ p.stamp.toMs ≤ s.cat.lastStamp.toMs) →
           ((∃ n, suc = some n ∧ ∀ e, s.cat.entry? n = some e → e.loc? = none ∨ e.stamp.toMs ≤ p.stamp.toMs) → refused .supersedeInvalid) ∧
           ((∀ n, suc = some n → ∃ e, s.cat.entry? n = some e ∧ e.loc? ≠ none ∧ p.stamp.toMs < e.stamp.toMs) →
             ((∃ x, (x ∈ s.filingExtents ∨ ∃ e ∈ s.cat.table, e.loc? = some x) ∧ s.cat.overlaps loc x = true) → refused .extentOverlap) ∧
             ((∀ x, (x ∈ s.filingExtents ∨ ∃ e ∈ s.cat.table, e.loc? = some x) → s.cat.overlaps loc x = false) →
               (131072 ≤ s.cat.table.length → refused .catalogueFull) ∧
               (s.cat.table.length < 131072 → s.folioRoom (distinct p.folios) = false → refused .folioFull)))))) ∧
  (∀ (l : Link) (t : Nat) (p : RestoreParams) (s : State) (src : Source) (loc : Location) (res : Bool) (suc : Option InstrNum),
     s.Takes l t (.restore p) → s.restoreTest p = .ok (src, loc, res, suc) →
     let e : Entry := { num := p.inst, state := .recorded loc ⟨p.small, p.plan⟩, stamp := p.stamp, source := src, restricted := res, successor := suc, claim := none, copies := 0 }
     let id := s.cat.canonId p.platter
     let fill (x : SideRec) : SideRec := { x with state := .full (match x.state with
       | .opened f => max f (p.start + p.len)
       | .full f => max f (p.start + p.len)
       | _ => p.start + p.len) }
     let mark (r : Platter) : Platter := match loc.side with | .s0 => { r with side0 := fill r.side0 } | .s1 => { r with side1 := fill r.side1 }
     let c : CatMem := { s.cat with
       table := insertKeyed Entry.key e s.cat.table
       storedCount := s.cat.storedCount + 1
       folios := (CatMem.addLinks s.cat p.inst p.folios).folios
       platters := updateKeyed Platter.id id mark s.cat.platters }
     let s' : State := { s with cat := c }
     let free := 131072 - c.table.length
     exec (.restore l t p) s = .next ((if free ≤ 4096 then s'.post (.catalogueLow free) else s').answered l t 0x13 .done
       (.sideMarked (findKeyed Platter.id id s.cat.platters).isSome))) ∧
  (∀ (c : CatMem) (n : InstrNum) (fs : List Nat) (f : Nat), risingKeys FolioRec.folio c.folios = true →
     risingKeys FolioRec.folio (c.addLinks n fs).folios = true ∧
     (f ∉ fs → (c.addLinks n fs).folio? f = c.folio? f) ∧
     (f ∈ fs → (c.addLinks n fs).folio? f = some { folio := f, list := insertKeyed InstrNum.key n (match c.folio? f with | some r => r.list | none => []) }))

/-- R21: CATALOGUE_READY ends catalogue-absent mode: the last-issued stamp is the largest of the table, or zero, the last-issued number the largest,
or absent, and the marker VALID with the count of entries; outside that mode it is CATALOGUE_PRESENT. (With no filing waiting for media; R69.)
R62: WITHDRAW makes a LODGED instrument WITHDRAWN; any other is NOT_LODGED, and nothing changes.
R63: CLOSE_SIDE makes the OPEN side FULL at its fill point, its platter the last filing platter; with no OPEN side, NO_OPEN_SIDE. -/
def Obligations.CatalogueReadyEndsAbsentMode : Prop :=
  (∀ (l : Link) (t : Nat) (s : State), s.Takes l t .catalogueReady →
     (s.absentMode = false → exec (.catalogueReady l t) s = .next (s.answered l t 0x14 .cataloguePresent .none)) ∧
     (s.absentMode = true → s.commitQueue = [] → ∃ stamp num,
       ((s.cat.table = [] → stamp = ⟨0, 0⟩ ∧ num = none) ∧ (∀ e ∈ s.cat.table, e.stamp.toMs ≤ stamp.toMs) ∧
         (s.cat.table ≠ [] → (∃ e ∈ s.cat.table, e.stamp.toMs = stamp.toMs) ∧ ∃ e ∈ s.cat.table, num = some e.num ∧
           (risingKeys Entry.key s.cat.table = true → ∀ x ∈ s.cat.table, x.num.key ≤ e.num.key))) ∧
       exec (.catalogueReady l t) s = .next (State.answered { s with
         absentMode := false
         cat := { s.cat with lastStamp := stamp, lastNumber := num, marker := .valid, storedCount := s.cat.table.length } } l t 0x14 .done
         (.lastIssued stamp num)))) ∧
  (∀ (l : Link) (t : Nat) (n : InstrNum) (s : State), s.Takes l t (.withdraw n) →
     ((∃ e ∈ s.cat.table, e.num = n ∧ e.state = .lodged) →
       exec (.withdraw l t n) s = .next (State.answered { s with cat := { s.cat with
         table := s.cat.table.map (fun e => if e.num = n then { e with state := .withdrawn } else e) } } l t 0x34 .done .none)) ∧
     ((∀ e ∈ s.cat.table, e.num = n → e.state ≠ .lodged) → exec (.withdraw l t n) s = .next (s.answered l t 0x34 .notLodged .none))) ∧
  (∀ (l : Link) (t : Nat) (s : State), s.Takes l t .closeSide →
     (s.openSide = none → exec (.closeSide l t) s = .next (s.answered l t 0x35 .noOpenSide .none)) ∧
     (∀ ps fill, s.openSide = some (ps, fill) →
       let mark (r : Platter) : Platter := match ps.side with
         | .s0 => { r with side0 := { r.side0 with state := .full fill } }
         | .s1 => { r with side1 := { r.side1 with state := .full fill } }
       exec (.closeSide l t) s = .next (State.answered { s with
         cat := { s.cat with platters := updateKeyed Platter.id ps.platter mark s.cat.platters }
         lastFiling := some ps } l t 0x35 .done (.sideClosed ps fill))))

/-! ## Filing -/

/-- R52: OPEN_FILING occupies the lowest free slot, in RECEIVING for its link with nothing fed, and makes the instrument named, or the LODGED one with
the lowest number, FILING in it. None LODGED is NOT_LODGED, and then no slot free FILING_FULL; a presence byte that is not defined is BAD_FIELD. -/
def Obligations.OpenFilingOccupiesSlot : Prop :=
  ∀ (l : Link) (t : Nat) (o : OptField) (s : State), s.Takes l t (.openFiling o) →
    let lodged := s.cat.table.filter (fun e => e.state == .lodged)
    let named : InstrNum := ⟨o.value / 65536, o.value % 65536⟩
    let target := if o.presence = 0 then lodged.head?.map (·.num) else if ∃ e ∈ lodged, e.num = named then some named else none
    (1 < o.presence → exec (.openFiling l t o) s = .next (s.answered l t 0x30 .badField .none)) ∧
    (o.presence ≤ 1 → target = none → exec (.openFiling l t o) s = .next (s.answered l t 0x30 .notLodged .none)) ∧
    (∀ n, o.presence ≤ 1 → target = some n →
      ((∀ q, s.filings.get q ≠ none) → exec (.openFiling l t o) s = .next (s.answered l t 0x30 .filingFull .none)) ∧
      (∀ q, s.filings.get q = none → (∀ q', q'.toNat < q.toNat → s.filings.get q' ≠ none) →
        exec (.openFiling l t o) s = .next (State.answered { s with
          cat := { s.cat with table := s.cat.table.map (fun e => if e.num = n then { e with state := .filing q } else e) }
          filings := s.filings.set q (some { inst := n, owner := l, state := .receiving, blocks := 0, starts := [], overflow := false, idleSince := s.ref, commit := none, extent := none }) }
          l t 0x30 .done (.opened q n))))

/-- R53, R54, R113: the tests of FEED in order (the flag byte first: assumption log 33), and a block that passes them: it joins the ring at the head
as the slot's next block, LIVE, and stands in the link's inbound channel until the port moves it; a page start other than block 0 is noted, up to 255
of them; the DONE is queued in the same change (the model's choice, assumption log 68). A test that fails after the slot's own restarts the idle
timer. -/
def Obligations.FeedAppendsBlock : Prop :=
  ∀ (l : Link) (t n flag : Nat) (b : List Byte) (s : State), s.Takes l t (.feed n flag b) →
    let refused (st : Status) : Prop := exec (.feed l t n flag b) s = .next (s.answered l t 0x31 st .none)
    (1 < flag → refused .badField) ∧
    (flag ≤ 1 →
      ((∀ q : FSlot, q.toNat = n → s.filings.get q = none) → refused .noFiling) ∧
      ∀ (q : FSlot) (f : Filing), q.toNat = n → s.filings.get q = some f →
        (f.owner ≠ l → refused .notOwner) ∧
        (f.owner = l → f.state ≠ .receiving → refused .notReceiving) ∧
        (f.owner = l → f.state = .receiving →
          let restarted : State := { s with filings := s.filings.set q (some { f with idleSince := s.ref }) }
          (4095 ≤ f.blocks → exec (.feed l t n flag b) s = .next (restarted.answered l t 0x31 .tooLong .none)) ∧
          (f.blocks < 4095 → 4096 ≤ s.ring.length → exec (.feed l t n flag b) s = .next (restarted.answered l t 0x31 .ringFull .none)) ∧
          (f.blocks < 4095 → s.ring.length < 4096 →
            let page := flag = 1 ∧ f.blocks ≠ 0
            let g : Filing := { f with
              blocks := f.blocks + 1
              idleSince := s.ref
              starts := if page ∧ f.starts.length < 255 then f.starts ++ [f.blocks] else f.starts
              overflow := f.overflow || decide (page ∧ 255 ≤ f.starts.length) }
            exec (.feed l t n flag b) s = .next (State.answered { s with
              ring := s.ring ++ [{ pos := s.ringNext, slot := q, ext := f.blocks, mark := .live }]
              ringNext := (s.ringNext + 1) % 4096
              filings := s.filings.set q (some g)
              inChans := s.inChans.set l { chan := { state := .running, op := .slot q, mode := some .lane, next := s.ringNext, remaining := 1, action := .none }, store := some b } }
              l t 0x31 .done (.fed (f.blocks + 1))))))

/-- R113, R116: when no drive channel wants the port, it moves the block an inbound channel holds to its place in the ring: those 1,024 bytes read as
fed, every other byte reads as before, and the channel is IDLE; with nothing that wants the port, nothing moves.
R116, R112, R94: the port stages the oldest block a fill's drive has passed, of those its channel holds (assumption log 9): its bytes read as passed,
every other byte as before, and the segment has one staged block more (a block that is not the fill's last, with no channel waiting for it).
R94, R112, R114, R93: the port stages a block of a fill: the segment has one staged block more, and a channel that waits for the block goes on,
RUNNING with the responses now queued ahead of it (assumption log 17). With the last block the fill is over; its channel stays RUNNING till the
drive's DONE (assumption log 66), and where the drive has reported its read done before, the channel is IDLE and the use gone (assumption log 53); so
it is at that report, where the last block is staged already.
R96, R97, R114, R115, R198: the port serves an outbound channel, with nothing before it that wants the port. First it reads the page map: a map that
agrees with the page counts and the extent gives the channel its first selected block and their count, RUNNING with the responses now queued ahead of
it (assumption log 17) if that block is staged, else WAITING; one that does not ends the item, the last of an operation, MAP_DAMAGED, and the segment
stays. Then it reads the next selected block: its DATA frame names the page the block lies in and its number within the page, and is offered, the
channel PAUSED, where the lane is free and no response goes ahead of it. A parity fault on its read, of the map or of a block, ends the item, the last
of an operation, MEDIA_FAULT, its segment without other users is removed, and BUFFER_PARITY is posted with the channel and the block it was to read,
in buffer memory's numbers (R117; assumption log 44).
(The 0s in the entry of an item not ended DONE are the model's choice, assumption log 71.)
(A fill's drive channel goes on showing an item that has ended, the model's choice, assumption log 82.) -/
def Obligations.PortMovesBlocks : Prop :=
  (∀ (s : State) (l : Link) (b : List Byte) (parity : Bool), s.agenda = [] → (∀ d, s.driveWants d = false) → (∀ k, (s.links.get k).lane = []) →
     ((s.inChans.get l).store = some b → (∀ k : Link, k.toNat < l.toNat → (s.inChans.get k).store = none) → b.length = 1024 →
       (s.inChans.get l).chan.next < 8192 → s.MemoryOk →
       ∃ m, exec (.bufferPortMove parity) s = .next { s with mem := m, inChans := s.inChans.set l InChan.idle } ∧
         (∀ i, i < 1024 → Memory.read m ((s.inChans.get l).chan.next * 1024 + i) = b.getD i 0#8) ∧
         (∀ a, (a < (s.inChans.get l).chan.next * 1024 ∨ (s.inChans.get l).chan.next * 1024 + 1024 ≤ a) → Memory.read m a = Memory.read s.mem a)) ∧
     ((∀ k, (s.inChans.get k).store = none) → (∀ k, s.outWants k = false) → s.mapReads = [] → exec (.bufferPortMove parity) s = .next s)) ∧
  (∀ (d : DriveNo) (s : State) (n : InstrNum) (work : List Use) (b : List Byte) (held : List (List Byte)) (g : Segment), s.Quiet →
     let c := s.driveChans.get d
     (∀ k, (s.links.get k).lane = []) → (∀ k : DriveNo, k.toNat < d.toNat → s.driveWants k = false) → (s.lib.drives.get d).work = .fill n :: work →
     c.held = b :: held → 1 < c.chan.remaining → c.chan.next < 8192 → b.length = 1024 → s.MemoryOk → s.segments = [g] → g.inst = n →
     g.staged + 1 < g.len → (∀ u ∈ g.users, (s.outChans.get u.link).chan.state ≠ .waiting) →
     ∃ m, exec (.bufferPortMove false) s = .next { s with
         mem := m
         driveChans := s.driveChans.set d { c with chan := { c.chan with next := c.chan.next + 1, remaining := c.chan.remaining - 1 }, held := held }
         segments := [{ g with staged := g.staged + 1 }] } ∧
       (∀ i, i < 1024 → Memory.read m (c.chan.next * 1024 + i) = b.getD i 0#8) ∧
       (∀ a, (a < c.chan.next * 1024 ∨ c.chan.next * 1024 + 1024 ≤ a) → Memory.read m a = Memory.read s.mem a)) ∧
  (∀ s : State, ∀ d : DriveNo, s.Quiet →
   let k := s.lib.drives.get d
   let c := s.driveChans.get d
   ∀ g ∈ s.segments, k.work = [.fill g.inst] → (∀ h ∈ s.segments, h.inst = g.inst → h = g) →
   (∀ (b : List Byte) (held : List (List Byte)), c.held = b :: held → DriveNo.all.find? s.driveWants = some d → (∀ k ∈ Link.all, (s.links.get k).lane = []) →
     let moved : State := { s with
       mem := Memory.writeBlock s.mem c.chan.next b
       driveChans := s.driveChans.set d { c with chan := { c.chan with next := c.chan.next + 1, remaining := c.chan.remaining - 1 }, held := held } }
     let staged (fill : Option DriveNo) : List Segment := s.segments.map (fun h => if h.inst = g.inst then { g with staged := g.staged + 1, fill := fill } else h)
     (∀ l : Link, ∀ r ∈ g.users,
       let o := s.outChans.get l
       r.link = l → o.chan.op = .item r → o.chan.state = .waiting → (∀ u ∈ g.users, u.link ≠ l → (s.outChans.get u.link).chan.state ≠ .waiting) →
       1 < c.chan.remaining → g.staged + 1 < g.len → o.chan.next = 4096 + (g.first + g.staged) →
       exec (.bufferPortMove false) s = .next { moved with
         segments := staged g.fill
         outChans := s.outChans.set l { o with chan := { o.chan with state := .running }, ahead := (s.links.get l).responses.length } }) ∧
     ((∀ u ∈ g.users, (s.outChans.get u.link).chan.state ≠ .waiting) → c.chan.remaining = 1 → g.staged + 1 = g.len → g.users ≠ [] →
       (k.cmd ≠ none →
         exec (.bufferPortMove false) s = .next { moved with segments := staged none }) ∧
       (k.cmd = none → s.PickerRests →
         exec (.bufferPortMove false) s = .next { moved with
           segments := staged none
           driveChans := s.driveChans.set d DriveChan.idle
           lib := { s.lib with drives := s.lib.drives.set d { k with work := [] } } }))) ∧
   (∀ (a : Nat) (n : Nat), k.cmd = some (.read a n) → k.staleDone = false → n ≤ k.reported → c.chan.remaining = 0 → s.PickerRests →
     exec (.driveDoneReport d) s = .next { s with
       lib := { s.lib with drives := s.lib.drives.set d { k with state := if k.state = .busy then .ready else k.state, cmd := none, reported := 0, retry := false, work := [] } }
       driveChans := s.driveChans.set d DriveChan.idle })) ∧
  (∀ s : State, ∀ l : Link, s.Quiet →
   let c := s.outChans.get l
   ∀ o ∈ s.ops, ∀ i : Item, o.items[o.current - 1]? = some i → ∀ g ∈ s.segments, ∀ v : Resolved, i.resolved = some v → (∀ d ∈ DriveNo.all, s.driveWants d = false) →
   (∀ k ∈ Link.all, (s.inChans.get k).store = none) → Link.all.find? s.outWants = some l → (∀ k ∈ Link.all, (s.links.get k).lane = []) → c.chan.op = .item o.ref →
   o.reply.link = l → (∀ p ∈ s.ops, p.reply.link = l → p = o) → 1 ≤ o.current → o.ref ∈ g.users → (∀ h ∈ s.segments, (o.ref ∈ h.users ∨ h.inst = g.inst) → h = g) →
   (c.offsets = none →
     let map := Memory.readBlock s.mem (4096 + g.first)
     (∀ (a : Nat) (z : Nat), i.range = some (a, z) →
       let first := (mapOffsets map).getD (a - 1) 0
       let count := ((mapOffsets map)[z]?).getD g.len - first
       let staged := 4096 + (g.first + first) < 4096 + (g.first + g.staged)
       mapOk map (v.pages.small + v.pages.plan) g.len = true →
       exec (.bufferPortMove false) s = .next { s with outChans := s.outChans.set l { c with
         chan := { c.chan with next := 4096 + (g.first + first), remaining := count, state := if staged then .running else .waiting }
         offsets := some (mapOffsets map)
         ahead := if staged then (s.links.get l).responses.length else c.ahead } }) ∧
     (mapOk map (v.pages.small + v.pages.plan) g.len = false → i.range.isSome = true → s.AtLastItem o i → s.NotWaiting o.ref → s.spaceFifo = [] → g.started = true →
       exec (.bufferPortMove false) s = .next (State.itemLost { s with
         segments := s.segments.filter (fun h => decide (h.inst ≠ g.inst)) ++ [{ g with users := g.users.filter (fun u => decide (u ≠ o.ref)) }] } o i .mapDamaged))) ∧
   (∀ offs : List Nat, c.offsets = some offs →
     let blk := c.chan.next - (4096 + g.first)
     let page := (offs.filter (fun a => decide (a ≤ blk))).length
     let frame : DataFrame := { item := o.ref, code := o.reply.code, page := page, block := blk - offs.getD (page - 1) 0, bytes := Memory.readBlock s.mem c.chan.next }
     (c.ahead = 0 → (s.links.get l).out = none →
       exec (.bufferPortMove false) s = .next { s with
         links := s.links.set l { s.links.get l with out := some (.data frame) }
         outChans := s.outChans.set l { c with chan := { c.chan with state := .paused }, frame := some frame, offeredAt := s.ref } }) ∧
     ((c.ahead ≠ 0 ∨ (s.links.get l).out ≠ none) →
       exec (.bufferPortMove false) s = .next { s with outChans := s.outChans.set l { c with frame := some frame } })) ∧
   (g.users = [o.ref] → g.fill = none → g.started = true → g.len ≤ g.staged → s.AtLastItem o i → s.NotWaiting o.ref → s.spaceFifo = [] →
     exec (.bufferPortMove true) s = .next (State.itemLost (State.post { s with segments := s.segments.filter (fun h => decide (h.inst ≠ g.inst)) } (.bufferParity (.outbound l) c.chan.next)) o i .mediaFault)))

/-- R56: tests 1 to 4 of COMMIT in order; a COMMIT that passes them waits, with its tag taken, for the port to read its page map (a slot with no block
has none, and is BAD_MAP: assumption log 12).
(That an undefined restricted byte, or counts that disagree with the length, are tested at test 4 is the model's choice, assumption log 86.) -/
def Obligations.CommitWaitsForMap : Prop :=
  ∀ (l : Link) (t : Nat) (p : CommitParams) (s : State), s.Takes l t (.commit p) →
    let refused (st : Status) : Prop := exec (.commit l t p) s = .next (s.answered l t 0x32 st .none)
    ((∀ q : FSlot, q.toNat = p.slot → s.filings.get q = none) → refused .noFiling) ∧
    ∀ (q : FSlot) (f : Filing), q.toNat = p.slot → s.filings.get q = some f →
      (f.owner ≠ l → refused .notOwner) ∧
      (f.owner = l → f.state ≠ .receiving → refused .notReceiving) ∧
      (f.owner = l → f.state = .receiving →
        (commitFields p = none → refused .badField) ∧
        (commitFields p ≠ none → f.blocks = 0 → refused .badMap) ∧
        (commitFields p ≠ none → f.blocks ≠ 0 → exec (.commit l t p) s = .next { s.tagTaken l t with
          mapReads := s.mapReads ++ [{ reply := { link := l, tag := t, gen := (s.links.get l).resetCount, code := 0x32 }, p := p }] }))

/-- R8, Table 1-4: the claim faults of a commit's supersede targets: invalid where a target is absent, not RECORDED, has a successor, has a stamp not
strictly earlier than the claimant's, or appears twice; then claimed where a target has a claim; otherwise none.
R14: there is index room for k distinct folios when the links used, the links reserved and k are at most 262,144, and the folio records held, the
distinct reserved folios without a record and those of the k with neither record nor reservation are at most 32,768.
R106: the ring position of block e of a filing slot is that of the one LIVE ring block which is the slot's e-th; where the slot holds none, as beyond
its last, it is 0, the model's choice (assumption log 72).
R57, R198, R96: a page map agrees with a page count and an extent length exactly when its bytes 0 and 1 hold the count, 1 to 255, its entries 1 to the
count ascend strictly from 1 and stay below the length, and the entries above the count are 0. A filing's map is valid for a COMMIT exactly when the
filing has 2 blocks at least, the map agrees with the COMMIT's pages and the filing's blocks, and the page starts fed, with none beyond the list, are
the map's entries.
R57, R58, R8, R14, R117: the port reads the page map of the COMMIT that waits first, nothing else wanting the port. A bad map is BAD_MAP, then a
claim's fault is answered, then no folio room FOLIO_FULL; a parity fault is MEDIA_FAULT and posted. Otherwise the targets are claimed, the folios
reserved, and the slot is QUEUED at the tail; behind another slot it waits for its turn.
R66, Table 3-4: the side search takes a side that is BLANK or UNCHECKED, that the slot has not failed on, and whose platter is in a slot, in the
picker or in a drive that is not FAULT: the other side of the last filing platter if it is such a side, else the first by home slot number, side 0
before side 1; and it finds none only where there is none. (Ids and home slots are held once each.)
R65, R66, R68, R69, R133: the turn of a head that the last statement's COMMIT makes, the commit queue being empty before it. With no OPEN side and
none BLANK or UNCHECKED it is in WAITING_MEDIA and MEDIA_ALERT is posted; an OPEN side that is reachable and has room is demanded, and with no demand
for that side, the side in no drive and the picker not free, the demand waits; with no OPEN side, so is the side that the side search finds. An OPEN
side with room that is mounted in an idle drive, not pinned, is used at once: its extent is allocated at the fill point, the slot is WRITING, the drive
is pinned, and the extent's erase is issued (R68). (Platter ids are held once each, as ListsOfMemoryKept keeps them.)
(The order among COMMITs that wait is the model's choice, assumption log 12.) -/
def Obligations.CommitAdmitted : Prop :=
  (∀ (c : CatMem) (n : InstrNum) (x : Entry) (ts : List InstrNum), c.entry? n = some x →
     let invalid (m : InstrNum) : Prop := c.entry? m = none ∨ ∃ e, c.entry? m = some e ∧
       ((∀ loc pages, e.state ≠ .recorded loc pages) ∨ e.successor ≠ none ∨ x.stamp.toMs ≤ e.stamp.toMs)
     let claimed : Prop := ∃ m ∈ ts, ∃ e, c.entry? m = some e ∧ e.claim ≠ none
     (((∃ m ∈ ts, invalid m) ∨ ¬ts.Nodup) → c.claimFault n ts = some .supersedeInvalid) ∧
     ((∀ m ∈ ts, ¬invalid m) → ts.Nodup → (claimed → c.claimFault n ts = some .supersedeClaimed) ∧ (¬claimed → c.claimFault n ts = none))) ∧
  (∀ (s : State) (fs : List Nat), fs.Nodup →
     let held := s.reserved.a1 ++ s.reserved.a2 ++ s.reserved.a3 ++ s.reserved.a4
     let recorded (f : Nat) : Bool := s.cat.folios.any (fun r => r.folio == f)
     (s.folioRoom fs = true ↔
       (s.cat.folios.map (fun r => r.list.length)).sum + held.length + fs.length ≤ 262144 ∧
         s.cat.folios.length + ((distinct held).filter (fun f => !recorded f)).length +
           (fs.filter (fun f => !recorded f && !held.contains f)).length ≤ 32768)) ∧
  (∀ (s : State) (q : FSlot) (e : Nat),
     let held (b : RingBlock) : Prop := b ∈ s.ring ∧ b.slot = q ∧ b.mark = .live ∧ b.ext = e
     (∀ b, held b → (∀ c, held c → c = b) → s.ringPos q e = b.pos) ∧ ((∀ b, ¬held b) → s.ringPos q e = 0)) ∧
  ((∀ (b : List Byte) (pages len : Nat),
     let entry (i : Nat) : Nat := (b.getD (2 * i) 0#8).toNat * 256 + (b.getD (2 * i + 1) 0#8).toNat
     (mapOk b pages len = true ↔
       entry 0 = pages ∧ 1 ≤ pages ∧ pages ≤ 255 ∧ entry 1 = 1 ∧ (∀ i, 1 ≤ i → i < pages → entry i < entry (i + 1)) ∧ entry pages < len ∧
         (∀ i, pages < i → i ≤ 255 → entry i = 0))) ∧
   (∀ (f : Filing) (b : List Byte) (p : CommitParams),
     let entry (i : Nat) : Nat := (b.getD (2 * i) 0#8).toNat * 256 + (b.getD (2 * i + 1) 0#8).toNat
     (f.mapValid b p = true ↔
       2 ≤ f.blocks ∧ mapOk b (p.small + p.plan) f.blocks = true ∧ f.overflow = false ∧ f.starts = (List.range' 1 (p.small + p.plan)).map entry))) ∧
  (∀ (s : State) (y : Reply) (p : CommitParams) (rest : List MapRead) (q : FSlot) (f : Filing) (res : Bool) (fs : List Nat) (ts : List InstrNum)
     (parity : Bool), s.Quiet → (∀ d, s.driveWants d = false) → (∀ k, (s.inChans.get k).store = none) → (∀ k, s.outWants k = false) →
     (∀ k, (s.links.get k).lane = []) → (s.links.get y.link).resetCount = y.gen →
     s.mapReads = { reply := y, p := p } :: rest → q.toNat = p.slot → s.filings.get q = some f → f.owner = y.link → f.state = .receiving →
     commitFields p = some (res, fs, ts) →
     let s' : State := { s with mapReads := rest }
     let answer (s : State) (st : Status) : State :=
       s.modLink y.link (fun k => { k with responses := k.responses ++ [{ tag := some y.tag, code := y.code, status := st, body := .none }] })
     let block := s.ringPos q 0
     let map := Memory.readBlock s.mem block
     let out := exec (.bufferPortMove parity) s
     (parity = true → out = .next (answer (s'.post (.bufferParity .mapRead block)) .mediaFault)) ∧
     (parity = false →
       (f.mapValid map p = false → out = .next (answer s' .badMap)) ∧
       (f.mapValid map p = true →
         (∀ st, s.cat.claimFault f.inst ts = some st → out = .next (answer s' st)) ∧
         (s.cat.claimFault f.inst ts = none →
           (s.folioRoom (distinct fs) = false → out = .next (answer s' .folioFull)) ∧
           (s.folioRoom (distinct fs) = true → s.commitQueue ≠ [] → out = .next { s' with
             cat := { s.cat with table := s.cat.table.map (fun e => if e.num ∈ ts then { e with claim := some f.inst } else e) }
             filings := s.filings.set q (some { f with state := .queued, commit := some { small := p.small, plan := p.plan, restricted := res, folios := fs, targets := ts, reply := y, attempts := 0, failed := [], abandonPending := false, admitted := s.ref } })
             commitQueue := s.commitQueue ++ [q]
             reserved := s.reserved.set q (distinct fs) }))))) ∧
  (∀ (s : State) (f : Filing), risingKeys Platter.id s.cat.platters = true →
     (∀ p ∈ s.cat.platters, ∀ r ∈ s.cat.platters, p.home ≠ none → p.home = r.home → p = r) →
     let fit (ps : PlatterSide) : Prop := ∃ p, s.platter? ps.platter = some p ∧
       ((p.sideRec ps.side).state = .blank ∨ (p.sideRec ps.side).state = .unchecked) ∧ (∀ c, f.commit = some c → ps ∉ c.failed) ∧
       (p.loc = .picker ∨ (∃ n, p.loc = .slot n) ∨ ∃ d, p.loc = .drive d ∧ (s.lib.drives.get d).state ≠ .fault)
     let home (ps : PlatterSide) : Option Nat := (s.platter? ps.platter).bind (fun p => p.home)
     let other (ps : PlatterSide) : Prop := ∃ x, s.lastFiling = some x ∧ ps = ⟨x.platter, x.side.other⟩
     (∀ ps, s.findSide f = some ps → fit ps ∧
       (other ps ∨ ((∀ x, other x → ¬fit x) ∧ ∃ n, home ps = some n ∧
         ∀ x m, fit x → home x = some m → n < m ∨ (n = m ∧ (ps.side = .s0 ∨ x.side = .s1))))) ∧
     (s.findSide f = none → ∀ ps, fit ps → ¬other ps ∧ home ps = none)) ∧
  (∀ (s : State) (y : Reply) (p : CommitParams) (rest : List MapRead) (q : FSlot) (f : Filing) (res : Bool) (fs : List Nat) (ts : List InstrNum),
     s.Quiet → (∀ d, s.driveWants d = false) → (∀ k, (s.inChans.get k).store = none) → (∀ k, s.outWants k = false) →
     (∀ k, (s.links.get k).lane = []) → s.mapReads = { reply := y, p := p } :: rest → q.toNat = p.slot → s.filings.get q = some f →
     f.owner = y.link → f.state = .receiving → commitFields p = some (res, fs, ts) →
     f.mapValid (Memory.readBlock s.mem (s.ringPos q 0)) p = true → s.cat.claimFault f.inst ts = none → s.folioRoom (distinct fs) = true →
     s.commitQueue = [] → s.filUse = none →
     let t (st : FilingState) : State := { s with
       mapReads := rest
       cat := { s.cat with table := s.cat.table.map (fun e => if e.num ∈ ts then { e with claim := some f.inst } else e) }
       filings := s.filings.set q (some { f with state := st, commit := some { small := p.small, plan := p.plan, restricted := res, folios := fs, targets := ts, reply := y, attempts := 0, failed := [], abandonPending := false, admitted := s.ref } })
       commitQueue := [q]
       reserved := s.reserved.set q (distinct fs) }
     (s.openSide = none → (∀ ps x, s.sideRec? ps = some x → x.state ≠ .blank ∧ x.state ≠ .unchecked) →
       exec (.bufferPortMove false) s = .next ((t .waitingMedia).post (.noBlankMedia q f.inst))) ∧
     (∀ ps fill, s.openSide = some (ps, fill) → s.reachable ps.platter = true → f.blocks ≤ 307200 - fill → s.mountedIn ps = none →
       s.demand? ps = none → s.lib.picker.state ≠ .idle →
       exec (.bufferPortMove false) s = .next { t .queued with
         filUse := some { side := ps, stage := .demanded, slot := some q, openTime := ⟨0, 0⟩, sawWritten := false }
         lib := { s.lib with demands := s.lib.demands ++ [{ side := ps, mounting := none, waiters := [.filing s.ref] }] } }) ∧
     (∀ ps, s.openSide = none → s.findSide { f with commit := none } = some ps → s.mountedIn ps = none → s.demand? ps = none →
       s.lib.picker.state ≠ .idle →
       exec (.bufferPortMove false) s = .next { t .queued with
         filUse := some { side := ps, stage := .demanded, slot := some q, openTime := ⟨0, 0⟩, sawWritten := false }
         lib := { s.lib with demands := s.lib.demands ++ [{ side := ps, mounting := none, waiters := [.filing s.ref] }] } }) ∧
     (∀ ps fill d pl, risingKeys Platter.id s.cat.platters = true → s.openSide = some (ps, fill) → s.mountedIn ps = some d → s.demand? ps = none →
       s.platter? ps.platter = some pl → pl.loc = .drive d → (s.lib.drives.get d).state = .ready → (s.lib.drives.get d).pinned = false →
       (s.lib.drives.get d).work = [] → f.blocks ≤ 307200 - fill →
       exec (.bufferPortMove false) s = .next { t .writing with
         cat := { (t .writing).cat with platters := updateKeyed Platter.id ps.platter (fun p => p.modSide ps.side (fun x => { x with state := .opened (fill + f.blocks) })) s.cat.platters }
         filings := (t .writing).filings.set q (((t .writing).filings.get q).map (fun f => { f with extent := some ⟨ps.platter, ps.side, fill, f.blocks⟩ }))
         lib := { s.lib with drives := s.lib.drives.set d { s.lib.drives.get d with
           state := .busy, cmd := some (.erase fill f.blocks), reported := 0, since := s.ref, retry := false, pinned := true, work := [.filing] } }
         filUse := some { side := ps, stage := .erase d, slot := some q, openTime := ⟨0, 0⟩, sawWritten := false } }))

/-- R59, R60, R61, R105: ABANDON of a RECEIVING slot, or of the one slot in the commit queue, by its owner or an ADMIN link, at once: its ring blocks
are DISCARDED and the ring is reclaimed, its instrument, which claims nothing, is LODGED again, the slot is free, and a deferred COMMIT response is
ABORTED; during a pass the abandon is pending. A free slot is NO_FILING, another's slot NOT_OWNER.
R59, R60, R9: ABANDON, taken at once, of a slot in the commit queue: its claims are released with it. Behind the head it leaves the head's work as it
is. Of the head, its place in its demand is given up (a WAITING demand left without waiters is removed), or its place in a work list; a header step
goes on to its end without the head, its channel as it was (the model's choice, assumption log 67).
R55: 600 s without FEED (assumption log 8) end a RECEIVING slot: its ring blocks are DISCARDED and the ring reclaimed, its instrument is LODGED again,
the slot is free, and FILING_TIMEOUT is posted. Before that, or of another slot, the timer brings nothing.
(The order of the responses is the model's choice, assumption log 3.)
(An admitted block still in In's store stays there, and In shows the slot: the model's choice, assumption log 87.) -/
def Obligations.FilingsEndEarly : Prop :=
  (∀ (l : Link) (t n : Nat) (s : State), s.Takes l t (.abandon n) →
     ((∀ q : FSlot, q.toNat = n → s.filings.get q = none) → exec (.abandon l t n) s = .next (s.answered l t 0x33 .noFiling .none)) ∧
     ∀ (q : FSlot) (f : Filing), q.toNat = n → s.filings.get q = some f →
       (f.owner ≠ l → s.rights.get l &&& 0x80#8 = 0#8 → exec (.abandon l t n) s = .next (s.answered l t 0x33 .notOwner .none)) ∧
       ((f.owner = l ∨ s.rights.get l &&& 0x80#8 ≠ 0#8) →
         ((f.state = .writing ∨ f.state = .verifying) →
           exec (.abandon l t n) s = .next (State.answered { s with
             filings := s.filings.set q (some { f with commit := f.commit.map (fun c => { c with abandonPending := true }) }) }
             l t 0x33 .done (.abandoned f.inst true))) ∧
         (f.state = .receiving → s.cat.isFiling f.inst = true → (∀ e ∈ s.cat.table, e.claim ≠ some f.inst) → f.commit = none →
           (∀ u, s.filUse = some u → u.slot ≠ some q) → s.commitQueue = [] →
           exec (.abandon l t n) s = .next (State.answered { s with
             ring := (s.ring.map (fun b => if b.slot = q then { b with mark := .discarded } else b)).dropWhile (fun b => b.mark ≠ .live)
             cat := { s.cat with table := s.cat.table.map (fun e => if e.num = f.inst then { e with state := .lodged } else e) }
             reserved := s.reserved.set q []
             filings := s.filings.set q none } l t 0x33 .done (.abandoned f.inst false))) ∧
         (∀ c, (f.state = .queued ∨ f.state = .waitingMedia) → s.cat.isFiling f.inst = true → (∀ e ∈ s.cat.table, e.claim ≠ some f.inst) →
           f.commit = some c → s.filUse = none → s.commitQueue = [q] → (s.links.get c.reply.link).resetCount = c.reply.gen →
           let s' : State := { s with
             ring := (s.ring.map (fun b => if b.slot = q then { b with mark := .discarded } else b)).dropWhile (fun b => b.mark ≠ .live)
             cat := { s.cat with table := s.cat.table.map (fun e => if e.num = f.inst then { e with state := .lodged } else e) }
             reserved := s.reserved.set q []
             filings := s.filings.set q none
             commitQueue := [] }
           exec (.abandon l t n) s = .next ((s'.modLink c.reply.link (fun k => { k with
             responses := k.responses ++ [{ tag := some c.reply.tag, code := c.reply.code, status := .aborted, body := .none }] })).answered
             l t 0x33 .done (.abandoned f.inst false))))) ∧
  (∀ s : State, ∀ l : Link, ∀ t : Nat, ∀ q : FSlot, ∀ f : Filing, s.filings.get q = some f → ∀ c : Commit, f.commit = some c → s.Takes l t (.abandon q.toNat) →
   (f.owner = l ∨ s.rights.get l &&& 0x80#8 ≠ 0#8) → (f.state = .queued ∨ f.state = .waitingMedia) → s.cat.isFiling f.inst = true →
   (s.links.get c.reply.link).resetCount = c.reply.gen →
   let ended (t' : State) : State := (t'.queued c.reply .aborted .none).answered l t 0x33 .done (.abandoned f.inst false)
   (∀ h ∈ s.commitQueue.head?.toList, ∀ g : Filing, s.filings.get h = some g → h ≠ q →
     ((∃ u, s.filUse = some u ∧ u.slot ≠ some q) ∨ (s.filUse = none ∧ g.state = .waitingMedia)) →
     exec (.abandon l t q.toNat) s = .next (ended (s.slotFreed q f.inst))) ∧
   (∀ u : FilUse, s.filUse = some u → u.slot = some q → s.commitQueue = [q] →
     (u.stage = .demanded →
       let left := s.lib.demands.map (fun h => { h with waiters := h.waiters.filter (fun w => w.item?.isSome) })
       exec (.abandon l t q.toNat) s = .next (ended { s.slotFreed q f.inst with
         filUse := none
         lib := { s.lib with demands := left.filter (fun h => h.mounting.isSome || !h.waiters.isEmpty) } })) ∧
     (∀ d : DriveNo, u.stage = .listed d → (s.lib.drives.get d).state ≠ .ready → (s.lib.drives.get d).work.erase .filing ≠ [] →
       exec (.abandon l t q.toNat) s = .next (ended { s.slotFreed q f.inst with
         filUse := none
         lib := { s.lib with drives := s.lib.drives.set d { s.lib.drives.get d with work := (s.lib.drives.get d).work.erase .filing } } })) ∧
     ((∃ d, u.stage = .check d ∨ u.stage = .headErase d ∨ u.stage = .headWrite d) →
       exec (.abandon l t q.toNat) s = .next (ended { s.slotFreed q f.inst with filUse := some { u with slot := none } })))) ∧
  (∀ (q : FSlot) (f : Filing) (s : State), s.Quiet → s.filings.get q = some f →
     (f.state = .receiving → f.idleSince + 600000 ≤ s.ref → s.cat.isFiling f.inst = true → (∀ e ∈ s.cat.table, e.claim ≠ some f.inst) →
       q ∉ s.commitQueue →
       exec (.filingIdleTimeout q) s = .next (State.post { s with
         ring := (s.ring.map (fun b => if b.slot = q then { b with mark := .discarded } else b)).dropWhile (fun b => b.mark ≠ .live)
         cat := { s.cat with table := s.cat.table.map (fun e => if e.num = f.inst then { e with state := .lodged } else e) }
         reserved := s.reserved.set q []
         filings := s.filings.set q none } (.filingTimeout q f.inst f.owner f.blocks))) ∧
     ((f.state ≠ .receiving ∨ s.ref < f.idleSince + 600000) → exec (.filingIdleTimeout q) s = .next s))

/-! ## Retrieval -/

/-- R83, Table 4-3: the admission checks of an item, in order, and the first that fails.
R12, R11, R84: in AS_LODGED mode the resolved instrument is the one named with 0 links followed; in CURRENT mode the successor links are followed to
their end, up to 8 of them.
R85: the selection of ALL is every page; a range has its 0 first page and its last page beyond the total clamped, and one then empty, or any for
CERTIFIED, is refused.
R88, Table 4-4: locator decode, in the order of the table, with a retired platter id taken as its replacement: STAGED; the drive the side is mounted
in; MEDIA_FAULT in a FAULT drive; MOUNT for a platter in a slot, in the picker, or in a drive that does not hold the side facing the head, but
PICKER_JAMMED with the picker jammed; OFFLINE; NOT_HELD. -/
def Obligations.AdmissionChecksAndResolution : Prop :=
  (∀ (s : State) (l : Link) (pu : Purpose) (account : Nat) (i : Item), i.hasEnded = false →
     let out := s.checkItem l pu account true i
     let needs := match pu with | .view => 0#8 | .copy => 0x02#8 | .certified => 0x04#8
     (needs ≠ 0#8 → s.rights.get l &&& needs = 0#8 → out.phase = .ended .noRight) ∧
     ((needs = 0#8 ∨ s.rights.get l &&& needs ≠ 0#8) →
       (s.cat.entry? i.named = none → out.phase = .ended .noSuch) ∧
       ∀ e, s.cat.entry? i.named = some e →
         (e.state = .withdrawn → out.phase = .ended .withdrawn) ∧
         (e.state ≠ .withdrawn → e.loc? = none → out.phase = .ended .notRecorded) ∧
         (e.loc? ≠ none →
           (s.resolve i = none → out.phase = .ended .chainTooDeep) ∧
           ∀ n links e' loc pages, s.resolve i = some (n, links) → s.cat.entry? n = some e' → e'.state = .recorded loc pages →
             let v : Resolved := { inst := n, links := links, loc := loc, pages := pages }
             (e'.restricted = true → s.rights.get l &&& 0x08#8 = 0#8 → out.phase = .ended .restricted) ∧
             ((e'.restricted = false ∨ s.rights.get l &&& 0x08#8 ≠ 0#8) →
               (clampSel i.sel (pages.small + pages.plan) (pu == .certified) = none → out.phase = .ended .badRange) ∧
               ∀ range, clampSel i.sel (pages.small + pages.plan) (pu == .certified) = some range →
                 (pu ≠ .view → s.cat.account? account = none → out.phase = .ended .noAccount) ∧
                 (∀ a, pu ≠ .view → s.cat.account? account = some a → a.suspended = true → out.phase = .ended .accountSuspended) ∧
                 ((pu = .view ∨ ∃ a, s.cat.account? account = some a ∧ a.suspended = false) →
                   (∀ st, s.decode v = .fail st → out.phase = .ended st) ∧
                   ((∀ st, s.decode v ≠ .fail st) →
                     out = { i with resolved := some v, range := some range, decode := some (s.decode v) })))))) ∧
  (∀ (s : State) (i : Item),
     (i.current = false → s.resolve i = some (i.named, 0)) ∧
     (i.current = true → ∀ chain : List InstrNum, chain ≠ [] → chain.head? = some i.named →
       (∀ k a b, chain[k]? = some a → chain[k + 1]? = some b → ∃ e, s.cat.entry? a = some e ∧ e.successor = some b) →
       (∀ a, chain.getLast? = some a → ∀ e, s.cat.entry? a = some e → e.successor = none) →
       (chain.length ≤ 9 → s.resolve i = chain.getLast?.map (fun a => (a, chain.length - 1))) ∧ (9 < chain.length → s.resolve i = none))) ∧
  (∀ (total : Nat) (cert : Bool), clampSel .all total cert = some (1, total) ∧
     ∀ f l : Nat, clampSel (.range f l) total cert =
       if min l total < max f 1 ∨ cert = true then none else some (max f 1, min l total)) ∧
  (∀ (s : State) (v : Resolved),
     let id := match s.cat.substs.find? (fun x => x.retired == v.loc.platter) with | some x => x.replacement | none => v.loc.platter
     let side : InDrive := ⟨some id, v.loc.side⟩
     let mounted (d : DriveNo) : Prop :=
       let k := s.lib.drives.get d
       (k.state = .loading ∨ k.state = .ready ∨ k.state = .busy) ∧ k.platter = some side
     let picker : Decode := if s.lib.picker.state = .jammed then .fail .pickerJammed else .mount
     ((∃ g ∈ s.segments, g.inst = v.inst) → s.decode v = .staged) ∧
     ((∀ g ∈ s.segments, g.inst ≠ v.inst) →
       (s.platter? id = none → s.decode v = .fail .notHeld) ∧
       ∀ p, s.platter? id = some p →
         (∀ d, p.loc = .drive d →
           ((s.lib.drives.get d).state = .fault → s.decode v = .fail .mediaFault) ∧
           ((s.lib.drives.get d).state ≠ .fault →
             (mounted d → (∀ e, mounted e → e = d) → s.decode v = .drive d) ∧ ((∀ e, ¬mounted e) → s.decode v = picker))) ∧
         ((p.loc = .picker ∨ ∃ n, p.loc = .slot n) → s.decode v = picker) ∧
         ((p.loc = .mail ∨ p.loc = .exported ∨ p.loc = .unknown) → s.decode v = .fail .offline)))

/-- R80, R83, R86, R89, R90, R95, R114, R173: a FETCH admitted while its instrument is staged, its link with no other operation and its outbound
channel free, becomes an operation whose item delivers from the segment, its channel first to read the page map (assumption log 16); a copy item
carries its quote, computed in this change (R86, R164), and its account's in-flight count rises by one.
R80, R83, R87: a FETCH whose fields are undefined is BAD_FIELD; one whose item fails a check is answered with that check's status and the item's entry
(assumption log 37), with the resolved instrument and the links where the resolution was made and the rest of it 0 (assumption log 71), and no
operation is made. -/
def Obligations.FetchAdmittedOrRefused : Prop :=
  (∀ (l : Link) (t : Nat) (p : FetchParams) (s : State) (i i' : Item) (pu : Purpose) (cls : MountClass) (v : Resolved) (g : Segment),
     s.Takes l t (.fetch p) → parseItem p.item = some i → purpose? p.purpose = some pu → class? p.cls = some cls →
     s.admitted l pu p.account i = i' → i'.hasEnded = false → i'.resolved = some v → i'.phase = .pending →
     s.segments = [g] → g.inst = v.inst → (∀ o ∈ s.ops, o.reply.link ≠ l) → (s.outChans.get l).chan.op = .none →
     let count (c : CatMem) : CatMem := match i'.quote with
       | some _ => { c with accounts := c.accounts.map (fun a => if a.code = p.account then { a with inFlight := a.inFlight + 1 } else a) }
       | none => c
     let r : ItemRef := ⟨l, t, 1⟩
     exec (.fetch l t p) s = .next { s.tagTaken l t with
       ops := s.ops ++ [{ reply := { link := l, tag := t, gen := (s.links.get l).resetCount, code := 0x40 }, bundle := false, purpose := pu, account := p.account, cls := cls, admTime := s.ref, admReading := s.clock.now, items := [{ i' with decode := some .staged, phase := .delivering }], current := 1 }]
       cat := count s.cat
       segments := [{ g with users := g.users ++ [r] }]
       outChans := s.outChans.set l { OutChan.idle with chan := { state := if 0 < g.staged then .running else .waiting, op := .item r, mode := some .sequential, next := 4096 + g.first, remaining := 0, action := .endItem } } }) ∧
  (∀ (l : Link) (t : Nat) (p : FetchParams) (s : State), s.Takes l t (.fetch p) →
     ((parseItem p.item = none ∨ purpose? p.purpose = none ∨ class? p.cls = none) →
       exec (.fetch l t p) s = .next (s.answered l t 0x40 .badField .none)) ∧
     (∀ i pu cls st, parseItem p.item = some i → purpose? p.purpose = some pu → class? p.cls = some cls →
       let out := s.admitted l pu p.account i
       out.phase = .ended st →
       exec (.fetch l t p) s = .next (s.answered l t 0x40 st (.item {
         status := st, resolved := out.resolved.map (fun v => v.inst), links := match out.resolved with | some v => v.links | none => 0,
         first := 0, last := 0, delivered := 0, receipt := none }))))

/-- R81, R87, R90, R108, R173: a BUNDLE whose first item is admitted is one operation of all its items, those that fail a check ended already, and
each admitted copy item carrying its quote (R86, R164) and its account's in-flight count raised by their number; its first item, not staged, joins
the staging-waiter FIFO behind the items that wait there. A BUNDLE whose first item fails is answered with that item's status alone (assumption log
37); one with an undefined field or a wrong count is BAD_FIELD. -/
def Obligations.BundleAdmitted : Prop :=
  ∀ (l : Link) (t : Nat) (p : BundleParams) (s : State), s.Takes l t (.bundle p) →
    ((parseItems p.items = none ∨ purpose? p.purpose = none ∨ class? p.cls = none ∨ p.count ≠ p.items.length) →
      exec (.bundle l t p) s = .next (s.answered l t 0x41 .badField .none)) ∧
    ∀ (i : Item) (is : List Item) (pu : Purpose) (cls : MountClass), parseItems p.items = some (i :: is) → purpose? p.purpose = some pu →
      class? p.cls = some cls → p.count = p.items.length →
      let i' := s.admitted l pu p.account i
      let is' := is.map (s.admitted l pu p.account)
      let copies := ((i' :: is').filter (fun j => j.quote.isSome)).length
      (∀ st, i'.phase = .ended st → exec (.bundle l t p) s = .next (s.answered l t 0x41 st .none)) ∧
      (∀ v, i'.phase = .pending → i'.resolved = some v → (s.decode v = .mount ∨ ∃ d, s.decode v = .drive d) → s.spaceFifo ≠ [] →
        (∀ o ∈ s.ops, ¬(o.reply.link = l ∧ o.reply.tag = t)) →
        exec (.bundle l t p) s = .next { s.tagTaken l t with
          ops := s.ops ++ [{ reply := { link := l, tag := t, gen := (s.links.get l).resetCount, code := 0x41 }, bundle := true, purpose := pu, account := p.account, cls := cls, admTime := s.ref, admReading := s.clock.now, items := { i' with decode := some (s.decode v), phase := .waitingSpace } :: is', current := 1 }]
          cat := { s.cat with accounts := s.cat.accounts.map (fun a => if a.code = p.account then { a with inFlight := a.inFlight + copies } else a) }
          spaceFifo := s.spaceFifo ++ [{ item := ⟨l, t, 1⟩, inst := v.inst, len := v.loc.len }] })

/-- R82: QUOTE makes checks 1 to 6 and returns the resolved instrument, the links followed, the clamped range and the quote; it changes nothing else.
One whose check fails carries its status alone (assumption log 37), and for VIEW, or with an undefined field, it is BAD_FIELD. -/
def Obligations.QuoteReturnsFee : Prop :=
  ∀ (l : Link) (t : Nat) (p : FetchParams) (s : State), s.Takes l t (.quote p) →
    ((parseItem p.item = none ∨ purpose? p.purpose = none ∨ purpose? p.purpose = some .view ∨ class? p.cls = none) →
      exec (.quote l t p) s = .next (s.answered l t 0x42 .badField .none)) ∧
    (∀ i pu cls, parseItem p.item = some i → purpose? p.purpose = some pu → pu ≠ .view → class? p.cls = some cls →
      let out := s.checkItem l pu p.account false i
      (∀ st, out.phase = .ended st → exec (.quote l t p) s = .next (s.answered l t 0x42 st .none)) ∧
      (∀ v f k, out.hasEnded = false → out.resolved = some v → out.range = some (f, k) →
        exec (.quote l t p) s = .next (s.answered l t 0x42 .done (.quoted v.inst v.links f k (computeQuote s.cat.active v.pages f k
          (decide (pu = .certified)) (match s.cat.account? p.account with | some a => a.exempt | none => false) (s.clock.now.sec % 86400))))))

/-- R165, R166, R167, R168: the stages of a copy's fee. The pages selected of each kind are counted; the subtotal is B, S1 a small page up to T of
them, S2 a small page beyond, and L a plan sheet, with C added for CERTIFIED; after hours the amount is surcharged by H percent, a half cent upward,
and the flag set; an exempt account's fee is 0, and the cap M is applied last. With the schedule's fields in their ranges and at most 255 pages the
amounts stay in the bounds the rules give. -/
def Obligations.FeeOfACopy : Prop :=
  ∀ (c : Schedule) (pg : Pages) (f l : Nat) (cert exempt : Bool) (tod : Nat), 1 ≤ f → f ≤ l → l ≤ pg.small + pg.plan →
    let q := computeQuote c pg f l cert exempt tod
    let ns := ((List.range' f (l + 1 - f)).filter (fun n => decide (n ≤ pg.small))).length
    let np := ((List.range' f (l + 1 - f)).filter (fun n => decide (pg.small < n))).length
    let subtotal := c.b + c.s1 * min ns c.t + c.s2 * (ns - c.t) + c.l * np
    let before := subtotal + (if cert then c.c else 0)
    let late := tod < c.opens ∨ c.closes ≤ tod
    let amount := if late then (before * (100 + c.h) + 50) / 100 else before
    q.ns = ns ∧ q.np = np ∧ ns + np = l - f + 1 ∧ q.certified = cert ∧ q.afterHours = decide late ∧
      q.fee = min (if exempt then 0 else amount) c.m ∧
      (f = 1 → l = pg.small + pg.plan → ns = pg.small ∧ np = pg.plan) ∧
      (scheduleOk c = true → pg.small + pg.plan ≤ 255 →
        ns + np ≤ 255 ∧ subtotal ≤ 2814489 ∧ before ≤ 2824488 ∧ before * (100 + c.h) + 50 ≤ 564897650 ∧ amount ≤ 5648976 ∧ q.fee ≤ 999999)

/-- R114, R97: the host's acceptance of a DATA frame that is not the item's last: the block is counted, and the channel goes on to its next block,
RUNNING with the responses now queued ahead of it (assumption log 17) if that is staged, else WAITING.
R99, R174, R3, R100, R177, R93: acceptance of the last block of a FETCH, the only operation of its link, ends it DONE, whatever other links'
operations and other segments there are: a copy is accrued to its account and to the grand total, counted on its instrument and no longer in flight,
and has its receipt, while a view changes no account; the item leaves its segment, which is now the most recently used, and its channel, the response
is DONE with the item's entry, and the operation is gone. (Nothing waits for staging space.)
R98, R101, R175, R186, R93: 30 s without acceptance of the offered DATA frame give it up; the item of a FETCH, the only operation of its link, ends
DELIVERY_TIMEOUT, a copy released without a fee, the segment keeps its other users and its fill, and the response says so. Before that, or with no
frame offered, the timer's row brings nothing (assumption log 8). (Nothing waits for staging space.)
(The 0s in the entry of an item not ended DONE are the model's choice, assumption log 71.)
(A fill's drive channel goes on showing an item that has ended, the model's choice, assumption log 82.) -/
def Obligations.DeliveryAccepted : Prop :=
  (∀ (l : Link) (s : State) (f : DataFrame) (r : ItemRef) (g : Segment), s.agenda = [] → (s.links.get l).out = some (.data f) →
     let c := s.outChans.get l
     c.chan.state = .paused → c.chan.op = .item r → 1 < c.chan.remaining → s.segmentOf r = some g →
     let next := c.chan.next + 1
     let staged := next < 4096 + (g.first + g.staged)
     let c' : OutChan := { c with
       chan := { c.chan with next := next, remaining := c.chan.remaining - 1, state := if staged then .running else .waiting }
       frame := none
       ahead := if staged then (s.links.get l).responses.length else c.ahead }
     exec (.dataAccepted l) s = .next { s with
       links := s.links.set l { s.links.get l with out := none }
       ops := s.ops.map (fun o => if o.reply.link = r.link ∧ o.reply.tag = r.tag
         then { o with items := o.items.modify (r.pos - 1) (fun i => { i with delivered := i.delivered + 1 }) } else o)
       outChans := s.outChans.set l c' }) ∧
  (∀ (l : Link) (s : State) (f : DataFrame) (o : Op) (i : Item) (v : Resolved) (g : Segment), s.agenda = [] →
     (s.links.get l).out = some (.data f) → o ∈ s.ops → (∀ p ∈ s.ops, p.reply.link = l → p = o) → o.reply.link = l →
     (s.links.get l).resetCount = o.reply.gen → o.bundle = false → o.items = [i] → o.current = 1 → i.hasEnded = false → i.resolved = some v →
     let r : ItemRef := ⟨l, o.reply.tag, 1⟩
     let c := s.outChans.get l
     c.chan.state = .paused → c.chan.op = .item r → c.chan.remaining = 1 → s.segmentOf r = some g → (∀ h ∈ s.segments, h.inst = g.inst → h = g) →
     g.started = true → s.spaceFifo = [] →
     (∀ q ∈ s.lib.demands, (q.mounting = none → q.waiters ≠ []) ∧ ∀ cls age, Waiter.item r cls age ∉ q.waiters) →
     let receipt (q : Quote) : Receipt := { account := o.account, period := s.cat.period, quote := q, stamp := s.clock.now }
     let i' : Item := { i with delivered := i.delivered + 1, receipt := match i.quote with | some q => some (receipt q) | none => i.receipt, phase := .ended .done }
     let add (q : Quote) (a : Account) : Account := { a with
       inFlight := a.inFlight - 1
       tally := { fees := min (a.tally.fees + q.fee) 99999999, copies := min (a.tally.copies + 1) 999999, small := min (a.tally.small + q.ns) 9999999, plan := min (a.tally.plan + q.np) 9999999,
                  saturated := a.tally.saturated || decide (99999999 < a.tally.fees + q.fee) || decide (999999 < a.tally.copies + 1) ||
                    decide (9999999 < a.tally.small + q.ns) || decide (9999999 < a.tally.plan + q.np) } }
     let charge (m : CatMem) : CatMem := match i.quote with
       | some q => { m with
         accounts := m.accounts.map (fun a => if a.code = o.account then add q a else a)
         grand := min (m.grand + q.fee) 999999999
         table := m.table.map (fun e => if e.num = v.inst then { e with copies := min (e.copies + 1) 65535 } else e) }
       | none => m
     exec (.dataAccepted l) s = .next { s with
       links := s.links.set l { s.links.get l with
         out := none
         responses := (s.links.get l).responses ++ [{ tag := some o.reply.tag, code := o.reply.code, status := .done, body := .item (i'.entry true) }] }
       ops := s.ops.filter (fun p => decide (p.reply.link ≠ l))
       cat := charge s.cat
       segments := s.segments.filter (fun h => decide (h.inst ≠ g.inst)) ++ [{ g with users := g.users.filter (fun u => decide (u ≠ r)) }]
       outChans := s.outChans.set l OutChan.idle }) ∧
  (∀ (l : Link) (s : State), s.agenda = [] →
     (∀ (o : Op) (i : Item) (g : Segment), o ∈ s.ops → (∀ p ∈ s.ops, p.reply.link = l → p = o) → o.reply.link = l →
       (s.links.get l).resetCount = o.reply.gen → o.bundle = false → o.items = [i] → o.current = 1 → i.hasEnded = false →
       let r : ItemRef := ⟨l, o.reply.tag, 1⟩
       let c := s.outChans.get l
       c.chan.state = .paused → c.chan.op = .item r → c.offeredAt + 30000 ≤ s.ref → s.segmentOf r = some g →
       (∀ h ∈ s.segments, h.inst = g.inst → h = g) → g.started = true → s.spaceFifo = [] →
       (∀ q ∈ s.lib.demands, (q.mounting = none → q.waiters ≠ []) ∧ ∀ cls age, Waiter.item r cls age ∉ q.waiters) →
       let release (m : CatMem) : CatMem := match i.quote with
         | some _ => { m with accounts := m.accounts.map (fun a => if a.code = o.account then { a with inFlight := a.inFlight - 1 } else a) }
         | none => m
       exec (.deliveryTimeout l) s = .next { s with
         links := s.links.set l { s.links.get l with
           out := none
           responses := (s.links.get l).responses ++ [{ tag := some o.reply.tag, code := o.reply.code, status := .deliveryTimeout, body := .item { status := .deliveryTimeout, resolved := i.resolved.map (fun v => v.inst), links := match i.resolved with | some v => v.links | none => 0, first := 0, last := 0, delivered := 0, receipt := none } }] }
         ops := s.ops.filter (fun p => decide (p.reply.link ≠ l))
         cat := release s.cat
         segments := s.segments.filter (fun h => decide (h.inst ≠ g.inst)) ++ [{ g with users := g.users.filter (fun u => decide (u ≠ r)) }]
         outChans := s.outChans.set l OutChan.idle }) ∧
     (((s.outChans.get l).chan.state ≠ .paused ∨ s.ref < (s.outChans.get l).offeredAt + 30000) → exec (.deliveryTimeout l) s = .next s))

/-! ## Schedules and accounts -/

/-- R163, R161: the forms of SCHEDULE_SET. IMMEDIATE needs ADMIN besides, before its schedule is tested (assumption log 32); a schedule out of range,
one missing in PENDING or IMMEDIATE, one too many in CANCEL_PENDING or SHOW, or a form byte that is no form, carried by SHOW's row (assumption log
41), is BAD_FIELD.
R170: ACCOUNT_SET CREATE inserts a record with tallies of 0, and CHANGE sets the state and the exempt flag of one; a state or exempt byte that is not
defined is BAD_FIELD.
R171: ACCOUNT_SET RESET zeroes an account's tallies and saturated flags, current and in a held snapshot; DELETE removes an account, other than account
0, whose tallies are all 0; both refuse one with a copy in flight, and RESET needs ADMIN. (DELETE answers with no record: assumption log 47; an action
byte that is no action, carried by DELETE's row, is BAD_FIELD: assumption log 41.)
(That the exempt byte is tested before the account is the model's choice, assumption log 90.) -/
def Obligations.AccountsSet : Prop :=
  (∀ (l : Link) (t : Nat) (s : State),
     (∀ c, s.Takes l t (.scheduleSet .pending (some c)) →
       (scheduleOk c = true → exec (.scheduleSetPending l t (some c)) s =
         .next (State.answered { s with cat := { s.cat with pendingSched := some c } } l t 0x60 .done (.schedules s.cat.active (some c)))) ∧
       (scheduleOk c = false → exec (.scheduleSetPending l t (some c)) s = .next (s.answered l t 0x60 .badField .none))) ∧
     (∀ c, s.Takes l t (.scheduleSet .immediate (some c)) →
       (s.rights.get l &&& 0x80#8 = 0#8 → exec (.scheduleSetImmediate l t (some c)) s = .next (s.answered l t 0x60 .noRight .none)) ∧
       (s.rights.get l &&& 0x80#8 ≠ 0#8 → scheduleOk c = true → exec (.scheduleSetImmediate l t (some c)) s =
         .next (State.answered { s with cat := { s.cat with active := c } } l t 0x60 .done (.schedules c s.cat.pendingSched))) ∧
       (s.rights.get l &&& 0x80#8 ≠ 0#8 → scheduleOk c = false →
         exec (.scheduleSetImmediate l t (some c)) s = .next (s.answered l t 0x60 .badField .none))) ∧
     (s.Takes l t (.scheduleSet .cancelPending none) → exec (.scheduleSetCancelPending l t none) s =
       .next (State.answered { s with cat := { s.cat with pendingSched := none } } l t 0x60 .done (.schedules s.cat.active none))) ∧
     (s.Takes l t (.scheduleSet .view none) →
       exec (.scheduleSetShow l t 4 none) s = .next (s.answered l t 0x60 .done (.schedules s.cat.active s.cat.pendingSched))) ∧
     (s.Takes l t (.scheduleSet .pending none) → exec (.scheduleSetPending l t none) s = .next (s.answered l t 0x60 .badField .none)) ∧
     (s.Takes l t (.scheduleSet .immediate none) → s.rights.get l &&& 0x80#8 ≠ 0#8 →
       exec (.scheduleSetImmediate l t none) s = .next (s.answered l t 0x60 .badField .none)) ∧
     (∀ c, s.Takes l t (.scheduleSet .cancelPending (some c)) →
       exec (.scheduleSetCancelPending l t (some c)) s = .next (s.answered l t 0x60 .badField .none)) ∧
     (∀ c, s.Takes l t (.scheduleSet .view (some c)) → exec (.scheduleSetShow l t 4 (some c)) s = .next (s.answered l t 0x60 .badField .none)) ∧
     (∀ f c, s.Takes l t (.scheduleSet (.other f) c) → f ≠ 4 → exec (.scheduleSetShow l t f c) s = .next (s.answered l t 0x60 .badField .none))) ∧
  (∀ (l : Link) (t : Nat) (p : AccountParams) (s : State), risingKeys Account.code s.cat.accounts = true →
     ((p.state ≠ 1 ∧ p.state ≠ 2) ∨ 1 < p.exempt →
       (s.Takes l t (.accountSet .create p) → exec (.accountSetCreate l t p) s = .next (s.answered l t 0x61 .badField .none)) ∧
       (s.Takes l t (.accountSet .change p) → exec (.accountSetChange l t p) s = .next (s.answered l t 0x61 .badField .none))) ∧
     ∀ susp ex : Bool, p.state = (if susp then 2 else 1) → p.exempt = (if ex then 1 else 0) →
     (s.Takes l t (.accountSet .create p) →
       let a : Account := { code := p.code, suspended := susp, exempt := ex, inFlight := 0, tally := ⟨0, 0, 0, 0, false⟩ }
       ((∃ b ∈ s.cat.accounts, b.code = p.code) → exec (.accountSetCreate l t p) s = .next (s.answered l t 0x61 .duplicate .none)) ∧
       ((∀ b ∈ s.cat.accounts, b.code ≠ p.code) → 64 ≤ s.cat.accounts.length →
         exec (.accountSetCreate l t p) s = .next (s.answered l t 0x61 .tableFull .none)) ∧
       ((∀ b ∈ s.cat.accounts, b.code ≠ p.code) → s.cat.accounts.length < 64 → exec (.accountSetCreate l t p) s =
         .next (State.answered { s with cat := { s.cat with accounts := insertKeyed Account.code a s.cat.accounts } } l t 0x61 .done (.account a)))) ∧
     (s.Takes l t (.accountSet .change p) →
       ((∀ b ∈ s.cat.accounts, b.code ≠ p.code) → exec (.accountSetChange l t p) s = .next (s.answered l t 0x61 .noAccount .none)) ∧
       (∀ b ∈ s.cat.accounts, b.code = p.code → exec (.accountSetChange l t p) s = .next (State.answered { s with cat := { s.cat with
         accounts := s.cat.accounts.map (fun a => if a.code = p.code then { a with suspended := susp, exempt := ex } else a) } }
         l t 0x61 .done (.account { b with suspended := susp, exempt := ex }))))) ∧
  (∀ (l : Link) (t : Nat) (p : AccountParams) (s : State), risingKeys Account.code s.cat.accounts = true →
     (s.Takes l t (.accountSet .reset p) →
       (s.rights.get l &&& 0x80#8 = 0#8 → exec (.accountSetReset l t p) s = .next (s.answered l t 0x61 .noRight .none)) ∧
       (s.rights.get l &&& 0x80#8 ≠ 0#8 →
         ((∀ b ∈ s.cat.accounts, b.code ≠ p.code) → exec (.accountSetReset l t p) s = .next (s.answered l t 0x61 .noAccount .none)) ∧
         (∀ b ∈ s.cat.accounts, b.code = p.code →
           (b.inFlight ≠ 0 → exec (.accountSetReset l t p) s = .next (s.answered l t 0x61 .accountBusy .none)) ∧
           (b.inFlight = 0 → exec (.accountSetReset l t p) s = .next (State.answered { s with cat := { s.cat with
             accounts := s.cat.accounts.map (fun a => if a.code = p.code then { a with tally := ⟨0, 0, 0, 0, false⟩ } else a)
             snapshot := s.cat.snapshot.map (fun n => { n with records := n.records.map (fun r => if r.code = p.code then { r with tally := ⟨0, 0, 0, 0, false⟩ } else r) }) } }
             l t 0x61 .done (.account { b with tally := ⟨0, 0, 0, 0, false⟩ })))))) ∧
     (s.Takes l t (.accountSet .delete p) →
       (p.code = 0 → exec (.accountSetDelete l t 4 p) s = .next (s.answered l t 0x61 .badField .none)) ∧
       (p.code ≠ 0 →
         ((∀ b ∈ s.cat.accounts, b.code ≠ p.code) → exec (.accountSetDelete l t 4 p) s = .next (s.answered l t 0x61 .noAccount .none)) ∧
         (∀ b ∈ s.cat.accounts, b.code = p.code →
           let busy := b.inFlight ≠ 0 ∨ b.tally.isZero = false ∨ s.cat.snapBusy p.code = true
           (busy → exec (.accountSetDelete l t 4 p) s = .next (s.answered l t 0x61 .accountBusy .none)) ∧
           (¬busy → exec (.accountSetDelete l t 4 p) s = .next (State.answered { s with cat := { s.cat with
             accounts := s.cat.accounts.filter (fun a => decide (a.code ≠ p.code))
             snapshot := s.cat.snapshot.map (fun n => { n with records := n.records.filter (fun r => decide (r.code ≠ p.code)) }) } }
             l t 0x61 .done .none))))) ∧
     (∀ a, s.Takes l t (.accountSet (.other a) p) → a ≠ 4 → exec (.accountSetDelete l t a p) s = .next (s.answered l t 0x61 .badField .none)))

/-- R172, R181: ACCOUNT_READ and PERIOD_TAKE return their header and the first 8 records after the start-after code, with the last code of them where
a further record follows. -/
def Obligations.RecordsReturnedByEight : Prop :=
  ∀ (l : Link) (t : Nat) (a : OptField) (s : State),
    let after (code : Nat) : Bool := a.presence == 0 || decide (a.value < code)
    let accounts := s.cat.accounts.filter (fun r => after r.code)
    let more (codes : List Nat) : Option Nat := if 8 < codes.length then codes[7]? else none
    (s.Takes l t (.accountRead a) → a.presence ≤ 1 →
      exec (.accountRead l t a) s = .next (s.answered l t 0x62 .done
        (.accounts s.cat.period s.cat.grand s.cat.snapshot.isSome (accounts.take 8) (more (accounts.map (·.code)))))) ∧
    (s.Takes l t (.accountRead a) → 1 < a.presence → exec (.accountRead l t a) s = .next (s.answered l t 0x62 .badField .none)) ∧
    (s.Takes l t (.periodTake a) → a.presence ≤ 1 →
      (s.cat.snapshot = none → exec (.periodTake l t a) s = .next (s.answered l t 0x63 .done (.snapshot none [] none))) ∧
      (∀ n, s.cat.snapshot = some n →
        let recs := n.records.filter (fun r => after r.code)
        exec (.periodTake l t a) s = .next (s.answered l t 0x63 .done
          (.snapshot (some { n with records := [] }) (recs.take 8) (more (recs.map (·.code))))))) ∧
    (s.Takes l t (.periodTake a) → 1 < a.presence → exec (.periodTake l t a) s = .next (s.answered l t 0x63 .badField .none))

/-- R182: PERIOD_CLEAR releases a HELD snapshot whose last period is named. -/
def Obligations.PeriodClearReleasesSnapshot : Prop :=
  ∀ (l : Link) (t p : Nat) (s : State), s.Takes l t (.periodClear p) →
    (s.cat.snapshot = none → exec (.periodClear l t p) s = .next (s.answered l t 0x64 .noSnapshot .none)) ∧
    (∀ n, s.cat.snapshot = some n →
      (p ≠ n.last → exec (.periodClear l t p) s = .next (s.answered l t 0x64 .periodMismatch (.lastPeriod n.last))) ∧
      (p = n.last → exec (.periodClear l t p) s = .next (State.answered { s with cat := { s.cat with snapshot := none } } l t 0x64 .done
        (.released n.first n.last n.spanned))))

/-! ## The library -/

/-- R141, R24: IMPORT is refused, in order, with the door open, a sweep running, the picker JAMMED or the mail slot EMPTY; otherwise it is queued, and
a picker free with no other work reads the label at the mail slot at once.
R143: EXPORT is refused, in order: NOT_HELD; OFFLINE outside a slot or a drive; with the door open, a sweep, a jam; of a platter in a slot
PLATTER_BUSY with a demand or an OPEN side, then MAIL_SLOT_FULL; otherwise it is taken to the mail slot, at once by a picker free with no other work.
R143: EXPORT of a platter in a drive is PLATTER_BUSY unless the drive is READY with no use; then UNLOAD is issued and the picker waits at the drive
for the move to the mail slot, unless the mail slot is not EMPTY: MAIL_SLOT_FULL. While the picker has other work, the request for a platter in a slot
or in such a drive is queued.
R142, R149: what an import's label decides. Without a usable label it is NO_LABEL, a report EMPTY too (the model's reading, assumption log 26); a
platter recorded elsewhere than in the mail slot or as exported is DUPLICATE; with no slot for it NO_SLOT, the OUTGOING one without a home included
(the model's reading, assumption log 50); a new one with 160 records TABLE_FULL. Otherwise its move begins: a new platter to the lowest free slot, an
EXPORTED one to the home slot reserved for it, the OUTGOING one back to its home. With the door open it is DOOR_OPEN, the mail slot INCOMING
(assumption log 48). An import made without a request leaves its outcome in STATUS in place of a response (R146).
R122: the lowest free slot is the first of the slots 1 to 160 that has no record; with a record for each of them there is none.
R142, R143, R123: the move of an import done: the platter is in its slot, with a record made for a new one, and the response gives id and slot. The
move of an export done: the platter is in the mail slot, OUTGOING, the response gives its id, and a drive it was taken from is EMPTY.
(The model's choices: the outcome's id 0 with no label read, assumption log 71; another label at an OUTGOING mail slot, assumption log 78; the mail slot
EMPTY from the move's beginning, assumption log 83. Its reading: when a slot becomes occupied, assumption log 79.)
(When an outcome is replaced is the model's choice, assumption log 88.) -/
def Obligations.ImportAndExportTaken : Prop :=
  (∀ (l : Link) (t : Nat) (s : State), s.Takes l t .importPlatter →
     let b := s.lib
     let refused (st : Status) : Prop := exec (.importPlatter l t) s = .next (s.answered l t 0x50 st .none)
     let reply : Reply := { link := l, tag := t, gen := (s.links.get l).resetCount, code := 0x50 }
     (b.doorOpen = true → refused .doorOpen) ∧
     (b.doorOpen = false → b.sweep.running = true → refused .inventoryRunning) ∧
     (b.doorOpen = false → b.sweep.running = false → b.picker.state = .jammed → refused .pickerJammed) ∧
     (b.doorOpen = false → b.sweep.running = false → b.picker.state ≠ .jammed → b.mail = .empty → refused .mailSlotEmpty) ∧
     (b.doorOpen = false → b.sweep.running = false → b.mail ≠ .empty →
       (b.picker.state = .idle → b.returns = [] → b.media = [] →
         exec (.importPlatter l t) s = .next { s.tagTaken l t with lib := { b with picker := { b.picker with
           state := .moving, move := some { src := .mail, dst := none, flip := false }, since := some s.ref, piece := some (.importLabel (some reply)) } } }) ∧
       ((b.picker.state = .moving ∨ b.picker.state = .halted) →
         exec (.importPlatter l t) s = .next { s.tagTaken l t with lib := { b with media := b.media ++ [.importReq (some reply)] } }))) ∧
  (∀ (l : Link) (t id : Nat) (s : State), s.Takes l t (.exportPlatter id) →
     let b := s.lib
     let refused (st : Status) : Prop := exec (.exportPlatter l t id) s = .next (s.answered l t 0x51 st .none)
     let reply : Reply := { link := l, tag := t, gen := (s.links.get l).resetCount, code := 0x51 }
     (s.platter? id = none → refused .notHeld) ∧
     ∀ p, s.platter? id = some p →
       ((p.loc = .picker ∨ p.loc = .mail ∨ p.loc = .exported ∨ p.loc = .unknown) → refused .offline) ∧
       (∀ n, p.loc = .slot n →
         (b.doorOpen = true → refused .doorOpen) ∧
         (b.doorOpen = false → b.sweep.running = true → refused .inventoryRunning) ∧
         (b.doorOpen = false → b.sweep.running = false → b.picker.state = .jammed → refused .pickerJammed) ∧
         (b.doorOpen = false → b.sweep.running = false → b.picker.state ≠ .jammed →
           (((∃ q ∈ b.demands, q.side.platter = id) ∨ (∃ f, p.side0.state = .opened f) ∨ (∃ f, p.side1.state = .opened f)) → refused .platterBusy) ∧
           ((∀ q ∈ b.demands, q.side.platter ≠ id) → (∀ f, p.side0.state ≠ .opened f) → (∀ f, p.side1.state ≠ .opened f) →
             (b.mail ≠ .empty → refused .mailSlotFull) ∧
             (b.mail = .empty → b.picker.state = .idle → b.returns = [] → b.media = [] →
               exec (.exportPlatter l t id) s = .next { s.tagTaken l t with
                 cat := { s.cat with platters := updateKeyed Platter.id id (fun r => { r with loc := .picker }) s.cat.platters }
                 lib := { b with picker := { state := .moving, held := some id, move := some { src := .slot n, dst := some .mail, flip := false }, since := some s.ref, piece := some (.exportMove reply id) } } }))))) ∧
  (∀ s : State, ∀ l : Link, ∀ t : Nat, ∀ id : Nat, ∀ p : Platter, s.platter? id = some p → s.Takes l t (.exportPlatter id) → s.lib.doorOpen = false →
   s.lib.sweep.running = false → s.lib.picker.state ≠ .jammed → (∀ q ∈ s.lib.demands, q.side.platter ≠ id) →
   (∀ n, p.side0.state ≠ .opened n ∧ p.side1.state ≠ .opened n) →
   let reply : Reply := { link := l, tag := t, gen := (s.links.get l).resetCount, code := 0x51 }
   (∀ d : DriveNo, p.loc = .drive d →
     let k := s.lib.drives.get d
     ((k.state ≠ .ready ∨ k.work ≠ []) →
       exec (.exportPlatter l t id) s = .next (s.answered l t 0x51 .platterBusy .none)) ∧
     (k.state = .ready → k.work = [] → s.lib.mail ≠ .empty →
       exec (.exportPlatter l t id) s = .next (s.answered l t 0x51 .mailSlotFull .none)) ∧
     (∀ (x : Option Nat) (sd : Side), k.platter = some ⟨x, sd⟩ → k.state = .ready → k.work = [] → s.lib.mail = .empty → s.lib.picker.state = .idle →
       s.lib.returns = [] → s.lib.media = [] →
       exec (.exportPlatter l t id) s = .next { s.tagTaken l t with lib := { s.lib with
         drives := s.lib.drives.set d { k with state := .unloading, cmd := some .unload, reported := 0, since := s.ref, retry := false }
         picker := { s.lib.picker with state := .moving, move := some { src := .drive d, dst := some .mail, flip := sd == .s1 }, since := none, piece := some (.exportUnload reply id d) } } })) ∧
   (((∃ n, p.loc = .slot n) ∨ ∃ d, p.loc = .drive d ∧ (s.lib.drives.get d).state = .ready ∧ (s.lib.drives.get d).work = []) → s.lib.mail = .empty →
     s.lib.picker.state ≠ .idle →
     exec (.exportPlatter l t id) s = .next { s.tagTaken l t with lib := { s.lib with media := s.lib.media ++ [.exportReq reply id] } })) ∧
  (∀ s : State, s.Quiet → ∀ m : Move, s.lib.picker.move = some m → ∀ y : Option Reply, s.lib.picker.piece = some (.importLabel y) → s.lib.picker.state = .moving →
   s.lib.picker.since ≠ none → m.dst = none → (∀ r ∈ y, (s.links.get r.link).resetCount = r.gen) →
   let told (s : State) (st : Status) (id : Nat) : State := match y with
     | some r => s.queued r st .none
     | none => { s with lib := { s.lib with outcome := some { status := st, id := id } } }
   let refused (st : Status) (id : Nat) : State := told { s with lib := { s.lib with picker := s.pickerFreed } } st id
   (s.NothingNext →
     (exec (.pickerLabelReport .empty) s = .next (refused .noLabel 0)) ∧
     (exec (.pickerLabelReport (.label 0)) s = .next (refused .noLabel 0)) ∧
     (∀ id : Nat, id ≠ 0 → s.platter? id = none →
       (s.cat.lowestFree = none →
         exec (.pickerLabelReport (.label id)) s = .next (refused .noSlot id)) ∧
       (s.cat.lowestFree ≠ none → 160 ≤ s.cat.platters.length →
         exec (.pickerLabelReport (.label id)) s = .next (refused .tableFull id))) ∧
     (∀ id : Nat, ∀ p : Platter, s.platter? id = some p → id ≠ 0 →
       (p.loc ≠ .exported → s.lib.mail ≠ .outgoing id →
         exec (.pickerLabelReport (.label id)) s = .next (refused .duplicate id)) ∧
       ((p.loc = .exported ∨ s.lib.mail = .outgoing id) → p.home = none → s.cat.lowestFree = none →
         exec (.pickerLabelReport (.label id)) s = .next (refused .noSlot id)))) ∧
   (s.lib.doorOpen = false → s.lib.sweepDue = false →
     let moves (id n : Nat) : Library := { s.lib with
       mail := .empty
       picker := { state := .moving, held := some id, move := some { src := .mail, dst := some (.slot n), flip := false }, since := some s.ref, piece := some (.importMove y id) } }
     (∀ id : Nat, ∀ n : Nat, s.cat.lowestFree = some n → id ≠ 0 → s.platter? id = none → s.cat.platters.length < 160 →
       exec (.pickerLabelReport (.label id)) s = .next { s with lib := moves id n }) ∧
     (∀ id : Nat, ∀ p : Platter, s.platter? id = some p → ∀ n : Nat, p.home = some n → id ≠ 0 →
       ((p.loc = .exported ∧ s.cat.slotUse? n = some (.reserved id)) ∨ (p.loc ≠ .exported ∧ s.lib.mail = .outgoing id)) →
       exec (.pickerLabelReport (.label id)) s = .next { s with
         cat := { s.cat with
           slots := insertKeyed SlotRec.slot ⟨n, .occupied id⟩ (s.cat.slots.filter (fun r => decide (r.slot = n ∨ (r.use ≠ .occupied id ∧ r.use ≠ .reserved id))))
           platters := updateKeyed Platter.id id (fun p => { p with home := some n, loc := .picker }) s.cat.platters }
         lib := moves id n })) ∧
   (∀ id : Nat, id ≠ 0 → s.platter? id = none → s.cat.platters.length < 160 → s.cat.lowestFree ≠ none → s.lib.doorOpen = true →
     exec (.pickerLabelReport (.label id)) s = .next (told { s with lib := { s.lib with mail := .incoming, picker := s.pickerFreed } } .doorOpen id))) ∧
  (∀ c : CatMem,
     let free (n : Nat) : Prop := 1 ≤ n ∧ n ≤ 160 ∧ ∀ r ∈ c.slots, r.slot ≠ n
     (∀ n, c.lowestFree = some n ↔ free n ∧ ∀ m, m < n → ¬free m) ∧ (c.lowestFree = none ↔ ∀ n, ¬free n)) ∧
  (∀ s : State, s.Quiet → ∀ m : Move, s.lib.picker.move = some m → s.lib.picker.state = .moving → s.lib.picker.since ≠ none → s.NothingNext → s.HeadHasMedia →
   (∀ n : Nat, m.dst = some (.slot n) → ∀ (y : Option Reply) (id : Nat), s.lib.picker.piece = some (.importMove y id) →
     (∀ r ∈ y, (s.links.get r.link).resetCount = r.gen) →
     let placed (c : CatMem) : State :=
       let t : State := { s with cat := c, lib := { s.lib with picker := s.pickerFreed } }
       match y with
       | some r => t.queued r .done (.imported id n)
       | none => { t with lib := { t.lib with outcome := some { status := .done, id := id } } }
     (∀ p : Platter, s.platter? id = some p →
       exec .pickerMoveDone s = .next (placed { s.cat with platters := updateKeyed Platter.id id (fun p => { p with loc := .slot n }) s.cat.platters })) ∧
     (s.platter? id = none →
       exec .pickerMoveDone s = .next (placed { s.cat with
         platters := insertKeyed Platter.id { id := id, home := some n, loc := .slot n, side0 := ⟨.unchecked, 0⟩, side1 := ⟨.unchecked, 0⟩, mounts := 0, lastUnload := none } s.cat.platters
         slots := insertKeyed SlotRec.slot ⟨n, .occupied id⟩ s.cat.slots }))) ∧
   (m.dst ≠ none →
     let out (y : Reply) (id : Nat) (drives : Six Drive) : State := State.queued { s with
       cat := { s.cat with platters := updateKeyed Platter.id id (fun p => { p with loc := .mail }) s.cat.platters }
       lib := { s.lib with drives := drives, mail := .outgoing id, picker := s.pickerFreed } } y .done (.exported id)
     (∀ (y : Reply) (id : Nat), s.lib.picker.piece = some (.exportMove y id) → (s.links.get y.link).resetCount = y.gen → (∀ q ∈ s.lib.demands, q.side.platter ≠ id) →
       exec .pickerMoveDone s = .next (out y id s.lib.drives)) ∧
     (∀ (y : Reply) (id : Nat) (d : DriveNo), s.lib.picker.piece = some (.exportDrive y id d) → (s.links.get y.link).resetCount = y.gen →
       (∀ q ∈ s.lib.demands, q.side.platter ≠ id) → (s.lib.drives.get d).state = .unloading →
       exec .pickerMoveDone s = .next (out y id (s.lib.drives.set d (Drive.vacant .empty))))))

/-- R145: SUBSTITUTE of a held platter by another, with both sides UNCHECKED and no instrument located on it, records the pair, gives the replacement
the sides of the retired platter and makes the retired platter's sides FULL. An unknown id is NOT_HELD; then SUBSTITUTE_INVALID, PLATTER_BUSY for an
OPEN side, and TABLE_FULL with eight pairs. (With no filing waiting for media; R69.) -/
def Obligations.SubstituteRecordsPair : Prop :=
  ∀ (l : Link) (t old new : Nat) (s : State), s.Takes l t (.substitute old new) →
    let refused (st : Status) : Prop := exec (.substitute l t old new) s = .next (s.answered l t 0x52 st .none)
    ((s.platter? old = none ∨ s.platter? new = none) → refused .notHeld) ∧
    ∀ p q, s.platter? old = some p → s.platter? new = some q →
      let invalid := old = new ∨ (∃ x ∈ s.cat.substs, x.retired = old ∨ x.replacement = old ∨ x.retired = new ∨ x.replacement = new) ∨
        q.side0.state ≠ .unchecked ∨ q.side1.state ≠ .unchecked ∨ (∃ e ∈ s.cat.table, ∃ x, e.loc? = some x ∧ x.platter = new)
      let busy := (∃ f, p.side0.state = .opened f) ∨ (∃ f, p.side1.state = .opened f)
      let close (x : SideRec) : SideRec := { x with state := .full (match x.state with | .full f => f | .opened f => f | _ => 16) }
      (invalid → refused .substituteInvalid) ∧
      (¬invalid → busy → refused .platterBusy) ∧
      (¬invalid → ¬busy → 8 ≤ s.cat.substs.length → refused .tableFull) ∧
      (¬invalid → ¬busy → s.cat.substs.length < 8 → s.commitQueue = [] →
        exec (.substitute l t old new) s = .next (State.answered { s with cat := { s.cat with
          platters := updateKeyed Platter.id old (fun r => { r with side0 := close r.side0, side1 := close r.side1 })
            (updateKeyed Platter.id new (fun r => { r with side0 := p.side0, side1 := p.side1 }) s.cat.platters)
          substs := s.cat.substs ++ [{ retired := old, replacement := new }] } } l t 0x52 .done .none))

/-- R128: DRIVE_RESET of a FAULT drive issues it EJECT, its response waiting; another number, or an ABSENT drive, is NO_DRIVE, and a drive in another
state NOT_FAULT. (The drive stays FAULT until it answers: assumption log 14.) -/
def Obligations.DriveResetEjects : Prop :=
  ∀ (l : Link) (t n : Nat) (s : State), s.Takes l t (.driveReset n) →
    ((n = 0 ∨ 6 < n) → exec (.driveReset l t n) s = .next (s.answered l t 0x53 .noDrive .none)) ∧
    ∀ d : DriveNo, d.toNat = n →
      let k := s.lib.drives.get d
      (k.state = .absent → exec (.driveReset l t n) s = .next (s.answered l t 0x53 .noDrive .none)) ∧
      (k.state ≠ .absent → k.state ≠ .fault → exec (.driveReset l t n) s = .next (s.answered l t 0x53 .notFault .none)) ∧
      (k.state = .fault → k.reset = none → exec (.driveReset l t n) s = .next { s.tagTaken l t with lib := { s.lib with
        drives := s.lib.drives.set d { k with
          cmd := some .eject, reported := 0, since := s.ref, retry := false
          reset := some { link := l, tag := t, gen := (s.links.get l).resetCount, code := 0x53 } } } })

/-- R138, R124, R119: READY after a load: the drive is READY, its load time is the clock reading, its residency timer starts, and its platter's mount
count rises, holding at 65,535; a demand that mounted it with no waiter left is removed. With no load running the report is not taken (assumption log
43).
R138 step 5, R125, R92, R94, R95, R111, R112: READY with retrieval waiters: each waiter's use is appended to the work list in waiter order, the demand
is removed, and the first, the item that made its segment, has the drive: the read of its extent is issued, the drive's channel is set to the
segment's first block for its whole length, the segment's fill is the drive, and the item is READY; where its link's outbound channel is IDLE and no
other item of the link is READY, the channel takes it and waits for the first block, the map's, with no blocks remaining until the map is read (the
model's choice, assumption log 16).
R138 step 5, R67, R68: READY with the filing head as the demand's waiter: FIL has the drive. An UNCHECKED side has its blocks 0 to 15 read; a BLANK
one has them erased, with the open time read from the clock (the channel's record in the erase is assumption log 53); on the OPEN side with room, an
extent is allocated at the fill point, which rises by its length at once, the slot is WRITING with that extent, the drive is pinned, and the extent's
erase is issued.
R129, R138, R143: UNLOADED where the picker waits at the drive: the platter's last unload time is set, and its move begins, its location PICKER.
Evicted for a demand for another platter it goes to its home slot, turned over when it faced side 1; the demanded platter itself is turned over and
goes back into the drive; an exported one goes to the mail slot. With the door open the demand goes back to WAITING, or the EXPORT is answered
DOOR_OPEN, and a return-home piece is queued, the picker HALTED (R139, R149). -/
def Obligations.DriveReadyAndUnloaded : Prop :=
  (∀ (d : DriveNo) (s : State), s.Quiet →
     let k := s.lib.drives.get d
     (∀ id sd, k.cmd = some .load → k.platter = some ⟨some id, sd⟩ → k.work = [] →
       (s.demand? ⟨id, sd⟩ = none ∨ ∃ q, s.demand? ⟨id, sd⟩ = some q ∧ q.mounting = some d ∧ q.waiters = []) →
       exec (.driveReadyReport d) s = .next { s with
         cat := { s.cat with platters := updateKeyed Platter.id id (fun p => { p with mounts := min (p.mounts + 1) 65535 }) s.cat.platters }
         lib := { s.lib with
           drives := s.lib.drives.set d { k with state := .ready, cmd := none, retry := false, loadTime := some s.clock.now, residency := some s.ref }
           demands := s.lib.demands.filter (fun q => decide (q.side ≠ ⟨id, sd⟩)) } }) ∧
     (k.cmd ≠ some .load → exec (.driveReadyReport d) s = .next s)) ∧
  (∀ (d : DriveNo) (s : State) (id : Nat) (sd : Side) (q : Demand) (r : ItemRef) (cls : MountClass) (age : Nat) (ws : List Waiter) (o : Op) (i : Item) (v : Resolved)
     (g : Segment), s.Quiet →
     let k := s.lib.drives.get d
     k.cmd = some .load → k.platter = some ⟨some id, sd⟩ → k.work = [] → s.demand? ⟨id, sd⟩ = some q → q.mounting = some d →
     q.waiters = .item r cls age :: ws → (∀ w ∈ ws, ∃ r' c a, w = .item r' c a) → ws.length ≤ 12 → s.item? r = some (o, i) → i.resolved = some v →
     o.current = r.pos → 1 ≤ r.pos → s.segment? v.inst = some g → s.segmentOf r = some g → g.filler = some r → g.started = false → g.staged = 0 →
     let loaded : Drive := { k with
       state := .busy, cmd := some (.read v.loc.start v.loc.len), reported := 0, since := s.ref, retry := false, loadTime := some s.clock.now, residency := some s.ref
       work := .fill v.inst :: ws.filterMap s.useOf }
     let after (p : Phase) : State := { s with
       cat := { s.cat with platters := updateKeyed Platter.id id (fun p => { p with mounts := min (p.mounts + 1) 65535 }) s.cat.platters }
       lib := { s.lib with drives := s.lib.drives.set d loaded, demands := s.lib.demands.filter (fun q => decide (q.side ≠ ⟨id, sd⟩)) }
       segments := s.segments.map (fun h => if h.inst = v.inst then { h with fill := some d, started := true } else h)
       driveChans := s.driveChans.set d
         { chan := { state := .running, op := .item r, mode := some .sequential, next := 4096 + g.first, remaining := g.len, action := .none }, held := [], ringBlock := none, passed := none }
       ops := s.ops.map (fun o => if o.reply.link = r.link ∧ o.reply.tag = r.tag then { o with items := o.items.modify (r.pos - 1) (fun i => { i with phase := p }) } else o) }
     ((s.outChans.get r.link).chan.op ≠ .none → exec (.driveReadyReport d) s = .next (after .ready)) ∧
     ((s.outChans.get r.link).chan.op = .none →
       (∀ p ∈ s.ops, p.reply.link = r.link → ∀ j, p.items[p.current - 1]? = some j → j.phase ≠ .ready) →
       exec (.driveReadyReport d) s = .next { after .delivering with
         outChans := s.outChans.set r.link { OutChan.idle with
           chan := { state := .waiting, op := .item r, mode := some .sequential, next := 4096 + g.first, remaining := 0, action := .endItem } } })) ∧
  (∀ (d : DriveNo) (s : State) (side : PlatterSide) (w : Demand) (age : Nat) (u : FilUse) (q : FSlot) (f : Filing) (p : Platter) (x : SideRec), s.Quiet →
     let k := s.lib.drives.get d
     k.cmd = some .load → k.platter = some ⟨some side.platter, side.side⟩ → k.work = [] → s.demand? side = some w → w.mounting = some d →
     w.waiters = [.filing age] → s.filUse = some u → u.side = side → u.slot = some q → s.filings.get q = some f → s.platter? side.platter = some p →
     p.sideRec side.side = x →
     let mounted := updateKeyed Platter.id side.platter (fun p => { p with mounts := min (p.mounts + 1) 65535 }) s.cat.platters
     let after (c : DriveCmd) (g : FilStage) (h : Chan) : State := { s with
       cat := { s.cat with platters := mounted }
       lib := { s.lib with
         drives := s.lib.drives.set d { k with
           state := .busy, cmd := some c, reported := 0, since := s.ref, retry := false, loadTime := some s.clock.now, residency := some s.ref, work := [.filing] }
         demands := s.lib.demands.filter (fun q => decide (q.side ≠ side)) }
       driveChans := s.driveChans.set d { chan := h, held := [], ringBlock := none, passed := none }
       filUse := some { u with stage := g } }
     let header : Chan := { state := .running, op := .slot q, mode := none, next := 0, remaining := 16, action := .none }
     (x.state = .unchecked → exec (.driveReadyReport d) s = .next (after (.read 0 16) (.check d) header)) ∧
     (x.state = .blank → exec (.driveReadyReport d) s = .next { after (.erase 0 16) (.headErase d) header with
       filUse := some { u with stage := .headErase d, openTime := s.clock.now } }) ∧
     (∀ fill, x.state = .opened fill → s.openSide = some (side, fill) → p.loc = .drive d → f.blocks ≤ 307200 - fill →
       (∀ c, f.commit = some c → side ∉ c.failed) →
       exec (.driveReadyReport d) s = .next { after (.erase fill f.blocks) (.erase d) (s.driveChans.get d).chan with
         cat := { s.cat with platters := updateKeyed Platter.id side.platter (fun p => p.modSide side.side (fun x => { x with state := .opened (fill + f.blocks) })) mounted }
         filings := s.filings.set q (some { f with state := .writing, extent := some ⟨side.platter, side.side, fill, f.blocks⟩ })
         driveChans := s.driveChans
         lib := { s.lib with
           drives := s.lib.drives.set d { k with
             state := .busy, cmd := some (.erase fill f.blocks), reported := 0, since := s.ref, retry := false, loadTime := some s.clock.now, residency := some s.ref
             pinned := true, work := [.filing] }
           demands := s.lib.demands.filter (fun q => decide (q.side ≠ side)) } })) ∧
  (∀ (d : DriveNo) (s : State) (id : Nat) (sd : Side) (p : Platter), s.Quiet →
     let k := s.lib.drives.get d
     k.cmd = some .unload → k.state = .unloading → k.platter = some ⟨some id, sd⟩ → s.lib.sweepDue = false → s.platter? id = some p →
     let drives := s.lib.drives.set d { k with cmd := none, reported := 0, retry := false }
     let unloaded := updateKeyed Platter.id id (fun p => { p with lastUnload := some s.clock.now }) s.cat.platters
     let carried := updateKeyed Platter.id id (fun p => { p with loc := .picker, lastUnload := some s.clock.now }) s.cat.platters
     let moves (dst : Pos) (flip : Bool) (piece : Piece) : Library := { s.lib with
       drives := drives
       picker := { state := .moving, held := some id, move := some { src := .drive d, dst := some dst, flip := flip }, since := some s.ref, piece := some piece } }
     let halts : Library := { s.lib with
       drives := drives
       returns := s.lib.returns ++ [d]
       picker := { state := .halted, held := none, move := none, since := none, piece := none } }
     (∀ want, s.lib.picker.piece = some (.mountUnload d want) →
       (∀ n, id ≠ want.platter → s.lib.doorOpen = false → p.home = some n → s.cat.slotUse? n = some (.occupied id) →
         s.cat.slots.filter (fun r => decide (r.slot = n ∨ (r.use ≠ .occupied id ∧ r.use ≠ .reserved id))) = s.cat.slots →
         risingKeys SlotRec.slot s.cat.slots = true →
         exec (.driveUnloadedReport d) s = .next { s with
           cat := { s.cat with platters := updateKeyed Platter.id id (fun p => { p with home := some n, loc := .picker, lastUnload := some s.clock.now }) s.cat.platters }
           lib := moves (.slot n) (sd == .s1) (.mountEvict d want) }) ∧
       (id = want.platter → s.lib.doorOpen = false →
         exec (.driveUnloadedReport d) s = .next { s with
           cat := { s.cat with platters := carried }
           lib := moves (.drive d) true (.mountFlip d want) }) ∧
       (∀ q, s.lib.doorOpen = true → s.demand? want = some q → q.mounting = some d → q.waiters ≠ [] → (∀ h ∈ s.lib.demands, h.side = want → h = q) →
         (∀ h ∈ s.lib.demands, h.mounting = none → h.waiters ≠ []) →
         exec (.driveUnloadedReport d) s = .next { s with
           cat := { s.cat with platters := unloaded }
           lib := { halts with demands := s.lib.demands.map (fun h => if h.side = want then { h with mounting := none } else h) } })) ∧
     (∀ y, s.lib.picker.piece = some (.exportUnload y id d) →
       (s.lib.doorOpen = false → exec (.driveUnloadedReport d) s = .next { s with
         cat := { s.cat with platters := carried }
         lib := moves .mail (sd == .s1) (.exportDrive y id d) }) ∧
       (s.lib.doorOpen = true → (s.links.get y.link).resetCount = y.gen → exec (.driveUnloadedReport d) s = .next { s with
         cat := { s.cat with platters := unloaded }
         lib := halts
         links := s.links.set y.link { s.links.get y.link with
           responses := (s.links.get y.link).responses ++ [{ tag := some y.tag, code := y.code, status := .doorOpen, body := .none }] } })))

/-- R112, R126: a block read for a staging fill is held for the buffer port behind those held already (assumption log 9), and a block erased counts,
each restarting the drive command's timer; a report with no command running, or beyond its blocks, is not taken (assumption log 43).
R70, R94: DONE of an erase pass with no abandon pending begins the write pass of the same extent, its channel set to the slot's ring blocks; DONE of a
fill's read with blocks still to be staged makes the drive READY and leaves its channel RUNNING (the model's choice, assumption log 53). With no
command running it is not taken (assumption log 43). -/
def Obligations.DriveBlocksAndDone : Prop :=
  (∀ (d : DriveNo) (s : State), s.Quiet →
     let k := s.lib.drives.get d
     let counted := s.lib.drives.set d { k with reported := k.reported + 1, since := s.ref }
     (∀ (a len : Nat) (n : InstrNum) (rest : List Use) (b : List Byte), k.cmd = some (.read a len) → k.reported < len → k.work = .fill n :: rest →
       exec (.driveBlockReport d (.data b)) s = .next { s with
         lib := { s.lib with drives := counted }
         driveChans := s.driveChans.set d { s.driveChans.get d with held := (s.driveChans.get d).held ++ [b] } }) ∧
     (∀ (a len : Nat) (rest : List Use) (u : FilUse), k.cmd = some (.erase a len) → k.reported < len → k.work = .filing :: rest →
       s.filUse = some u → exec (.driveBlockReport d .passed) s = .next { s with lib := { s.lib with drives := counted } }) ∧
     ((k.cmd = none ∨ ∃ c, k.cmd = some c ∧ c.len ≤ k.reported) → ∀ b, exec (.driveBlockReport d b) s = .next s)) ∧
  (∀ (d : DriveNo) (s : State), s.Quiet →
     let k := s.lib.drives.get d
     k.staleDone = false →
     (∀ (q : FSlot) (f : Filing) (e : Location) (u : FilUse) (a n : Nat) (rest : List Use), k.cmd = some (.erase a n) → k.work = .filing :: rest →
       s.filUse = some u → u.stage = .erase d → u.slot = some q → s.filings.get q = some f → f.extent = some e →
       (∀ c, f.commit = some c → c.abandonPending = false) →
       exec (.driveDoneReport d) s = .next { s with
         lib := { s.lib with drives := s.lib.drives.set d { k with state := .busy, cmd := some (.write e.start e.len), reported := 0, since := s.ref, retry := false } }
         driveChans := s.driveChans.set d { chan := { state := .running, op := .slot q, mode := some .ring, next := s.ringPos q 0, remaining := e.len, action := .startVerify }, held := [], ringBlock := none, passed := none }
         filUse := some { u with stage := .write d } }) ∧
     (∀ (i : InstrNum) (a n : Nat) (rest : List Use), k.cmd = some (.read a n) → n ≤ k.reported → k.work = .fill i :: rest →
       (s.driveChans.get d).chan.remaining ≠ 0 → exec (.driveDoneReport d) s = .next { s with lib := { s.lib with
         drives := s.lib.drives.set d { k with state := if k.state = .busy then .ready else k.state, cmd := none, reported := 0, retry := false } } }) ∧
     (k.cmd = none → exec (.driveDoneReport d) s = .next s))

/-- R67, R68, R112: the header check and open of the filing side. A header block read is one block less for the channel to carry, and a written one is
noted. DONE with none written makes the side BLANK and erases its blocks 0 to 15, the open time read from the clock (the channel's record in the erase
is assumption log 53); with one written, or an unreadable one, the side is FOREIGN, and with every other side FULL or FOREIGN the head waits for
media. The header is then written with the record of platter id, side and open time, and DONE makes the side OPEN with fill point 16: an extent is
allocated there, which raises the fill point, the slot is WRITING, the drive is pinned, and the extent's erase is issued.
R70, R71, R106, R112, R116: the write pass and the verify pass of an extent. The port reads the slot's ring blocks in extent order and passes each to
the drive; the drive's report of a block passed counts it, and after the last the channel stays RUNNING till DONE (assumption log 66). DONE of the
write pass, every block passed, begins the verify pass: the slot is VERIFYING, the extent is read, and the channel is set to the slot's first ring
block. In it the port reads the ring block to compare with, ahead of the drive's block or behind it (the model's choice, assumption log 10), a block
the drive has read waits for it (assumption log 9), and when both are there and equal the channel goes on to the next; when they differ a failed
attempt is counted (R74), and on a side still OPEN with room an extent is allocated at its fill point and the erase pass begins on it (R75).
R71 step 3, R73, R10, R2, R15, R105: the last block of a verify pass compares equal. In one change the instrument is RECORDED with the commit's
location, page counts and restricted flag, each instrument it claims has it as its successor and is claimed no more, its folio links are inserted, the
slot's ring blocks are WRITTEN and the ring is reclaimed, the drive is READY with FIL's use gone and not pinned, the slot is free, and the COMMIT is
answered DONE with the location and the attempts. With an abandon pending the slot is freed instead and the COMMIT is ABORTED (R61). (The read's own
DONE, if still to come, is taken as this read's: assumption log 13. No demand for the side waits and no other slot is committed.)
(A channel's next block after the slot's last is 0, the model's choice, assumption log 72.)
(That no DONE is due of a verify read which a compare failure has ended is the model's choice, assumption log 76.) -/
def Obligations.FilingPassesAndRecord : Prop :=
  (∀ s : State, ∀ d : DriveNo, s.Quiet →
   let k := s.lib.drives.get d
   ∀ u : FilUse, s.filUse = some u → ∀ q : FSlot, u.slot = some q → ∀ f : Filing, s.filings.get q = some f → ∀ p : Platter, s.platter? u.side.platter = some p →
   ∀ cmd : DriveCmd, k.cmd = some cmd → k.state = .busy → k.staleDone = false → (∀ p' ∈ s.cat.platters, p'.id = p.id → p' = p) → s.OthersShut u.side →
   let side (x : SideState) : CatMem := { s.cat with platters := updateKeyed Platter.id p.id (fun p => p.modSide u.side.side (fun r => { r with state := x })) s.cat.platters }
   let issued (c : DriveCmd) : Drive := { k with cmd := some c, reported := 0, since := s.ref, retry := false }
   let header : Chan := { state := .running, op := .slot q, mode := none, next := 0, remaining := 16, action := .none }
   (∀ rest : List Use, k.work = .filing :: rest → k.reported < cmd.len →
     let carried : State := { s with
       lib := { s.lib with drives := s.lib.drives.set d { k with reported := k.reported + 1, since := s.ref } }
       driveChans := s.driveChans.set d { s.driveChans.get d with chan := { (s.driveChans.get d).chan with remaining := (s.driveChans.get d).chan.remaining - 1 } } }
     (∀ w : Bool, cmd = .read 0 16 → u.stage = .check d →
       exec (.driveBlockReport d (.header w)) s = .next { carried with filUse := some { u with sawWritten := u.sawWritten || w } }) ∧
     (cmd = .write 0 16 → u.stage = .headWrite d →
       exec (.driveBlockReport d .passed) s = .next carried)) ∧
   (∀ rest : List Use, k.work = .filing :: rest → cmd = .read 0 16 → u.stage = .check d → 16 ≤ k.reported → (p.sideRec u.side.side).state = .unchecked →
     u.sawWritten = false →
     exec (.driveDoneReport d) s = .next { s with
       cat := side .blank
       lib := { s.lib with drives := s.lib.drives.set d (issued (.erase 0 16)) }
       driveChans := s.driveChans.set d { chan := header, held := [], ringBlock := none, passed := none }
       filUse := some { u with stage := .headErase d, openTime := s.clock.now } }) ∧
   (k.work = [.filing] → cmd = .read 0 16 → u.stage = .check d → (p.sideRec u.side.side).state = .unchecked → s.commitQueue.head? = some q → f.state = .queued →
     s.PickerRests → k.platter = some ⟨some p.id, u.side.side⟩ → s.demand? u.side = none →
     let foreign : State := State.post { s with
       cat := side .foreign
       filings := s.filings.set q (some { f with state := .waitingMedia })
       lib := { s.lib with drives := s.lib.drives.set d { k with state := .ready, cmd := none, reported := 0, retry := false, pinned := false, work := [] } }
       driveChans := s.driveChans.set d DriveChan.idle
       filUse := none } (.noBlankMedia q f.inst)
     (16 ≤ k.reported → u.sawWritten = true →
       exec (.driveDoneReport d) s = .next foreign) ∧
     (exec (.driveUnreadable d) s = .next foreign)) ∧
   (∀ rest : List Use, k.work = .filing :: rest → cmd = .erase 0 16 → u.stage = .headErase d →
     exec (.driveDoneReport d) s = .next { s with
       lib := { s.lib with drives := s.lib.drives.set d (issued (.write 0 16)) }
       driveChans := s.driveChans.set d { chan := header, held := [], ringBlock := none, passed := some (.header ⟨p.id, u.side.side, u.openTime⟩) }
       filUse := some { u with stage := .headWrite d } }) ∧
   (∀ rest : List Use, k.work = .filing :: rest → cmd = .write 0 16 → u.stage = .headWrite d → (p.sideRec u.side.side).state = .blank → p.loc = .drive d →
     f.blocks ≤ 307200 - 16 → (∀ c ∈ f.commit, u.side ∉ c.failed) →
     exec (.driveDoneReport d) s = .next { s with
       cat := side (.opened (16 + f.blocks))
       lastFiling := some u.side
       filings := s.filings.set q (some { f with state := .writing, extent := some ⟨p.id, u.side.side, 16, f.blocks⟩ })
       lib := { s.lib with drives := s.lib.drives.set d { issued (.erase 16 f.blocks) with pinned := true } }
       driveChans := s.driveChans.set d DriveChan.idle
       filUse := some { u with stage := .erase d } })) ∧
  (∀ s : State, ∀ d : DriveNo, s.Quiet →
   let k := s.lib.drives.get d
   let h := s.driveChans.get d
   ∀ u : FilUse, s.filUse = some u → ∀ q : FSlot, u.slot = some q → ∀ f : Filing, s.filings.get q = some f → ∀ e : Location, f.extent = some e →
   ∀ cmd : DriveCmd, k.cmd = some cmd → ∀ rest : List Use, k.work = .filing :: rest → k.staleDone = false →
   let counted : Drive := { k with reported := k.reported + 1, since := s.ref }
   (DriveNo.all.find? s.driveWants = some d → (∀ l, (s.links.get l).lane = []) →
     (u.stage = .write d →
       exec (.bufferPortMove false) s = .next { s with driveChans := s.driveChans.set d { h with
         chan := { h.chan with next := s.ringPos q (e.len - (h.chan.remaining - 1)), remaining := h.chan.remaining - 1 }
         passed := some (.block (Memory.readBlock s.mem h.chan.next)) } }) ∧
     (u.stage = .verify d → h.held = [] →
       exec (.bufferPortMove false) s = .next { s with driveChans := s.driveChans.set d { h with ringBlock := some (Memory.readBlock s.mem h.chan.next) } })) ∧
   (u.stage = .write d → cmd = .write e.start e.len → k.reported < e.len - h.chan.remaining →
     exec (.driveBlockReport d .passed) s = .next { s with lib := { s.lib with drives := s.lib.drives.set d counted } }) ∧
   (u.stage = .write d → cmd = .write e.start e.len → h.chan.remaining = 0 → (∀ c ∈ f.commit, c.abandonPending = false) →
     exec (.driveDoneReport d) s = .next { s with
       filings := s.filings.set q (some { f with state := .verifying })
       lib := { s.lib with drives := s.lib.drives.set d { k with state := .busy, cmd := some (.read e.start e.len), reported := 0, since := s.ref, retry := false } }
       driveChans := s.driveChans.set d { chan := { state := .running, op := .slot q, mode := some .ring, next := s.ringPos q 0, remaining := e.len, action := .markWritten }, held := [], ringBlock := none, passed := none }
       filUse := some { u with stage := .verify d } }) ∧
   (u.stage = .verify d → cmd = .read e.start e.len → k.reported < e.len →
     (∀ b : List Byte, h.ringBlock = none →
       exec (.driveBlockReport d (.data b)) s = .next { s with
         lib := { s.lib with drives := s.lib.drives.set d counted }
         driveChans := s.driveChans.set d { h with held := h.held ++ [b] } }) ∧
     (∀ b : List Byte, h.ringBlock = some b → h.held = [] → 1 < h.chan.remaining →
       exec (.driveBlockReport d (.data b)) s = .next { s with
         lib := { s.lib with drives := s.lib.drives.set d counted }
         driveChans := s.driveChans.set d { h with
           chan := { h.chan with next := s.ringPos q (e.len - (h.chan.remaining - 1)), remaining := h.chan.remaining - 1 }, held := [], ringBlock := none } }) ∧
     (∀ b : List Byte, ∀ rb : List Byte, h.ringBlock = some rb → ∀ c : Commit, f.commit = some c → ∀ p : Platter, s.platter? u.side.platter = some p →
       ∀ fill : Nat, (p.sideRec u.side.side).state = .opened fill → b ≠ rb → h.held = [] → c.abandonPending = false → c.failed = [] →
       (p.sideRec u.side.side).fails = 0 → s.openSide = some (u.side, fill) → p.loc = .drive d → k.state ≠ .fault → f.blocks ≤ 307200 - fill →
       exec (.driveBlockReport d (.data b)) s = .next { s with
         cat := { s.cat with platters := updateKeyed Platter.id p.id (fun p => p.modSide u.side.side (fun x => { state := .opened (fill + f.blocks), fails := min 2 (x.fails + 1) })) s.cat.platters }
         filings := s.filings.set q (some { f with state := .writing, extent := some ⟨p.id, u.side.side, fill, f.blocks⟩, commit := some { c with attempts := c.attempts + 1, failed := [u.side] } })
         lib := { s.lib with drives := s.lib.drives.set d { k with state := .busy, cmd := some (.erase fill f.blocks), reported := 0, since := s.ref, retry := false, pinned := true } }
         driveChans := s.driveChans.set d DriveChan.idle
         filUse := some { u with stage := .erase d } }))) ∧
  (∀ s : State, ∀ d : DriveNo, s.Quiet →
   let k := s.lib.drives.get d
   let h := s.driveChans.get d
   ∀ u : FilUse, s.filUse = some u → ∀ q : FSlot, u.slot = some q → ∀ f : Filing, s.filings.get q = some f → ∀ c : Commit, f.commit = some c →
   ∀ e : Location, f.extent = some e → ∀ b : List Byte, h.ringBlock = some b → k.work = [.filing] → k.cmd = some (.read e.start e.len) → k.state = .busy →
   u.stage = .verify d → k.reported < e.len → h.held = [] → h.chan.remaining = 1 → k.platter = some ⟨some u.side.platter, u.side.side⟩ → s.demand? u.side = none →
   s.PickerRests → s.commitQueue = [q] → (s.links.get c.reply.link).resetCount = c.reply.gen → s.cat.isFiling f.inst = true →
   let lib : Library := { s.lib with drives := s.lib.drives.set d { k with state := .ready, cmd := none, reported := 0, retry := false, since := s.ref, staleDone := true, pinned := false, work := [] } }
   (c.abandonPending = false →
     exec (.driveBlockReport d (.data b)) s = .next (State.queued { s with
       cat := { s.cat.addLinks f.inst (s.reserved.get q) with table := s.cat.table.map (fun e' =>
         let e' : Entry := if e'.num = f.inst then { e' with state := .recorded e ⟨c.small, c.plan⟩, restricted := c.restricted } else e'
         if e'.claim = some f.inst then { e' with claim := none, successor := some f.inst } else e') }
       reserved := s.reserved.set q []
       ring := (s.ring.map (fun b => if b.slot = q then { b with mark := .written } else b)).dropWhile (fun b => b.mark ≠ .live)
       filings := s.filings.set q none
       commitQueue := []
       lib := lib
       driveChans := s.driveChans.set d DriveChan.idle
       filUse := none } c.reply .done (.committed f.inst e c.attempts))) ∧
   (c.abandonPending = true →
     exec (.driveBlockReport d (.data b)) s = .next (State.queued { s.slotFreed q f.inst with
       lib := lib
       driveChans := s.driveChans.set d DriveChan.idle
       filUse := none } c.reply .aborted .none)))

/-- R74, R75, R70: a medium error of an erase or write pass counts a failed attempt on the slot and on the side. With no abandon pending and no
failure of the slot before: on a side still OPEN with room an extent is allocated at its fill point and the erase pass begins on it; a side whose
second failure this is becomes FULL, and the head goes back to the side test and, with every other side FULL or FOREIGN, waits for media. After a
second failed side the commit ends WRITE_FAILED: the slot is free, its instrument LODGED again, and MEDIA_ALERT is posted.
R94, R110, R125, R117: an unreadable block of a fill, or a parity fault on its channel, removes the segment and ends its user, the last item of an
operation, MEDIA_FAULT: a copy is in flight no more, the outbound channel that serves it is IDLE, and the response is sent; two users on two links end
both. The drive is READY with the use gone, and its channel IDLE; the parity fault is posted to all three links (the model's reading, assumption log
63), with the block the channel was to write in buffer memory's numbers (assumption log 44). (Nothing waits for staging space.)
(The 0s in the entry of an item not ended DONE are the model's choice, assumption log 71.) -/
def Obligations.MediumFaultsHandled : Prop :=
  (∀ s : State, ∀ d : DriveNo, s.Quiet →
   let k := s.lib.drives.get d
   ∀ cmd : DriveCmd, k.cmd = some cmd → (∃ a n, cmd = .erase a n ∨ cmd = .write a n) → ∀ u : FilUse, s.filUse = some u → ∀ q : FSlot, u.slot = some q →
   ∀ f : Filing, s.filings.get q = some f → ∀ c : Commit, f.commit = some c → ∀ p : Platter, s.platter? u.side.platter = some p →
   ∀ fill : Nat, (p.sideRec u.side.side).state = .opened fill → (u.stage = .erase d ∨ u.stage = .write d) → c.abandonPending = false →
   let failed (full : Bool) (x : SideRec) : SideRec := { state := if full then .full fill else x.state, fails := min 2 (x.fails + 1) }
   let counted : Commit := { c with attempts := c.attempts + 1, failed := c.failed ++ [u.side] }
   (∀ rest : List Use, k.work = .filing :: rest → c.failed = [] → (p.sideRec u.side.side).fails = 0 → s.openSide = some (u.side, fill) → p.loc = .drive d →
     k.state ≠ .fault → f.blocks ≤ 307200 - fill →
     exec (.driveMediumError d) s = .next { s with
       cat := { s.cat with platters := updateKeyed Platter.id p.id (fun p => p.modSide u.side.side (fun x => { state := .opened (fill + f.blocks), fails := min 2 (x.fails + 1) })) s.cat.platters }
       filings := s.filings.set q (some { f with state := .writing, extent := some ⟨p.id, u.side.side, fill, f.blocks⟩, commit := some counted })
       lib := { s.lib with drives := s.lib.drives.set d { k with state := .busy, cmd := some (.erase fill f.blocks), reported := 0, since := s.ref, retry := false, pinned := true } }
       driveChans := s.driveChans.set d DriveChan.idle
       filUse := some { u with stage := .erase d } }) ∧
   (c.failed = [] → (p.sideRec u.side.side).fails = 1 → k.work = [.filing] → s.PickerRests → k.platter = some ⟨some p.id, u.side.side⟩ → s.demand? u.side = none →
     s.OthersShut u.side → s.commitQueue.head? = some q → (∀ p' ∈ s.cat.platters, p'.id = p.id → p' = p) →
     exec (.driveMediumError d) s = .next (State.post { s with
       cat := { s.cat with platters := updateKeyed Platter.id p.id (fun p => p.modSide u.side.side (failed true)) s.cat.platters }
       filings := s.filings.set q (some { f with state := .waitingMedia, extent := none, commit := some counted })
       lib := { s.lib with drives := s.lib.drives.set d { k with state := if k.state = .busy then .ready else k.state, cmd := none, reported := 0, retry := false, pinned := false, work := [] } }
       driveChans := s.driveChans.set d DriveChan.idle
       filUse := none } (.noBlankMedia q f.inst))) ∧
   (∀ x ∈ c.failed, c.failed = [x] → x ≠ u.side → k.work = [.filing] → s.PickerRests → k.platter = some ⟨some p.id, u.side.side⟩ → s.demand? u.side = none →
     s.commitQueue = [q] → s.cat.isFiling f.inst = true → (s.links.get c.reply.link).resetCount = c.reply.gen → (∀ p' ∈ s.cat.platters, p'.id = p.id → p' = p) →
     let freed : State := s.slotFreed q f.inst
     exec (.driveMediumError d) s = .next (State.post (State.queued { freed with
       cat := { freed.cat with platters := updateKeyed Platter.id p.id (fun p => p.modSide u.side.side (failed (decide (2 ≤ (p.sideRec u.side.side).fails + 1)))) s.cat.platters }
       lib := { s.lib with drives := s.lib.drives.set d { k with state := if k.state = .busy then .ready else k.state, cmd := none, reported := 0, retry := false, pinned := false, work := [] } }
       driveChans := s.driveChans.set d DriveChan.idle
       filUse := none } c.reply .writeFailed (.writeFailed f.inst [x, u.side])) (.writeFailed f.inst [x, u.side])))) ∧
  (∀ s : State, ∀ d : DriveNo, s.Quiet →
   let k := s.lib.drives.get d
   ∀ (a : Nat) (n : Nat), k.cmd = some (.read a n) → ∀ g ∈ s.segments, ∀ o ∈ s.ops, ∀ i : Item, o.items[o.current - 1]? = some i → k.state = .busy →
   k.work = [.fill g.inst] → (∀ h ∈ s.segments, h.inst = g.inst → h = g) → s.AtLastItem o i → s.NotWaiting o.ref → s.spaceFifo = [] → s.PickerRests →
   let ended : State := { s with
     segments := s.segments.filter (fun h => decide (h.inst ≠ g.inst))
     lib := { s.lib with drives := s.lib.drives.set d { k with state := .ready, cmd := none, reported := 0, retry := false, work := [] } }
     driveChans := s.driveChans.set d DriveChan.idle }
   (g.users = [o.ref] → (∀ h ∈ s.segments, o.ref ∈ h.users → h = g) →
     (exec (.driveUnreadable d) s = .next (ended.itemLost o i .mediaFault)) ∧
     (DriveNo.all.find? s.driveWants = some d → (∀ l, (s.links.get l).lane = []) →
       exec (.bufferPortMove true) s = .next (State.post (ended.itemLost o i .mediaFault) (.bufferParity (.drive d) (s.driveChans.get d).chan.next)))) ∧
   (∀ o' ∈ s.ops, ∀ i' : Item, o'.items[o'.current - 1]? = some i' → g.users = [o.ref, o'.ref] → o.reply.link ≠ o'.reply.link → s.AtLastItem o' i' →
     s.NotWaiting o'.ref → (∀ h ∈ s.segments, (o.ref ∈ h.users ∨ o'.ref ∈ h.users) → h = g) →
     exec (.driveUnreadable d) s = .next ((ended.itemLost o i .mediaFault).itemLost o' i' .mediaFault)))

/-- R127, R126, R124: a FAULT report, or the second expiry of a drive's command timer (15 s, assumption log 8), makes the drive FAULT, its channel
IDLE, and DRIVE_FAULT is posted. Of a fill the segment's user ends MEDIA_FAULT (R94; assumption log 58); of a load the demand goes and its waiter ends
MEDIA_FAULT, and so of a flip whose platter the picker holds, the drive then holding none while the picker's move goes on (the model's reading,
assumption log 35); of an eviction the demand goes back to WAITING; of the unload of an EXPORT its request is answered with a status the spec does not
give, which is not that of a refusal response, BAD_FRAME or BUSY (R187; a free value, assumption log 25), and the picker is free; of an erase, write or verify pass a failed attempt is counted and the head goes back to
the side test, where the side is closed and, with every other side FULL or FOREIGN, it waits for media. A FAULT report of a drive that is FAULT with
no command running, or ABSENT, is not taken (assumption log 43).
R126, R128: the first expiry of a drive's command timer (15 s, assumption log 8) sets the retry flag and issues the command again; a write pass goes
back to the first block not yet reported, its channel with it, and blocks moved already are moved again (the model's reading, assumption log 11; with
every block reported the channel's next block is 0, the model's choice, assumption log 72). The second expiry of an EJECT, or a FAULT report during
it, leaves the drive FAULT, and its DRIVE_RESET is RESET_FAILED. Before 15 s, or with no command running, the timer's row brings nothing.
(The 0s in the entry of an item not ended DONE are the model's choice, assumption log 71.) -/
def Obligations.DriveBecomesFault : Prop :=
  (∀ s : State, ∀ d : DriveNo, s.Quiet →
   let k := s.lib.drives.get d
   let dead (work : List Use) (pinned : Bool) : Six Drive := s.lib.drives.set d { k with
     state := .fault, loadTime := k.platter.bind (fun _ => k.loadTime), residency := k.platter.bind (fun _ => k.residency), cmd := none, reported := 0
     retry := false, staleDone := false, work := work, pinned := pinned }
   let returns := s.lib.returns.filter (fun e => decide (e ≠ d))
   ((k.state = .absent ∨ (k.state = .fault ∧ k.cmd = none)) →
     exec (.driveFaultReport d) s = .next s) ∧
   (∀ timeout : Bool,
     let cause : Instr := if timeout then .driveCommandTimeout d else .driveFaultReport d
     (timeout = true → k.cmd ≠ none ∧ k.since + 15000 ≤ s.ref ∧ k.retry = true) → k.state ≠ .absent → k.state ≠ .fault → k.reset = none → s.taken d = false →
     (∀ q ∈ s.lib.demands, ∀ p, k.platter = some p → p.id ≠ some q.side.platter) →
     (k.work = [] → (∀ q ∈ s.lib.demands, q.mounting ≠ some d) → s.waitsAt d = false →
       exec cause s = .next (State.post { s with
         lib := { s.lib with drives := dead [] k.pinned, returns := returns }
         driveChans := s.driveChans.set d DriveChan.idle } (.driveFault d k.platter timeout))) ∧
     (∀ (y : Reply) (id : Nat), s.lib.picker.piece = some (.exportUnload y id d) → k.work = [] → (∀ q ∈ s.lib.demands, q.mounting ≠ some d) →
       (s.links.get y.link).resetCount = y.gen → s.NothingNext →
       ∃ st : Status, st ≠ .badFrame ∧ st ≠ .busy ∧ exec cause s = .next (State.post (State.queued { s with
         lib := { s.lib with drives := dead [] k.pinned, returns := returns, picker := s.pickerFreed }
         driveChans := s.driveChans.set d DriveChan.idle
         freeCtr := s.freeCtr + 1 } y st .none) (.driveFault d k.platter timeout))) ∧
     (∀ g ∈ s.segments, ∀ o ∈ s.ops, ∀ i : Item, o.items[o.current - 1]? = some i → k.work = [.fill g.inst] → g.users = [o.ref] →
       (∀ h ∈ s.segments, (o.ref ∈ h.users ∨ h.inst = g.inst) → h = g) → s.AtLastItem o i → s.NotWaiting o.ref → s.spaceFifo = [] → s.PickerRests →
       (∀ q ∈ s.lib.demands, q.mounting ≠ some d) → s.waitsAt d = false →
       exec cause s = .next (State.post (State.itemLost { s with
         lib := { s.lib with drives := dead [] k.pinned, returns := returns }
         driveChans := s.driveChans.set d DriveChan.idle
         segments := s.segments.filter (fun h => decide (h.inst ≠ g.inst)) } o i .mediaFault) (.driveFault d k.platter timeout))) ∧
     (∀ u : FilUse, s.filUse = some u → ∀ q : FSlot, u.slot = some q → ∀ f : Filing, s.filings.get q = some f → ∀ c : Commit, f.commit = some c →
       ∀ p : Platter, s.platter? u.side.platter = some p → ∀ fill : Nat, (p.sideRec u.side.side).state = .opened fill → k.work = [.filing] →
       (u.stage = .erase d ∨ u.stage = .write d ∨ u.stage = .verify d) → c.abandonPending = false → c.failed = [] → (p.sideRec u.side.side).fails = 0 →
       s.openSide = some (u.side, fill) → p.loc = .drive d → k.platter = some ⟨some p.id, u.side.side⟩ → s.OthersShut u.side → s.commitQueue.head? = some q →
       (∀ p' ∈ s.cat.platters, p'.id = p.id → p' = p) → s.PickerRests → (∀ q ∈ s.lib.demands, q.mounting ≠ some d) → s.waitsAt d = false →
       exec cause s = .next (State.post (State.post { s with
         cat := { s.cat with platters := updateKeyed Platter.id p.id (fun p => p.modSide u.side.side (fun _ => { state := .full fill, fails := 1 })) s.cat.platters }
         filings := s.filings.set q (some { f with state := .waitingMedia, extent := none, commit := some { c with attempts := c.attempts + 1, failed := [u.side] } })
         lib := { s.lib with drives := dead [] false, returns := returns }
         driveChans := s.driveChans.set d DriveChan.idle
         lastFiling := some u.side
         filUse := none } (.driveFault d k.platter timeout)) (.noBlankMedia q f.inst)))) ∧
   (∀ timeout : Bool,
     let cause : Instr := if timeout then .driveCommandTimeout d else .driveFaultReport d
     (timeout = true → k.since + 15000 ≤ s.ref ∧ k.retry = true) → k.reset = none → s.taken d = false → k.work = [] → s.DemandsAwaited → ∀ q ∈ s.lib.demands,
     q.mounting = some d → (∀ h ∈ s.lib.demands, (h.side = q.side ∨ h.mounting = some d) → h = q) →
     (∀ o ∈ s.ops, ∀ i : Item, o.items[o.current - 1]? = some i → ∀ g ∈ s.segments, k.cmd = some .load → k.state = .loading →
       k.platter = some ⟨some q.side.platter, q.side.side⟩ → (∀ h ∈ s.lib.demands, h.side.platter = q.side.platter → h = q) → ∀ w ∈ q.waiters, q.waiters = [w] →
       w.item? = some o.ref → g.users = [o.ref] → g.filler = some o.ref → g.started = false → (∀ h ∈ s.segments, (o.ref ∈ h.users ∨ h.inst = g.inst) → h = g) →
       (∀ e, .fill g.inst ∉ (s.lib.drives.get e).work) → s.AtLastItem o i → (∀ h ∈ s.lib.demands, ∀ w ∈ h.waiters, h ≠ q → w.item? ≠ some o.ref) → s.spaceFifo = [] →
       s.waitsAt d = false →
       exec cause s = .next (State.post (State.itemLost { s with
         lib := { s.lib with drives := dead [] k.pinned, returns := returns, demands := s.lib.demands.filter (fun h => decide (h.side ≠ q.side)) }
         driveChans := s.driveChans.set d DriveChan.idle
         segments := s.segments.filter (fun h => decide (h.inst ≠ g.inst)) } o i .mediaFault) (.driveFault d k.platter timeout))) ∧
     (∀ p : InDrive, k.platter = some p → k.cmd = some .unload → k.state = .unloading → s.lib.picker.piece = some (.mountUnload d q.side) →
       (∀ h ∈ s.lib.demands, p.id ≠ some h.side.platter) → q.waiters ≠ [] →
       let freed : Library := { s.lib with
         drives := dead [] k.pinned, returns := returns
         demands := s.lib.demands.map (fun h => if h.side = q.side then { h with mounting := none } else h)
         picker := { state := .idle, held := none, move := none, since := none, piece := none } }
       (s.lib.doorOpen = true →
         exec cause s = .next (State.post { s with
           lib := { freed with picker := { freed.picker with state := .halted } }
           driveChans := s.driveChans.set d DriveChan.idle } (.driveFault d k.platter timeout))) ∧
       (s.lib.doorOpen = false → s.lib.sweepDue = false → returns = [] → s.lib.media = [] →
         (∀ e, e ≠ d → (s.lib.drives.get e).state ≠ .empty ∧ (s.lib.drives.get e).state ≠ .ready) →
         exec cause s = .next (State.post { s with lib := freed, driveChans := s.driveChans.set d DriveChan.idle } (.driveFault d k.platter timeout))))) ∧
   (∀ q ∈ s.lib.demands, ∀ w ∈ q.waiters, ∀ o ∈ s.ops, ∀ i : Item, o.items[o.current - 1]? = some i → ∀ g ∈ s.segments, ∀ sd : Side,
     s.lib.picker.piece = some (.mountFlip d q.side) → k.state = .unloading → k.platter = some ⟨some q.side.platter, sd⟩ → k.reset = none → k.work = [] →
     q.mounting = some d → (∀ h ∈ s.lib.demands, (h.side = q.side ∨ h.mounting = some d) → h = q) → q.waiters = [w] → w.item? = some o.ref →
     s.Unstarted g o.ref → s.AtLastItem o i → s.DemandsAwaited → (∀ h ∈ s.lib.demands, ∀ v ∈ h.waiters, h ≠ q → v.item? ≠ some o.ref) → s.spaceFifo = [] →
     exec (.driveFaultReport d) s = .next (State.post (State.itemLost { s with
       lib := { s.lib with
         drives := s.lib.drives.set d { k with
           state := .fault, platter := none, loadTime := none, residency := none, cmd := none, reported := 0, retry := false, staleDone := false }
         returns := returns
         demands := s.lib.demands.filter (fun h => decide (h.side ≠ q.side)) }
       driveChans := s.driveChans.set d DriveChan.idle
       segments := s.segments.filter (fun h => decide (h.inst ≠ g.inst)) } o i .mediaFault) (.driveFault d none false)))) ∧
  (∀ s : State, ∀ d : DriveNo, s.Quiet →
   let k := s.lib.drives.get d
   (k.cmd ≠ none → k.since + 15000 ≤ s.ref → k.retry = false →
     let again : Library := { s.lib with drives := s.lib.drives.set d { k with retry := true, since := s.ref } }
     ((∀ u, s.filUse = some u → u.stage ≠ .write d) →
       exec (.driveCommandTimeout d) s = .next { s with lib := again }) ∧
     (∀ u : FilUse, s.filUse = some u → ∀ q : FSlot, u.slot = some q → ∀ f : Filing, s.filings.get q = some f → ∀ e : Location, f.extent = some e →
       u.stage = .write d →
       let c := s.driveChans.get d
       exec (.driveCommandTimeout d) s = .next { s with
         lib := again
         driveChans := s.driveChans.set d { c with chan := { c.chan with next := s.ringPos q k.reported, remaining := e.len - k.reported } } })) ∧
   (∀ y : Reply, k.reset = some y → k.state = .fault → (s.links.get y.link).resetCount = y.gen →
     let failed : State := State.queued { s with lib := { s.lib with drives := s.lib.drives.set d { k with cmd := none, reported := 0, retry := false, reset := none } } } y .resetFailed .none
     (k.cmd ≠ none →
       exec (.driveFaultReport d) s = .next failed) ∧
     (k.cmd ≠ none → k.since + 15000 ≤ s.ref → k.retry = true →
       exec (.driveCommandTimeout d) s = .next failed)) ∧
   ((k.cmd = none ∨ s.ref < k.since + 15000) →
     exec (.driveCommandTimeout d) s = .next s))

/-- R124, R136, R137, R138: a drive's residency timer ends after 20 s (before that it brings nothing, assumption log 8), and the arbiter runs. With
the picker free for nothing else, the one WAITING demand is granted the drive that is evictable by this end alone: for another platter, UNLOAD is
issued, the demand is MOUNTING and the picker waits at the drive for the move to the evicted platter's home slot; for the other side of its own
platter, the picker waits there to turn it over. A picker that begins nothing leaves it so.
R90, R91, R92, R108, R133, R136, R137, R138: a FETCH, for viewing, of an instrument not staged, whose platter is in a slot, with the link's outbound
channel and the staging area free for it: the item has its segment, FILLING, and waits for the mount. Its demand is granted at once the EMPTY drive
with the lowest number, and the picker begins to carry the platter from its slot to it, turned over for side 1; a picker that is not IDLE leaves it
WAITING. -/
def Obligations.ResidencyEndRunsArbiter : Prop :=
  (∀ s : State, ∀ d : DriveNo, s.Quiet →
   let k := s.lib.drives.get d
   ((k.residency = none ∨ ∃ at0, k.residency = some at0 ∧ s.ref < at0 + 20000) →
     exec (.residencyExpiry d) s = .next s) ∧
   (∀ at0 : Nat, k.residency = some at0 → at0 + 20000 ≤ s.ref →
     (s.PickerRests →
       exec (.residencyExpiry d) s = .next { s with lib := { s.lib with drives := s.lib.drives.set d { k with residency := none } } }) ∧
     (∀ q ∈ s.lib.demands, ∀ (id : Nat) (sd : Side), k.platter = some ⟨some id, sd⟩ → ∀ p : Platter, s.platter? id = some p → s.lib.picker.state = .idle →
       s.lib.doorOpen = false → s.lib.sweep.running = false → s.lib.returns = [] → s.lib.media = [] → (∀ h ∈ s.lib.demands, h.mounting = none → h = q) →
       (s.lib.demands.filter (fun h => h.mounting.isNone)).length = 1 → q.mounting = none → k.state = .ready → k.pinned = false → k.work = [] →
       let granted (dst : Pos) (flip : Bool) : State := { s with lib := { s.lib with
         drives := s.lib.drives.set d { k with state := .unloading, cmd := some .unload, reported := 0, since := s.ref, retry := false, residency := none }
         demands := s.lib.demands.map (fun h => if h.side = q.side then { h with mounting := some d } else h)
         picker := { s.lib.picker with state := .moving, move := some { src := .drive d, dst := some dst, flip := flip }, since := none, piece := some (.mountUnload d q.side) } } }
       (∀ w : Platter, s.platter? q.side.platter = some w → ∀ m : Nat, w.loc = .slot m → ∀ n : Nat, p.home = some n →
         (∀ e, (s.lib.drives.get e).state ≠ .empty ∧ (e = d ∨ (s.lib.drives.get e).state ≠ .ready ∨ (s.lib.drives.get e).residency ≠ none)) →
         s.cat.slotUse? n = some (.occupied id) → q.side ≠ ⟨id, sd⟩ → id ≠ q.side.platter → p.id = id →
         exec (.residencyExpiry d) s = .next (granted (.slot n) (sd == .s1))) ∧
       (q.side = ⟨id, sd.other⟩ → p.loc = .drive d →
         exec (.residencyExpiry d) s = .next (granted (.drive d) true))))) ∧
  (∀ s : State, ∀ l : Link, ∀ t : Nat, ∀ e ∈ s.cat.table, ∀ (loc : Location) (pages : Pages), e.state = .recorded loc pages → ∀ m : Nat, ∀ cl : Nat,
   ∀ p : Platter, s.platter? loc.platter = some p → ∀ n : Nat, p.loc = .slot n →
   let req : FetchParams := { item := { inst := e.num, mode := m, selKind := 1, first := 0, last := 0 }, purpose := 1, account := 0, cls := cl }
   s.Takes l t (.fetch req) → (m = 1 ∨ m = 2) → (cl = 1 ∨ cl = 2) → e.num.seq ≠ 0 → s.cat.entry? e.num = some e → e.successor = none → e.restricted = false →
   1 ≤ pages.small + pages.plan → s.cat.canonId loc.platter = loc.platter → s.segments = [] → s.spaceFifo = [] → loc.len ≤ 4096 →
   (∀ o ∈ s.ops, ¬(o.reply.link = l ∧ o.reply.tag = t)) → s.demand? ⟨loc.platter, loc.side⟩ = none →
   (∀ d ∈ DriveNo.all, (s.lib.drives.get d).platter ≠ some ⟨some loc.platter, loc.side⟩) → s.lib.picker.state ≠ .jammed →
   let reply : Reply := { link := l, tag := t, gen := (s.links.get l).resetCount, code := 0x40 }
   let cls : MountClass := if cl = 1 then .counter else .bulk
   let taken (mounting : Option DriveNo) : State :=
     let q : Demand := { side := ⟨loc.platter, loc.side⟩, mounting := mounting, waiters := [.item ⟨l, t, 1⟩ cls s.ref] }
     { s.tagTaken l t with
       ops := s.ops ++ [{ reply := reply, bundle := false, purpose := .view, account := 0, cls := cls, admTime := s.ref, admReading := s.clock.now, current := 1, items := [{ named := e.num, current := decide (m = 1), sel := .all, resolved := some ⟨e.num, 0, loc, pages⟩, range := some (1, pages.small + pages.plan), quote := none, decode := some .mount, phase := .waitingMount, delivered := 0, receipt := none }] }]
       segments := [{ inst := e.num, first := 0, len := loc.len, staged := 0, users := [⟨l, t, 1⟩], fill := none, filler := some ⟨l, t, 1⟩, started := false }]
       lib := { s.lib with demands := s.lib.demands ++ [q] } }
   (s.lib.picker.state ≠ .idle →
     exec (.fetch l t req) s = .next (taken none)) ∧
   (∀ d : DriveNo, s.lib.picker.state = .idle → s.lib.doorOpen = false → s.lib.sweep.running = false → s.lib.returns = [] → s.lib.media = [] →
     (∀ q ∈ s.lib.demands, q.mounting ≠ none) → DriveNo.all.find? (fun d => decide ((s.lib.drives.get d).state = .empty)) = some d →
     (s.lib.drives.get d).platter = none →
     exec (.fetch l t req) s = .next { taken (some d) with
       cat := { s.cat with platters := updateKeyed Platter.id loc.platter (fun p => { p with loc := .picker }) s.cat.platters }
       lib := { (taken (some d)).lib with
         picker := { s.lib.picker with state := .moving, held := some loc.platter, move := some { src := .slot n, dst := some (.drive d), flip := loc.side == .s1 }, since := some s.ref, piece := some (.mountFetch d ⟨loc.platter, loc.side⟩) } } }))

/-- R129, R138: the picker has put a demanded platter into its drive: the platter is there with the demanded side facing the head, the drive is
LOADING it, and the picker, its work over, is IDLE, or HALTED with the door open. A report that no move waits for is not taken (assumption log 43).
R151, R152: a sweep's label read of a storage slot, 160 included, the door closed: a slot with no platter that was foreign-occupied is free, a platter
with no usable label makes it foreign-occupied, which counts where it was so before too (assumption log 28), and a label of a platter with no record
makes one with the slot its home; and the next slot is read, after slot 160 the mail slot. (A slot no platter has as its home.)
R131: 25 s on one command jam the picker: its command and its piece of work are over, the platter it carried is UNKNOWN and held no more (assumption
log 56), and MEDIA_ALERT is posted with the move and the platter (here a mount's move, with no demand left, no request queued and no closing held).
Before 25 s (assumption log 8), or with no command, the timer brings nothing.
R131, R128: 25 s on one command (assumption log 8) jam the picker: the platter it carried is UNKNOWN and held no more (assumption log 56), every
queued IMPORT and EXPORT is answered PICKER_JAMMED, and MEDIA_ALERT is posted. Of a mount's move, a demand's waiting item, the last of an operation,
ends PICKER_JAMMED and the demand is gone, while a filing waiter stays and its demand is WAITING. An IMPORT or EXPORT in progress is answered
PICKER_JAMMED, a return-home answers its DRIVE_RESET so, with a drive whose platter was the one carried EMPTY, and a sweep is over. Of a drive that
has become FAULT meanwhile, a new DRIVE_RESET is left to its EJECT.
(The model's choices: the 0s in the entry of an item not ended DONE, and the outcome's id 0 with no label read, assumption log 71; the load time of a
drive that is LOADING after a fetch, left as it was, assumption log 73; what the record of a sweep that a jam ends holds, assumption log 80; the order
of the item's response behind the answers of the queued requests, assumption log 3; the mail slot left EMPTY by a jam in an import's move, assumption
log 83.)
(When an outcome is replaced is the model's choice, assumption log 88.) -/
def Obligations.PickerReports : Prop :=
  (∀ (s : State) (d : DriveNo) (want : PlatterSide) (m : Move) (since : Nat), s.Quiet →
     (s.lib.picker.state = .moving → s.lib.picker.since = some since → s.lib.picker.move = some m → m.dst ≠ none →
       s.lib.picker.piece = some (.mountFetch d want) → (s.lib.drives.get d).state ≠ .fault → s.lib.sweepDue = false →
       (s.lib.doorOpen = true ∨ (s.lib.returns = [] ∧ s.lib.media = [] ∧ ∀ q ∈ s.lib.demands, q.mounting ≠ none)) → s.lib.sweep.running = false →
       exec .pickerMoveDone s = .next { s with
         cat := { s.cat with platters := updateKeyed Platter.id want.platter (fun r => { r with loc := .drive d }) s.cat.platters }
         lib := { s.lib with
           drives := s.lib.drives.set d { s.lib.drives.get d with platter := some ⟨some want.platter, want.side⟩, state := .loading, cmd := some .load, reported := 0, since := s.ref, retry := false }
           picker := { state := if s.lib.doorOpen then .halted else .idle, held := none, move := none, since := none, piece := none } } }) ∧
     ((s.lib.picker.state ≠ .moving ∨ s.lib.picker.since = none ∨ s.lib.picker.move = none) → exec .pickerMoveDone s = .next s)) ∧
  (∀ (s : State) (m : Move) (since : Nat), s.Quiet → s.lib.picker.state = .moving → s.lib.picker.since = some since → s.lib.picker.move = some m →
     m.dst = none → s.lib.picker.piece = some .sweep → s.lib.doorOpen = false → s.lib.sweepDue = false →
     let w := s.lib.sweep
     let n := w.next
     n ≤ 160 → (∀ p ∈ s.cat.platters, p.home ≠ some n) →
     let next (c : CatMem) (w : Sweep) : State := { s with
       cat := c
       lib := { s.lib with
         sweep := { w with next := n + 1 }
         picker := { s.lib.picker with state := .moving, move := some { src := if n = 160 then .mail else .slot (n + 1), dst := none, flip := false }, since := some s.ref, piece := some .sweep } } }
     (s.cat.slotUse? n = none → exec (.pickerLabelReport .empty) s = .next (next s.cat w)) ∧
     (s.cat.slotUse? n = some .foreignOccupied → exec (.pickerLabelReport .empty) s =
       .next (next { s.cat with slots := s.cat.slots.filter (fun r => decide (r.slot ≠ n)) } w)) ∧
     (exec (.pickerLabelReport (.label 0)) s = .next (next { s.cat with slots := insertKeyed SlotRec.slot ⟨n, .foreignOccupied⟩ s.cat.slots }
       { w with foreign := w.foreign + 1, foundCount := w.foundCount + 1 })) ∧
     (∀ id, id ≠ 0 → s.platter? id = none → id ∉ w.found → s.cat.platters.length < 160 →
       exec (.pickerLabelReport (.label id)) s = .next (next { s.cat with
         platters := insertKeyed Platter.id { id := id, home := some n, loc := .slot n, side0 := ⟨.unchecked, 0⟩, side1 := ⟨.unchecked, 0⟩, mounts := 0, lastUnload := none } s.cat.platters
         slots := insertKeyed SlotRec.slot ⟨n, .occupied id⟩ s.cat.slots }
         { w with found := w.found ++ [id], foundCount := w.foundCount + 1, created := w.created + 1 }))) ∧
  (∀ (s : State), s.Quiet →
     let k := s.lib.picker
     (∀ since m d want id p, k.state = .moving → k.since = some since → since + 25000 ≤ s.ref → k.move = some m → k.held = some id →
       s.platter? id = some p → k.piece = some (.mountFetch d want) → s.lib.demands = [] → s.lib.media = [] → s.lib.sweepDue = false →
       exec .pickerMoveTimeout s = .next (State.post { s with
         cat := { s.cat with platters := updateKeyed Platter.id id (fun r => { r with loc := .unknown }) s.cat.platters }
         lib := { s.lib with picker := { state := .jammed, held := none, move := none, since := none, piece := none } } }
         (.pickerJammed (some m) (some id)))) ∧
     ((k.state ≠ .moving ∨ k.since = none ∨ ∃ since, k.since = some since ∧ s.ref < since + 25000) → exec .pickerMoveTimeout s = .next s)) ∧
  (∀ s : State, s.Quiet → ∀ at0 : Nat, s.lib.picker.since = some at0 → ∀ m : Move, s.lib.picker.move = some m → s.lib.picker.state = .moving → at0 + 25000 ≤ s.ref →
   s.lib.sweepDue = false → s.MediaCurrent →
   let lost : Option Nat := s.lib.picker.held.filter (fun id => (s.platter? id).isSome)
   let unknown : CatMem := match lost with
     | some id => { s.cat with platters := updateKeyed Platter.id id (fun p => { p with loc := .unknown }) s.cat.platters }
     | none => s.cat
   let jammed (t : State) : State := State.post (State.mediaAnswered { t with
     cat := unknown
     lib := { t.lib with picker := { state := .jammed, held := none, move := none, since := none, piece := none } } } .pickerJammed) (.pickerJammed (some m) lost)
   (∀ (d : DriveNo) (want : PlatterSide), s.lib.picker.piece = some (.mountFetch d want) → ∀ q ∈ s.lib.demands, ∀ v ∈ q.waiters, s.lib.demands = [q] →
     q.side = want → q.waiters = [v] → (∀ e ∈ DriveNo.all, (s.lib.drives.get e).platter ≠ some ⟨some want.platter, want.side⟩) → ∀ o ∈ s.ops,
     ∀ i : Item, o.items[o.current - 1]? = some i → ∀ g ∈ s.segments, v.item? = some o.ref → s.AtLastItem o i → s.Unstarted g o.ref → s.spaceFifo = [] →
     let rid : State := jammed { s with segments := s.segments.filter (fun h => decide (h.inst ≠ g.inst)), lib := { s.lib with demands := [] } }
     exec .pickerMoveTimeout s = .next (rid.itemLost o i .pickerJammed)) ∧
   (∀ (d : DriveNo) (want : PlatterSide), s.lib.picker.piece = some (.mountEvict d want) → ∀ q ∈ s.lib.demands, ∀ age : Nat, q.waiters = [.filing age] →
     s.lib.demands = [q] → q.side = want → (∀ e ∈ DriveNo.all, (s.lib.drives.get e).platter ≠ some ⟨some want.platter, want.side⟩) →
     s.lib.picker.held ≠ some want.platter → (s.lib.drives.get d).state = .unloading →
     exec .pickerMoveTimeout s = .next (jammed { s with lib := { s.lib with
       drives := s.lib.drives.set d (Drive.vacant .empty)
       demands := [{ q with mounting := none }] } })) ∧
   (s.lib.demands = [] →
     let outcome (st : Status) (id : Nat) : State := { s with lib := { s.lib with outcome := some { status := st, id := id } } }
     (s.lib.picker.piece = some .sweep →
       exec .pickerMoveTimeout s = .next (jammed { s with lib := { s.lib with sweep := { s.lib.sweep with running := false } } })) ∧
     (s.lib.picker.piece = some (.importLabel none) →
       exec .pickerMoveTimeout s = .next (jammed (outcome .pickerJammed 0))) ∧
     (∀ id : Nat, s.lib.picker.piece = some (.importMove none id) →
       exec .pickerMoveTimeout s = .next (jammed (outcome .pickerJammed id))) ∧
     (∀ y : Reply, (s.links.get y.link).resetCount = y.gen →
       let answered (drives : Six Drive) : State := jammed (State.queued { s with lib := { s.lib with drives := drives } } y .pickerJammed .none)
       ((s.lib.picker.piece = some (.importLabel (some y)) ∨ (∃ id, s.lib.picker.piece = some (.importMove (some y) id) ∨ s.lib.picker.piece = some (.exportMove y id))) →
         exec .pickerMoveTimeout s = .next (answered s.lib.drives)) ∧
       (∀ (y' : Reply) (id : Nat) (d : DriveNo), s.lib.picker.piece = some (.exportDrive y' id d) → y' = y → (s.lib.drives.get d).state = .unloading →
         exec .pickerMoveTimeout s = .next (answered (s.lib.drives.set d (Drive.vacant .empty))))) ∧
     (∀ d : DriveNo,
       let k := s.lib.drives.get d
       ∀ y : Reply, k.reset = some y → (s.links.get y.link).resetCount = y.gen →
       let answered (k : Drive) : State := jammed (State.queued { s with lib := { s.lib with drives := s.lib.drives.set d k } } y .pickerJammed .none)
       (k.state = .unloading →
         (s.lib.picker.piece = some (.homeMove d) →
           exec .pickerMoveTimeout s = .next (answered (Drive.vacant .empty))) ∧
         (s.lib.picker.piece = some (.homeLabel d) →
           exec .pickerMoveTimeout s = .next (answered { k with reset := none }))) ∧
       (k.state = .fault → (s.lib.picker.piece = some (.homeMove d) ∨ s.lib.picker.piece = some (.homeLabel d)) →
         exec .pickerMoveTimeout s = .next (jammed s)))))

/-- R152, R155: what a sweep's label read of a storage slot does to homes. A platter with no usable label, a duplicate label (of one found already, or
recorded in a drive or the mail slot), and a new label with 160 records make the slot FOREIGN_OCCUPIED, and count as foreign whatever the slot was
(the model's reading, assumption log 28); the platter whose home it was loses it, and recorded there is UNKNOWN. A label of a record puts its platter
there with the slot its home, a home or reservation elsewhere freed. EMPTY changes nothing in a slot that is free, reserved or occupied. The next slot
is read, after slot 160 the mail slot; with the door open the sweep is over and the picker HALTED.
R153, R154, R144: the mail slot is read last, and the sweep ends. The report sets the mail slot EMPTY, or INCOMING with a platter in it, which counts
among the platters found (the model's reading, assumption log 28); the OUTGOING platter found there stays and counts as found, and gone from there its
export is complete: EXPORTED, its home reserved for it. Then every platter recorded in a slot or the picker and not found is UNKNOWN, INVENTORY_DONE
carries the counts, and the picker is IDLE. (No drive holds an ejected platter, nothing waits for the picker, and catalogue-absent mode is over.)
(What the sweep record holds once the sweep is over is the model's choice, assumption log 80.) -/
def Obligations.SweepRecordsLibrary : Prop :=
  (∀ s : State, s.Quiet → ∀ m : Move, s.lib.picker.move = some m → s.lib.picker.piece = some .sweep → s.lib.picker.state = .moving → s.lib.picker.since ≠ none →
   m.dst = none → s.lib.sweepDue = false →
   let w := s.lib.sweep
   let n := w.next
   n ≤ 160 →
   let next (c : CatMem) (w : Sweep) : State := { s with
     cat := c
     lib := { s.lib with
       sweep := { w with next := n + 1 }
       picker := { s.lib.picker with state := .moving, move := some { src := if n = 160 then .mail else .slot (n + 1), dst := none, flip := false }, since := some s.ref, piece := some .sweep } } }
   let foreign (c : CatMem) : CatMem := { c with slots := insertKeyed SlotRec.slot ⟨n, .foreignOccupied⟩ c.slots }
   let homeless (p : Platter) : CatMem := { s.cat with platters := updateKeyed Platter.id p.id (fun p => { p with home := none, loc := if p.loc = .slot n then .unknown else p.loc }) s.cat.platters }
   let found (c : CatMem) (id : Nat) : CatMem := { c with
     slots := insertKeyed SlotRec.slot ⟨n, .occupied id⟩ (c.slots.filter (fun r => decide (r.slot = n ∨ (r.use ≠ .occupied id ∧ r.use ≠ .reserved id))))
     platters := updateKeyed Platter.id id (fun p => { p with home := some n, loc := .slot n }) c.platters }
   (s.lib.doorOpen = false →
     (s.cat.slotUse? n ≠ some .foreignOccupied →
       exec (.pickerLabelReport .empty) s = .next (next s.cat w)) ∧
     (∀ p : Platter, s.cat.platters.find? (fun p => p.home == some n) = some p → (∀ q ∈ s.lib.demands, q.side.platter ≠ p.id) →
       exec (.pickerLabelReport (.label 0)) s = .next (next (foreign (homeless p)) { w with homesLost := w.homesLost + 1, foreign := w.foreign + 1, foundCount := w.foundCount + 1 })) ∧
     (∀ id : Nat, id ≠ 0 → (∀ p ∈ s.cat.platters, p.home ≠ some n) → (id ∈ w.found ∨ ∃ p, s.platter? id = some p ∧ (p.loc = .mail ∨ ∃ d, p.loc = .drive d)) →
       exec (.pickerLabelReport (.label id)) s = .next (next (foreign s.cat) { w with duplicates := w.duplicates + 1, foreign := w.foreign + 1, foundCount := w.foundCount + 1 })) ∧
     (∀ id : Nat, id ≠ 0 → s.platter? id = none → id ∉ w.found → (∀ p ∈ s.cat.platters, p.home ≠ some n) → 160 ≤ s.cat.platters.length →
       exec (.pickerLabelReport (.label id)) s = .next (next (foreign s.cat) { w with foreign := w.foreign + 1, foundCount := w.foundCount + 1 })) ∧
     (∀ id : Nat, ∀ x : Platter, s.platter? id = some x → id ≠ 0 → id ∉ w.found → x.loc ≠ .mail → (∀ d, x.loc ≠ .drive d) →
       ((∀ p ∈ s.cat.platters, p.home = some n → p.id = id) →
         exec (.pickerLabelReport (.label id)) s = .next (next (found s.cat id) { w with found := w.found ++ [id], foundCount := w.foundCount + 1 })) ∧
       (∀ p : Platter, s.cat.platters.find? (fun p => p.home == some n && p.id != id) = some p → (∀ q ∈ s.lib.demands, q.side.platter ≠ p.id) →
         exec (.pickerLabelReport (.label id)) s = .next (next (found (homeless p) id) { w with homesLost := w.homesLost + 1, found := w.found ++ [id], foundCount := w.foundCount + 1 })))) ∧
   (s.lib.doorOpen = true → s.cat.slotUse? n ≠ some .foreignOccupied →
     exec (.pickerLabelReport .empty) s = .next { s with lib := { s.lib with sweep := { w with next := n + 1, running := false }, picker := s.pickerFreed } })) ∧
  (∀ s : State, s.Quiet → ∀ m : Move, s.lib.picker.move = some m → s.lib.picker.piece = some .sweep → s.lib.picker.state = .moving → s.lib.picker.since ≠ none →
   m.dst = none → s.lib.sweepDue = false → s.lib.doorOpen = false → s.lib.returns = [] → s.lib.media = [] →
   (∀ d ∈ DriveNo.all, (s.lib.drives.get d).state ≠ .unloading) → s.absentMode = false → s.HeadHasMedia →
   let w := s.lib.sweep
   w.next = 161 → (∀ q ∈ s.lib.demands, q.mounting ≠ none) →
   let ends (c : CatMem) (mail : MailState) (found : List Nat) (n : Nat) : State :=
     let gone := (c.platters.filter (fun p => (match p.loc with | .slot _ | .picker => true | _ => false) && !found.contains p.id)).map (fun p => p.id)
     State.post { s with
       cat := { c with platters := c.platters.map (fun p => if gone.contains p.id then { p with loc := .unknown } else p) }
       lib := { s.lib with
         mail := mail
         sweep := { w with next := 162, running := false, found := found, foundCount := n }
         sweptOnce := true
         picker := s.pickerFreed } } (.inventoryDone n w.created w.foreign w.duplicates w.homesLost gone.length)
   (∀ q ∈ s.lib.demands, ∀ p ∈ s.cat.platters, q.side.platter = p.id → ∃ d, p.loc = .drive d) →
   ((∀ id, s.lib.mail ≠ .outgoing id) →
     (exec (.pickerLabelReport .empty) s = .next (ends s.cat .empty w.found w.foundCount)) ∧
     (∀ id : Nat,
       exec (.pickerLabelReport (.label id)) s = .next (ends s.cat .incoming w.found (w.foundCount + 1)))) ∧
   (∀ x : Nat, s.lib.mail = .outgoing x →
     (exec (.pickerLabelReport (.label x)) s = .next (ends s.cat (.outgoing x) (w.found ++ [x]) (w.foundCount + 1))) ∧
     (∀ p : Platter, s.platter? x = some p → ∀ n : Nat, p.home = some n → s.cat.slotUse? n = some (.occupied x) → p.loc = .mail → p.id = x →
       (∀ q ∈ s.lib.demands, q.side.platter ≠ x) →
       let exported : CatMem := { s.cat with
         slots := insertKeyed SlotRec.slot ⟨n, .reserved x⟩ s.cat.slots
         platters := updateKeyed Platter.id x (fun p => { p with loc := .exported }) s.cat.platters }
       (exec (.pickerLabelReport .empty) s = .next (ends exported .empty w.found w.foundCount)) ∧
       (∀ id : Nat, id ≠ x →
         exec (.pickerLabelReport (.label id)) s = .next (ends exported .incoming w.found (w.foundCount + 1))))))

/-- R128, R158, R119: UNLOADED after the EJECT of a DRIVE_RESET. A drive that holds nothing is EMPTY, and the response DONE. Otherwise the drive is
UNLOADING, its platter's last unload time is set, and a return-home piece is queued; a picker with no other work begins it at once, carrying a known
platter to its home slot, or to the lowest free slot, which becomes its home; with no slot free the response is NO_SLOT and the platter stays. An
unidentified platter's label is read first.
R158: a return-home piece's label read. A record UNKNOWN or EXPORTED identifies the platter, which is carried to its home slot, or to the lowest free
slot, which becomes its home. A new id, the map not full, goes to the lowest free slot; and so does a platter with no label (a report EMPTY is taken
so too: assumption log 69), with one recorded elsewhere, the mail slot and the picker included (assumption log 27), or new with the map full, which
the picker carries as none. With the door open the piece is queued first again (R149; assumption log 55).
R158, R119, R128: the move of a return-home piece done: the drive is EMPTY; a known platter is in its slot with its last unload time set, a new one
has its record made there, and one carried as none makes the slot FOREIGN_OCCUPIED. The DRIVE_RESET whose platter it was is answered DONE. A drive
that has become FAULT meanwhile stays so, and a new DRIVE_RESET of it is left to its EJECT.
(The moment at which a slot becomes occupied is the model's reading, assumption log 79.) -/
def Obligations.PlattersReturnHome : Prop :=
  (∀ s : State, ∀ d : DriveNo, s.Quiet →
   let k := s.lib.drives.get d
   ∀ y : Reply, k.reset = some y → k.cmd = some .eject → (s.links.get y.link).resetCount = y.gen →
   (k.platter = none → s.PickerRests →
     exec (.driveUnloadedReport d) s = .next (State.queued { s with lib := { s.lib with drives := s.lib.drives.set d (Drive.vacant .empty) } } y .done .none)) ∧
   (∀ (id : Nat) (sd : Side), k.platter = some ⟨some id, sd⟩ →
     let ejected : Drive := { k with state := .unloading, cmd := none, retry := false }
     let unloaded (f : Platter → Platter) : CatMem := { s.cat with platters := updateKeyed Platter.id id (fun p => f { p with lastUnload := some s.clock.now }) s.cat.platters }
     (s.lib.picker.state ≠ .idle →
       exec (.driveUnloadedReport d) s = .next { s with cat := unloaded (fun p => p), lib := { s.lib with drives := s.lib.drives.set d ejected, returns := s.lib.returns ++ [d] } }) ∧
     (∀ p : Platter, s.platter? id = some p → s.lib.picker.state = .idle → s.lib.doorOpen = false → s.lib.sweep.running = false → s.lib.returns = [] →
       (∀ n : Nat,
         ((p.home = some n ∧ s.cat.slotUse? n = some (.occupied id)) ∨ ((∀ h, p.home = some h → s.cat.slotUse? h ≠ some (.occupied id)) ∧ s.cat.lowestFree = some n)) →
         exec (.driveUnloadedReport d) s = .next { s with
           cat := { unloaded (fun p => { p with home := some n, loc := .picker }) with
             slots := insertKeyed SlotRec.slot ⟨n, .occupied id⟩ (s.cat.slots.filter (fun r => decide (r.slot = n ∨ (r.use ≠ .occupied id ∧ r.use ≠ .reserved id)))) }
           lib := { s.lib with
             drives := s.lib.drives.set d ejected
             picker := { state := .moving, held := some id, move := some { src := .drive d, dst := some (.slot n), flip := sd == .s1 }, since := some s.ref, piece := some (.homeMove d) } } }) ∧
       (p.home = none → s.cat.lowestFree = none → s.NothingNext →
         exec (.driveUnloadedReport d) s = .next (State.queued { s with
           cat := unloaded (fun p => p)
           lib := { s.lib with drives := s.lib.drives.set d { ejected with reset := none }, picker := s.pickerFreed } } y .noSlot .none)))) ∧
   (∀ sd : Side, k.platter = some ⟨none, sd⟩ → s.lib.picker.state = .idle → s.lib.doorOpen = false → s.lib.sweep.running = false → s.lib.returns = [] →
     exec (.driveUnloadedReport d) s = .next { s with lib := { s.lib with
       drives := s.lib.drives.set d { k with state := .unloading, cmd := none, retry := false }
       picker := { s.lib.picker with state := .moving, move := some { src := .drive d, dst := none, flip := false }, since := some s.ref, piece := some (.homeLabel d) } } })) ∧
  (∀ s : State, s.Quiet → ∀ m : Move, s.lib.picker.move = some m → ∀ d : DriveNo, s.lib.picker.piece = some (.homeLabel d) → s.lib.picker.state = .moving →
   s.lib.picker.since ≠ none → m.dst = none →
   let k := s.lib.drives.get d
   ∀ (x : Option Nat) (sd : Side), k.platter = some ⟨x, sd⟩ → k.state = .unloading →
   let known (id : Option Nat) : Six Drive := s.lib.drives.set d { k with platter := some ⟨id, sd⟩ }
   let moves (held : Option Nat) (n : Nat) : Picker := { state := .moving, held := held, move := some { src := .drive d, dst := some (.slot n), flip := sd == .s1 }, since := some s.ref, piece := some (.homeMove d) }
   (s.lib.doorOpen = false → s.lib.sweepDue = false →
     (∀ id : Nat, ∀ p : Platter, s.platter? id = some p → ∀ n : Nat, id ≠ 0 → (p.loc = .unknown ∨ p.loc = .exported) →
       ((p.home = some n ∧ s.cat.slotUse? n = some (.occupied id)) ∨ ((∀ h, p.home = some h → s.cat.slotUse? h ≠ some (.occupied id)) ∧ s.cat.lowestFree = some n)) →
       exec (.pickerLabelReport (.label id)) s = .next { s with
         cat := { s.cat with
           platters := updateKeyed Platter.id id (fun p => { p with home := some n, loc := .picker }) s.cat.platters
           slots := insertKeyed SlotRec.slot ⟨n, .occupied id⟩ (s.cat.slots.filter (fun r => decide (r.slot = n ∨ (r.use ≠ .occupied id ∧ r.use ≠ .reserved id)))) }
         lib := { s.lib with drives := known (some id), picker := moves (some id) n } }) ∧
     (∀ n : Nat, s.cat.lowestFree = some n →
       (∀ id : Nat, id ≠ 0 → s.platter? id = none →
         exec (.pickerLabelReport (.label id)) s = .next { s with lib := { s.lib with drives := known none, picker := moves (if s.cat.platters.length < 160 then some id else none) n } }) ∧
       (∀ id : Nat, ∀ p : Platter, s.platter? id = some p → id ≠ 0 → p.loc ≠ .unknown → p.loc ≠ .exported →
         exec (.pickerLabelReport (.label id)) s = .next { s with lib := { s.lib with drives := known none, picker := moves none n } }) ∧
       (∀ rep : LabelReport, (rep = .label 0 ∨ rep = .empty) →
         exec (.pickerLabelReport rep) s = .next { s with lib := { s.lib with drives := known none, picker := moves none n } }))) ∧
   (s.lib.doorOpen = true →
     exec (.pickerLabelReport (.label 0)) s = .next { s with lib := { s.lib with drives := known none, returns := d :: s.lib.returns, picker := s.pickerFreed } })) ∧
  (∀ s : State, s.Quiet → ∀ m : Move, s.lib.picker.move = some m → ∀ n : Nat, m.dst = some (.slot n) → ∀ d : DriveNo, s.lib.picker.piece = some (.homeMove d) →
   s.lib.picker.state = .moving → s.lib.picker.since ≠ none →
   let k := s.lib.drives.get d
   (k.state = .unloading ∨ k.state = .fault) → (∀ y ∈ k.reset, (s.links.get y.link).resetCount = y.gen) → s.NothingNext → s.HeadHasMedia →
   let back (c : CatMem) : State :=
     let t : State := { s with cat := c, lib := { s.lib with picker := s.pickerFreed } }
     if k.state = .fault then t
     else
       let t : State := { t with lib := { t.lib with drives := s.lib.drives.set d (Drive.vacant .empty) } }
       match k.reset with
       | some y => t.queued y .done .none
       | none => t
   (∀ id : Nat, s.lib.picker.held = some id →
     (s.platter? id ≠ none →
       exec .pickerMoveDone s = .next (back { s.cat with platters := updateKeyed Platter.id id (fun p => { p with loc := .slot n, lastUnload := some s.clock.now }) s.cat.platters })) ∧
     (s.platter? id = none →
       exec .pickerMoveDone s = .next (back { s.cat with
         platters := insertKeyed Platter.id { id := id, home := some n, loc := .slot n, side0 := ⟨.unchecked, 0⟩, side1 := ⟨.unchecked, 0⟩, mounts := 0, lastUnload := none } s.cat.platters
         slots := insertKeyed SlotRec.slot ⟨n, .occupied id⟩ s.cat.slots }))) ∧
   (s.lib.picker.held = none →
     exec .pickerMoveDone s = .next (back { s.cat with slots := insertKeyed SlotRec.slot ⟨n, .foreignOccupied⟩ s.cat.slots })))

/-- R148, R150, R151: the door opening posts DOOR and halts an idle picker (with no request queued); the door closing posts DOOR and starts an
inventory sweep at slot 1 with an empty record, or holds it while the picker finishes its command.
R148, R132: the door opening answers every queued IMPORT and EXPORT DOOR_OPEN, in their order, and posts DOOR; an IDLE picker is HALTED.
R123, R144: the mail slot filled makes it INCOMING (outside catalogue-absent mode, R146); emptied it is EMPTY, and a platter that was OUTGOING in it
is EXPORTED with its home slot reserved. While the picker moves a platter into or out of it its sensor is not taken; while an EXPORT waits at its
drive for UNLOADED no move has begun, and the sensor is taken (the model's choice, assumption log 57).
(An import made without a request that is so answered has outcome id 0, the model's choice, assumption log 71. Not said here: the mail slot filled in catalogue-absent mode, R146, and the sensor reports that R123 ignores.)
(The order of the responses is the model's choice, assumption log 3.)
(When an outcome is replaced is the model's choice, assumption log 88.) -/
def Obligations.DoorAndMailSlot : Prop :=
  (∀ (s : State), s.Quiet →
     let b := s.lib
     (b.doorOpen = false → b.media = [] → exec .doorOpened s = .next (State.post { s with lib := { b with
       doorOpen := true, sweepDue := false
       picker := { b.picker with state := if b.picker.state = .idle then .halted else b.picker.state } } } (.door true))) ∧
     (b.doorOpen = true → exec .doorOpened s = .next s) ∧
     (b.doorOpen = true → b.picker.state = .moving →
       exec .doorClosed s = .next (State.post { s with lib := { b with doorOpen := false, sweepDue := true } } (.door false))) ∧
     (b.doorOpen = true → b.picker.state ≠ .moving → exec .doorClosed s = .next (State.post { s with lib := { b with
       doorOpen := false, sweepDue := false
       sweep := { running := true, next := 1, found := [], foundCount := 0, created := 0, foreign := 0, duplicates := 0, homesLost := 0 }
       picker := { state := .moving, held := none, move := some { src := .slot 1, dst := none, flip := false }, since := some s.ref, piece := some .sweep } } }
       (.door false))) ∧
     (b.doorOpen = false → exec .doorClosed s = .next s)) ∧
  (∀ s : State, s.Quiet → s.lib.doorOpen = false → s.MediaCurrent →
   exec .doorOpened s = .next (State.post { s.mediaAnswered .doorOpen with lib := { (s.mediaAnswered .doorOpen).lib with
     doorOpen := true, sweepDue := false
     picker := { s.lib.picker with state := if s.lib.picker.state = .idle then .halted else s.lib.picker.state } } } (.door true))) ∧
  (∀ (s : State), s.Quiet →
     let b := s.lib
     (s.mailMoving = false → b.mail = .empty → s.absentMode = false →
       exec .mailSlotFilled s = .next { s with lib := { b with mail := .incoming } }) ∧
     (s.mailMoving = false → b.mail = .incoming → exec .mailSlotEmptied s = .next { s with lib := { b with mail := .empty } }) ∧
     (∀ id p n, s.mailMoving = false → b.mail = .outgoing id → s.platter? id = some p → p.home = some n →
       s.cat.slotUse? n = some (.occupied id) → b.demands = [] →
       exec .mailSlotEmptied s = .next { s with
         cat := { s.cat with
           slots := insertKeyed SlotRec.slot ⟨n, .reserved id⟩ s.cat.slots
           platters := updateKeyed Platter.id id (fun r => { r with loc := .exported }) s.cat.platters }
         lib := { b with mail := .empty } }) ∧
     (s.mailMoving = true → exec .mailSlotFilled s = .next s ∧ exec .mailSlotEmptied s = .next s))

/-! ## Status, power-on and power failure -/

/-- R194, R103, R118, R147, R77, R32: STATUS is answered with what each unit holds, and changes nothing else; a presence byte that is not defined is
BAD_FIELD.
R194, R32, R77, R118, R147, R160, R173: the parts of STATUS but for the operations, demands and longest run: catalogue, clock, lines, filing slots,
ring, segments, the twelve channels, drives, picker, door, mail slot, sweep, library map, accounts in flight, links and settings. The stored values
are those of the settings record, and the defaults where the memory is blank (assumption log 46).
R103, R147, R118: the operations, demands and longest free run of STATUS. Of each operation: its link, tag and request, the item it has come to with
its phase and the blocks delivered of it, of one that waits for a mount the platter-side of the demand it waits on, or of the drive whose work list
holds its fill, and of one being delivered the count of selected blocks (0 before its map is read, and for one not being delivered: assumption log
61). The demands stand in rank order, COUNTER, FILING, BULK, a BULK demand 300 s old as FILING, the oldest first, each with its class, age and
waiters.
(The model's choices: the attempt count 0 of a filing not yet committed, assumption log 71; the class and age of a MOUNTING demand without waiters,
assumption log 54. Its reading: the side shown for an item whose demand has been met, assumption log 81.)
(The order of the operations, of the segments and of the accounts in flight is the model's choice, assumption log 91.) -/
def Obligations.StatusReportsUnits : Prop :=
  (∀ (l : Link) (t : Nat) (o : OptField) (s : State), s.Takes l t (.status o) →
     (1 < o.presence → exec (.status l t o) s = .next (s.answered l t 0x74 .badField .none)) ∧
     (o.presence ≤ 1 → exec (.status l t o) s = .next (s.answered l t 0x74 .done (.status
       ((s.tagTaken l t).statusBody (if o.presence = 0 then none else some o.value)))))) ∧
  (∀ (s : State) (named : Option Nat),
     let b := s.statusBody named
     (b.absentMode = s.absentMode ∧ b.entries = s.cat.table.length ∧ b.grand = s.cat.grand ∧ b.period = s.cat.period ∧
       b.snapshotHeld = s.cat.snapshot.isSome ∧ b.inFlight = (s.cat.accounts.filter (fun a => decide (0 < a.inFlight))).map (fun a => (a.code, a.inFlight))) ∧
     b.clock = { now := s.clock.now, valid := s.clock.valid, effective := if 0 < s.clock.tempLeft then s.clock.temp else s.clock.base, base := s.clock.base, tempLeft := s.clock.tempLeft, target := s.cat.target } ∧
     (∀ q : Quad, b.lines[q.toNat - 1]? = some { enabled := (s.lines.get q).enabled, queued := (s.lines.get q).queue.length, lamp := (s.lines.get q).lamp, offered := (s.lines.get q).offered }) ∧
     (b.commitQueue = s.commitQueue ∧ b.filingSide = s.openSide ∧ ∀ q : FSlot,
       (s.filings.get q = none → b.filings[q.toNat - 1]? = some { state := none, inst := ⟨0, 0⟩, owner := .l0, blocks := 0, attempts := 0 }) ∧
       (∀ f, s.filings.get q = some f → b.filings[q.toNat - 1]? = some { state := some f.state, inst := f.inst, owner := f.owner, blocks := f.blocks, attempts := match f.commit with | some c => c.attempts | none => 0 }) ∧
       b.ringLive[q.toNat - 1]? = some (s.ring.filter (fun r => decide (r.slot = q ∧ r.mark = .live))).length) ∧
     (b.ringHeld = s.ring.length ∧ b.ringFree = 4096 - s.ring.length ∧ (s.ring = [] → b.ringTail = none) ∧
       ∀ r rest, s.ring = r :: rest → b.ringTail = if r.mark = .live then some r.slot else none) ∧
     (b.stagingFree = 4096 - (s.segments.map (fun g => g.len)).sum ∧ b.spaceWaiters = s.spaceFifo.length ∧
       b.segments = s.segments.map (fun g => { inst := g.inst, len := g.len, staged := g.staged, complete := decide (g.len ≤ g.staged), users := g.users.length })) ∧
     ((∀ d : DriveNo, let c := (s.driveChans.get d).chan
         b.channels[d.toNat - 1]? = some { name := .drive d, state := c.state, op := c.op, remaining := c.remaining }) ∧
       (∀ k : Link, let c := (s.inChans.get k).chan
         b.channels[6 + k.toNat]? = some { name := .inbound k, state := c.state, op := c.op, remaining := c.remaining }) ∧
       ∀ k : Link, let c := (s.outChans.get k).chan
         b.channels[9 + k.toNat]? = some { name := .outbound k, state := c.state, op := c.op, remaining := c.remaining }) ∧
     (∀ d : DriveNo, let k := s.lib.drives.get d
       b.drives[d.toNat - 1]? = some { state := k.state, platter := k.platter, loadTime := k.loadTime, pinned := k.pinned, retry := k.retry, work := k.work.length }) ∧
     (b.picker = s.lib.picker.state ∧ b.pickerHeld = s.lib.picker.held ∧ b.pickerMove = s.lib.picker.move ∧ b.doorOpen = s.lib.doorOpen ∧ b.mail = s.lib.mail ∧
       b.outcome = s.lib.outcome ∧ b.sweepRunning = s.lib.sweep.running ∧ b.sweptOnce = s.lib.sweptOnce) ∧
     (b.platters = s.cat.platters.length ∧ b.freeSlots = 160 - s.cat.slots.length ∧
       b.reservedSlots = (s.cat.slots.filter (fun r => match r.use with | .reserved _ => true | _ => false)).length ∧
       b.foreignSlots = (s.cat.slots.filter (fun r => decide (r.use = .foreignOccupied))).length ∧ b.named = named.bind s.platter?) ∧
     (∀ k : Link, b.links[k.toNat]? = some { rights := s.rights.get k, tags := (s.links.get k).tags, queued := (s.links.get k).responses.length, frameErrors := (s.links.get k).frameErrors, strays := (s.links.get k).strays, resetAsserted := (s.links.get k).resetAsserted }) ∧
     (b.settingsBlank = s.settings.wasBlank ∧ b.drivesInForce = s.settings.drives ∧ (∀ q : Quad, b.enablesInForce[q.toNat - 1]? = some (s.lines.get q).enabled) ∧
       (∀ r, s.settings.answered = true → s.settings.stored = some r → b.stored = r) ∧
       ((s.settings.answered = false ∨ s.settings.stored = none) →
         b.stored = { rights := Three.const 255#8, enables := Four.const true, drives := 6, trim := 0 }))) ∧
  (∀ (s : State) (named : Option Nat),
     let b := s.statusBody named
     b.ops.length = s.ops.length ∧
     (∀ (n : Nat) (o : Op), s.ops[n]? = some o → ∃ v : OpView, b.ops[n]? = some v ∧ v.link = o.reply.link ∧ v.tag = o.reply.tag ∧ v.code = o.reply.code ∧ v.current = o.current ∧
       ∀ i, 1 ≤ o.current → o.items[o.current - 1]? = some i →
         let c := s.outChans.get o.reply.link
         v.phase = some i.phase ∧ v.delivered = i.delivered ∧ (i.phase ≠ .waitingMount → v.demand = none) ∧
         (∀ q x, i.phase = .waitingMount → i.resolved = some x →
           s.lib.demands.find? (fun q => q.waiters.any (fun w => decide (w.item? = some o.ref))) = some q → v.demand = some q.side) ∧
         (∀ d x id sd, i.phase = .waitingMount → i.resolved = some x → (∀ q ∈ s.lib.demands, ∀ w ∈ q.waiters, w.item? ≠ some o.ref) →
           DriveNo.all.find? (fun d => (s.lib.drives.get d).work.contains (.fill x.inst)) = some d →
           (s.lib.drives.get d).platter = some ⟨some id, sd⟩ → v.demand = some ⟨id, sd⟩) ∧
         ((c.chan.op ≠ .item o.ref ∨ c.offsets = none) → v.selected = 0) ∧
         (∀ offs f z g, c.chan.op = .item o.ref → c.offsets = some offs → i.range = some (f, z) → s.segmentOf o.ref = some g →
           v.selected = (offs[z]?).getD g.len - offs.getD (f - 1) 0)) ∧
     (let aged (q : Demand) : Bool := q.cls == .bulk && decide (q.age + 300000 ≤ s.ref)
      let rank (q : Demand) : Nat := if aged q then 1 else match q.cls with | .counter => 0 | .filing => 1 | .bulk => 2
      ∃ ranked : List Demand, ranked.Perm s.lib.demands ∧
        ranked.Pairwise (fun p q => rank p < rank q ∨ (rank p = rank q ∧ p.age ≤ q.age)) ∧
        b.demands = ranked.map (fun q => { side := q.side, mounting := q.mounting, cls := q.cls, aged := aged q, age := min (s.ref - q.age) 4294967295, waiters := q.waiters.length })) ∧
     ((b.stagingRun = 0 ∨ ∃ a, runFree s.segments a b.stagingRun = true) ∧ ∀ a n, runFree s.segments a n = true → n ≤ b.stagingRun))

/-- R26, R22, R25: the supply's failure stops a powered controller: catalogue memory, the stored settings record and the clock's value, validity and
continuity mark stay, the trim goes on as the base trim, and everything in working store is gone; without power it does nothing. What the update
record holds is the command's operand (assumption log 22).
R22, R45, R49, R20, R99, R174: a failure struck when the record of a change was complete. Of a press, of a LODGE, of a RESTORE and of the acceptance
of a FETCH's last block, the record holds catalogue memory as the command that makes the change would leave it: the whole change, a copy's count on
its instrument with its accrual (assumption log 62), and nothing where the command would be refused (assumption log 22).
R156, R157, R36, R23, R25, R159, R183, R189: the first phase of start-up, from a failure that left the update record clear, with every memory kept,
the close target not reached, the door closed, the gripper empty and every drive answering that it holds no platter: the settings record is in force,
the catalogue is kept, a FILING entry LODGED and no claim standing, in-flight counts are 0, the clock stands where the store had it, every installed
drive is EMPTY and the others ABSENT, and platters recorded in a drive or the picker are UNKNOWN. A powered controller takes no power-on.
R22, R25, R156, R178, R6: power-on with a whole change in the update record: catalogue memory is what the record holds, with the changes of every
power-on, the record is clear, and the change's event waits for the links to start: PERIOD_CLOSED for a close, CATALOGUE_LOW for a create that leaves
4,096 entries or fewer free (assumption log 52). A record partly written changes nothing.
R23, R37, R161, R169, R183: power-on with catalogue memory found unrecognised, with a count or an order that disagrees, or with no recognised marker,
clears it, and catalogue-absent mode begins: no entry, folio, platter, slot or substitution, the last-issued values absent, account 0 alone with its
tallies 0, period 1, the fee defaults, no snapshot, and the close target disarmed.
R157, R156: what power-on finds of the mechanics. An installed drive that holds nothing is EMPTY, one that ejected a platter is UNLOADING with it
unidentified and its return home queued, in drive order; one that does not answer is ABSENT and one that answers FAULT is FAULT, with the platter
recorded there, and both are DRIVE_FAULT events that wait for the links, behind the door's and the jam's: the FAULT reports first, then the silent
drives', each in the order of the drives' numbers (the model's choice, assumption log 70). A gripper that holds a platter is JAMMED, else an open door
HALTED, else the picker is IDLE. A platter recorded in the picker, or in a drive that did not answer FAULT, is UNKNOWN.
R157, R151, R156: the links start once, when the first phase has ended: with the door closed, the picker IDLE and no event waiting, the first sweep
begins at slot 1.
(A settings write that runs is dropped, the model's choice, assumption log 77.) -/
def Obligations.PowerCycle : Prop :=
  (∀ (s : State) (c : PowerCut),
     (s.power ≠ .off → ∃ t, exec (.powerFail c) s = .next t ∧ t.power = .off ∧ t.cat = s.cat ∧ t.settings.stored = s.settings.stored ∧
       t.clock.now = s.clock.now ∧ t.clock.valid = s.clock.valid ∧ t.clock.continuity = s.clock.continuity ∧ t.clock.base = s.clock.base ∧
       t.clock.tempLeft = 0 ∧ t.ops = [] ∧ t.ring = [] ∧ t.segments = [] ∧ t.spaceFifo = [] ∧ t.commitQueue = [] ∧ t.filUse = none ∧
       t.mapReads = [] ∧ (∀ q, t.filings.get q = none ∧ t.reserved.get q = [] ∧ (t.lines.get q).queue = []) ∧
       (∀ l, (t.links.get l).tags = 0#4 ∧ (t.links.get l).responses = [] ∧ (t.links.get l).attention = []) ∧
       (c = .clear → t.update = .clear) ∧ (c = .partly → t.update = .partly)) ∧
     (s.power = .off → s.agenda = [] → exec (.powerFail c) s = .next s)) ∧
  (let records (change : UpdateChange) (i : Instr) (s : State) : Prop :=
     ∃ t u, exec (.powerFail (.complete change)) s = .next t ∧ exec i s = .next u ∧ t.update = .complete u.cat
   (∀ (q : LineNo) (l : Link) (s : State), s.agenda = [] → s.power ≠ .off → records (.createFor (some q) l) (.press q) s) ∧
   (∀ (l : Link) (t : Nat) (s : State), s.Takes l t .lodge → records (.createFor none l) (.lodge l t) s) ∧
   (∀ (l : Link) (t : Nat) (p : RestoreParams) (s : State), s.Takes l t (.restore p) → records (.restore p) (.restore l t p) s) ∧
   (∀ (l : Link) (s : State) (f : DataFrame) (o : Op) (i : Item) (v : Resolved) (g : Segment), s.agenda = [] → s.power ≠ .off →
     (s.links.get l).out = some (.data f) → o ∈ s.ops → (∀ p ∈ s.ops, p.reply.link = l → p = o) → o.reply.link = l →
     (s.links.get l).resetCount = o.reply.gen → o.bundle = false → o.items = [i] → o.current = 1 → i.hasEnded = false → i.resolved = some v →
     let r : ItemRef := ⟨l, o.reply.tag, 1⟩
     let c := s.outChans.get l
     c.chan.state = .paused → c.chan.op = .item r → c.chan.remaining = 1 → s.segmentOf r = some g → (∀ h ∈ s.segments, h.inst = g.inst → h = g) →
     g.started = true → s.spaceFifo = [] →
     (∀ q ∈ s.lib.demands, (q.mounting = none → q.waiters ≠ []) ∧ ∀ cls age, Waiter.item r cls age ∉ q.waiters) →
     records (.accrue l o.reply.tag) (.dataAccepted l) s)) ∧
  (∀ (s : State) (r : SettingsRec), s.power = .off → s.update = .clear → s.settings.stored = some r → s.clock.continuity = true →
     s.cat.marker = .valid → s.cat.agrees = true → (s.cat.target.target = 0 ∨ s.clock.now.sec < s.cat.target.target) →
     let found : PowerOn := { settings := .kept, batteryLost := false, memory := .kept, doorOpen := false, gripperHolds := false, drives := Six.const .noPlatter }
     ∃ t, exec (.powerOn found) s = .next t ∧ t.power = .starting ∧ t.absentMode = false ∧ t.rights = r.rights ∧
       (∀ q, (t.lines.get q).enabled = r.enables.get q ∧ (t.lines.get q).queue = []) ∧ t.settings.drives = r.drives ∧ t.settings.stored = some r ∧
       t.clock.now = s.clock.now ∧ t.clock.valid = s.clock.valid ∧ t.clock.base = r.trim ∧ t.clock.tempLeft = 0 ∧ t.startEvents = [] ∧
       t.cat.table = s.cat.table.map (fun e => { e with
         state := match e.state with | .filing _ => .lodged | st => st
         claim := none }) ∧
       t.cat.accounts = s.cat.accounts.map (fun a => { a with inFlight := 0 }) ∧
       t.cat.platters = s.cat.platters.map (fun p => { p with loc := match p.loc with | .picker => .unknown | .drive _ => .unknown | x => x }) ∧
       t.cat.folios = s.cat.folios ∧ t.cat.slots = s.cat.slots ∧ t.cat.lastStamp = s.cat.lastStamp ∧ t.cat.lastNumber = s.cat.lastNumber ∧
       t.cat.active = s.cat.active ∧ t.cat.snapshot = s.cat.snapshot ∧ t.cat.grand = s.cat.grand ∧
       (∀ d : DriveNo, (t.lib.drives.get d).state = if d.toNat ≤ r.drives then .empty else .absent) ∧
       t.lib.picker.state = .idle ∧ t.lib.doorOpen = false ∧ exec (.powerOn found) t = .next t) ∧
  (∀ (s : State) (r : SettingsRec) (m : CatMem), s.power = .off → (s.update = .complete m ∨ (s.update = .partly ∧ m = s.cat)) →
     s.settings.stored = some r → s.clock.continuity = true → m.marker = .valid → m.agrees = true →
     (m.target.target = 0 ∨ s.clock.now.sec < m.target.target) →
     let found : PowerOn := { settings := .kept, batteryLost := false, memory := .kept, doorOpen := false, gripperHolds := false, drives := Six.const .noPlatter }
     let closed : List Event := if m.period = s.cat.period then [] else [s.cat.closeEvent]
     let low : List Event := if s.cat.table.length < m.table.length ∧ 131072 - m.table.length ≤ 4096 then [.catalogueLow (131072 - m.table.length)] else []
     ∃ t, exec (.powerOn found) s = .next t ∧ t.update = .clear ∧ t.absentMode = false ∧ t.startEvents = closed ++ low ∧
       t.cat = { m with
         table := m.table.map (fun e => { e with state := match e.state with | .filing _ => .lodged | st => st, claim := none })
         accounts := m.accounts.map (fun a => { a with inFlight := 0 })
         platters := m.platters.map (fun p => { p with loc := match p.loc with | .picker => .unknown | .drive _ => .unknown | x => x }) }) ∧
  (∀ (s : State) (found : PowerOn), s.power = .off → s.update = .clear →
     (found.memory ≠ .kept ∨ s.cat.marker = .unrecognised ∨ s.cat.agrees = false) →
     ∃ t, exec (.powerOn found) s = .next t ∧ t.absentMode = true ∧ t.cat =
       { marker := .absent, storedCount := 0, table := [], folios := [], lastStamp := ⟨0, 0⟩, lastNumber := none, platters := [], slots := [], substs := [],
         active := { b := 0, t := 0, s1 := 0, s2 := 0, l := 0, c := 0, h := 0, opens := 0, closes := 86399, m := 999999 }, pendingSched := none,
         accounts := [{ code := 0, suspended := false, exempt := false, inFlight := 0, tally := ⟨0, 0, 0, 0, false⟩ }], period := 1, grand := 0, snapshot := none,
         target := { target := 0, mode := .add, value := 86400 } }) ∧
  (∀ (s : State) (r : SettingsRec) (found : PowerOn), s.power = .off → s.update = .clear → s.settings.stored = some r → found.settings = .kept →
     found.batteryLost = false → found.memory = .kept → s.clock.continuity = true → s.cat.marker = .valid → s.cat.agrees = true →
     (s.cat.target.target = 0 ∨ s.clock.now.sec < s.cat.target.target) →
     let fitted (d : DriveNo) : Prop := d.toNat ≤ r.drives
     ∃ t, exec (.powerOn found) s = .next t ∧ t.lib.doorOpen = found.doorOpen ∧
       t.lib.picker.state = (if found.gripperHolds then .jammed else if found.doorOpen then .halted else .idle) ∧
       t.lib.returns = DriveNo.all.filter (fun d => decide (d.toNat ≤ r.drives) && (match found.drives.get d with | .ejected _ => true | _ => false)) ∧
       (∀ d, let k := t.lib.drives.get d
         (¬fitted d → k.state = .absent ∧ k.platter = none) ∧
         (fitted d →
           (found.drives.get d = .noPlatter → k.state = .empty ∧ k.platter = none) ∧
           (∀ sd, found.drives.get d = .ejected sd → k.state = .unloading ∧ k.platter = some ⟨none, sd⟩) ∧
           (found.drives.get d = .silent → k.state = .absent ∧ k.platter = none) ∧
           (found.drives.get d = .fault → k.state = .fault ∧
             k.platter.map (fun p => p.id) = (s.cat.platters.find? (fun p => p.loc == .drive d)).map (fun p => some p.id)))) ∧
       t.startEvents = (if found.doorOpen then [.door true] else []) ++ (if found.gripperHolds then [.pickerJammed none none] else []) ++
         (DriveNo.all.filter (fun d => decide (d.toNat ≤ r.drives) && found.drives.get d == .fault)).map
           (fun d => .driveFault d (t.lib.drives.get d).platter false) ++
         (DriveNo.all.filter (fun d => decide (d.toNat ≤ r.drives) && found.drives.get d == .silent)).map (fun d => .driveFault d none true) ∧
       t.cat.platters = s.cat.platters.map (fun p => { p with loc := match p.loc with
         | .picker => .unknown
         | .drive d => if d.toNat ≤ r.drives ∧ found.drives.get d = .fault then .drive d else .unknown
         | x => x })) ∧
  (∀ (s : State), s.agenda = [] →
     (s.power = .starting → s.startEvents = [] → s.lib.doorOpen = false → s.lib.picker.state = .idle → (∀ l, (s.links.get l).lane = []) →
       exec .linksStart s = .next { s with
         power := .running
         lib := { s.lib with
           sweepDue := false
           sweep := { running := true, next := 1, found := [], foundCount := 0, created := 0, foreign := 0, duplicates := 0, homesLost := 0 }
           picker := { state := .moving, held := none, move := some { src := .slot 1, dst := none, flip := false }, since := some s.ref, piece := some .sweep } } }) ∧
     (s.power ≠ .starting → exec .linksStart s = .next s))
end

