-- ==== Sys2Proof/Laws/State.lean ====
section
/-!
SUPPORT. What the updates of State do, field by field, each true by definition; and the containers of three, four and six.
-/
namespace Sys2Proof
set_option Elab.async false

@[simp] theorem Three.get_set_same {α : Type} (t : Three α) (i : Link) (a : α) : (t.set i a).get i = a := by cases i <;> rfl

theorem Three.get_set_ne {α : Type} (t : Three α) (i j : Link) (a : α) (h : j ≠ i) : (t.set i a).get j = t.get j := by
  cases i <;> cases j <;> first | rfl | exact absurd rfl h

@[simp] theorem Three.get_const {α : Type} (a : α) (i : Link) : (Three.const a).get i = a := by cases i <;> rfl

@[simp] theorem Three.set_get {α : Type} (t : Three α) (i : Link) : t.set i (t.get i) = t := by cases i <;> rfl

@[simp] theorem Three.set_set {α : Type} (t : Three α) (i : Link) (a b : α) : (t.set i a).set i b = t.set i b := by cases i <;> rfl

@[simp] theorem Four.get_set_same {α : Type} (t : Four α) (i : Quad) (a : α) : (t.set i a).get i = a := by cases i <;> rfl

theorem Four.get_set_ne {α : Type} (t : Four α) (i j : Quad) (a : α) (h : j ≠ i) : (t.set i a).get j = t.get j := by
  cases i <;> cases j <;> first | rfl | exact absurd rfl h

@[simp] theorem Four.get_const {α : Type} (a : α) (i : Quad) : (Four.const a).get i = a := by cases i <;> rfl

@[simp] theorem Four.set_get {α : Type} (t : Four α) (i : Quad) : t.set i (t.get i) = t := by cases i <;> rfl

@[simp] theorem Four.set_set {α : Type} (t : Four α) (i : Quad) (a b : α) : (t.set i a).set i b = t.set i b := by cases i <;> rfl

@[simp] theorem Six.get_set_same {α : Type} (t : Six α) (i : DriveNo) (a : α) : (t.set i a).get i = a := by cases i <;> rfl

theorem Six.get_set_ne {α : Type} (t : Six α) (i j : DriveNo) (a : α) (h : j ≠ i) : (t.set i a).get j = t.get j := by
  cases i <;> cases j <;> first | rfl | exact absurd rfl h

@[simp] theorem Six.get_const {α : Type} (a : α) (i : DriveNo) : (Six.const a).get i = a := by cases i <;> rfl

@[simp] theorem Six.set_get {α : Type} (t : Six α) (i : DriveNo) : t.set i (t.get i) = t := by cases i <;> rfl

@[simp] theorem Six.set_set {α : Type} (t : Six α) (i : DriveNo) (a b : α) : (t.set i a).set i b = t.set i b := by cases i <;> rfl

namespace Machine.State

variable (s : State)

@[simp] theorem later_pending (ts : List Task) : (s.later ts).pending = s.pending := rfl
@[simp] theorem later_power (ts : List Task) : (s.later ts).power = s.power := rfl
@[simp] theorem later_ref (ts : List Task) : (s.later ts).ref = s.ref := rfl
@[simp] theorem later_cat (ts : List Task) : (s.later ts).cat = s.cat := rfl
@[simp] theorem later_update (ts : List Task) : (s.later ts).update = s.update := rfl
@[simp] theorem later_absentMode (ts : List Task) : (s.later ts).absentMode = s.absentMode := rfl
@[simp] theorem later_reserved (ts : List Task) : (s.later ts).reserved = s.reserved := rfl
@[simp] theorem later_clock (ts : List Task) : (s.later ts).clock = s.clock := rfl
@[simp] theorem later_lines (ts : List Task) : (s.later ts).lines = s.lines := rfl
@[simp] theorem later_settings (ts : List Task) : (s.later ts).settings = s.settings := rfl
@[simp] theorem later_rights (ts : List Task) : (s.later ts).rights = s.rights := rfl
@[simp] theorem later_links (ts : List Task) : (s.later ts).links = s.links := rfl
@[simp] theorem later_startEvents (ts : List Task) : (s.later ts).startEvents = s.startEvents := rfl
@[simp] theorem later_filings (ts : List Task) : (s.later ts).filings = s.filings := rfl
@[simp] theorem later_commitQueue (ts : List Task) : (s.later ts).commitQueue = s.commitQueue := rfl
@[simp] theorem later_lastFiling (ts : List Task) : (s.later ts).lastFiling = s.lastFiling := rfl
@[simp] theorem later_filUse (ts : List Task) : (s.later ts).filUse = s.filUse := rfl
@[simp] theorem later_mapReads (ts : List Task) : (s.later ts).mapReads = s.mapReads := rfl
@[simp] theorem later_ops (ts : List Task) : (s.later ts).ops = s.ops := rfl
@[simp] theorem later_mem (ts : List Task) : (s.later ts).mem = s.mem := rfl
@[simp] theorem later_ring (ts : List Task) : (s.later ts).ring = s.ring := rfl
@[simp] theorem later_ringNext (ts : List Task) : (s.later ts).ringNext = s.ringNext := rfl
@[simp] theorem later_segments (ts : List Task) : (s.later ts).segments = s.segments := rfl
@[simp] theorem later_spaceFifo (ts : List Task) : (s.later ts).spaceFifo = s.spaceFifo := rfl
@[simp] theorem later_driveChans (ts : List Task) : (s.later ts).driveChans = s.driveChans := rfl
@[simp] theorem later_inChans (ts : List Task) : (s.later ts).inChans = s.inChans := rfl
@[simp] theorem later_outChans (ts : List Task) : (s.later ts).outChans = s.outChans := rfl
@[simp] theorem later_lib (ts : List Task) : (s.later ts).lib = s.lib := rfl
@[simp] theorem later_agenda (ts : List Task) : (s.later ts).agenda = s.agenda ++ ts := rfl
@[simp] theorem later_freeCtr (ts : List Task) : (s.later ts).freeCtr = s.freeCtr := rfl

@[simp] theorem modCat_pending (f : CatMem → CatMem) : (s.modCat f).pending = s.pending := rfl
@[simp] theorem modCat_power (f : CatMem → CatMem) : (s.modCat f).power = s.power := rfl
@[simp] theorem modCat_ref (f : CatMem → CatMem) : (s.modCat f).ref = s.ref := rfl
@[simp] theorem modCat_cat (f : CatMem → CatMem) : (s.modCat f).cat = f s.cat := rfl
@[simp] theorem modCat_update (f : CatMem → CatMem) : (s.modCat f).update = s.update := rfl
@[simp] theorem modCat_absentMode (f : CatMem → CatMem) : (s.modCat f).absentMode = s.absentMode := rfl
@[simp] theorem modCat_reserved (f : CatMem → CatMem) : (s.modCat f).reserved = s.reserved := rfl
@[simp] theorem modCat_clock (f : CatMem → CatMem) : (s.modCat f).clock = s.clock := rfl
@[simp] theorem modCat_lines (f : CatMem → CatMem) : (s.modCat f).lines = s.lines := rfl
@[simp] theorem modCat_settings (f : CatMem → CatMem) : (s.modCat f).settings = s.settings := rfl
@[simp] theorem modCat_rights (f : CatMem → CatMem) : (s.modCat f).rights = s.rights := rfl
@[simp] theorem modCat_links (f : CatMem → CatMem) : (s.modCat f).links = s.links := rfl
@[simp] theorem modCat_startEvents (f : CatMem → CatMem) : (s.modCat f).startEvents = s.startEvents := rfl
@[simp] theorem modCat_filings (f : CatMem → CatMem) : (s.modCat f).filings = s.filings := rfl
@[simp] theorem modCat_commitQueue (f : CatMem → CatMem) : (s.modCat f).commitQueue = s.commitQueue := rfl
@[simp] theorem modCat_lastFiling (f : CatMem → CatMem) : (s.modCat f).lastFiling = s.lastFiling := rfl
@[simp] theorem modCat_filUse (f : CatMem → CatMem) : (s.modCat f).filUse = s.filUse := rfl
@[simp] theorem modCat_mapReads (f : CatMem → CatMem) : (s.modCat f).mapReads = s.mapReads := rfl
@[simp] theorem modCat_ops (f : CatMem → CatMem) : (s.modCat f).ops = s.ops := rfl
@[simp] theorem modCat_mem (f : CatMem → CatMem) : (s.modCat f).mem = s.mem := rfl
@[simp] theorem modCat_ring (f : CatMem → CatMem) : (s.modCat f).ring = s.ring := rfl
@[simp] theorem modCat_ringNext (f : CatMem → CatMem) : (s.modCat f).ringNext = s.ringNext := rfl
@[simp] theorem modCat_segments (f : CatMem → CatMem) : (s.modCat f).segments = s.segments := rfl
@[simp] theorem modCat_spaceFifo (f : CatMem → CatMem) : (s.modCat f).spaceFifo = s.spaceFifo := rfl
@[simp] theorem modCat_driveChans (f : CatMem → CatMem) : (s.modCat f).driveChans = s.driveChans := rfl
@[simp] theorem modCat_inChans (f : CatMem → CatMem) : (s.modCat f).inChans = s.inChans := rfl
@[simp] theorem modCat_outChans (f : CatMem → CatMem) : (s.modCat f).outChans = s.outChans := rfl
@[simp] theorem modCat_lib (f : CatMem → CatMem) : (s.modCat f).lib = s.lib := rfl
@[simp] theorem modCat_agenda (f : CatMem → CatMem) : (s.modCat f).agenda = s.agenda := rfl
@[simp] theorem modCat_freeCtr (f : CatMem → CatMem) : (s.modCat f).freeCtr = s.freeCtr := rfl

@[simp] theorem modLink_pending (l : Link) (f : LinkRec → LinkRec) : (s.modLink l f).pending = s.pending := rfl
@[simp] theorem modLink_power (l : Link) (f : LinkRec → LinkRec) : (s.modLink l f).power = s.power := rfl
@[simp] theorem modLink_ref (l : Link) (f : LinkRec → LinkRec) : (s.modLink l f).ref = s.ref := rfl
@[simp] theorem modLink_cat (l : Link) (f : LinkRec → LinkRec) : (s.modLink l f).cat = s.cat := rfl
@[simp] theorem modLink_update (l : Link) (f : LinkRec → LinkRec) : (s.modLink l f).update = s.update := rfl
@[simp] theorem modLink_absentMode (l : Link) (f : LinkRec → LinkRec) : (s.modLink l f).absentMode = s.absentMode := rfl
@[simp] theorem modLink_reserved (l : Link) (f : LinkRec → LinkRec) : (s.modLink l f).reserved = s.reserved := rfl
@[simp] theorem modLink_clock (l : Link) (f : LinkRec → LinkRec) : (s.modLink l f).clock = s.clock := rfl
@[simp] theorem modLink_lines (l : Link) (f : LinkRec → LinkRec) : (s.modLink l f).lines = s.lines := rfl
@[simp] theorem modLink_settings (l : Link) (f : LinkRec → LinkRec) : (s.modLink l f).settings = s.settings := rfl
@[simp] theorem modLink_rights (l : Link) (f : LinkRec → LinkRec) : (s.modLink l f).rights = s.rights := rfl
@[simp] theorem modLink_links (l : Link) (f : LinkRec → LinkRec) : (s.modLink l f).links = s.links.set l (f (s.links.get l)) := rfl
@[simp] theorem modLink_startEvents (l : Link) (f : LinkRec → LinkRec) : (s.modLink l f).startEvents = s.startEvents := rfl
@[simp] theorem modLink_filings (l : Link) (f : LinkRec → LinkRec) : (s.modLink l f).filings = s.filings := rfl
@[simp] theorem modLink_commitQueue (l : Link) (f : LinkRec → LinkRec) : (s.modLink l f).commitQueue = s.commitQueue := rfl
@[simp] theorem modLink_lastFiling (l : Link) (f : LinkRec → LinkRec) : (s.modLink l f).lastFiling = s.lastFiling := rfl
@[simp] theorem modLink_filUse (l : Link) (f : LinkRec → LinkRec) : (s.modLink l f).filUse = s.filUse := rfl
@[simp] theorem modLink_mapReads (l : Link) (f : LinkRec → LinkRec) : (s.modLink l f).mapReads = s.mapReads := rfl
@[simp] theorem modLink_ops (l : Link) (f : LinkRec → LinkRec) : (s.modLink l f).ops = s.ops := rfl
@[simp] theorem modLink_mem (l : Link) (f : LinkRec → LinkRec) : (s.modLink l f).mem = s.mem := rfl
@[simp] theorem modLink_ring (l : Link) (f : LinkRec → LinkRec) : (s.modLink l f).ring = s.ring := rfl
@[simp] theorem modLink_ringNext (l : Link) (f : LinkRec → LinkRec) : (s.modLink l f).ringNext = s.ringNext := rfl
@[simp] theorem modLink_segments (l : Link) (f : LinkRec → LinkRec) : (s.modLink l f).segments = s.segments := rfl
@[simp] theorem modLink_spaceFifo (l : Link) (f : LinkRec → LinkRec) : (s.modLink l f).spaceFifo = s.spaceFifo := rfl
@[simp] theorem modLink_driveChans (l : Link) (f : LinkRec → LinkRec) : (s.modLink l f).driveChans = s.driveChans := rfl
@[simp] theorem modLink_inChans (l : Link) (f : LinkRec → LinkRec) : (s.modLink l f).inChans = s.inChans := rfl
@[simp] theorem modLink_outChans (l : Link) (f : LinkRec → LinkRec) : (s.modLink l f).outChans = s.outChans := rfl
@[simp] theorem modLink_lib (l : Link) (f : LinkRec → LinkRec) : (s.modLink l f).lib = s.lib := rfl
@[simp] theorem modLink_agenda (l : Link) (f : LinkRec → LinkRec) : (s.modLink l f).agenda = s.agenda := rfl
@[simp] theorem modLink_freeCtr (l : Link) (f : LinkRec → LinkRec) : (s.modLink l f).freeCtr = s.freeCtr := rfl

@[simp] theorem modLine_pending (q : LineNo) (f : Line → Line) : (s.modLine q f).pending = s.pending := rfl
@[simp] theorem modLine_power (q : LineNo) (f : Line → Line) : (s.modLine q f).power = s.power := rfl
@[simp] theorem modLine_ref (q : LineNo) (f : Line → Line) : (s.modLine q f).ref = s.ref := rfl
@[simp] theorem modLine_cat (q : LineNo) (f : Line → Line) : (s.modLine q f).cat = s.cat := rfl
@[simp] theorem modLine_update (q : LineNo) (f : Line → Line) : (s.modLine q f).update = s.update := rfl
@[simp] theorem modLine_absentMode (q : LineNo) (f : Line → Line) : (s.modLine q f).absentMode = s.absentMode := rfl
@[simp] theorem modLine_reserved (q : LineNo) (f : Line → Line) : (s.modLine q f).reserved = s.reserved := rfl
@[simp] theorem modLine_clock (q : LineNo) (f : Line → Line) : (s.modLine q f).clock = s.clock := rfl
@[simp] theorem modLine_lines (q : LineNo) (f : Line → Line) : (s.modLine q f).lines = s.lines.set q (f (s.lines.get q)) := rfl
@[simp] theorem modLine_settings (q : LineNo) (f : Line → Line) : (s.modLine q f).settings = s.settings := rfl
@[simp] theorem modLine_rights (q : LineNo) (f : Line → Line) : (s.modLine q f).rights = s.rights := rfl
@[simp] theorem modLine_links (q : LineNo) (f : Line → Line) : (s.modLine q f).links = s.links := rfl
@[simp] theorem modLine_startEvents (q : LineNo) (f : Line → Line) : (s.modLine q f).startEvents = s.startEvents := rfl
@[simp] theorem modLine_filings (q : LineNo) (f : Line → Line) : (s.modLine q f).filings = s.filings := rfl
@[simp] theorem modLine_commitQueue (q : LineNo) (f : Line → Line) : (s.modLine q f).commitQueue = s.commitQueue := rfl
@[simp] theorem modLine_lastFiling (q : LineNo) (f : Line → Line) : (s.modLine q f).lastFiling = s.lastFiling := rfl
@[simp] theorem modLine_filUse (q : LineNo) (f : Line → Line) : (s.modLine q f).filUse = s.filUse := rfl
@[simp] theorem modLine_mapReads (q : LineNo) (f : Line → Line) : (s.modLine q f).mapReads = s.mapReads := rfl
@[simp] theorem modLine_ops (q : LineNo) (f : Line → Line) : (s.modLine q f).ops = s.ops := rfl
@[simp] theorem modLine_mem (q : LineNo) (f : Line → Line) : (s.modLine q f).mem = s.mem := rfl
@[simp] theorem modLine_ring (q : LineNo) (f : Line → Line) : (s.modLine q f).ring = s.ring := rfl
@[simp] theorem modLine_ringNext (q : LineNo) (f : Line → Line) : (s.modLine q f).ringNext = s.ringNext := rfl
@[simp] theorem modLine_segments (q : LineNo) (f : Line → Line) : (s.modLine q f).segments = s.segments := rfl
@[simp] theorem modLine_spaceFifo (q : LineNo) (f : Line → Line) : (s.modLine q f).spaceFifo = s.spaceFifo := rfl
@[simp] theorem modLine_driveChans (q : LineNo) (f : Line → Line) : (s.modLine q f).driveChans = s.driveChans := rfl
@[simp] theorem modLine_inChans (q : LineNo) (f : Line → Line) : (s.modLine q f).inChans = s.inChans := rfl
@[simp] theorem modLine_outChans (q : LineNo) (f : Line → Line) : (s.modLine q f).outChans = s.outChans := rfl
@[simp] theorem modLine_lib (q : LineNo) (f : Line → Line) : (s.modLine q f).lib = s.lib := rfl
@[simp] theorem modLine_agenda (q : LineNo) (f : Line → Line) : (s.modLine q f).agenda = s.agenda := rfl
@[simp] theorem modLine_freeCtr (q : LineNo) (f : Line → Line) : (s.modLine q f).freeCtr = s.freeCtr := rfl

@[simp] theorem setFiling_pending (q : FSlot) (f : Option Filing) : (s.setFiling q f).pending = s.pending := rfl
@[simp] theorem setFiling_power (q : FSlot) (f : Option Filing) : (s.setFiling q f).power = s.power := rfl
@[simp] theorem setFiling_ref (q : FSlot) (f : Option Filing) : (s.setFiling q f).ref = s.ref := rfl
@[simp] theorem setFiling_cat (q : FSlot) (f : Option Filing) : (s.setFiling q f).cat = s.cat := rfl
@[simp] theorem setFiling_update (q : FSlot) (f : Option Filing) : (s.setFiling q f).update = s.update := rfl
@[simp] theorem setFiling_absentMode (q : FSlot) (f : Option Filing) : (s.setFiling q f).absentMode = s.absentMode := rfl
@[simp] theorem setFiling_reserved (q : FSlot) (f : Option Filing) : (s.setFiling q f).reserved = s.reserved := rfl
@[simp] theorem setFiling_clock (q : FSlot) (f : Option Filing) : (s.setFiling q f).clock = s.clock := rfl
@[simp] theorem setFiling_lines (q : FSlot) (f : Option Filing) : (s.setFiling q f).lines = s.lines := rfl
@[simp] theorem setFiling_settings (q : FSlot) (f : Option Filing) : (s.setFiling q f).settings = s.settings := rfl
@[simp] theorem setFiling_rights (q : FSlot) (f : Option Filing) : (s.setFiling q f).rights = s.rights := rfl
@[simp] theorem setFiling_links (q : FSlot) (f : Option Filing) : (s.setFiling q f).links = s.links := rfl
@[simp] theorem setFiling_startEvents (q : FSlot) (f : Option Filing) : (s.setFiling q f).startEvents = s.startEvents := rfl
@[simp] theorem setFiling_filings (q : FSlot) (f : Option Filing) : (s.setFiling q f).filings = s.filings.set q f := rfl
@[simp] theorem setFiling_commitQueue (q : FSlot) (f : Option Filing) : (s.setFiling q f).commitQueue = s.commitQueue := rfl
@[simp] theorem setFiling_lastFiling (q : FSlot) (f : Option Filing) : (s.setFiling q f).lastFiling = s.lastFiling := rfl
@[simp] theorem setFiling_filUse (q : FSlot) (f : Option Filing) : (s.setFiling q f).filUse = s.filUse := rfl
@[simp] theorem setFiling_mapReads (q : FSlot) (f : Option Filing) : (s.setFiling q f).mapReads = s.mapReads := rfl
@[simp] theorem setFiling_ops (q : FSlot) (f : Option Filing) : (s.setFiling q f).ops = s.ops := rfl
@[simp] theorem setFiling_mem (q : FSlot) (f : Option Filing) : (s.setFiling q f).mem = s.mem := rfl
@[simp] theorem setFiling_ring (q : FSlot) (f : Option Filing) : (s.setFiling q f).ring = s.ring := rfl
@[simp] theorem setFiling_ringNext (q : FSlot) (f : Option Filing) : (s.setFiling q f).ringNext = s.ringNext := rfl
@[simp] theorem setFiling_segments (q : FSlot) (f : Option Filing) : (s.setFiling q f).segments = s.segments := rfl
@[simp] theorem setFiling_spaceFifo (q : FSlot) (f : Option Filing) : (s.setFiling q f).spaceFifo = s.spaceFifo := rfl
@[simp] theorem setFiling_driveChans (q : FSlot) (f : Option Filing) : (s.setFiling q f).driveChans = s.driveChans := rfl
@[simp] theorem setFiling_inChans (q : FSlot) (f : Option Filing) : (s.setFiling q f).inChans = s.inChans := rfl
@[simp] theorem setFiling_outChans (q : FSlot) (f : Option Filing) : (s.setFiling q f).outChans = s.outChans := rfl
@[simp] theorem setFiling_lib (q : FSlot) (f : Option Filing) : (s.setFiling q f).lib = s.lib := rfl
@[simp] theorem setFiling_agenda (q : FSlot) (f : Option Filing) : (s.setFiling q f).agenda = s.agenda := rfl
@[simp] theorem setFiling_freeCtr (q : FSlot) (f : Option Filing) : (s.setFiling q f).freeCtr = s.freeCtr := rfl

@[simp] theorem modFiling_pending (q : FSlot) (f : Filing → Filing) : (s.modFiling q f).pending = s.pending := rfl
@[simp] theorem modFiling_power (q : FSlot) (f : Filing → Filing) : (s.modFiling q f).power = s.power := rfl
@[simp] theorem modFiling_ref (q : FSlot) (f : Filing → Filing) : (s.modFiling q f).ref = s.ref := rfl
@[simp] theorem modFiling_cat (q : FSlot) (f : Filing → Filing) : (s.modFiling q f).cat = s.cat := rfl
@[simp] theorem modFiling_update (q : FSlot) (f : Filing → Filing) : (s.modFiling q f).update = s.update := rfl
@[simp] theorem modFiling_absentMode (q : FSlot) (f : Filing → Filing) : (s.modFiling q f).absentMode = s.absentMode := rfl
@[simp] theorem modFiling_reserved (q : FSlot) (f : Filing → Filing) : (s.modFiling q f).reserved = s.reserved := rfl
@[simp] theorem modFiling_clock (q : FSlot) (f : Filing → Filing) : (s.modFiling q f).clock = s.clock := rfl
@[simp] theorem modFiling_lines (q : FSlot) (f : Filing → Filing) : (s.modFiling q f).lines = s.lines := rfl
@[simp] theorem modFiling_settings (q : FSlot) (f : Filing → Filing) : (s.modFiling q f).settings = s.settings := rfl
@[simp] theorem modFiling_rights (q : FSlot) (f : Filing → Filing) : (s.modFiling q f).rights = s.rights := rfl
@[simp] theorem modFiling_links (q : FSlot) (f : Filing → Filing) : (s.modFiling q f).links = s.links := rfl
@[simp] theorem modFiling_startEvents (q : FSlot) (f : Filing → Filing) : (s.modFiling q f).startEvents = s.startEvents := rfl
@[simp] theorem modFiling_filings (q : FSlot) (f : Filing → Filing) : (s.modFiling q f).filings = s.filings.set q ((s.filings.get q).map f) := rfl
@[simp] theorem modFiling_commitQueue (q : FSlot) (f : Filing → Filing) : (s.modFiling q f).commitQueue = s.commitQueue := rfl
@[simp] theorem modFiling_lastFiling (q : FSlot) (f : Filing → Filing) : (s.modFiling q f).lastFiling = s.lastFiling := rfl
@[simp] theorem modFiling_filUse (q : FSlot) (f : Filing → Filing) : (s.modFiling q f).filUse = s.filUse := rfl
@[simp] theorem modFiling_mapReads (q : FSlot) (f : Filing → Filing) : (s.modFiling q f).mapReads = s.mapReads := rfl
@[simp] theorem modFiling_ops (q : FSlot) (f : Filing → Filing) : (s.modFiling q f).ops = s.ops := rfl
@[simp] theorem modFiling_mem (q : FSlot) (f : Filing → Filing) : (s.modFiling q f).mem = s.mem := rfl
@[simp] theorem modFiling_ring (q : FSlot) (f : Filing → Filing) : (s.modFiling q f).ring = s.ring := rfl
@[simp] theorem modFiling_ringNext (q : FSlot) (f : Filing → Filing) : (s.modFiling q f).ringNext = s.ringNext := rfl
@[simp] theorem modFiling_segments (q : FSlot) (f : Filing → Filing) : (s.modFiling q f).segments = s.segments := rfl
@[simp] theorem modFiling_spaceFifo (q : FSlot) (f : Filing → Filing) : (s.modFiling q f).spaceFifo = s.spaceFifo := rfl
@[simp] theorem modFiling_driveChans (q : FSlot) (f : Filing → Filing) : (s.modFiling q f).driveChans = s.driveChans := rfl
@[simp] theorem modFiling_inChans (q : FSlot) (f : Filing → Filing) : (s.modFiling q f).inChans = s.inChans := rfl
@[simp] theorem modFiling_outChans (q : FSlot) (f : Filing → Filing) : (s.modFiling q f).outChans = s.outChans := rfl
@[simp] theorem modFiling_lib (q : FSlot) (f : Filing → Filing) : (s.modFiling q f).lib = s.lib := rfl
@[simp] theorem modFiling_agenda (q : FSlot) (f : Filing → Filing) : (s.modFiling q f).agenda = s.agenda := rfl
@[simp] theorem modFiling_freeCtr (q : FSlot) (f : Filing → Filing) : (s.modFiling q f).freeCtr = s.freeCtr := rfl

@[simp] theorem modCommit_pending (q : FSlot) (f : Commit → Commit) : (s.modCommit q f).pending = s.pending := rfl
@[simp] theorem modCommit_power (q : FSlot) (f : Commit → Commit) : (s.modCommit q f).power = s.power := rfl
@[simp] theorem modCommit_ref (q : FSlot) (f : Commit → Commit) : (s.modCommit q f).ref = s.ref := rfl
@[simp] theorem modCommit_cat (q : FSlot) (f : Commit → Commit) : (s.modCommit q f).cat = s.cat := rfl
@[simp] theorem modCommit_update (q : FSlot) (f : Commit → Commit) : (s.modCommit q f).update = s.update := rfl
@[simp] theorem modCommit_absentMode (q : FSlot) (f : Commit → Commit) : (s.modCommit q f).absentMode = s.absentMode := rfl
@[simp] theorem modCommit_reserved (q : FSlot) (f : Commit → Commit) : (s.modCommit q f).reserved = s.reserved := rfl
@[simp] theorem modCommit_clock (q : FSlot) (f : Commit → Commit) : (s.modCommit q f).clock = s.clock := rfl
@[simp] theorem modCommit_lines (q : FSlot) (f : Commit → Commit) : (s.modCommit q f).lines = s.lines := rfl
@[simp] theorem modCommit_settings (q : FSlot) (f : Commit → Commit) : (s.modCommit q f).settings = s.settings := rfl
@[simp] theorem modCommit_rights (q : FSlot) (f : Commit → Commit) : (s.modCommit q f).rights = s.rights := rfl
@[simp] theorem modCommit_links (q : FSlot) (f : Commit → Commit) : (s.modCommit q f).links = s.links := rfl
@[simp] theorem modCommit_startEvents (q : FSlot) (f : Commit → Commit) : (s.modCommit q f).startEvents = s.startEvents := rfl
@[simp] theorem modCommit_filings (q : FSlot) (f : Commit → Commit) : (s.modCommit q f).filings = s.filings.set q ((s.filings.get q).map (fun g => { g with commit := g.commit.map f })) := rfl
@[simp] theorem modCommit_commitQueue (q : FSlot) (f : Commit → Commit) : (s.modCommit q f).commitQueue = s.commitQueue := rfl
@[simp] theorem modCommit_lastFiling (q : FSlot) (f : Commit → Commit) : (s.modCommit q f).lastFiling = s.lastFiling := rfl
@[simp] theorem modCommit_filUse (q : FSlot) (f : Commit → Commit) : (s.modCommit q f).filUse = s.filUse := rfl
@[simp] theorem modCommit_mapReads (q : FSlot) (f : Commit → Commit) : (s.modCommit q f).mapReads = s.mapReads := rfl
@[simp] theorem modCommit_ops (q : FSlot) (f : Commit → Commit) : (s.modCommit q f).ops = s.ops := rfl
@[simp] theorem modCommit_mem (q : FSlot) (f : Commit → Commit) : (s.modCommit q f).mem = s.mem := rfl
@[simp] theorem modCommit_ring (q : FSlot) (f : Commit → Commit) : (s.modCommit q f).ring = s.ring := rfl
@[simp] theorem modCommit_ringNext (q : FSlot) (f : Commit → Commit) : (s.modCommit q f).ringNext = s.ringNext := rfl
@[simp] theorem modCommit_segments (q : FSlot) (f : Commit → Commit) : (s.modCommit q f).segments = s.segments := rfl
@[simp] theorem modCommit_spaceFifo (q : FSlot) (f : Commit → Commit) : (s.modCommit q f).spaceFifo = s.spaceFifo := rfl
@[simp] theorem modCommit_driveChans (q : FSlot) (f : Commit → Commit) : (s.modCommit q f).driveChans = s.driveChans := rfl
@[simp] theorem modCommit_inChans (q : FSlot) (f : Commit → Commit) : (s.modCommit q f).inChans = s.inChans := rfl
@[simp] theorem modCommit_outChans (q : FSlot) (f : Commit → Commit) : (s.modCommit q f).outChans = s.outChans := rfl
@[simp] theorem modCommit_lib (q : FSlot) (f : Commit → Commit) : (s.modCommit q f).lib = s.lib := rfl
@[simp] theorem modCommit_agenda (q : FSlot) (f : Commit → Commit) : (s.modCommit q f).agenda = s.agenda := rfl
@[simp] theorem modCommit_freeCtr (q : FSlot) (f : Commit → Commit) : (s.modCommit q f).freeCtr = s.freeCtr := rfl

@[simp] theorem modLib_pending (f : Library → Library) : (s.modLib f).pending = s.pending := rfl
@[simp] theorem modLib_power (f : Library → Library) : (s.modLib f).power = s.power := rfl
@[simp] theorem modLib_ref (f : Library → Library) : (s.modLib f).ref = s.ref := rfl
@[simp] theorem modLib_cat (f : Library → Library) : (s.modLib f).cat = s.cat := rfl
@[simp] theorem modLib_update (f : Library → Library) : (s.modLib f).update = s.update := rfl
@[simp] theorem modLib_absentMode (f : Library → Library) : (s.modLib f).absentMode = s.absentMode := rfl
@[simp] theorem modLib_reserved (f : Library → Library) : (s.modLib f).reserved = s.reserved := rfl
@[simp] theorem modLib_clock (f : Library → Library) : (s.modLib f).clock = s.clock := rfl
@[simp] theorem modLib_lines (f : Library → Library) : (s.modLib f).lines = s.lines := rfl
@[simp] theorem modLib_settings (f : Library → Library) : (s.modLib f).settings = s.settings := rfl
@[simp] theorem modLib_rights (f : Library → Library) : (s.modLib f).rights = s.rights := rfl
@[simp] theorem modLib_links (f : Library → Library) : (s.modLib f).links = s.links := rfl
@[simp] theorem modLib_startEvents (f : Library → Library) : (s.modLib f).startEvents = s.startEvents := rfl
@[simp] theorem modLib_filings (f : Library → Library) : (s.modLib f).filings = s.filings := rfl
@[simp] theorem modLib_commitQueue (f : Library → Library) : (s.modLib f).commitQueue = s.commitQueue := rfl
@[simp] theorem modLib_lastFiling (f : Library → Library) : (s.modLib f).lastFiling = s.lastFiling := rfl
@[simp] theorem modLib_filUse (f : Library → Library) : (s.modLib f).filUse = s.filUse := rfl
@[simp] theorem modLib_mapReads (f : Library → Library) : (s.modLib f).mapReads = s.mapReads := rfl
@[simp] theorem modLib_ops (f : Library → Library) : (s.modLib f).ops = s.ops := rfl
@[simp] theorem modLib_mem (f : Library → Library) : (s.modLib f).mem = s.mem := rfl
@[simp] theorem modLib_ring (f : Library → Library) : (s.modLib f).ring = s.ring := rfl
@[simp] theorem modLib_ringNext (f : Library → Library) : (s.modLib f).ringNext = s.ringNext := rfl
@[simp] theorem modLib_segments (f : Library → Library) : (s.modLib f).segments = s.segments := rfl
@[simp] theorem modLib_spaceFifo (f : Library → Library) : (s.modLib f).spaceFifo = s.spaceFifo := rfl
@[simp] theorem modLib_driveChans (f : Library → Library) : (s.modLib f).driveChans = s.driveChans := rfl
@[simp] theorem modLib_inChans (f : Library → Library) : (s.modLib f).inChans = s.inChans := rfl
@[simp] theorem modLib_outChans (f : Library → Library) : (s.modLib f).outChans = s.outChans := rfl
@[simp] theorem modLib_lib (f : Library → Library) : (s.modLib f).lib = f s.lib := rfl
@[simp] theorem modLib_agenda (f : Library → Library) : (s.modLib f).agenda = s.agenda := rfl
@[simp] theorem modLib_freeCtr (f : Library → Library) : (s.modLib f).freeCtr = s.freeCtr := rfl

@[simp] theorem modDrive_pending (d : DriveNo) (f : Drive → Drive) : (s.modDrive d f).pending = s.pending := rfl
@[simp] theorem modDrive_power (d : DriveNo) (f : Drive → Drive) : (s.modDrive d f).power = s.power := rfl
@[simp] theorem modDrive_ref (d : DriveNo) (f : Drive → Drive) : (s.modDrive d f).ref = s.ref := rfl
@[simp] theorem modDrive_cat (d : DriveNo) (f : Drive → Drive) : (s.modDrive d f).cat = s.cat := rfl
@[simp] theorem modDrive_update (d : DriveNo) (f : Drive → Drive) : (s.modDrive d f).update = s.update := rfl
@[simp] theorem modDrive_absentMode (d : DriveNo) (f : Drive → Drive) : (s.modDrive d f).absentMode = s.absentMode := rfl
@[simp] theorem modDrive_reserved (d : DriveNo) (f : Drive → Drive) : (s.modDrive d f).reserved = s.reserved := rfl
@[simp] theorem modDrive_clock (d : DriveNo) (f : Drive → Drive) : (s.modDrive d f).clock = s.clock := rfl
@[simp] theorem modDrive_lines (d : DriveNo) (f : Drive → Drive) : (s.modDrive d f).lines = s.lines := rfl
@[simp] theorem modDrive_settings (d : DriveNo) (f : Drive → Drive) : (s.modDrive d f).settings = s.settings := rfl
@[simp] theorem modDrive_rights (d : DriveNo) (f : Drive → Drive) : (s.modDrive d f).rights = s.rights := rfl
@[simp] theorem modDrive_links (d : DriveNo) (f : Drive → Drive) : (s.modDrive d f).links = s.links := rfl
@[simp] theorem modDrive_startEvents (d : DriveNo) (f : Drive → Drive) : (s.modDrive d f).startEvents = s.startEvents := rfl
@[simp] theorem modDrive_filings (d : DriveNo) (f : Drive → Drive) : (s.modDrive d f).filings = s.filings := rfl
@[simp] theorem modDrive_commitQueue (d : DriveNo) (f : Drive → Drive) : (s.modDrive d f).commitQueue = s.commitQueue := rfl
@[simp] theorem modDrive_lastFiling (d : DriveNo) (f : Drive → Drive) : (s.modDrive d f).lastFiling = s.lastFiling := rfl
@[simp] theorem modDrive_filUse (d : DriveNo) (f : Drive → Drive) : (s.modDrive d f).filUse = s.filUse := rfl
@[simp] theorem modDrive_mapReads (d : DriveNo) (f : Drive → Drive) : (s.modDrive d f).mapReads = s.mapReads := rfl
@[simp] theorem modDrive_ops (d : DriveNo) (f : Drive → Drive) : (s.modDrive d f).ops = s.ops := rfl
@[simp] theorem modDrive_mem (d : DriveNo) (f : Drive → Drive) : (s.modDrive d f).mem = s.mem := rfl
@[simp] theorem modDrive_ring (d : DriveNo) (f : Drive → Drive) : (s.modDrive d f).ring = s.ring := rfl
@[simp] theorem modDrive_ringNext (d : DriveNo) (f : Drive → Drive) : (s.modDrive d f).ringNext = s.ringNext := rfl
@[simp] theorem modDrive_segments (d : DriveNo) (f : Drive → Drive) : (s.modDrive d f).segments = s.segments := rfl
@[simp] theorem modDrive_spaceFifo (d : DriveNo) (f : Drive → Drive) : (s.modDrive d f).spaceFifo = s.spaceFifo := rfl
@[simp] theorem modDrive_driveChans (d : DriveNo) (f : Drive → Drive) : (s.modDrive d f).driveChans = s.driveChans := rfl
@[simp] theorem modDrive_inChans (d : DriveNo) (f : Drive → Drive) : (s.modDrive d f).inChans = s.inChans := rfl
@[simp] theorem modDrive_outChans (d : DriveNo) (f : Drive → Drive) : (s.modDrive d f).outChans = s.outChans := rfl
@[simp] theorem modDrive_lib (d : DriveNo) (f : Drive → Drive) : (s.modDrive d f).lib = { s.lib with drives := s.lib.drives.set d (f (s.lib.drives.get d)) } := rfl
@[simp] theorem modDrive_agenda (d : DriveNo) (f : Drive → Drive) : (s.modDrive d f).agenda = s.agenda := rfl
@[simp] theorem modDrive_freeCtr (d : DriveNo) (f : Drive → Drive) : (s.modDrive d f).freeCtr = s.freeCtr := rfl

@[simp] theorem modPicker_pending (f : Picker → Picker) : (s.modPicker f).pending = s.pending := rfl
@[simp] theorem modPicker_power (f : Picker → Picker) : (s.modPicker f).power = s.power := rfl
@[simp] theorem modPicker_ref (f : Picker → Picker) : (s.modPicker f).ref = s.ref := rfl
@[simp] theorem modPicker_cat (f : Picker → Picker) : (s.modPicker f).cat = s.cat := rfl
@[simp] theorem modPicker_update (f : Picker → Picker) : (s.modPicker f).update = s.update := rfl
@[simp] theorem modPicker_absentMode (f : Picker → Picker) : (s.modPicker f).absentMode = s.absentMode := rfl
@[simp] theorem modPicker_reserved (f : Picker → Picker) : (s.modPicker f).reserved = s.reserved := rfl
@[simp] theorem modPicker_clock (f : Picker → Picker) : (s.modPicker f).clock = s.clock := rfl
@[simp] theorem modPicker_lines (f : Picker → Picker) : (s.modPicker f).lines = s.lines := rfl
@[simp] theorem modPicker_settings (f : Picker → Picker) : (s.modPicker f).settings = s.settings := rfl
@[simp] theorem modPicker_rights (f : Picker → Picker) : (s.modPicker f).rights = s.rights := rfl
@[simp] theorem modPicker_links (f : Picker → Picker) : (s.modPicker f).links = s.links := rfl
@[simp] theorem modPicker_startEvents (f : Picker → Picker) : (s.modPicker f).startEvents = s.startEvents := rfl
@[simp] theorem modPicker_filings (f : Picker → Picker) : (s.modPicker f).filings = s.filings := rfl
@[simp] theorem modPicker_commitQueue (f : Picker → Picker) : (s.modPicker f).commitQueue = s.commitQueue := rfl
@[simp] theorem modPicker_lastFiling (f : Picker → Picker) : (s.modPicker f).lastFiling = s.lastFiling := rfl
@[simp] theorem modPicker_filUse (f : Picker → Picker) : (s.modPicker f).filUse = s.filUse := rfl
@[simp] theorem modPicker_mapReads (f : Picker → Picker) : (s.modPicker f).mapReads = s.mapReads := rfl
@[simp] theorem modPicker_ops (f : Picker → Picker) : (s.modPicker f).ops = s.ops := rfl
@[simp] theorem modPicker_mem (f : Picker → Picker) : (s.modPicker f).mem = s.mem := rfl
@[simp] theorem modPicker_ring (f : Picker → Picker) : (s.modPicker f).ring = s.ring := rfl
@[simp] theorem modPicker_ringNext (f : Picker → Picker) : (s.modPicker f).ringNext = s.ringNext := rfl
@[simp] theorem modPicker_segments (f : Picker → Picker) : (s.modPicker f).segments = s.segments := rfl
@[simp] theorem modPicker_spaceFifo (f : Picker → Picker) : (s.modPicker f).spaceFifo = s.spaceFifo := rfl
@[simp] theorem modPicker_driveChans (f : Picker → Picker) : (s.modPicker f).driveChans = s.driveChans := rfl
@[simp] theorem modPicker_inChans (f : Picker → Picker) : (s.modPicker f).inChans = s.inChans := rfl
@[simp] theorem modPicker_outChans (f : Picker → Picker) : (s.modPicker f).outChans = s.outChans := rfl
@[simp] theorem modPicker_lib (f : Picker → Picker) : (s.modPicker f).lib = { s.lib with picker := f s.lib.picker } := rfl
@[simp] theorem modPicker_agenda (f : Picker → Picker) : (s.modPicker f).agenda = s.agenda := rfl
@[simp] theorem modPicker_freeCtr (f : Picker → Picker) : (s.modPicker f).freeCtr = s.freeCtr := rfl

@[simp] theorem modDriveChan_pending (d : DriveNo) (f : DriveChan → DriveChan) : (s.modDriveChan d f).pending = s.pending := rfl
@[simp] theorem modDriveChan_power (d : DriveNo) (f : DriveChan → DriveChan) : (s.modDriveChan d f).power = s.power := rfl
@[simp] theorem modDriveChan_ref (d : DriveNo) (f : DriveChan → DriveChan) : (s.modDriveChan d f).ref = s.ref := rfl
@[simp] theorem modDriveChan_cat (d : DriveNo) (f : DriveChan → DriveChan) : (s.modDriveChan d f).cat = s.cat := rfl
@[simp] theorem modDriveChan_update (d : DriveNo) (f : DriveChan → DriveChan) : (s.modDriveChan d f).update = s.update := rfl
@[simp] theorem modDriveChan_absentMode (d : DriveNo) (f : DriveChan → DriveChan) : (s.modDriveChan d f).absentMode = s.absentMode := rfl
@[simp] theorem modDriveChan_reserved (d : DriveNo) (f : DriveChan → DriveChan) : (s.modDriveChan d f).reserved = s.reserved := rfl
@[simp] theorem modDriveChan_clock (d : DriveNo) (f : DriveChan → DriveChan) : (s.modDriveChan d f).clock = s.clock := rfl
@[simp] theorem modDriveChan_lines (d : DriveNo) (f : DriveChan → DriveChan) : (s.modDriveChan d f).lines = s.lines := rfl
@[simp] theorem modDriveChan_settings (d : DriveNo) (f : DriveChan → DriveChan) : (s.modDriveChan d f).settings = s.settings := rfl
@[simp] theorem modDriveChan_rights (d : DriveNo) (f : DriveChan → DriveChan) : (s.modDriveChan d f).rights = s.rights := rfl
@[simp] theorem modDriveChan_links (d : DriveNo) (f : DriveChan → DriveChan) : (s.modDriveChan d f).links = s.links := rfl
@[simp] theorem modDriveChan_startEvents (d : DriveNo) (f : DriveChan → DriveChan) : (s.modDriveChan d f).startEvents = s.startEvents := rfl
@[simp] theorem modDriveChan_filings (d : DriveNo) (f : DriveChan → DriveChan) : (s.modDriveChan d f).filings = s.filings := rfl
@[simp] theorem modDriveChan_commitQueue (d : DriveNo) (f : DriveChan → DriveChan) : (s.modDriveChan d f).commitQueue = s.commitQueue := rfl
@[simp] theorem modDriveChan_lastFiling (d : DriveNo) (f : DriveChan → DriveChan) : (s.modDriveChan d f).lastFiling = s.lastFiling := rfl
@[simp] theorem modDriveChan_filUse (d : DriveNo) (f : DriveChan → DriveChan) : (s.modDriveChan d f).filUse = s.filUse := rfl
@[simp] theorem modDriveChan_mapReads (d : DriveNo) (f : DriveChan → DriveChan) : (s.modDriveChan d f).mapReads = s.mapReads := rfl
@[simp] theorem modDriveChan_ops (d : DriveNo) (f : DriveChan → DriveChan) : (s.modDriveChan d f).ops = s.ops := rfl
@[simp] theorem modDriveChan_mem (d : DriveNo) (f : DriveChan → DriveChan) : (s.modDriveChan d f).mem = s.mem := rfl
@[simp] theorem modDriveChan_ring (d : DriveNo) (f : DriveChan → DriveChan) : (s.modDriveChan d f).ring = s.ring := rfl
@[simp] theorem modDriveChan_ringNext (d : DriveNo) (f : DriveChan → DriveChan) : (s.modDriveChan d f).ringNext = s.ringNext := rfl
@[simp] theorem modDriveChan_segments (d : DriveNo) (f : DriveChan → DriveChan) : (s.modDriveChan d f).segments = s.segments := rfl
@[simp] theorem modDriveChan_spaceFifo (d : DriveNo) (f : DriveChan → DriveChan) : (s.modDriveChan d f).spaceFifo = s.spaceFifo := rfl
@[simp] theorem modDriveChan_driveChans (d : DriveNo) (f : DriveChan → DriveChan) : (s.modDriveChan d f).driveChans = s.driveChans.set d (f (s.driveChans.get d)) := rfl
@[simp] theorem modDriveChan_inChans (d : DriveNo) (f : DriveChan → DriveChan) : (s.modDriveChan d f).inChans = s.inChans := rfl
@[simp] theorem modDriveChan_outChans (d : DriveNo) (f : DriveChan → DriveChan) : (s.modDriveChan d f).outChans = s.outChans := rfl
@[simp] theorem modDriveChan_lib (d : DriveNo) (f : DriveChan → DriveChan) : (s.modDriveChan d f).lib = s.lib := rfl
@[simp] theorem modDriveChan_agenda (d : DriveNo) (f : DriveChan → DriveChan) : (s.modDriveChan d f).agenda = s.agenda := rfl
@[simp] theorem modDriveChan_freeCtr (d : DriveNo) (f : DriveChan → DriveChan) : (s.modDriveChan d f).freeCtr = s.freeCtr := rfl

@[simp] theorem setInChan_pending (l : Link) (c : InChan) : (s.setInChan l c).pending = s.pending := rfl
@[simp] theorem setInChan_power (l : Link) (c : InChan) : (s.setInChan l c).power = s.power := rfl
@[simp] theorem setInChan_ref (l : Link) (c : InChan) : (s.setInChan l c).ref = s.ref := rfl
@[simp] theorem setInChan_cat (l : Link) (c : InChan) : (s.setInChan l c).cat = s.cat := rfl
@[simp] theorem setInChan_update (l : Link) (c : InChan) : (s.setInChan l c).update = s.update := rfl
@[simp] theorem setInChan_absentMode (l : Link) (c : InChan) : (s.setInChan l c).absentMode = s.absentMode := rfl
@[simp] theorem setInChan_reserved (l : Link) (c : InChan) : (s.setInChan l c).reserved = s.reserved := rfl
@[simp] theorem setInChan_clock (l : Link) (c : InChan) : (s.setInChan l c).clock = s.clock := rfl
@[simp] theorem setInChan_lines (l : Link) (c : InChan) : (s.setInChan l c).lines = s.lines := rfl
@[simp] theorem setInChan_settings (l : Link) (c : InChan) : (s.setInChan l c).settings = s.settings := rfl
@[simp] theorem setInChan_rights (l : Link) (c : InChan) : (s.setInChan l c).rights = s.rights := rfl
@[simp] theorem setInChan_links (l : Link) (c : InChan) : (s.setInChan l c).links = s.links := rfl
@[simp] theorem setInChan_startEvents (l : Link) (c : InChan) : (s.setInChan l c).startEvents = s.startEvents := rfl
@[simp] theorem setInChan_filings (l : Link) (c : InChan) : (s.setInChan l c).filings = s.filings := rfl
@[simp] theorem setInChan_commitQueue (l : Link) (c : InChan) : (s.setInChan l c).commitQueue = s.commitQueue := rfl
@[simp] theorem setInChan_lastFiling (l : Link) (c : InChan) : (s.setInChan l c).lastFiling = s.lastFiling := rfl
@[simp] theorem setInChan_filUse (l : Link) (c : InChan) : (s.setInChan l c).filUse = s.filUse := rfl
@[simp] theorem setInChan_mapReads (l : Link) (c : InChan) : (s.setInChan l c).mapReads = s.mapReads := rfl
@[simp] theorem setInChan_ops (l : Link) (c : InChan) : (s.setInChan l c).ops = s.ops := rfl
@[simp] theorem setInChan_mem (l : Link) (c : InChan) : (s.setInChan l c).mem = s.mem := rfl
@[simp] theorem setInChan_ring (l : Link) (c : InChan) : (s.setInChan l c).ring = s.ring := rfl
@[simp] theorem setInChan_ringNext (l : Link) (c : InChan) : (s.setInChan l c).ringNext = s.ringNext := rfl
@[simp] theorem setInChan_segments (l : Link) (c : InChan) : (s.setInChan l c).segments = s.segments := rfl
@[simp] theorem setInChan_spaceFifo (l : Link) (c : InChan) : (s.setInChan l c).spaceFifo = s.spaceFifo := rfl
@[simp] theorem setInChan_driveChans (l : Link) (c : InChan) : (s.setInChan l c).driveChans = s.driveChans := rfl
@[simp] theorem setInChan_inChans (l : Link) (c : InChan) : (s.setInChan l c).inChans = s.inChans.set l c := rfl
@[simp] theorem setInChan_outChans (l : Link) (c : InChan) : (s.setInChan l c).outChans = s.outChans := rfl
@[simp] theorem setInChan_lib (l : Link) (c : InChan) : (s.setInChan l c).lib = s.lib := rfl
@[simp] theorem setInChan_agenda (l : Link) (c : InChan) : (s.setInChan l c).agenda = s.agenda := rfl
@[simp] theorem setInChan_freeCtr (l : Link) (c : InChan) : (s.setInChan l c).freeCtr = s.freeCtr := rfl

@[simp] theorem modOutChan_pending (l : Link) (f : OutChan → OutChan) : (s.modOutChan l f).pending = s.pending := rfl
@[simp] theorem modOutChan_power (l : Link) (f : OutChan → OutChan) : (s.modOutChan l f).power = s.power := rfl
@[simp] theorem modOutChan_ref (l : Link) (f : OutChan → OutChan) : (s.modOutChan l f).ref = s.ref := rfl
@[simp] theorem modOutChan_cat (l : Link) (f : OutChan → OutChan) : (s.modOutChan l f).cat = s.cat := rfl
@[simp] theorem modOutChan_update (l : Link) (f : OutChan → OutChan) : (s.modOutChan l f).update = s.update := rfl
@[simp] theorem modOutChan_absentMode (l : Link) (f : OutChan → OutChan) : (s.modOutChan l f).absentMode = s.absentMode := rfl
@[simp] theorem modOutChan_reserved (l : Link) (f : OutChan → OutChan) : (s.modOutChan l f).reserved = s.reserved := rfl
@[simp] theorem modOutChan_clock (l : Link) (f : OutChan → OutChan) : (s.modOutChan l f).clock = s.clock := rfl
@[simp] theorem modOutChan_lines (l : Link) (f : OutChan → OutChan) : (s.modOutChan l f).lines = s.lines := rfl
@[simp] theorem modOutChan_settings (l : Link) (f : OutChan → OutChan) : (s.modOutChan l f).settings = s.settings := rfl
@[simp] theorem modOutChan_rights (l : Link) (f : OutChan → OutChan) : (s.modOutChan l f).rights = s.rights := rfl
@[simp] theorem modOutChan_links (l : Link) (f : OutChan → OutChan) : (s.modOutChan l f).links = s.links := rfl
@[simp] theorem modOutChan_startEvents (l : Link) (f : OutChan → OutChan) : (s.modOutChan l f).startEvents = s.startEvents := rfl
@[simp] theorem modOutChan_filings (l : Link) (f : OutChan → OutChan) : (s.modOutChan l f).filings = s.filings := rfl
@[simp] theorem modOutChan_commitQueue (l : Link) (f : OutChan → OutChan) : (s.modOutChan l f).commitQueue = s.commitQueue := rfl
@[simp] theorem modOutChan_lastFiling (l : Link) (f : OutChan → OutChan) : (s.modOutChan l f).lastFiling = s.lastFiling := rfl
@[simp] theorem modOutChan_filUse (l : Link) (f : OutChan → OutChan) : (s.modOutChan l f).filUse = s.filUse := rfl
@[simp] theorem modOutChan_mapReads (l : Link) (f : OutChan → OutChan) : (s.modOutChan l f).mapReads = s.mapReads := rfl
@[simp] theorem modOutChan_ops (l : Link) (f : OutChan → OutChan) : (s.modOutChan l f).ops = s.ops := rfl
@[simp] theorem modOutChan_mem (l : Link) (f : OutChan → OutChan) : (s.modOutChan l f).mem = s.mem := rfl
@[simp] theorem modOutChan_ring (l : Link) (f : OutChan → OutChan) : (s.modOutChan l f).ring = s.ring := rfl
@[simp] theorem modOutChan_ringNext (l : Link) (f : OutChan → OutChan) : (s.modOutChan l f).ringNext = s.ringNext := rfl
@[simp] theorem modOutChan_segments (l : Link) (f : OutChan → OutChan) : (s.modOutChan l f).segments = s.segments := rfl
@[simp] theorem modOutChan_spaceFifo (l : Link) (f : OutChan → OutChan) : (s.modOutChan l f).spaceFifo = s.spaceFifo := rfl
@[simp] theorem modOutChan_driveChans (l : Link) (f : OutChan → OutChan) : (s.modOutChan l f).driveChans = s.driveChans := rfl
@[simp] theorem modOutChan_inChans (l : Link) (f : OutChan → OutChan) : (s.modOutChan l f).inChans = s.inChans := rfl
@[simp] theorem modOutChan_outChans (l : Link) (f : OutChan → OutChan) : (s.modOutChan l f).outChans = s.outChans.set l (f (s.outChans.get l)) := rfl
@[simp] theorem modOutChan_lib (l : Link) (f : OutChan → OutChan) : (s.modOutChan l f).lib = s.lib := rfl
@[simp] theorem modOutChan_agenda (l : Link) (f : OutChan → OutChan) : (s.modOutChan l f).agenda = s.agenda := rfl
@[simp] theorem modOutChan_freeCtr (l : Link) (f : OutChan → OutChan) : (s.modOutChan l f).freeCtr = s.freeCtr := rfl

@[simp] theorem modOp_pending (l : Link) (t : Nat) (f : Op → Op) : (s.modOp l t f).pending = s.pending := rfl
@[simp] theorem modOp_power (l : Link) (t : Nat) (f : Op → Op) : (s.modOp l t f).power = s.power := rfl
@[simp] theorem modOp_ref (l : Link) (t : Nat) (f : Op → Op) : (s.modOp l t f).ref = s.ref := rfl
@[simp] theorem modOp_cat (l : Link) (t : Nat) (f : Op → Op) : (s.modOp l t f).cat = s.cat := rfl
@[simp] theorem modOp_update (l : Link) (t : Nat) (f : Op → Op) : (s.modOp l t f).update = s.update := rfl
@[simp] theorem modOp_absentMode (l : Link) (t : Nat) (f : Op → Op) : (s.modOp l t f).absentMode = s.absentMode := rfl
@[simp] theorem modOp_reserved (l : Link) (t : Nat) (f : Op → Op) : (s.modOp l t f).reserved = s.reserved := rfl
@[simp] theorem modOp_clock (l : Link) (t : Nat) (f : Op → Op) : (s.modOp l t f).clock = s.clock := rfl
@[simp] theorem modOp_lines (l : Link) (t : Nat) (f : Op → Op) : (s.modOp l t f).lines = s.lines := rfl
@[simp] theorem modOp_settings (l : Link) (t : Nat) (f : Op → Op) : (s.modOp l t f).settings = s.settings := rfl
@[simp] theorem modOp_rights (l : Link) (t : Nat) (f : Op → Op) : (s.modOp l t f).rights = s.rights := rfl
@[simp] theorem modOp_links (l : Link) (t : Nat) (f : Op → Op) : (s.modOp l t f).links = s.links := rfl
@[simp] theorem modOp_startEvents (l : Link) (t : Nat) (f : Op → Op) : (s.modOp l t f).startEvents = s.startEvents := rfl
@[simp] theorem modOp_filings (l : Link) (t : Nat) (f : Op → Op) : (s.modOp l t f).filings = s.filings := rfl
@[simp] theorem modOp_commitQueue (l : Link) (t : Nat) (f : Op → Op) : (s.modOp l t f).commitQueue = s.commitQueue := rfl
@[simp] theorem modOp_lastFiling (l : Link) (t : Nat) (f : Op → Op) : (s.modOp l t f).lastFiling = s.lastFiling := rfl
@[simp] theorem modOp_filUse (l : Link) (t : Nat) (f : Op → Op) : (s.modOp l t f).filUse = s.filUse := rfl
@[simp] theorem modOp_mapReads (l : Link) (t : Nat) (f : Op → Op) : (s.modOp l t f).mapReads = s.mapReads := rfl
@[simp] theorem modOp_ops (l : Link) (t : Nat) (f : Op → Op) : (s.modOp l t f).ops = s.ops.map (fun o => if o.reply.link = l ∧ o.reply.tag = t then f o else o) := rfl
@[simp] theorem modOp_mem (l : Link) (t : Nat) (f : Op → Op) : (s.modOp l t f).mem = s.mem := rfl
@[simp] theorem modOp_ring (l : Link) (t : Nat) (f : Op → Op) : (s.modOp l t f).ring = s.ring := rfl
@[simp] theorem modOp_ringNext (l : Link) (t : Nat) (f : Op → Op) : (s.modOp l t f).ringNext = s.ringNext := rfl
@[simp] theorem modOp_segments (l : Link) (t : Nat) (f : Op → Op) : (s.modOp l t f).segments = s.segments := rfl
@[simp] theorem modOp_spaceFifo (l : Link) (t : Nat) (f : Op → Op) : (s.modOp l t f).spaceFifo = s.spaceFifo := rfl
@[simp] theorem modOp_driveChans (l : Link) (t : Nat) (f : Op → Op) : (s.modOp l t f).driveChans = s.driveChans := rfl
@[simp] theorem modOp_inChans (l : Link) (t : Nat) (f : Op → Op) : (s.modOp l t f).inChans = s.inChans := rfl
@[simp] theorem modOp_outChans (l : Link) (t : Nat) (f : Op → Op) : (s.modOp l t f).outChans = s.outChans := rfl
@[simp] theorem modOp_lib (l : Link) (t : Nat) (f : Op → Op) : (s.modOp l t f).lib = s.lib := rfl
@[simp] theorem modOp_agenda (l : Link) (t : Nat) (f : Op → Op) : (s.modOp l t f).agenda = s.agenda := rfl
@[simp] theorem modOp_freeCtr (l : Link) (t : Nat) (f : Op → Op) : (s.modOp l t f).freeCtr = s.freeCtr := rfl

@[simp] theorem modItem_pending (r : ItemRef) (f : Item → Item) : (s.modItem r f).pending = s.pending := rfl
@[simp] theorem modItem_power (r : ItemRef) (f : Item → Item) : (s.modItem r f).power = s.power := rfl
@[simp] theorem modItem_ref (r : ItemRef) (f : Item → Item) : (s.modItem r f).ref = s.ref := rfl
@[simp] theorem modItem_cat (r : ItemRef) (f : Item → Item) : (s.modItem r f).cat = s.cat := rfl
@[simp] theorem modItem_update (r : ItemRef) (f : Item → Item) : (s.modItem r f).update = s.update := rfl
@[simp] theorem modItem_absentMode (r : ItemRef) (f : Item → Item) : (s.modItem r f).absentMode = s.absentMode := rfl
@[simp] theorem modItem_reserved (r : ItemRef) (f : Item → Item) : (s.modItem r f).reserved = s.reserved := rfl
@[simp] theorem modItem_clock (r : ItemRef) (f : Item → Item) : (s.modItem r f).clock = s.clock := rfl
@[simp] theorem modItem_lines (r : ItemRef) (f : Item → Item) : (s.modItem r f).lines = s.lines := rfl
@[simp] theorem modItem_settings (r : ItemRef) (f : Item → Item) : (s.modItem r f).settings = s.settings := rfl
@[simp] theorem modItem_rights (r : ItemRef) (f : Item → Item) : (s.modItem r f).rights = s.rights := rfl
@[simp] theorem modItem_links (r : ItemRef) (f : Item → Item) : (s.modItem r f).links = s.links := rfl
@[simp] theorem modItem_startEvents (r : ItemRef) (f : Item → Item) : (s.modItem r f).startEvents = s.startEvents := rfl
@[simp] theorem modItem_filings (r : ItemRef) (f : Item → Item) : (s.modItem r f).filings = s.filings := rfl
@[simp] theorem modItem_commitQueue (r : ItemRef) (f : Item → Item) : (s.modItem r f).commitQueue = s.commitQueue := rfl
@[simp] theorem modItem_lastFiling (r : ItemRef) (f : Item → Item) : (s.modItem r f).lastFiling = s.lastFiling := rfl
@[simp] theorem modItem_filUse (r : ItemRef) (f : Item → Item) : (s.modItem r f).filUse = s.filUse := rfl
@[simp] theorem modItem_mapReads (r : ItemRef) (f : Item → Item) : (s.modItem r f).mapReads = s.mapReads := rfl
@[simp] theorem modItem_ops (r : ItemRef) (f : Item → Item) : (s.modItem r f).ops = s.ops.map (fun o => if o.reply.link = r.link ∧ o.reply.tag = r.tag then { o with items := o.items.modify (r.pos - 1) f } else o) := rfl
@[simp] theorem modItem_mem (r : ItemRef) (f : Item → Item) : (s.modItem r f).mem = s.mem := rfl
@[simp] theorem modItem_ring (r : ItemRef) (f : Item → Item) : (s.modItem r f).ring = s.ring := rfl
@[simp] theorem modItem_ringNext (r : ItemRef) (f : Item → Item) : (s.modItem r f).ringNext = s.ringNext := rfl
@[simp] theorem modItem_segments (r : ItemRef) (f : Item → Item) : (s.modItem r f).segments = s.segments := rfl
@[simp] theorem modItem_spaceFifo (r : ItemRef) (f : Item → Item) : (s.modItem r f).spaceFifo = s.spaceFifo := rfl
@[simp] theorem modItem_driveChans (r : ItemRef) (f : Item → Item) : (s.modItem r f).driveChans = s.driveChans := rfl
@[simp] theorem modItem_inChans (r : ItemRef) (f : Item → Item) : (s.modItem r f).inChans = s.inChans := rfl
@[simp] theorem modItem_outChans (r : ItemRef) (f : Item → Item) : (s.modItem r f).outChans = s.outChans := rfl
@[simp] theorem modItem_lib (r : ItemRef) (f : Item → Item) : (s.modItem r f).lib = s.lib := rfl
@[simp] theorem modItem_agenda (r : ItemRef) (f : Item → Item) : (s.modItem r f).agenda = s.agenda := rfl
@[simp] theorem modItem_freeCtr (r : ItemRef) (f : Item → Item) : (s.modItem r f).freeCtr = s.freeCtr := rfl

@[simp] theorem setPhase_pending (r : ItemRef) (p : Phase) : (s.setPhase r p).pending = s.pending := rfl
@[simp] theorem setPhase_power (r : ItemRef) (p : Phase) : (s.setPhase r p).power = s.power := rfl
@[simp] theorem setPhase_ref (r : ItemRef) (p : Phase) : (s.setPhase r p).ref = s.ref := rfl
@[simp] theorem setPhase_cat (r : ItemRef) (p : Phase) : (s.setPhase r p).cat = s.cat := rfl
@[simp] theorem setPhase_update (r : ItemRef) (p : Phase) : (s.setPhase r p).update = s.update := rfl
@[simp] theorem setPhase_absentMode (r : ItemRef) (p : Phase) : (s.setPhase r p).absentMode = s.absentMode := rfl
@[simp] theorem setPhase_reserved (r : ItemRef) (p : Phase) : (s.setPhase r p).reserved = s.reserved := rfl
@[simp] theorem setPhase_clock (r : ItemRef) (p : Phase) : (s.setPhase r p).clock = s.clock := rfl
@[simp] theorem setPhase_lines (r : ItemRef) (p : Phase) : (s.setPhase r p).lines = s.lines := rfl
@[simp] theorem setPhase_settings (r : ItemRef) (p : Phase) : (s.setPhase r p).settings = s.settings := rfl
@[simp] theorem setPhase_rights (r : ItemRef) (p : Phase) : (s.setPhase r p).rights = s.rights := rfl
@[simp] theorem setPhase_links (r : ItemRef) (p : Phase) : (s.setPhase r p).links = s.links := rfl
@[simp] theorem setPhase_startEvents (r : ItemRef) (p : Phase) : (s.setPhase r p).startEvents = s.startEvents := rfl
@[simp] theorem setPhase_filings (r : ItemRef) (p : Phase) : (s.setPhase r p).filings = s.filings := rfl
@[simp] theorem setPhase_commitQueue (r : ItemRef) (p : Phase) : (s.setPhase r p).commitQueue = s.commitQueue := rfl
@[simp] theorem setPhase_lastFiling (r : ItemRef) (p : Phase) : (s.setPhase r p).lastFiling = s.lastFiling := rfl
@[simp] theorem setPhase_filUse (r : ItemRef) (p : Phase) : (s.setPhase r p).filUse = s.filUse := rfl
@[simp] theorem setPhase_mapReads (r : ItemRef) (p : Phase) : (s.setPhase r p).mapReads = s.mapReads := rfl
@[simp] theorem setPhase_ops (r : ItemRef) (p : Phase) : (s.setPhase r p).ops = s.ops.map (fun o => if o.reply.link = r.link ∧ o.reply.tag = r.tag then { o with items := o.items.modify (r.pos - 1) (fun i => { i with phase := p }) } else o) := rfl
@[simp] theorem setPhase_mem (r : ItemRef) (p : Phase) : (s.setPhase r p).mem = s.mem := rfl
@[simp] theorem setPhase_ring (r : ItemRef) (p : Phase) : (s.setPhase r p).ring = s.ring := rfl
@[simp] theorem setPhase_ringNext (r : ItemRef) (p : Phase) : (s.setPhase r p).ringNext = s.ringNext := rfl
@[simp] theorem setPhase_segments (r : ItemRef) (p : Phase) : (s.setPhase r p).segments = s.segments := rfl
@[simp] theorem setPhase_spaceFifo (r : ItemRef) (p : Phase) : (s.setPhase r p).spaceFifo = s.spaceFifo := rfl
@[simp] theorem setPhase_driveChans (r : ItemRef) (p : Phase) : (s.setPhase r p).driveChans = s.driveChans := rfl
@[simp] theorem setPhase_inChans (r : ItemRef) (p : Phase) : (s.setPhase r p).inChans = s.inChans := rfl
@[simp] theorem setPhase_outChans (r : ItemRef) (p : Phase) : (s.setPhase r p).outChans = s.outChans := rfl
@[simp] theorem setPhase_lib (r : ItemRef) (p : Phase) : (s.setPhase r p).lib = s.lib := rfl
@[simp] theorem setPhase_agenda (r : ItemRef) (p : Phase) : (s.setPhase r p).agenda = s.agenda := rfl
@[simp] theorem setPhase_freeCtr (r : ItemRef) (p : Phase) : (s.setPhase r p).freeCtr = s.freeCtr := rfl

@[simp] theorem modSegment_pending (n : InstrNum) (f : Segment → Segment) : (s.modSegment n f).pending = s.pending := rfl
@[simp] theorem modSegment_power (n : InstrNum) (f : Segment → Segment) : (s.modSegment n f).power = s.power := rfl
@[simp] theorem modSegment_ref (n : InstrNum) (f : Segment → Segment) : (s.modSegment n f).ref = s.ref := rfl
@[simp] theorem modSegment_cat (n : InstrNum) (f : Segment → Segment) : (s.modSegment n f).cat = s.cat := rfl
@[simp] theorem modSegment_update (n : InstrNum) (f : Segment → Segment) : (s.modSegment n f).update = s.update := rfl
@[simp] theorem modSegment_absentMode (n : InstrNum) (f : Segment → Segment) : (s.modSegment n f).absentMode = s.absentMode := rfl
@[simp] theorem modSegment_reserved (n : InstrNum) (f : Segment → Segment) : (s.modSegment n f).reserved = s.reserved := rfl
@[simp] theorem modSegment_clock (n : InstrNum) (f : Segment → Segment) : (s.modSegment n f).clock = s.clock := rfl
@[simp] theorem modSegment_lines (n : InstrNum) (f : Segment → Segment) : (s.modSegment n f).lines = s.lines := rfl
@[simp] theorem modSegment_settings (n : InstrNum) (f : Segment → Segment) : (s.modSegment n f).settings = s.settings := rfl
@[simp] theorem modSegment_rights (n : InstrNum) (f : Segment → Segment) : (s.modSegment n f).rights = s.rights := rfl
@[simp] theorem modSegment_links (n : InstrNum) (f : Segment → Segment) : (s.modSegment n f).links = s.links := rfl
@[simp] theorem modSegment_startEvents (n : InstrNum) (f : Segment → Segment) : (s.modSegment n f).startEvents = s.startEvents := rfl
@[simp] theorem modSegment_filings (n : InstrNum) (f : Segment → Segment) : (s.modSegment n f).filings = s.filings := rfl
@[simp] theorem modSegment_commitQueue (n : InstrNum) (f : Segment → Segment) : (s.modSegment n f).commitQueue = s.commitQueue := rfl
@[simp] theorem modSegment_lastFiling (n : InstrNum) (f : Segment → Segment) : (s.modSegment n f).lastFiling = s.lastFiling := rfl
@[simp] theorem modSegment_filUse (n : InstrNum) (f : Segment → Segment) : (s.modSegment n f).filUse = s.filUse := rfl
@[simp] theorem modSegment_mapReads (n : InstrNum) (f : Segment → Segment) : (s.modSegment n f).mapReads = s.mapReads := rfl
@[simp] theorem modSegment_ops (n : InstrNum) (f : Segment → Segment) : (s.modSegment n f).ops = s.ops := rfl
@[simp] theorem modSegment_mem (n : InstrNum) (f : Segment → Segment) : (s.modSegment n f).mem = s.mem := rfl
@[simp] theorem modSegment_ring (n : InstrNum) (f : Segment → Segment) : (s.modSegment n f).ring = s.ring := rfl
@[simp] theorem modSegment_ringNext (n : InstrNum) (f : Segment → Segment) : (s.modSegment n f).ringNext = s.ringNext := rfl
@[simp] theorem modSegment_segments (n : InstrNum) (f : Segment → Segment) : (s.modSegment n f).segments = s.segments.map (fun g => if g.inst = n then f g else g) := rfl
@[simp] theorem modSegment_spaceFifo (n : InstrNum) (f : Segment → Segment) : (s.modSegment n f).spaceFifo = s.spaceFifo := rfl
@[simp] theorem modSegment_driveChans (n : InstrNum) (f : Segment → Segment) : (s.modSegment n f).driveChans = s.driveChans := rfl
@[simp] theorem modSegment_inChans (n : InstrNum) (f : Segment → Segment) : (s.modSegment n f).inChans = s.inChans := rfl
@[simp] theorem modSegment_outChans (n : InstrNum) (f : Segment → Segment) : (s.modSegment n f).outChans = s.outChans := rfl
@[simp] theorem modSegment_lib (n : InstrNum) (f : Segment → Segment) : (s.modSegment n f).lib = s.lib := rfl
@[simp] theorem modSegment_agenda (n : InstrNum) (f : Segment → Segment) : (s.modSegment n f).agenda = s.agenda := rfl
@[simp] theorem modSegment_freeCtr (n : InstrNum) (f : Segment → Segment) : (s.modSegment n f).freeCtr = s.freeCtr := rfl

@[simp] theorem modPlatter_pending (id : Nat) (f : Platter → Platter) : (s.modPlatter id f).pending = s.pending := rfl
@[simp] theorem modPlatter_power (id : Nat) (f : Platter → Platter) : (s.modPlatter id f).power = s.power := rfl
@[simp] theorem modPlatter_ref (id : Nat) (f : Platter → Platter) : (s.modPlatter id f).ref = s.ref := rfl
@[simp] theorem modPlatter_cat (id : Nat) (f : Platter → Platter) : (s.modPlatter id f).cat = { s.cat with platters := updateKeyed Platter.id id f s.cat.platters } := rfl
@[simp] theorem modPlatter_update (id : Nat) (f : Platter → Platter) : (s.modPlatter id f).update = s.update := rfl
@[simp] theorem modPlatter_absentMode (id : Nat) (f : Platter → Platter) : (s.modPlatter id f).absentMode = s.absentMode := rfl
@[simp] theorem modPlatter_reserved (id : Nat) (f : Platter → Platter) : (s.modPlatter id f).reserved = s.reserved := rfl
@[simp] theorem modPlatter_clock (id : Nat) (f : Platter → Platter) : (s.modPlatter id f).clock = s.clock := rfl
@[simp] theorem modPlatter_lines (id : Nat) (f : Platter → Platter) : (s.modPlatter id f).lines = s.lines := rfl
@[simp] theorem modPlatter_settings (id : Nat) (f : Platter → Platter) : (s.modPlatter id f).settings = s.settings := rfl
@[simp] theorem modPlatter_rights (id : Nat) (f : Platter → Platter) : (s.modPlatter id f).rights = s.rights := rfl
@[simp] theorem modPlatter_links (id : Nat) (f : Platter → Platter) : (s.modPlatter id f).links = s.links := rfl
@[simp] theorem modPlatter_startEvents (id : Nat) (f : Platter → Platter) : (s.modPlatter id f).startEvents = s.startEvents := rfl
@[simp] theorem modPlatter_filings (id : Nat) (f : Platter → Platter) : (s.modPlatter id f).filings = s.filings := rfl
@[simp] theorem modPlatter_commitQueue (id : Nat) (f : Platter → Platter) : (s.modPlatter id f).commitQueue = s.commitQueue := rfl
@[simp] theorem modPlatter_lastFiling (id : Nat) (f : Platter → Platter) : (s.modPlatter id f).lastFiling = s.lastFiling := rfl
@[simp] theorem modPlatter_filUse (id : Nat) (f : Platter → Platter) : (s.modPlatter id f).filUse = s.filUse := rfl
@[simp] theorem modPlatter_mapReads (id : Nat) (f : Platter → Platter) : (s.modPlatter id f).mapReads = s.mapReads := rfl
@[simp] theorem modPlatter_ops (id : Nat) (f : Platter → Platter) : (s.modPlatter id f).ops = s.ops := rfl
@[simp] theorem modPlatter_mem (id : Nat) (f : Platter → Platter) : (s.modPlatter id f).mem = s.mem := rfl
@[simp] theorem modPlatter_ring (id : Nat) (f : Platter → Platter) : (s.modPlatter id f).ring = s.ring := rfl
@[simp] theorem modPlatter_ringNext (id : Nat) (f : Platter → Platter) : (s.modPlatter id f).ringNext = s.ringNext := rfl
@[simp] theorem modPlatter_segments (id : Nat) (f : Platter → Platter) : (s.modPlatter id f).segments = s.segments := rfl
@[simp] theorem modPlatter_spaceFifo (id : Nat) (f : Platter → Platter) : (s.modPlatter id f).spaceFifo = s.spaceFifo := rfl
@[simp] theorem modPlatter_driveChans (id : Nat) (f : Platter → Platter) : (s.modPlatter id f).driveChans = s.driveChans := rfl
@[simp] theorem modPlatter_inChans (id : Nat) (f : Platter → Platter) : (s.modPlatter id f).inChans = s.inChans := rfl
@[simp] theorem modPlatter_outChans (id : Nat) (f : Platter → Platter) : (s.modPlatter id f).outChans = s.outChans := rfl
@[simp] theorem modPlatter_lib (id : Nat) (f : Platter → Platter) : (s.modPlatter id f).lib = s.lib := rfl
@[simp] theorem modPlatter_agenda (id : Nat) (f : Platter → Platter) : (s.modPlatter id f).agenda = s.agenda := rfl
@[simp] theorem modPlatter_freeCtr (id : Nat) (f : Platter → Platter) : (s.modPlatter id f).freeCtr = s.freeCtr := rfl

@[simp] theorem useFree_pending : (s.useFree).pending = s.pending := rfl
@[simp] theorem useFree_power : (s.useFree).power = s.power := rfl
@[simp] theorem useFree_ref : (s.useFree).ref = s.ref := rfl
@[simp] theorem useFree_cat : (s.useFree).cat = s.cat := rfl
@[simp] theorem useFree_update : (s.useFree).update = s.update := rfl
@[simp] theorem useFree_absentMode : (s.useFree).absentMode = s.absentMode := rfl
@[simp] theorem useFree_reserved : (s.useFree).reserved = s.reserved := rfl
@[simp] theorem useFree_clock : (s.useFree).clock = s.clock := rfl
@[simp] theorem useFree_lines : (s.useFree).lines = s.lines := rfl
@[simp] theorem useFree_settings : (s.useFree).settings = s.settings := rfl
@[simp] theorem useFree_rights : (s.useFree).rights = s.rights := rfl
@[simp] theorem useFree_links : (s.useFree).links = s.links := rfl
@[simp] theorem useFree_startEvents : (s.useFree).startEvents = s.startEvents := rfl
@[simp] theorem useFree_filings : (s.useFree).filings = s.filings := rfl
@[simp] theorem useFree_commitQueue : (s.useFree).commitQueue = s.commitQueue := rfl
@[simp] theorem useFree_lastFiling : (s.useFree).lastFiling = s.lastFiling := rfl
@[simp] theorem useFree_filUse : (s.useFree).filUse = s.filUse := rfl
@[simp] theorem useFree_mapReads : (s.useFree).mapReads = s.mapReads := rfl
@[simp] theorem useFree_ops : (s.useFree).ops = s.ops := rfl
@[simp] theorem useFree_mem : (s.useFree).mem = s.mem := rfl
@[simp] theorem useFree_ring : (s.useFree).ring = s.ring := rfl
@[simp] theorem useFree_ringNext : (s.useFree).ringNext = s.ringNext := rfl
@[simp] theorem useFree_segments : (s.useFree).segments = s.segments := rfl
@[simp] theorem useFree_spaceFifo : (s.useFree).spaceFifo = s.spaceFifo := rfl
@[simp] theorem useFree_driveChans : (s.useFree).driveChans = s.driveChans := rfl
@[simp] theorem useFree_inChans : (s.useFree).inChans = s.inChans := rfl
@[simp] theorem useFree_outChans : (s.useFree).outChans = s.outChans := rfl
@[simp] theorem useFree_lib : (s.useFree).lib = s.lib := rfl
@[simp] theorem useFree_agenda : (s.useFree).agenda = s.agenda := rfl
@[simp] theorem useFree_freeCtr : (s.useFree).freeCtr = s.freeCtr + 1 := rfl

end Machine.State

end Sys2Proof
end

