-- ==== Sys2Proof/Laws/Calm.lean ====
section
/-!
SUPPORT. What the units' work leaves alone: the queue of commands, the power, the reference, the update record, the mode, the clock, the lines, the
settings, the rights and buffer memory. One lemma for each operation that changes none of them.
-/
namespace Sys2Proof.Machine
set_option Elab.async false

/-- The parts of the state the units' work on one another leaves alone. -/
structure Calm where
  pending : List Instr
  power : Power
  ref : Nat
  update : UpdateRecord
  absentMode : Bool
  clock : Clock
  lines : Four Line
  settings : Settings
  rights : Three (BitVec 8)
  mem : List Host.Cell

/-- Those parts of a state. -/
def State.calm (s : State) : Calm :=
  { pending := s.pending,
    power := s.power,
    ref := s.ref,
    update := s.update,
    absentMode := s.absentMode,
    clock := s.clock,
    lines := s.lines,
    settings := s.settings,
    rights := s.rights,
    mem := s.mem }

theorem State.calm_iff {s t : State} : s.calm = t.calm ↔
    s.pending = t.pending ∧ s.power = t.power ∧ s.ref = t.ref ∧ s.update = t.update ∧ s.absentMode = t.absentMode ∧ s.clock = t.clock ∧ s.lines = t.lines ∧ s.settings = t.settings ∧ s.rights = t.rights ∧ s.mem = t.mem := by
  simp [State.calm]

/-- A chain of changes that leave them alone leaves them alone. -/
theorem State.foldl_calm {α : Type} (f : State → α → State) (hf : ∀ s a, (f s a).calm = s.calm) (l : List α) (s : State) :
    (l.foldl f s).calm = s.calm := by
  induction l generalizing s with
  | nil => rfl
  | cons a l ih => exact (ih _).trans (hf s a)

@[simp] theorem State.calm_mk pending power ref cat update absentMode reserved clock lines settings rights links startEvents filings commitQueue lastFiling filUse mapReads ops mem ring ringNext segments spaceFifo driveChans inChans outChans lib agenda freeCtr :
    State.calm (.mk pending power ref cat update absentMode reserved clock lines settings rights links startEvents filings commitQueue lastFiling filUse mapReads ops mem ring ringNext segments spaceFifo driveChans inChans outChans lib agenda freeCtr) =
      Calm.mk pending power ref update absentMode clock lines settings rights mem := rfl

@[simp] theorem Calm.eta (s : State) : Calm.mk s.pending s.power s.ref s.update s.absentMode s.clock s.lines s.settings s.rights s.mem = s.calm := rfl

@[simp] theorem State.later_calm (s : State) (ts : List Task) : (State.later s ts).calm = s.calm := rfl

@[simp] theorem State.modCat_calm (s : State) (f : CatMem → CatMem) : (State.modCat s f).calm = s.calm := rfl

@[simp] theorem State.modLink_calm (s : State) (l : Link) (f : LinkRec → LinkRec) : (State.modLink s l f).calm = s.calm := rfl

@[simp] theorem State.setFiling_calm (s : State) (q : FSlot) (f : Option Filing) : (State.setFiling s q f).calm = s.calm := rfl

@[simp] theorem State.modFiling_calm (s : State) (q : FSlot) (f : Filing → Filing) : (State.modFiling s q f).calm = s.calm := rfl

@[simp] theorem State.modCommit_calm (s : State) (q : FSlot) (f : Commit → Commit) : (State.modCommit s q f).calm = s.calm := rfl

@[simp] theorem State.modLib_calm (s : State) (f : Library → Library) : (State.modLib s f).calm = s.calm := rfl

@[simp] theorem State.modDrive_calm (s : State) (d : DriveNo) (f : Drive → Drive) : (State.modDrive s d f).calm = s.calm := rfl

@[simp] theorem State.modPicker_calm (s : State) (f : Picker → Picker) : (State.modPicker s f).calm = s.calm := rfl

@[simp] theorem State.modDriveChan_calm (s : State) (d : DriveNo) (f : DriveChan → DriveChan) : (State.modDriveChan s d f).calm = s.calm := rfl

@[simp] theorem State.setInChan_calm (s : State) (l : Link) (c : InChan) : (State.setInChan s l c).calm = s.calm := rfl

@[simp] theorem State.modOutChan_calm (s : State) (l : Link) (f : OutChan → OutChan) : (State.modOutChan s l f).calm = s.calm := rfl

@[simp] theorem State.modOp_calm (s : State) (l : Link) (t : Nat) (f : Op → Op) : (State.modOp s l t f).calm = s.calm := rfl

@[simp] theorem State.modItem_calm (s : State) (r : ItemRef) (f : Item → Item) : (State.modItem s r f).calm = s.calm := rfl

@[simp] theorem State.setPhase_calm (s : State) (r : ItemRef) (p : Phase) : (State.setPhase s r p).calm = s.calm := rfl

@[simp] theorem State.modSegment_calm (s : State) (n : InstrNum) (f : Segment → Segment) : (State.modSegment s n f).calm = s.calm := rfl

@[simp] theorem State.modPlatter_calm (s : State) (id : Nat) (f : Platter → Platter) : (State.modPlatter s id f).calm = s.calm := rfl

@[simp] theorem State.useFree_calm (s : State) : (State.useFree s).calm = s.calm := rfl

@[simp] theorem State.post_calm (s : State) (e : Event) : (State.post s e).calm = s.calm := by
  simp only [State.post]
  repeat' split
  all_goals first | (simp; done) | skip

@[simp] theorem State.respond_calm (s : State) (r : Reply) (st : Status) (b : Body) : (State.respond s r st b).calm = s.calm := by
  simp only [State.respond]
  repeat' split
  all_goals first | (simp; done) | skip

@[simp] theorem State.answer_calm (s : State) (r : Reply) (st : Status) : (State.answer s r st).calm = s.calm := by
  simp only [State.answer]
  repeat' split
  all_goals first | (simp; done) | skip

@[simp] theorem State.answerOpt_calm (s : State) (r : Option Reply) (st : Status) (b : Body) : (State.answerOpt s r st b).calm = s.calm := by
  simp only [State.answerOpt]
  repeat' split
  all_goals first | (simp; done) | skip

@[simp] theorem State.closePeriod_calm (s : State) : (State.closePeriod s).calm = s.calm := by
  simp only [State.closePeriod]
  repeat' split
  all_goals first | (simp; done) | skip

@[simp] theorem State.testClose_calm (s : State) : (State.testClose s).calm = s.calm := by
  simp only [State.testClose]
  repeat' split
  all_goals first | (simp; done) | skip

@[simp] theorem State.releaseInst_calm (s : State) (n : InstrNum) (q : FSlot) : (State.releaseInst s n q).calm = s.calm := by
  simp only [State.releaseInst]
  repeat' split
  all_goals first | (simp; done) | skip

@[simp] theorem State.postLow_calm (s : State) : (State.postLow s).calm = s.calm := by
  simp only [State.postLow]
  repeat' split
  all_goals first | (simp; done) | skip

@[simp] theorem State.issue_calm (s : State) (n : InstrNum) (t : Stamp) (src : Source) : (State.issue s n t src).calm = s.calm := by
  simp only [State.issue]
  repeat' split
  all_goals first | (simp; done) | skip

@[simp] theorem handleLookup_calm (s : State) (r : Reply) (n : InstrNum) : (handleLookup s r n).calm = s.calm := by
  simp only [handleLookup]
  repeat' split
  all_goals first | (simp; done) | skip

@[simp] theorem handlePendingList_calm (s : State) (r : Reply) (after : OptField) : (handlePendingList s r after).calm = s.calm := by
  simp only [handlePendingList]
  repeat' split
  all_goals first | (simp; done) | skip

@[simp] theorem handleFolioSearch_calm (s : State) (r : Reply) (folio : Nat) (after : OptField) (mode : Nat) : (handleFolioSearch s r folio after mode).calm = s.calm := by
  simp only [handleFolioSearch]
  repeat' split
  all_goals first | (simp; done) | skip

@[simp] theorem handleRestore_calm (s : State) (r : Reply) (p : RestoreParams) : (handleRestore s r p).calm = s.calm := by
  simp only [handleRestore]
  repeat' split
  all_goals first | (simp; done) | skip

@[simp] theorem handleClockRead_calm (s : State) (r : Reply) : (handleClockRead s r).calm = s.calm := by
  simp only [handleClockRead]
  repeat' split
  all_goals first | (simp; done) | skip

@[simp] theorem handleCloseTargetSet_calm (s : State) (r : Reply) (target mode value : Nat) : (handleCloseTargetSet s r target mode value).calm = s.calm := by
  simp only [handleCloseTargetSet]
  repeat' split
  all_goals first | (simp; done) | skip

@[simp] theorem handleLodge_calm (s : State) (r : Reply) : (handleLodge s r).calm = s.calm := by
  simp only [handleLodge]
  repeat' split
  all_goals first | (simp; done) | skip

@[simp] theorem State.answerSchedules_calm (s : State) (r : Reply) : (State.answerSchedules s r).calm = s.calm := by
  simp only [State.answerSchedules]
  repeat' split
  all_goals first | (simp; done) | skip

@[simp] theorem handleScheduleSet_calm (s : State) (r : Reply) (f : ScheduleForm) (sched : Option Schedule) : (handleScheduleSet s r f sched).calm = s.calm := by
  simp only [handleScheduleSet]
  repeat' split
  all_goals first | (simp; done) | skip

@[simp] theorem State.answerAccount_calm (s : State) (r : Reply) (code : Nat) : (State.answerAccount s r code).calm = s.calm := by
  simp only [State.answerAccount]
  repeat' split
  all_goals first | (simp; done) | skip

@[simp] theorem accountCreate_calm (s : State) (r : Reply) (p : AccountParams) : (accountCreate s r p).calm = s.calm := by
  simp only [accountCreate]
  repeat' split
  all_goals first | (simp; done) | skip

@[simp] theorem accountChange_calm (s : State) (r : Reply) (p : AccountParams) : (accountChange s r p).calm = s.calm := by
  simp only [accountChange]
  repeat' split
  all_goals first | (simp; done) | skip

@[simp] theorem accountReset_calm (s : State) (r : Reply) (p : AccountParams) : (accountReset s r p).calm = s.calm := by
  simp only [accountReset]
  repeat' split
  all_goals first | (simp; done) | skip

@[simp] theorem accountDelete_calm (s : State) (r : Reply) (p : AccountParams) : (accountDelete s r p).calm = s.calm := by
  simp only [accountDelete]
  repeat' split
  all_goals first | (simp; done) | skip

@[simp] theorem handleAccountSet_calm (s : State) (r : Reply) (act : AccountAction) (p : AccountParams) : (handleAccountSet s r act p).calm = s.calm := by
  simp only [handleAccountSet]
  repeat' split
  all_goals first | (simp; done) | skip

@[simp] theorem handleAccountRead_calm (s : State) (r : Reply) (after : OptField) : (handleAccountRead s r after).calm = s.calm := by
  simp only [handleAccountRead]
  repeat' split
  all_goals first | (simp; done) | skip

@[simp] theorem handlePeriodTake_calm (s : State) (r : Reply) (after : OptField) : (handlePeriodTake s r after).calm = s.calm := by
  simp only [handlePeriodTake]
  repeat' split
  all_goals first | (simp; done) | skip

@[simp] theorem handlePeriodClear_calm (s : State) (r : Reply) (period : Nat) : (handlePeriodClear s r period).calm = s.calm := by
  simp only [handlePeriodClear]
  repeat' split
  all_goals first | (simp; done) | skip

@[simp] theorem State.appendRing_calm (s : State) (q : FSlot) (ext : Nat) : (State.appendRing s q ext).calm = s.calm := by
  simp only [State.appendRing]
  repeat' split
  all_goals first | (simp; done) | skip

@[simp] theorem State.markSlot_calm (s : State) (q : FSlot) (m : Mark) : (State.markSlot s q m).calm = s.calm := by
  simp only [State.markSlot]
  repeat' split
  all_goals first | (simp; done) | skip

@[simp] theorem State.touchSegment_calm (s : State) (n : InstrNum) : (State.touchSegment s n).calm = s.calm := by
  simp only [State.touchSegment]
  repeat' split
  all_goals first | (simp; done) | skip

@[simp] theorem State.joinSegment_calm (s : State) (r : ItemRef) (n : InstrNum) : (State.joinSegment s r n).calm = s.calm := by
  simp only [State.joinSegment]
  repeat' split
  all_goals first | (simp; done) | skip

@[simp] theorem State.createSegment_calm (s : State) (r : ItemRef) (n : InstrNum) (first len : Nat) : (State.createSegment s r n first len).calm = s.calm := by
  simp only [State.createSegment]
  repeat' split
  all_goals first
    | (simp; done)
    | (try simp only [State.pruneDemands_calm]
       refine (State.foldl_calm _ ?_ _ _).trans ?_
       · intro s a
         try dsimp only
         (repeat' split) <;> simp
       · simp)

@[simp] theorem State.dropSegment_calm (s : State) (n : InstrNum) : (State.dropSegment s n).calm = s.calm := by
  simp only [State.dropSegment]
  repeat' split
  all_goals first | (simp; done) | skip

@[simp] theorem State.idleOut_calm (s : State) (l : Link) : (State.idleOut s l).calm = s.calm := by
  simp only [State.idleOut]
  repeat' split
  all_goals first | (simp; done) | skip

@[simp] theorem State.leaveSegment_calm (s : State) (r : ItemRef) (g : Segment) : (State.leaveSegment s r g).calm = s.calm := by
  simp only [State.leaveSegment]
  repeat' split
  all_goals first | (simp; done) | skip

@[simp] theorem State.setLoc_calm (s : State) (id : Nat) (l : PlatterLoc) : (State.setLoc s id l).calm = s.calm := by
  simp only [State.setLoc]
  repeat' split
  all_goals first | (simp; done) | skip

@[simp] theorem State.modSide_calm (s : State) (ps : PlatterSide) (f : SideRec → SideRec) : (State.modSide s ps f).calm = s.calm := by
  simp only [State.modSide]
  repeat' split
  all_goals first | (simp; done) | skip

@[simp] theorem State.setSide_calm (s : State) (ps : PlatterSide) (st : SideState) : (State.setSide s ps st).calm = s.calm := by
  simp only [State.setSide]
  repeat' split
  all_goals first | (simp; done) | skip

@[simp] theorem State.command_calm (s : State) (d : DriveNo) (c : DriveCmd) : (State.command s d c).calm = s.calm := by
  simp only [State.command]
  repeat' split
  all_goals first | (simp; done) | skip

@[simp] theorem State.endCmd_calm (s : State) (d : DriveNo) : (State.endCmd s d).calm = s.calm := by
  simp only [State.endCmd]
  repeat' split
  all_goals first | (simp; done) | skip

@[simp] theorem State.idleChan_calm (s : State) (d : DriveNo) : (State.idleChan s d).calm = s.calm := by
  simp only [State.idleChan]
  repeat' split
  all_goals first | (simp; done) | skip

@[simp] theorem State.appendUse_calm (s : State) (d : DriveNo) (u : Use) : (State.appendUse s d u).calm = s.calm := by
  simp only [State.appendUse]
  repeat' split
  all_goals first | (simp; done) | skip

@[simp] theorem State.removeUse_calm (s : State) (d : DriveNo) (u : Use) : (State.removeUse s d u).calm = s.calm := by
  simp only [State.removeUse]
  repeat' split
  all_goals first | (simp; done) | skip

@[simp] theorem State.handOver_calm (s : State) (d : DriveNo) (w : Waiter) : (State.handOver s d w).calm = s.calm := by
  simp only [State.handOver]
  repeat' split
  all_goals first | (simp; done) | skip

@[simp] theorem State.modDemands_calm (s : State) (f : List Demand → List Demand) : (State.modDemands s f).calm = s.calm := by
  simp only [State.modDemands]
  repeat' split
  all_goals first | (simp; done) | skip

@[simp] theorem State.modDemand_calm (s : State) (ps : PlatterSide) (f : Demand → Demand) : (State.modDemand s ps f).calm = s.calm := by
  simp only [State.modDemand]
  repeat' split
  all_goals first | (simp; done) | skip

@[simp] theorem State.dropDemand_calm (s : State) (ps : PlatterSide) : (State.dropDemand s ps).calm = s.calm := by
  simp only [State.dropDemand]
  repeat' split
  all_goals first | (simp; done) | skip

@[simp] theorem State.joinDemand_calm (s : State) (q : Demand) (w : Waiter) : (State.joinDemand s q w).calm = s.calm := by
  simp only [State.joinDemand]
  repeat' split
  all_goals first | (simp; done) | skip

@[simp] theorem State.newDemand_calm (s : State) (ps : PlatterSide) (w : Waiter) : (State.newDemand s ps w).calm = s.calm := by
  simp only [State.newDemand]
  repeat' split
  all_goals first | (simp; done) | skip

@[simp] theorem State.submit_calm (s : State) (ps : PlatterSide) (w : Waiter) : (State.submit s ps w).calm = s.calm := by
  simp only [State.submit]
  repeat' split
  all_goals first | (simp; done) | skip

@[simp] theorem State.pruneDemands_calm (s : State) : (State.pruneDemands s).calm = s.calm := by
  simp only [State.pruneDemands]
  repeat' split
  all_goals first | (simp; done) | skip

@[simp] theorem State.leaveDemands_calm (s : State) (r : ItemRef) : (State.leaveDemands s r).calm = s.calm := by
  simp only [State.leaveDemands]
  repeat' split
  all_goals first | (simp; done) | skip

@[simp] theorem State.leaveFiling_calm (s : State) : (State.leaveFiling s).calm = s.calm := by
  simp only [State.leaveFiling]
  repeat' split
  all_goals first | (simp; done) | skip

@[simp] theorem State.meet_calm (s : State) (d : DriveNo) (q : Demand) : (State.meet s d q).calm = s.calm :=
  (State.foldl_calm _ (fun s w => by simp) _ _).trans (by simp)

@[simp] theorem State.meetMounted_calm (s : State) (d : DriveNo) : (State.meetMounted s d).calm = s.calm := by
  simp only [State.meetMounted]
  repeat' split
  all_goals first
    | (simp; done)
    | (try simp only [State.pruneDemands_calm]
       refine (State.foldl_calm _ ?_ _ _).trans ?_
       · intro s a
         try dsimp only
         (repeat' split) <;> simp
       · simp)

@[simp] theorem State.endFilUse_calm (s : State) (d : DriveNo) : (State.endFilUse s d).calm = s.calm := by
  simp only [State.endFilUse]
  repeat' split
  all_goals first | (simp; done) | skip

@[simp] theorem State.endDemands_calm (s : State) (platter : Nat) (st : Status) : (State.endDemands s platter st).calm = s.calm := by
  simp only [State.endDemands]
  repeat' split
  all_goals first
    | (simp; done)
    | (try simp only [State.pruneDemands_calm]
       refine (State.foldl_calm _ ?_ _ _).trans ?_
       · intro s a
         try dsimp only
         (repeat' split) <;> simp
       · simp)

@[simp] theorem State.givePicker_calm (s : State) (src : Pos) (dst : Option Pos) (flip : Bool) (p : Piece) : (State.givePicker s src dst flip p).calm = s.calm := by
  simp only [State.givePicker]
  repeat' split
  all_goals first | (simp; done) | skip

@[simp] theorem State.waitAtDrive_calm (s : State) (d : DriveNo) (dst : Option Pos) (flip : Bool) (p : Piece) : (State.waitAtDrive s d dst flip p).calm = s.calm := by
  simp only [State.waitAtDrive]
  repeat' split
  all_goals first | (simp; done) | skip

@[simp] theorem State.carry_calm (s : State) (id : Nat) : (State.carry s id).calm = s.calm := by
  simp only [State.carry]
  repeat' split
  all_goals first | (simp; done) | skip

@[simp] theorem State.clearMove_calm (s : State) : (State.clearMove s).calm = s.calm := by
  simp only [State.clearMove]
  repeat' split
  all_goals first | (simp; done) | skip

@[simp] theorem State.startSweep_calm (s : State) : (State.startSweep s).calm = s.calm := by
  simp only [State.startSweep]
  repeat' split
  all_goals first | (simp; done) | skip

@[simp] theorem State.endPiece_calm (s : State) : (State.endPiece s).calm = s.calm := by
  simp only [State.endPiece]
  repeat' split
  all_goals first | (simp; done) | skip

@[simp] theorem State.queueReturn_calm (s : State) (d : DriveNo) : (State.queueReturn s d).calm = s.calm := by
  simp only [State.queueReturn]
  repeat' split
  all_goals first | (simp; done) | skip

@[simp] theorem State.unmount_calm (s : State) (ps : PlatterSide) : (State.unmount s ps).calm = s.calm := by
  simp only [State.unmount]
  repeat' split
  all_goals first | (simp; done) | skip

@[simp] theorem State.moveHome_calm (s : State) (d : DriveNo) (id n : Nat) (sd : Side) (p : Piece) : (State.moveHome s d id n sd p).calm = s.calm := by
  simp only [State.moveHome]
  repeat' split
  all_goals first | (simp; done) | skip

@[simp] theorem State.mountFetch_calm (s : State) (d : DriveNo) (ps : PlatterSide) : (State.mountFetch s d ps).calm = s.calm := by
  simp only [State.mountFetch]
  repeat' split
  all_goals first | (simp; done) | skip

@[simp] theorem State.grant_calm (s : State) (q : Demand) (d : DriveNo) : (State.grant s q d).calm = s.calm := by
  simp only [State.grant]
  repeat' split
  all_goals first | (simp; done) | skip

@[simp] theorem State.arbiter_calm (s : State) : (State.arbiter s).calm = s.calm := by
  simp only [State.arbiter]
  repeat' split
  all_goals first | (simp; done) | skip

@[simp] theorem State.answerReset_calm (s : State) (d : DriveNo) (st : Status) : (State.answerReset s d st).calm = s.calm := by
  simp only [State.answerReset]
  repeat' split
  all_goals first | (simp; done) | skip

@[simp] theorem State.answerReturn_calm (s : State) (d : DriveNo) (st : Status) : (State.answerReturn s d st).calm = s.calm := by
  simp only [State.answerReturn]
  repeat' split
  all_goals first | (simp; done) | skip

@[simp] theorem State.homeMove_calm (s : State) (d : DriveNo) (new : Option Nat) : (State.homeMove s d new).calm = s.calm := by
  simp only [State.homeMove]
  repeat' split
  all_goals first | (simp; done) | skip

@[simp] theorem State.startReturn_calm (s : State) (d : DriveNo) : (State.startReturn s d).calm = s.calm := by
  simp only [State.startReturn]
  repeat' split
  all_goals first | (simp; done) | skip

@[simp] theorem State.importEnds_calm (s : State) (r : Option Reply) (st : Status) (id slot : Nat) : (State.importEnds s r st id slot).calm = s.calm := by
  simp only [State.importEnds]
  repeat' split
  all_goals first | (simp; done) | skip

@[simp] theorem State.askImport_calm (s : State) (r : Option Reply) : (State.askImport s r).calm = s.calm := by
  simp only [State.askImport]
  repeat' split
  all_goals first | (simp; done) | skip

@[simp] theorem State.serveMail_calm (s : State) : (State.serveMail s).calm = s.calm := by
  simp only [State.serveMail]
  repeat' split
  all_goals first | (simp; done) | skip

@[simp] theorem State.startMedia_calm (s : State) (m : MediaReq) : (State.startMedia s m).calm = s.calm := by
  simp only [State.startMedia]
  repeat' split
  all_goals first | (simp; done) | skip

@[simp] theorem State.pickerNext_calm (s : State) : (State.pickerNext s).calm = s.calm := by
  simp only [State.pickerNext]
  repeat' split
  all_goals first | (simp; done) | skip

@[simp] theorem handleImport_calm (s : State) (r : Reply) : (handleImport s r).calm = s.calm := by
  simp only [handleImport]
  repeat' split
  all_goals first | (simp; done) | skip

@[simp] theorem handleExport_calm (s : State) (r : Reply) (id : Nat) : (handleExport s r id).calm = s.calm := by
  simp only [handleExport]
  repeat' split
  all_goals first | (simp; done) | skip

@[simp] theorem handleSubstitute_calm (s : State) (r : Reply) (old new : Nat) : (handleSubstitute s r old new).calm = s.calm := by
  simp only [handleSubstitute]
  repeat' split
  all_goals first | (simp; done) | skip

@[simp] theorem handleDriveReset_calm (s : State) (r : Reply) (n : Nat) : (handleDriveReset s r n).calm = s.calm := by
  simp only [handleDriveReset]
  repeat' split
  all_goals first | (simp; done) | skip

@[simp] theorem State.demandSide_calm (s : State) (q : FSlot) (ps : PlatterSide) : (State.demandSide s q ps).calm = s.calm := by
  simp only [State.demandSide]
  repeat' split
  all_goals first | (simp; done) | skip

@[simp] theorem State.headTurn_calm (s : State) : (State.headTurn s).calm = s.calm := by
  simp only [State.headTurn]
  repeat' split
  all_goals first | (simp; done) | skip

@[simp] theorem State.sideSearch_calm (s : State) : (State.sideSearch s).calm = s.calm := by
  simp only [State.sideSearch]
  repeat' split
  all_goals first | (simp; done) | skip

@[simp] theorem State.mediaRetry_calm (s : State) : (State.mediaRetry s).calm = s.calm := by
  simp only [State.mediaRetry]
  repeat' split
  all_goals first | (simp; done) | skip

@[simp] theorem State.freeSlot_calm (s : State) (q : FSlot) : (State.freeSlot s q).calm = s.calm := by
  simp only [State.freeSlot]
  repeat' split
  all_goals first | (simp; done) | skip

@[simp] theorem State.discardSlot_calm (s : State) (q : FSlot) (n : InstrNum) : (State.discardSlot s q n).calm = s.calm := by
  simp only [State.discardSlot]
  repeat' split
  all_goals first | (simp; done) | skip

@[simp] theorem State.dropUse_calm (s : State) (q : FSlot) : (State.dropUse s q).calm = s.calm := by
  simp only [State.dropUse]
  repeat' split
  all_goals first | (simp; done) | skip

@[simp] theorem State.abandonSlot_calm (s : State) (q : FSlot) : (State.abandonSlot s q).calm = s.calm := by
  simp only [State.abandonSlot]
  repeat' split
  all_goals first | (simp; done) | skip

@[simp] theorem State.pass_calm (s : State) (d : DriveNo) (p : Passed) : (State.pass s d p).calm = s.calm := rfl

@[simp] theorem State.setChan_calm (s : State) (d : DriveNo) (c : Chan) : (State.setChan s d c).calm = s.calm := by
  simp only [State.setChan]
  repeat' split
  all_goals first | (simp; done) | skip

@[simp] theorem State.stage_calm (s : State) (g : FilStage) : (State.stage s g).calm = s.calm := by
  simp only [State.stage]
  repeat' split
  all_goals first | (simp; done) | skip

@[simp] theorem State.startCheck_calm (s : State) (d : DriveNo) (q : FSlot) : (State.startCheck s d q).calm = s.calm := by
  simp only [State.startCheck]
  repeat' split
  all_goals first | (simp; done) | skip

@[simp] theorem State.startHeader_calm (s : State) (d : DriveNo) (q : FSlot) : (State.startHeader s d q).calm = s.calm := by
  simp only [State.startHeader]
  repeat' split
  all_goals first | (simp; done) | skip

@[simp] theorem State.leaveSide_calm (s : State) (d : DriveNo) (next : Task) : (State.leaveSide s d next).calm = s.calm := by
  simp only [State.leaveSide]
  repeat' split
  all_goals first | (simp; done) | skip

@[simp] theorem State.startErase_calm (s : State) (d : DriveNo) (q : FSlot) (f : Filing) (ps : PlatterSide) (fill : Nat) : (State.startErase s d q f ps fill).calm = s.calm := by
  simp only [State.startErase]
  repeat' split
  all_goals first | (simp; done) | skip

@[simp] theorem State.allocate_calm (s : State) (d : DriveNo) (q : FSlot) (ps : PlatterSide) : (State.allocate s d q ps).calm = s.calm := by
  simp only [State.allocate]
  repeat' split
  all_goals first | (simp; done) | skip

@[simp] theorem State.fileGiven_calm (s : State) (d : DriveNo) : (State.fileGiven s d).calm = s.calm := by
  simp only [State.fileGiven]
  repeat' split
  all_goals first | (simp; done) | skip

@[simp] theorem State.endCheck_calm (s : State) (d : DriveNo) (u : FilUse) (blank : Bool) : (State.endCheck s d u blank).calm = s.calm := by
  simp only [State.endCheck]
  repeat' split
  all_goals first | (simp; done) | skip

@[simp] theorem State.headerErased_calm (s : State) (d : DriveNo) (u : FilUse) : (State.headerErased s d u).calm = s.calm := by
  simp only [State.headerErased]
  repeat' split
  all_goals first | (simp; done) | skip

@[simp] theorem State.headerWritten_calm (s : State) (d : DriveNo) (u : FilUse) : (State.headerWritten s d u).calm = s.calm := by
  simp only [State.headerWritten]
  repeat' split
  all_goals first | (simp; done) | skip

@[simp] theorem State.startWrite_calm (s : State) (d : DriveNo) (q : FSlot) : (State.startWrite s d q).calm = s.calm := by
  simp only [State.startWrite]
  repeat' split
  all_goals first | (simp; done) | skip

@[simp] theorem State.startVerify_calm (s : State) (d : DriveNo) (q : FSlot) : (State.startVerify s d q).calm = s.calm := by
  simp only [State.startVerify]
  repeat' split
  all_goals first | (simp; done) | skip

@[simp] theorem State.eraseDone_calm (s : State) (d : DriveNo) (q : FSlot) : (State.eraseDone s d q).calm = s.calm := by
  simp only [State.eraseDone]
  repeat' split
  all_goals first | (simp; done) | skip

@[simp] theorem State.writeDone_calm (s : State) (d : DriveNo) (q : FSlot) : (State.writeDone s d q).calm = s.calm := by
  simp only [State.writeDone]
  repeat' split
  all_goals first | (simp; done) | skip

@[simp] theorem State.recordCommit_calm (s : State) (d : DriveNo) (q : FSlot) (f : Filing) (c : Commit) (l : Location) : (State.recordCommit s d q f c l).calm = s.calm := by
  simp only [State.recordCommit]
  repeat' split
  all_goals first | (simp; done) | skip

@[simp] theorem State.verifyDone_calm (s : State) (d : DriveNo) (q : FSlot) : (State.verifyDone s d q).calm = s.calm := by
  simp only [State.verifyDone]
  repeat' split
  all_goals first | (simp; done) | skip

@[simp] theorem State.writeFailed_calm (s : State) (d : DriveNo) (q : FSlot) (f : Filing) (c : Commit) : (State.writeFailed s d q f c).calm = s.calm := by
  simp only [State.writeFailed]
  repeat' split
  all_goals first | (simp; done) | skip

@[simp] theorem State.afterFailure_calm (s : State) (d : DriveNo) (q : FSlot) (ps : PlatterSide) : (State.afterFailure s d q ps).calm = s.calm := by
  simp only [State.afterFailure]
  repeat' split
  all_goals first | (simp; done) | skip

@[simp] theorem State.failAttempt_calm (s : State) (d : DriveNo) (u : FilUse) : (State.failAttempt s d u).calm = s.calm := by
  simp only [State.failAttempt]
  repeat' split
  all_goals first | (simp; done) | skip

@[simp] theorem State.headerFailed_calm (s : State) (d : DriveNo) (u : FilUse) : (State.headerFailed s d u).calm = s.calm := by
  simp only [State.headerFailed]
  repeat' split
  all_goals first | (simp; done) | skip

@[simp] theorem State.filFault_calm (s : State) (d : DriveNo) (u : FilUse) : (State.filFault s d u).calm = s.calm := by
  simp only [State.filFault]
  repeat' split
  all_goals first | (simp; done) | skip

@[simp] theorem handleOpenFiling_calm (s : State) (r : Reply) (o : OptField) : (handleOpenFiling s r o).calm = s.calm := by
  simp only [handleOpenFiling]
  repeat' split
  all_goals first | (simp; done) | skip

@[simp] theorem State.admitFeed_calm (s : State) (r : Reply) (q : FSlot) (f : Filing) (flag : Bool) (block : List Byte) : (State.admitFeed s r q f flag block).calm = s.calm := by
  simp only [State.admitFeed]
  repeat' split
  all_goals first | (simp; done) | skip

@[simp] theorem handleFeed_calm (s : State) (r : Reply) (slot pageStart : Nat) (block : List Byte) : (handleFeed s r slot pageStart block).calm = s.calm := by
  simp only [handleFeed]
  repeat' split
  all_goals first | (simp; done) | skip

@[simp] theorem handleCommit_calm (s : State) (r : Reply) (p : CommitParams) : (handleCommit s r p).calm = s.calm := by
  simp only [handleCommit]
  repeat' split
  all_goals first | (simp; done) | skip

@[simp] theorem State.admitCommit_calm (s : State) (r : Reply) (q : FSlot) (p : CommitParams) (res : Bool) (fs : List Nat) (ts : List InstrNum) : (State.admitCommit s r q p res fs ts).calm = s.calm := by
  simp only [State.admitCommit]
  repeat' split
  all_goals first | (simp; done) | skip

@[simp] theorem State.serveMapRead_calm (s : State) (parity : Bool) : (State.serveMapRead s parity).calm = s.calm := by
  simp only [State.serveMapRead]
  repeat' split
  all_goals first | (simp; done) | skip

@[simp] theorem handleAbandon_calm (s : State) (r : Reply) (n : Nat) : (handleAbandon s r n).calm = s.calm := by
  simp only [handleAbandon]
  repeat' split
  all_goals first | (simp; done) | skip

@[simp] theorem handleWithdraw_calm (s : State) (r : Reply) (n : InstrNum) : (handleWithdraw s r n).calm = s.calm := by
  simp only [handleWithdraw]
  repeat' split
  all_goals first | (simp; done) | skip

@[simp] theorem handleCloseSide_calm (s : State) (r : Reply) : (handleCloseSide s r).calm = s.calm := by
  simp only [handleCloseSide]
  repeat' split
  all_goals first | (simp; done) | skip

@[simp] theorem State.idleExpiry_calm (s : State) (q : FSlot) : (State.idleExpiry s q).calm = s.calm := by
  simp only [State.idleExpiry]
  repeat' split
  all_goals first | (simp; done) | skip

@[simp] theorem State.createOp_calm (s : State) (r : Reply) (bundle : Bool) (pu : Purpose) (account : Nat) (cls : MountClass) (items : List Item) : (State.createOp s r bundle pu account cls items).calm = s.calm := by
  simp only [State.createOp]
  repeat' split
  all_goals first
    | (simp; done)
    | (try simp only [State.pruneDemands_calm]
       refine (State.foldl_calm _ ?_ _ _).trans ?_
       · intro s a
         try dsimp only
         (repeat' split) <;> simp
       · simp)

@[simp] theorem handleFetch_calm (s : State) (r : Reply) (p : FetchParams) : (handleFetch s r p).calm = s.calm := by
  simp only [handleFetch]
  repeat' split
  all_goals first | (simp; done) | skip

@[simp] theorem handleBundle_calm (s : State) (r : Reply) (p : BundleParams) : (handleBundle s r p).calm = s.calm := by
  simp only [handleBundle]
  repeat' split
  all_goals first | (simp; done) | skip

@[simp] theorem handleQuote_calm (s : State) (r : Reply) (p : FetchParams) : (handleQuote s r p).calm = s.calm := by
  simp only [handleQuote]
  repeat' split
  all_goals first | (simp; done) | skip

@[simp] theorem State.cancelFill_calm (s : State) (n : InstrNum) : (State.cancelFill s n).calm = s.calm := by
  simp only [State.cancelFill]
  repeat' split
  all_goals first
    | (simp; done)
    | (try simp only [State.pruneDemands_calm]
       refine (State.foldl_calm _ ?_ _ _).trans ?_
       · intro s a
         try dsimp only
         (repeat' split) <;> simp
       · simp)

@[simp] theorem State.removeUnstarted_calm (s : State) (g : Segment) (r : ItemRef) : (State.removeUnstarted s g r).calm = s.calm := by
  simp only [State.removeUnstarted]
  repeat' split
  all_goals first
    | (simp; done)
    | (try simp only [State.pruneDemands_calm]
       refine (State.foldl_calm _ ?_ _ _).trans ?_
       · intro s a
         try dsimp only
         (repeat' split) <;> simp
       · simp)

@[simp] theorem State.leaveAll_calm (s : State) (r : ItemRef) : (State.leaveAll s r).calm = s.calm := by
  simp only [State.leaveAll]
  repeat' split
  all_goals first | (simp; done) | skip

@[simp] theorem State.endItem_calm (s : State) (r : ItemRef) (st : Status) : (State.endItem s r st).calm = s.calm := by
  simp only [State.endItem]
  repeat' split
  all_goals first | (simp; done) | skip

@[simp] theorem State.itemDone_calm (s : State) (r : ItemRef) : (State.itemDone s r).calm = s.calm := by
  simp only [State.itemDone]
  repeat' split
  all_goals first | (simp; done) | skip

@[simp] theorem State.nextTurn_calm (s : State) (l : Link) (t : Nat) : (State.nextTurn s l t).calm = s.calm := by
  simp only [State.nextTurn]
  repeat' split
  all_goals first | (simp; done) | skip

@[simp] theorem State.abortOps_calm (s : State) (l : Link) : (State.abortOps s l).calm = s.calm := by
  simp only [State.abortOps, State.calm_mk, Calm.eta]
  refine State.foldl_calm _ ?_ _ _
  intro s o
  refine State.foldl_calm _ ?_ _ _
  intro s p
  (repeat' split) <;> simp

@[simp] theorem State.granted_calm (s : State) (r : ItemRef) (o : Op) (v : Resolved) (first : Nat) : (State.granted s r o v first).calm = s.calm := by
  simp only [State.granted]
  repeat' split
  all_goals first | (simp; done) | skip

@[simp] theorem State.askSpace_calm (s : State) (r : ItemRef) (o : Op) (v : Resolved) : (State.askSpace s r o v).calm = s.calm := by
  simp only [State.askSpace]
  repeat' split
  all_goals first | (simp; done) | skip

@[simp] theorem State.turn_calm (s : State) (r : ItemRef) : (State.turn s r).calm = s.calm := by
  simp only [State.turn]
  repeat' split
  all_goals first | (simp; done) | skip

@[simp] theorem State.spaceTry_calm (s : State) : (State.spaceTry s).calm = s.calm := by
  simp only [State.spaceTry]
  repeat' split
  all_goals first | (simp; done) | skip

@[simp] theorem State.startFill_calm (s : State) (d : DriveNo) (n : InstrNum) : (State.startFill s d n).calm = s.calm := by
  simp only [State.startFill]
  repeat' split
  all_goals first | (simp; done) | skip

@[simp] theorem State.failUsers_calm (s : State) (g : Segment) : (State.failUsers s g).calm = s.calm := by
  simp only [State.failUsers]
  repeat' split
  all_goals first | (simp; done) | skip

@[simp] theorem State.failFill_calm (s : State) (d : DriveNo) (n : InstrNum) : (State.failFill s d n).calm = s.calm := by
  simp only [State.failFill]
  repeat' split
  all_goals first | (simp; done) | skip

@[simp] theorem State.endFill_calm (s : State) (d : DriveNo) (n : InstrNum) : (State.endFill s d n).calm = s.calm := by
  simp only [State.endFill]
  repeat' split
  all_goals first | (simp; done) | skip

@[simp] theorem State.driveNext_calm (s : State) (d : DriveNo) : (State.driveNext s d).calm = s.calm := by
  simp only [State.driveNext]
  repeat' split
  all_goals first | (simp; done) | skip

@[simp] theorem State.outTake_calm (s : State) (l : Link) : (State.outTake s l).calm = s.calm := by
  simp only [State.outTake]
  repeat' split
  all_goals first | (simp; done) | skip

@[simp] theorem State.advanceOut_calm (s : State) (l : Link) (g : Segment) : (State.advanceOut s l g).calm = s.calm := by
  simp only [State.advanceOut]
  repeat' split
  all_goals first | (simp; done) | skip

@[simp] theorem State.reportStaged_calm (s : State) (g : Segment) : (State.reportStaged s g).calm = s.calm := by
  simp only [State.reportStaged]
  repeat' split
  all_goals first
    | (simp; done)
    | (try simp only [State.pruneDemands_calm]
       refine (State.foldl_calm _ ?_ _ _).trans ?_
       · intro s a
         try dsimp only
         (repeat' split) <;> simp
       · simp)

@[simp] theorem State.offerFrame_calm (s : State) (l : Link) : (State.offerFrame s l).calm = s.calm := by
  simp only [State.offerFrame]
  repeat' split
  all_goals first | (simp; done) | skip

@[simp] theorem State.stagingFault_calm (s : State) (l : Link) (g : Segment) : (State.stagingFault s l g).calm = s.calm := by
  simp only [State.stagingFault]
  repeat' split
  all_goals first | (simp; done) | skip

@[simp] theorem State.checkMap_calm (s : State) (l : Link) (r : ItemRef) (g : Segment) (v : Resolved) (range : Nat × Nat) : (State.checkMap s l r g v range).calm = s.calm := by
  simp only [State.checkMap]
  repeat' split
  all_goals first | (simp; done) | skip

@[simp] theorem State.serveOut_calm (s : State) (l : Link) (parity : Bool) : (State.serveOut s l parity).calm = s.calm := by
  simp only [State.serveOut]
  repeat' split
  all_goals first | (simp; done) | skip

@[simp] theorem State.dataAccepted_calm (s : State) (l : Link) : (State.dataAccepted s l).calm = s.calm := by
  simp only [State.dataAccepted]
  repeat' split
  all_goals first | (simp; done) | skip

@[simp] theorem State.deliveryTimeout_calm (s : State) (l : Link) : (State.deliveryTimeout s l).calm = s.calm := by
  simp only [State.deliveryTimeout]
  repeat' split
  all_goals first | (simp; done) | skip

@[simp] theorem State.runTask_calm (s : State) (t : Task) : (State.runTask s t).calm = s.calm := by
  cases t <;> simp [State.runTask]

theorem State.settleFor_calm (n : Nat) (s : State) : (State.settleFor n s).calm = s.calm := by
  induction n generalizing s with
  | zero => rfl
  | succ n ih =>
    simp only [State.settleFor]
    split
    · rfl
    · exact (ih _).trans (by simp)

@[simp] theorem State.settle_calm (s : State) : (State.settle s).calm = s.calm := State.settleFor_calm _ s

@[simp] theorem State.faultUse_calm (s : State) (d : DriveNo) (u : Use) : (State.faultUse s d u).calm = s.calm := by
  simp only [State.faultUse]
  repeat' split
  all_goals first | (simp; done) | skip

@[simp] theorem State.endDemand_calm (s : State) (q : Demand) (st : Status) : (State.endDemand s q st).calm = s.calm := by
  simp only [State.endDemand]
  repeat' split
  all_goals first
    | (simp; done)
    | (try simp only [State.pruneDemands_calm]
       refine (State.foldl_calm _ ?_ _ _).trans ?_
       · intro s a
         try dsimp only
         (repeat' split) <;> simp
       · simp)

@[simp] theorem State.faultUses_calm (d : DriveNo) (l : List Use) (s : State) : (l.foldl (fun s u => s.faultUse d u) s).calm = s.calm :=
  State.foldl_calm _ (fun s a => by (try dsimp only); (repeat' split) <;> simp) l s

@[simp] theorem State.faultDemand_calm (s : State) (was : Drive) (q : Demand) : (State.faultDemand s was q).calm = s.calm := by
  simp only [State.faultDemand]
  split <;> simp

@[simp] theorem State.faultDemands_calm (was : Drive) (l : List Demand) (s : State) : (l.foldl (fun s q => s.faultDemand was q) s).calm = s.calm :=
  State.foldl_calm _ (fun s q => State.faultDemand_calm s was q) l s

@[simp] theorem State.faultPiece_calm (s : State) (d : DriveNo) : (State.faultPiece s d).calm = s.calm := by
  simp only [State.faultPiece]
  repeat' split
  all_goals first | (simp; done) | skip

@[simp] theorem State.faultDrive_calm (s : State) (d : DriveNo) (timeout : Bool) : (State.faultDrive s d timeout).calm = s.calm := by
  simp only [State.faultDrive]
  repeat' split
  all_goals first | (simp; done) | skip

@[simp] theorem State.resetFailed_calm (s : State) (d : DriveNo) : (State.resetFailed s d).calm = s.calm := by
  simp only [State.resetFailed]
  repeat' split
  all_goals first | (simp; done) | skip

@[simp] theorem State.faultReport_calm (s : State) (d : DriveNo) : (State.faultReport s d).calm = s.calm := by
  simp only [State.faultReport]
  repeat' split
  all_goals first | (simp; done) | skip

@[simp] theorem State.reissue_calm (s : State) (d : DriveNo) : (State.reissue s d).calm = s.calm := by
  simp only [State.reissue]
  repeat' split
  all_goals first | (simp; done) | skip

@[simp] theorem State.driveTimeout_calm (s : State) (d : DriveNo) : (State.driveTimeout s d).calm = s.calm := by
  simp only [State.driveTimeout]
  repeat' split
  all_goals first | (simp; done) | skip

@[simp] theorem State.readyReport_calm (s : State) (d : DriveNo) : (State.readyReport s d).calm = s.calm := by
  simp only [State.readyReport]
  repeat' split
  all_goals first
    | (simp; done)
    | (try simp only [State.pruneDemands_calm]
       refine (State.foldl_calm _ ?_ _ _).trans ?_
       · intro s a
         try dsimp only
         (repeat' split) <;> simp
       · simp)

@[simp] theorem State.setUnloadTime_calm (s : State) (d : DriveNo) : (State.setUnloadTime s d).calm = s.calm := by
  simp only [State.setUnloadTime]
  repeat' split
  all_goals first | (simp; done) | skip

@[simp] theorem State.vacate_calm (s : State) (d : DriveNo) : (State.vacate s d).calm = s.calm := by
  simp only [State.vacate]
  repeat' split
  all_goals first | (simp; done) | skip

@[simp] theorem State.mountUnloaded_calm (s : State) (d : DriveNo) (ps : PlatterSide) : (State.mountUnloaded s d ps).calm = s.calm := by
  simp only [State.mountUnloaded]
  repeat' split
  all_goals first | (simp; done) | skip

@[simp] theorem State.exportUnloaded_calm (s : State) (d : DriveNo) (r : Reply) (id : Nat) : (State.exportUnloaded s d r id).calm = s.calm := by
  simp only [State.exportUnloaded]
  repeat' split
  all_goals first | (simp; done) | skip

@[simp] theorem State.ejected_calm (s : State) (d : DriveNo) : (State.ejected s d).calm = s.calm := by
  simp only [State.ejected]
  repeat' split
  all_goals first | (simp; done) | skip

@[simp] theorem State.unloadedReport_calm (s : State) (d : DriveNo) : (State.unloadedReport s d).calm = s.calm := by
  simp only [State.unloadedReport]
  repeat' split
  all_goals first | (simp; done) | skip

@[simp] theorem State.countBlock_calm (s : State) (d : DriveNo) : (State.countBlock s d).calm = s.calm := by
  simp only [State.countBlock]
  repeat' split
  all_goals first | (simp; done) | skip

@[simp] theorem State.holdBlock_calm (s : State) (d : DriveNo) (b : List Byte) : (State.holdBlock s d b).calm = s.calm := by
  simp only [State.holdBlock]
  repeat' split
  all_goals first | (simp; done) | skip

@[simp] theorem State.carryHeader_calm (s : State) (d : DriveNo) : (State.carryHeader s d).calm = s.calm := by
  simp only [State.carryHeader]
  repeat' split
  all_goals first | (simp; done) | skip

@[simp] theorem State.compare_calm (s : State) (d : DriveNo) (u : FilUse) (q : FSlot) : (State.compare s d u q).calm = s.calm := by
  simp only [State.compare]
  repeat' split
  all_goals first | (simp; done) | skip

@[simp] theorem State.blockReport_calm (s : State) (d : DriveNo) (b : BlockReport) : (State.blockReport s d b).calm = s.calm := by
  simp only [State.blockReport]
  repeat' split
  all_goals first | (simp; done) | skip

@[simp] theorem State.doneReport_calm (s : State) (d : DriveNo) : (State.doneReport s d).calm = s.calm := by
  simp only [State.doneReport]
  repeat' split
  all_goals first | (simp; done) | skip

@[simp] theorem State.mediumError_calm (s : State) (d : DriveNo) : (State.mediumError s d).calm = s.calm := by
  simp only [State.mediumError]
  repeat' split
  all_goals first | (simp; done) | skip

@[simp] theorem State.unreadable_calm (s : State) (d : DriveNo) : (State.unreadable s d).calm = s.calm := by
  simp only [State.unreadable]
  repeat' split
  all_goals first | (simp; done) | skip

@[simp] theorem State.residencyExpiry_calm (s : State) (d : DriveNo) : (State.residencyExpiry s d).calm = s.calm := by
  simp only [State.residencyExpiry]
  repeat' split
  all_goals first | (simp; done) | skip

@[simp] theorem State.fillParity_calm (s : State) (d : DriveNo) (n : InstrNum) : (State.fillParity s d n).calm = s.calm := by
  simp only [State.fillParity]
  repeat' split
  all_goals first | (simp; done) | skip

@[simp] theorem State.readRing_calm (s : State) (d : DriveNo) (u : FilUse) (q : FSlot) (parity : Bool) : (State.readRing s d u q parity).calm = s.calm := by
  simp only [State.readRing]
  repeat' split
  all_goals first | (simp; done) | skip

@[simp] theorem State.putInDrive_calm (s : State) (d : DriveNo) (ps : PlatterSide) : (State.putInDrive s d ps).calm = s.calm := by
  simp only [State.putInDrive]
  repeat' split
  all_goals first | (simp; done) | skip

@[simp] theorem State.emptied_calm (s : State) (d : DriveNo) : (State.emptied s d).calm = s.calm := by
  simp only [State.emptied]
  repeat' split
  all_goals first | (simp; done) | skip

@[simp] theorem State.evicted_calm (s : State) (d : DriveNo) (ps : PlatterSide) : (State.evicted s d ps).calm = s.calm := by
  simp only [State.evicted]
  repeat' split
  all_goals first | (simp; done) | skip

@[simp] theorem State.returned_calm (s : State) (d : DriveNo) : (State.returned s d).calm = s.calm := by
  simp only [State.returned]
  repeat' split
  all_goals first | (simp; done) | skip

@[simp] theorem State.importMoved_calm (s : State) (r : Option Reply) (id : Nat) : (State.importMoved s r id).calm = s.calm := by
  simp only [State.importMoved]
  repeat' split
  all_goals first | (simp; done) | skip

@[simp] theorem State.exportMoved_calm (s : State) (r : Reply) (id : Nat) : (State.exportMoved s r id).calm = s.calm := by
  simp only [State.exportMoved]
  repeat' split
  all_goals first | (simp; done) | skip

@[simp] theorem State.moveDone_calm (s : State) : (State.moveDone s).calm = s.calm := by
  simp only [State.moveDone]
  repeat' split
  all_goals first | (simp; done) | skip

@[simp] theorem State.homeLabelled_calm (s : State) (d : DriveNo) (rep : LabelReport) : (State.homeLabelled s d rep).calm = s.calm := by
  simp only [State.homeLabelled]
  repeat' split
  all_goals first | (simp; done) | skip

@[simp] theorem State.importLabelled_calm (s : State) (r : Option Reply) (rep : LabelReport) : (State.importLabelled s r rep).calm = s.calm := by
  simp only [State.importLabelled]
  repeat' split
  all_goals first | (simp; done) | skip

@[simp] theorem State.modSweep_calm (s : State) (f : Sweep → Sweep) : (State.modSweep s f).calm = s.calm := by
  simp only [State.modSweep]
  repeat' split
  all_goals first | (simp; done) | skip

@[simp] theorem State.loseHome_calm (s : State) (n : Nat) (other : Option Nat) : (State.loseHome s n other).calm = s.calm := by
  simp only [State.loseHome]
  repeat' split
  all_goals first | (simp; done) | skip

@[simp] theorem State.sweepForeign_calm (s : State) (n : Nat) : (State.sweepForeign s n).calm = s.calm := by
  simp only [State.sweepForeign]
  repeat' split
  all_goals first | (simp; done) | skip

@[simp] theorem State.sweepFound_calm (s : State) (n id : Nat) : (State.sweepFound s n id).calm = s.calm := by
  simp only [State.sweepFound]
  repeat' split
  all_goals first | (simp; done) | skip

@[simp] theorem State.sweepSlot_calm (s : State) (n : Nat) (rep : LabelReport) : (State.sweepSlot s n rep).calm = s.calm := by
  simp only [State.sweepSlot]
  repeat' split
  all_goals first | (simp; done) | skip

@[simp] theorem State.exportComplete_calm (s : State) (id : Nat) : (State.exportComplete s id).calm = s.calm := by
  simp only [State.exportComplete]
  repeat' split
  all_goals first | (simp; done) | skip

@[simp] theorem State.sweepMail_calm (s : State) (rep : LabelReport) : (State.sweepMail s rep).calm = s.calm := by
  simp only [State.sweepMail]
  repeat' split
  all_goals simp

@[simp] theorem State.losses_calm (l : List Nat) (s : State) : (l.foldl (fun s id => (s.setLoc id .unknown).later [.unreachable id .offline]) s).calm = s.calm :=
  State.foldl_calm _ (fun s a => by (try dsimp only); (repeat' split) <;> simp) l s

@[simp] theorem State.queueReturns_calm (l : List DriveNo) (s : State) : (l.foldl (fun s d => s.queueReturn d) s).calm = s.calm :=
  State.foldl_calm _ (fun s a => by (try dsimp only); (repeat' split) <;> simp) l s

@[simp] theorem State.sweepEnd_calm (s : State) : (State.sweepEnd s).calm = s.calm := by
  simp only [State.sweepEnd]
  repeat' split
  all_goals first | (simp; done) | skip

@[simp] theorem State.sweepReport_calm (s : State) (rep : LabelReport) : (State.sweepReport s rep).calm = s.calm := by
  simp only [State.sweepReport]
  repeat' split
  all_goals first | (simp; done) | skip

@[simp] theorem State.labelReport_calm (s : State) (rep : LabelReport) : (State.labelReport s rep).calm = s.calm := by
  simp only [State.labelReport]
  repeat' split
  all_goals first | (simp; done) | skip

@[simp] theorem State.jamDemands_calm (s : State) : (State.jamDemands s).calm = s.calm := by
  simp only [State.jamDemands]
  repeat' split
  all_goals first
    | (simp; done)
    | (try simp only [State.pruneDemands_calm]
       refine (State.foldl_calm _ ?_ _ _).trans ?_
       · intro s a
         try dsimp only
         (repeat' split) <;> simp
       · simp)

@[simp] theorem State.jamPiece_calm (s : State) : (State.jamPiece s).calm = s.calm := by
  simp only [State.jamPiece]
  repeat' split
  all_goals first | (simp; done) | skip

@[simp] theorem State.refuseMedia_calm (s : State) (st : Status) : (State.refuseMedia s st).calm = s.calm := by
  simp only [State.refuseMedia]
  repeat' split
  all_goals first
    | (simp; done)
    | (try simp only [State.pruneDemands_calm]
       refine (State.foldl_calm _ ?_ _ _).trans ?_
       · intro s a
         try dsimp only
         (repeat' split) <;> simp
       · simp)

@[simp] theorem State.jam_calm (s : State) : (State.jam s).calm = s.calm := by
  simp only [State.jam]
  repeat' split
  all_goals first | (simp; done) | skip

@[simp] theorem State.pickerTimeout_calm (s : State) : (State.pickerTimeout s).calm = s.calm := by
  simp only [State.pickerTimeout]
  repeat' split
  all_goals first | (simp; done) | skip

@[simp] theorem State.doorOpens_calm (s : State) : (State.doorOpens s).calm = s.calm := by
  simp only [State.doorOpens]
  repeat' split
  all_goals first | (simp; done) | skip

@[simp] theorem State.doorCloses_calm (s : State) : (State.doorCloses s).calm = s.calm := by
  simp only [State.doorCloses]
  repeat' split
  all_goals first | (simp; done) | skip

@[simp] theorem State.mailFilled_calm (s : State) : (State.mailFilled s).calm = s.calm := by
  simp only [State.mailFilled]
  repeat' split
  all_goals first | (simp; done) | skip

@[simp] theorem State.mailEmptied_calm (s : State) : (State.mailEmptied s).calm = s.calm := by
  simp only [State.mailEmptied]
  repeat' split
  all_goals first | (simp; done) | skip

@[simp] theorem handleStatus_calm (s : State) (r : Reply) (o : OptField) : (handleStatus s r o).calm = s.calm := by
  simp only [handleStatus]
  repeat' split
  all_goals first | (simp; done) | skip

@[simp] theorem handleEventsRead_calm (s : State) (r : Reply) : (handleEventsRead s r).calm = s.calm := by
  simp only [handleEventsRead]
  repeat' split
  all_goals first | (simp; done) | skip

@[simp] theorem handleEventsAck_calm (s : State) (r : Reply) (set : Nat) : (handleEventsAck s r set).calm = s.calm := by
  simp only [handleEventsAck]
  repeat' split
  all_goals first | (simp; done) | skip

@[simp] theorem handleEventsEnable_calm (s : State) (r : Reply) (set : Nat) : (handleEventsEnable s r set).calm = s.calm := by
  simp only [handleEventsEnable]
  repeat' split
  all_goals first | (simp; done) | skip

@[simp] theorem State.refuseFrame_calm (s : State) (l : Link) (tag : Option Nat) (code : Nat) (st : Status) : (State.refuseFrame s l tag code st).calm = s.calm := by
  simp only [State.refuseFrame]
  repeat' split
  all_goals first | (simp; done) | skip

@[simp] theorem State.badFrame_calm (s : State) (l : Link) (f : BadFrame) : (State.badFrame s l f).calm = s.calm := by
  simp only [State.badFrame]
  repeat' split
  all_goals first | (simp; done) | skip

@[simp] theorem State.responseSend_calm (s : State) (l : Link) : (State.responseSend s l).calm = s.calm := by
  simp only [State.responseSend]
  repeat' split
  all_goals first | (simp; done) | skip

@[simp] theorem State.responseAccepted_calm (s : State) (l : Link) : (State.responseAccepted s l).calm = s.calm := by
  simp only [State.responseAccepted]
  repeat' split
  all_goals first | (simp; done) | skip

@[simp] theorem State.resetEdge_calm (s : State) (l : Link) : (State.resetEdge s l).calm = s.calm := by
  simp only [State.resetEdge]
  repeat' split
  all_goals first | (simp; done) | skip

@[simp] theorem State.linkReset_calm (s : State) (l : Link) : (State.linkReset s l).calm = s.calm := by
  simp only [State.linkReset]
  repeat' split
  all_goals first | (simp; done) | skip

end Sys2Proof.Machine
end

