-- ==== Sys2Proof/Laws/Flags.lean ====
section
/-!
SUPPORT. Saturating additions, and attention sets as postings leave them (R191).
-/
namespace Sys2Proof.Machine
set_option Elab.async false

theorem satAdd_le (top a b : Nat) : satAdd top a b ≤ top := by unfold satAdd; split <;> omega

theorem satAdd_of_le (top a b : Nat) (h : a + b ≤ top) : satAdd top a b = a + b := by simp [satAdd, h]

theorem le_satAdd (top a b : Nat) (h : a ≤ top) : a ≤ satAdd top a b := by unfold satAdd; split <;> omega

/-- Every kind in an attention set after a posting is the kind posted or was there before. -/
theorem attend_kinds (e : Event) (l : List Attention) (b : Attention) (h : b ∈ attend e l) :
    b.kind = e.kind ∨ ∃ c ∈ l, c.kind = b.kind := by
  induction l with
  | nil => simp [attend] at h; subst h; exact Or.inl rfl
  | cons a l ih =>
    simp only [attend] at h
    split at h
    · rename_i ha
      rcases List.mem_cons.1 h with rfl | h
      · exact Or.inl ha
      · exact Or.inr ⟨b, List.mem_cons_of_mem _ h, rfl⟩
    · split at h
      · rcases List.mem_cons.1 h with rfl | h
        · exact Or.inl rfl
        · exact Or.inr ⟨b, h, rfl⟩
      · rcases List.mem_cons.1 h with rfl | h
        · exact Or.inr ⟨b, List.mem_cons_self .., rfl⟩
        · rcases ih h with h | ⟨c, hc, hk⟩
          · exact Or.inl h
          · exact Or.inr ⟨c, List.mem_cons_of_mem _ hc, hk⟩

theorem kind_ne_num {a b : EventKind} (h : a ≠ b) : a.num ≠ b.num := by
  cases a <;> cases b <;> simp_all [EventKind.num]

/-- A posting keeps an attention set in order. -/
theorem attentionOk_attend (e : Event) (l : List Attention) (h : attentionOk l) : attentionOk (attend e l) := by
  obtain ⟨hp, hc⟩ := h
  induction l with
  | nil => exact ⟨by simp [attend], by simp [attend, Config.max8]⟩
  | cons a l ih =>
    have hpc := List.pairwise_cons.1 hp
    have hca := hc a (List.mem_cons_self ..)
    have hcl : ∀ b ∈ l, b.event.kind = b.kind ∧ 1 ≤ b.count ∧ b.count ≤ Config.max8 := fun b hb => hc b (List.mem_cons_of_mem _ hb)
    simp only [attend]
    split
    · rename_i hk
      refine ⟨List.pairwise_cons.2 ⟨hpc.1, hpc.2⟩, fun b hb => ?_⟩
      rcases List.mem_cons.1 hb with rfl | hb
      · refine ⟨hk.symm, ?_, satAdd_le _ _ _⟩
        have := le_satAdd Config.max8 a.count 1 hca.2.2
        show 1 ≤ satAdd Config.max8 a.count 1
        omega
      · exact hcl b hb
    · rename_i hk
      split
      · rename_i hlt
        refine ⟨List.pairwise_cons.2 ⟨fun b hb => ?_, hp⟩, fun b hb => ?_⟩
        · rcases List.mem_cons.1 hb with rfl | hb
          · exact hlt
          · exact hlt.trans (hpc.1 b hb)
        · rcases List.mem_cons.1 hb with rfl | hb
          · exact ⟨rfl, le_refl _, by simp [Config.max8]⟩
          · exact hc b hb
      · rename_i hge
        have hi := ih hpc.2 hcl
        refine ⟨List.pairwise_cons.2 ⟨fun b hb => ?_, hi.1⟩, fun b hb => ?_⟩
        · rcases attend_kinds e l b hb with h | ⟨c, hcm, hck⟩
          · have := kind_ne_num hk
            rw [h]; omega
          · rw [← hck]; exact hpc.1 c hcm
        · rcases List.mem_cons.1 hb with rfl | hb
          · exact hca
          · exact hi.2 b hb

/-- What is left of an attention set is in order. -/
theorem attentionOk_filter (p : Attention → Bool) (l : List Attention) (h : attentionOk l) : attentionOk (l.filter p) :=
  ⟨h.1.filter p, fun a ha => h.2 a (List.mem_of_mem_filter ha)⟩

theorem attentionOk_nil : attentionOk [] := ⟨List.Pairwise.nil, by simp⟩

end Sys2Proof.Machine
end

