-- ==== Sys2Proof/Laws/Clock.lean ====
section
/-!
SUPPORT. The arithmetic of stamps and of one millisecond of the registry clock (R26 to R28), in closed form.
-/
namespace Sys2Proof.Machine
set_option Elab.async false

/-- Milliseconds added to a stamp, up to the top value. -/
theorem Stamp.plusMs_eq (t : Stamp) (n : Nat) :
    Stamp.plusMs t n =
      ⟨min (t.sec * 1000 + t.ms + n) 4294967295999 / 1000, min (t.sec * 1000 + t.ms + n) 4294967295999 % 1000⟩ := by
  have e : topStamp = ⟨4294967295, 999⟩ := rfl
  simp only [Stamp.plusMs, e, Stamp.toMs]
  split
  · rename_i h; rw [Nat.min_eq_right (by omega)]
  · rename_i h; rw [Nat.min_eq_left (by omega)]

theorem satAdd_eq_min (top a b : Nat) : satAdd top a b = min (a + b) top := by unfold satAdd; split <;> omega

theorem Clock.overflows_eq (c : Clock) : c.overflows = decide (c.effective ≠ 0 ∧ 1000000 ≤ c.acc + c.effective.natAbs) := by
  unfold Clock.overflows Config.trimUnit
  generalize c.effective = e
  by_cases h : e = 0 <;> simp [h]

/-- The milliseconds one millisecond of the reference adds: 2 or 0 where the accumulator overflows, else 1. -/
theorem Clock.stride_eq (c : Clock) :
    c.stride = if c.effective ≠ 0 ∧ 1000000 ≤ c.acc + c.effective.natAbs then (if 0 < c.effective then 2 else 0) else 1 := by
  simp only [Clock.stride, Clock.overflows_eq, decide_eq_true_eq]

/-- The largest stamp of a table bounds every stamp in it, and is one of them where it is not the one begun with. -/
theorem foldl_max_stamp (l : List Entry) (t : Stamp) :
    (∀ e ∈ l, e.stamp.toMs ≤ (l.foldl (fun t e => Stamp.max t e.stamp) t).toMs) ∧
    t.toMs ≤ (l.foldl (fun t e => Stamp.max t e.stamp) t).toMs ∧
    ((l.foldl (fun t e => Stamp.max t e.stamp) t) = t ∨
      ∃ e ∈ l, e.stamp.toMs = (l.foldl (fun t e => Stamp.max t e.stamp) t).toMs) := by
  induction l generalizing t with
  | nil => simp
  | cons a l ih =>
    obtain ⟨h1, h2, h3⟩ := ih (Stamp.max t a.stamp)
    simp only [List.foldl_cons]
    have ha : a.stamp.toMs ≤ (Stamp.max t a.stamp).toMs ∧ t.toMs ≤ (Stamp.max t a.stamp).toMs := by
      unfold Stamp.max; split <;> omega
    refine ⟨?_, by omega, ?_⟩
    · intro e he; rcases List.mem_cons.mp he with rfl | he
      · omega
      · exact h1 e he
    · rcases h3 with h3 | ⟨e, he, h3⟩
      · rw [h3]; by_cases hlt : t.toMs < a.stamp.toMs
        · right; refine ⟨a, by simp, ?_⟩; simp [Stamp.max, hlt]
        · left; simp [Stamp.max, hlt]
      · right; exact ⟨e, by simp [he], h3⟩

end Sys2Proof.Machine
end

