-- ==== Sys2Proof/Laws/Effects.lean ====
section
/-!
SUPPORT. What the operations that answer requests, take presses, ask for settings writes and free filing slots come to, and the fields those
of them that answer leave alone; what an admission makes of an item and of its account, the lowest free slot,
and what a FAULT makes of a demand.
-/
namespace Sys2Proof.Machine
set_option Elab.async false

/-! ## Responses -/

/-- A response to a request whose link has not been reset since is queued. -/
theorem State.respond_eq_queued (s : State) (y : Reply) (st : Status) (b : Body) (h : (s.links.get y.link).resetCount = y.gen) :
    s.respond y st b = s.queued y st b := by
  simp only [State.respond, h, if_true, State.queued]

/-- The same of an import that may have no request (R146). -/
theorem State.answerOpt_some (s : State) (y : Reply) (st : Status) (b : Body) (h : (s.links.get y.link).resetCount = y.gen) :
    s.answerOpt (some y) st b = s.queued y st b := s.respond_eq_queued y st b h

@[simp] theorem State.queued_power (s : State) (y : Reply) (st : Status) (b : Body) : (s.queued y st b).power = s.power := rfl
@[simp] theorem State.queued_ref (s : State) (y : Reply) (st : Status) (b : Body) : (s.queued y st b).ref = s.ref := rfl
@[simp] theorem State.queued_agenda (s : State) (y : Reply) (st : Status) (b : Body) : (s.queued y st b).agenda = s.agenda := rfl
@[simp] theorem State.queued_cat (s : State) (y : Reply) (st : Status) (b : Body) : (s.queued y st b).cat = s.cat := rfl
@[simp] theorem State.queued_lib (s : State) (y : Reply) (st : Status) (b : Body) : (s.queued y st b).lib = s.lib := rfl
@[simp] theorem State.queued_ops (s : State) (y : Reply) (st : Status) (b : Body) : (s.queued y st b).ops = s.ops := rfl
@[simp] theorem State.queued_segments (s : State) (y : Reply) (st : Status) (b : Body) : (s.queued y st b).segments = s.segments := rfl
@[simp] theorem State.queued_filings (s : State) (y : Reply) (st : Status) (b : Body) : (s.queued y st b).filings = s.filings := rfl
@[simp] theorem State.queued_filUse (s : State) (y : Reply) (st : Status) (b : Body) : (s.queued y st b).filUse = s.filUse := rfl
@[simp] theorem State.queued_commitQueue (s : State) (y : Reply) (st : Status) (b : Body) : (s.queued y st b).commitQueue = s.commitQueue := rfl
@[simp] theorem State.queued_outChans (s : State) (y : Reply) (st : Status) (b : Body) : (s.queued y st b).outChans = s.outChans := rfl
@[simp] theorem State.queued_driveChans (s : State) (y : Reply) (st : Status) (b : Body) : (s.queued y st b).driveChans = s.driveChans := rfl

/-! ## Requests that could be taken -/

/-- A request that comes to its unit could be asked. -/
theorem State.Takes.couldAsk {s : State} {l : Link} {t : Nat} {q : Request} (h : s.Takes l t q) : s.couldAsk l q = true := by
  obtain ⟨⟨⟨hp, _, hr, _, hs, hn⟩, ht, hl, hf⟩, ha, hm⟩ := h
  have htags : ((s.links.get l).tags != 15#4) = true := by
    cases hc : ((s.links.get l).tags != 15#4) with
    | true => rfl
    | false =>
      simp only [bne_eq_false_iff_eq] at hc
      simp only [State.tagInUse, hc] at hf
      have : t = 0 ∨ t = 1 ∨ t = 2 ∨ t = 3 := by omega
      rcases this with rfl | rfl | rfl | rfl <;> cases hf
  have hmode : (!s.absentMode || q.takenAbsent) = true := by
    cases hc : s.absentMode with
    | false => rfl
    | true => simp [hm hc]
  simp [State.couldAsk, State.acknowledges, hp, hr, hs, hn, hl, htags, ha, hmode]

/-! ## Presses -/

/-- A press on a full stamp queue is refused QUEUE_FULL. -/
theorem State.takePress_full (s : State) (q : LineNo) (h : 4 ≤ (s.lines.get q).queue.length) : s.takePress q = s.refusePress q .queueFull := by
  simp only [State.takePress, State.pressTest, Config.stampQueueLen, h, if_true]

/-- A press with room in the queue is refused with the status of the issue's test that fails. -/
theorem State.takePress_error (s : State) (q : LineNo) (st : Status) (h : (s.lines.get q).queue.length < 4) (hi : s.issueTest = .error st) :
    s.takePress q = s.refusePress q (.status st) := by
  simp only [State.takePress, State.pressTest, Config.stampQueueLen, Nat.not_le.mpr h, if_false, hi]

/-- A press with room in the queue whose issue is made. -/
theorem State.takePress_ok (s : State) (q : LineNo) (v : InstrNum × Stamp) (h : (s.lines.get q).queue.length < 4) (hi : s.issueTest = .ok v) :
    s.takePress q = (s.issue v.1 v.2 (.line q)).modLine q (fun l =>
      Line.offer { l with queue := l.queue ++ [{ line := q, num := v.1, stamp := v.2 }], lamp := false }) := by
  simp only [State.takePress, State.pressTest, Config.stampQueueLen, Nat.not_le.mpr h, if_false, hi]

/-! ## The end of a return-home -/

/-- The end of a return-home answers the DRIVE_RESET of a drive still UNLOADING. -/
theorem State.answerReturn_unloading (s : State) (d : DriveNo) (st : Status) (h : (s.drive d).state = .unloading) :
    s.answerReturn d st = s.answerReset d st := if_pos h

/-- It leaves the DRIVE_RESET of a drive that is FAULT again to its EJECT. -/
theorem State.answerReturn_left (s : State) (d : DriveNo) (st : Status) (h : (s.drive d).state ≠ .unloading) : s.answerReturn d st = s := if_neg h

/-! ## Settings memory -/

/-- A write asked for while one runs waits behind those that wait already. -/
theorem State.askWrite_waits (s : State) (c : SettingsChange) (r : Reply) (h : s.settings.writing ≠ none) :
    s.askWrite c r = { s with settings := { s.settings with waiting := s.settings.waiting ++ [{ change := c, reply := r }] } } := by
  simp only [State.askWrite, State.beginWrite]
  cases hw : s.settings.writing with
  | none => exact absurd hw h
  | some v => rfl

/-- A write asked for while none runs or waits begins at once. -/
theorem State.askWrite_begins (s : State) (c : SettingsChange) (r : Reply) (h : s.settings.writing = none) (hw : s.settings.waiting = []) :
    s.askWrite c r = { s with settings := { s.settings with writing := some (s.settingsRecord c, r) } } := by
  simp only [State.askWrite, State.beginWrite, h, hw, List.nil_append]
  cases c <;> simp only [State.settingsRecord, Settings.known]

/-! ## A slot given up -/

/-- A slot given up whose instrument is FILING: it is free again, with its ring blocks DISCARDED and its instrument's claims released. -/
theorem State.discardSlot_eq_slotFreed (s : State) (q : FSlot) (n : InstrNum) (h : s.cat.isFiling n = true) :
    s.discardSlot q n = s.slotFreed q n := by
  have ht : (s.cat.table.map (fun e => if e.num = n then { e with state := EntryState.lodged } else e)).map
      (fun e => if e.claim = some n then { e with claim := none } else e) =
      s.cat.table.map (fun e => { e with
        state := if e.num = n then .lodged else e.state
        claim := if e.claim = some n then none else e.claim }) := by
    rw [List.map_map]
    apply List.map_congr_left
    intro e _
    by_cases h1 : e.num = n <;> by_cases h2 : e.claim = some n <;> simp [h1, h2]
  simp only [State.discardSlot, State.freeSlot, State.releaseInst, State.markSlot, h, State.modCat, reclaimRing, State.setFiling, if_true,
    CatMem.releaseEntry, CatMem.dropClaims, CatMem.modEntry, State.slotFreed]
  rw [← ht]

/-! ## The sides of a platter -/

/-- Where every other side is FULL or FOREIGN, no side but this one can be OPEN. -/
theorem State.OthersShut.not_open {s : State} {ps : PlatterSide} (h : s.OthersShut ps) {p : Platter} (hp : p ∈ s.cat.platters) :
    (⟨p.id, .s0⟩ ≠ ps → p.side0.state.isOpen = false) ∧ (⟨p.id, .s1⟩ ≠ ps → p.side1.state.isOpen = false) := by
  have key : ∀ x : SideState, x.shut = true → x.isOpen = false := by intro x hx; cases x <;> first | rfl | cases hx
  exact ⟨fun h0 => key _ ((h p hp).1 h0), fun h1 => key _ ((h p hp).2 h1)⟩

/-! ## Admission -/

/-- The quote of an admitted item, written out (R86). -/
theorem State.admitItem_eq_admitted (s : State) (l : Link) (pu : Purpose) (account : Nat) (i : Item) :
    s.admitItem l pu account i = s.admitted l pu account i := by
  have e : (s.cat.account? account).any (·.exempt) = (match s.cat.account? account with | some a => a.exempt | none => false) := by
    cases s.cat.account? account <;> rfl
  simp only [State.admitItem, State.admitted, State.quoteFor, e, timeOfDay, Config.secondsPerDay]
  generalize s.checkItem l pu account true i = c
  cases pu <;> rcases c.resolved with - | v <;> rcases c.range with - | ⟨f, k⟩ <;> rfl

/-- Copies counted in flight, one after another: the account's count rises by their number (R173). -/
theorem CatMem.raiseCopies_eq (items : List Item) (account : Nat) (c : CatMem) :
    items.foldl (fun c _ => c.raiseCopy account) c =
      { c with accounts := c.accounts.map (fun a => if a.code = account then { a with inFlight := a.inFlight + items.length } else a) } := by
  induction items generalizing c with
  | nil => simp
  | cons i items ih =>
    rw [List.foldl_cons, ih]
    simp only [CatMem.raiseCopy, CatMem.modAccount, updateKeyed, List.map_map, List.length_cons]
    congr 2
    funext a
    simp only [Function.comp_apply]
    split <;> simp_all [Nat.add_comm, Nat.add_left_comm]

/-! ## Storage slots -/

/-- A slot without a record has no use, and is free (R122). -/
theorem CatMem.slotUse?_eq_none (c : CatMem) (n : Nat) : c.slotUse? n = none ↔ ∀ r ∈ c.slots, r.slot ≠ n := by
  simp [CatMem.slotUse?, findKeyed]

/-- The lowest free slot is the first of the slots 1 to 160 that has no record (R122). -/
theorem CatMem.lowestFree_eq_some (c : CatMem) (n : Nat) :
    c.lowestFree = some n ↔ (1 ≤ n ∧ n ≤ 160 ∧ c.slotUse? n = none) ∧ ∀ m, 1 ≤ m → m < n → c.slotUse? m ≠ none := by
  simp only [CatMem.lowestFree, Config.storageSlots, List.find?_range'_eq_some, List.mem_range'_1, Option.isNone_iff_eq_none, Bool.not_eq_true',
    Option.isNone_eq_false_iff, Option.isSome_iff_ne_none]
  grind

/-- There is none where each of the slots has a record. -/
theorem CatMem.lowestFree_eq_none (c : CatMem) : c.lowestFree = none ↔ ∀ n, 1 ≤ n → n ≤ 160 → c.slotUse? n ≠ none := by
  simp only [CatMem.lowestFree, Config.storageSlots, List.find?_eq_none, List.mem_range'_1, Option.isNone_iff_eq_none]
  grind

/-! ## A drive that becomes FAULT -/

/-- The free status of an EXPORT is none of a refusal response (R187). -/
theorem exportLostStatus_not_refusal (n : Nat) : exportLostStatus n ≠ .badFrame ∧ exportLostStatus n ≠ .busy := by
  unfold exportLostStatus
  generalize Config.freeExportStatus n = v
  revert v
  decide

/-- The demand of an eviction returns to WAITING (R127 step 3). -/
theorem State.faultDemand_eviction (s : State) (was : Drive) (q : Demand) (h : was.state = .unloading)
    (other : was.platter.bind (·.id) ≠ some q.side.platter) : s.faultDemand was q = s.unmount q.side := by
  simp [State.faultDemand, h, other]

/-- The demand of a flip, whose platter the drive was recorded with, ends MEDIA_FAULT (R127 step 2). -/
theorem State.faultDemand_flip (s : State) (was : Drive) (q : Demand) (sd : Side) (h : was.platter = some ⟨some q.side.platter, sd⟩) :
    s.faultDemand was q = s.endDemand q .mediaFault := by
  simp [State.faultDemand, h]

/-- The demand of a drive that unloads nothing ends MEDIA_FAULT (R127 step 2). -/
theorem State.faultDemand_load (s : State) (was : Drive) (q : Demand) (h : was.state ≠ .unloading) :
    s.faultDemand was q = s.endDemand q .mediaFault := by
  simp [State.faultDemand, h]

end Sys2Proof.Machine
end

