-- ==== Sys2Proof/Laws/Lists.lean ====
section
/-!
SUPPORT. Lists kept in key order: what insertion, change and removal keep, and what they find.
-/
namespace Sys2Proof.Machine
set_option Elab.async false

variable {α : Type} (key : α → Nat)

theorem risingKeys_iff (l : List α) : risingKeys key l = true ↔ l.Pairwise (fun a b => key a < key b) := by
  induction l with
  | nil => simp [risingKeys]
  | cons a l ih => simp [risingKeys, ih, List.pairwise_cons]

/-- Inserting keeps key order. -/
theorem risingKeys_insertKeyed (a : α) (l : List α) (h : risingKeys key l = true) : risingKeys key (insertKeyed key a l) = true := by
  rw [risingKeys_iff] at h ⊢
  have hmem : ∀ (l : List α) (x : α), x ∈ insertKeyed key a l → x = a ∨ x ∈ l := by
    intro l
    induction l with
    | nil => intro x hx; simp [insertKeyed] at hx; exact Or.inl hx
    | cons b l ih =>
      intro x hx
      simp only [insertKeyed] at hx
      split at hx
      · simpa using hx
      · split at hx
        · rcases List.mem_cons.1 hx with h | h
          · exact Or.inl h
          · exact Or.inr (List.mem_cons_of_mem _ h)
        · rcases List.mem_cons.1 hx with h | h
          · exact Or.inr (h ▸ List.mem_cons_self ..)
          · rcases ih x h with h | h
            · exact Or.inl h
            · exact Or.inr (List.mem_cons_of_mem _ h)
  induction l with
  | nil => simp [insertKeyed]
  | cons b l ih =>
    have hp := List.pairwise_cons.1 h
    simp only [insertKeyed]
    split
    · rename_i hlt
      exact List.pairwise_cons.2 ⟨fun x hx => by
        rcases List.mem_cons.1 hx with rfl | hx
        · exact hlt
        · exact hlt.trans (hp.1 x hx), h⟩
    · split
      · rename_i heq
        exact List.pairwise_cons.2 ⟨fun x hx => heq ▸ hp.1 x hx, hp.2⟩
      · exact List.pairwise_cons.2 ⟨fun x hx => by
          rcases hmem l x hx with rfl | hx
          · omega
          · exact hp.1 x hx, ih hp.2⟩

/-- A change that keeps keys keeps key order. -/
theorem risingKeys_map (f : α → α) (hf : ∀ a, key (f a) = key a) (l : List α) (h : risingKeys key l = true) :
    risingKeys key (l.map f) = true := by
  rw [risingKeys_iff] at h ⊢
  exact List.pairwise_map.2 (h.imp (fun hab => by simpa [hf] using hab))

theorem risingKeys_updateKeyed (k : Nat) (f : α → α) (hf : ∀ a, key (f a) = key a) (l : List α) (h : risingKeys key l = true) :
    risingKeys key (updateKeyed key k f l) = true :=
  risingKeys_map key _ (fun a => by split <;> simp [hf]) l h

/-- Removal keeps key order. -/
theorem risingKeys_filter (p : α → Bool) (l : List α) (h : risingKeys key l = true) : risingKeys key (l.filter p) = true := by
  rw [risingKeys_iff] at h ⊢
  exact h.filter p

/-- What is found has the key asked for, and stands in the list. -/
theorem findKeyed_some (k : Nat) (l : List α) (a : α) (h : findKeyed key k l = some a) : a ∈ l ∧ key a = k := by
  exact ⟨List.mem_of_find?_eq_some h, by simpa using List.find?_some h⟩

/-- What has been inserted is found. -/
theorem findKeyed_insertKeyed (a : α) (l : List α) : findKeyed key (key a) (insertKeyed key a l) = some a := by
  induction l with
  | nil => simp [findKeyed, insertKeyed]
  | cons b l ih =>
    simp only [insertKeyed]
    split
    · simp [findKeyed]
    · split
      · simp [findKeyed]
      · rename_i h1 h2
        have : (key b == key a) = false := by simp; exact fun h => h2 h.symm
        simpa [findKeyed, List.find?_cons, this] using ih

/-- Inserting lengthens a list by one at most. -/
theorem length_insertKeyed (a : α) (l : List α) : (insertKeyed key a l).length ≤ l.length + 1 := by
  induction l with
  | nil => simp [insertKeyed]
  | cons b l ih => simp only [insertKeyed]; split <;> (try split) <;> simp <;> omega

@[simp] theorem length_updateKeyed (k : Nat) (f : α → α) (l : List α) : (updateKeyed key k f l).length = l.length := by
  simp [updateKeyed]

/-- What is found after a change of one key's entry: the changed entry for that key, the old one for any other. -/
theorem findKeyed_updateKeyed (k c : Nat) (f : α → α) (hf : ∀ r, key (f r) = key r) (l : List α) :
    findKeyed key c (updateKeyed key k f l) = (findKeyed key c l).map (fun r => if key r = k then f r else r) := by
  induction l with
  | nil => rfl
  | cons b l ih =>
    simp only [findKeyed, updateKeyed, List.map_cons, List.find?_cons] at ih ⊢
    by_cases hb : key b = k
    · by_cases hc : key b = c
      · have e : (key (f b) == c) = true := by simp [hf, hc]
        have e' : (key b == c) = true := by simp [hc]
        simp only [if_pos hb, e, e', Option.map_some]
      · have e : (key (f b) == c) = false := by simp [hf, hc]
        have e' : (key b == c) = false := by simp [hc]
        simp only [if_pos hb, e, e', ih]
    · by_cases hc : key b = c
      · have e' : (key b == c) = true := by simp [hc]
        simp [hb, e']
      · have e' : (key b == c) = false := by simp [hc]
        simp only [if_neg hb, e', ih]

/-- A search for the one element at the end of a list. -/
theorem find?_append_last {β : Type} (l : List β) (o : β) (p : β → Bool) (h : ∀ x ∈ l, p x = false) (ho : p o = true) :
    (l ++ [o]).find? p = some o := by
  rw [List.find?_append, List.find?_eq_none.mpr (by simpa using h)]; simp [ho]

end Sys2Proof.Machine
end

