-- ==== Sys2Proof/Laws/Memory.lean ====
section
/-!
SUPPORT. Buffer memory keeps its canonical form, and reads back what was written (05, R116).
-/
namespace Sys2Proof.Machine.Memory
set_option Elab.async false

/-- The canonical form, said of all cells at once. -/
theorem wf_iff (m : Memory) : wf m = true ↔
    (∀ c ∈ m, c.2 ≠ unlisted ∧ c.1 < blocks * Config.blockBytes) ∧ m.Pairwise (fun c d => c.1 < d.1) := by
  induction m with
  | nil => simp [wf]
  | cons c m ih =>
    simp only [wf, Bool.and_eq_true, ih, List.pairwise_cons, List.forall_mem_cons, bne_iff_ne, decide_eq_true_eq, List.all_eq_true]
    tauto

theorem wf_nil : wf [] = true := rfl

/-- Any part of a canonical memory picked out by a test is canonical. -/
theorem wf_filter (m : Memory) (p : Host.Cell → Bool) (h : wf m = true) : wf (m.filter p) = true := by
  rw [wf_iff] at h ⊢
  exact ⟨fun c hc => h.1 c (List.mem_of_mem_filter hc), h.2.filter p⟩

/-- The cells of a run of bytes stand inside the run and hold no unlisted value. -/
theorem mem_cellsFrom (b : List Byte) (a : Nat) (c : Host.Cell) (h : c ∈ cellsFrom a b) :
    a ≤ c.1 ∧ c.1 < a + b.length ∧ c.2 ≠ unlisted := by
  induction b generalizing a with
  | nil => simp [cellsFrom] at h
  | cons x b ih =>
    simp only [cellsFrom] at h
    split at h
    · have := ih (a + 1) h
      simp only [List.length_cons]; exact ⟨by omega, by omega, this.2.2⟩
    · rename_i hx
      rcases List.mem_cons.1 h with rfl | h
      · simp only [List.length_cons]; exact ⟨by omega, by omega, hx⟩
      · have := ih (a + 1) h
        simp only [List.length_cons]; exact ⟨by omega, by omega, this.2.2⟩

theorem pairwise_cellsFrom (b : List Byte) (a : Nat) : (cellsFrom a b).Pairwise (fun c d => c.1 < d.1) := by
  induction b generalizing a with
  | nil => exact List.Pairwise.nil
  | cons x b ih =>
    simp only [cellsFrom]
    split
    · exact ih (a + 1)
    · exact List.pairwise_cons.2 ⟨fun d hd => (mem_cellsFrom b (a + 1) d hd).1, ih (a + 1)⟩

/-- A block written keeps the canonical form. -/
theorem wf_writeBlock (m : Memory) (blk : Nat) (bytes : List Byte) (h : wf m = true) : wf (writeBlock m blk bytes) = true := by
  unfold writeBlock
  split
  · rename_i hb
    rw [wf_iff] at h ⊢
    have hlen : (bytes.take Config.blockBytes).length ≤ 1024 := by simp [Config.blockBytes]
    refine ⟨fun c hc => ?_, ?_⟩
    · simp only [List.mem_append, List.mem_filter] at hc
      rcases hc with (hc | hc) | hc
      · exact h.1 c hc.1
      · have := mem_cellsFrom _ _ _ hc
        refine ⟨this.2.2, ?_⟩
        simp only [base, blocks, Config.blockBytes] at *
        omega
      · exact h.1 c hc.1
    · refine List.pairwise_append.2 ⟨List.pairwise_append.2 ⟨h.2.filter _, pairwise_cellsFrom _ _, ?_⟩, h.2.filter _, ?_⟩
      · intro c hc d hd
        have h1 := (mem_cellsFrom _ _ _ hd).1
        have h2 := (List.mem_filter.1 hc).2
        simp only [decide_eq_true_eq] at h2
        omega
      · intro c hc d hd
        have h2 := (List.mem_filter.1 hd).2
        simp only [decide_eq_true_eq] at h2
        simp only [List.mem_append] at hc
        rcases hc with hc | hc
        · have h1 := (List.mem_filter.1 hc).2
          simp only [decide_eq_true_eq] at h1
          omega
        · have h1 := mem_cellsFrom _ _ _ hc
          simp only [Config.blockBytes] at *
          omega
  · exact h

/-- A read finds the cell of its address, or what an unlisted address reads as. -/
theorem read_eq_of_mem (m : Memory) (hm : wf m = true) (c : Host.Cell) (h : c ∈ m) : read m c.1 = c.2 := by
  induction m with
  | nil => simp at h
  | cons d m ih =>
    have hw := (wf_iff _).1 hm
    have hp := List.pairwise_cons.1 hw.2
    rcases List.mem_cons.1 h with rfl | h'
    · simp [read]
    · have hlt := hp.1 c h'
      have hne : (d.1 == c.1) = false := by simp; omega
      have htail : wf m = true := (wf_iff _).2 ⟨fun e he => hw.1 e (List.mem_cons_of_mem _ he), hp.2⟩
      simpa [read, List.find?_cons, hne] using ih htail h'

theorem read_eq_unlisted (m : Memory) (a : Nat) (h : ∀ c ∈ m, c.1 ≠ a) : read m a = unlisted := by
  have : m.find? (fun c => c.1 == a) = none := List.find?_eq_none.2 (fun c hc => by simpa using h c hc)
  simp [read, this]

/-- The byte a run of cells holds at one of its addresses. -/
theorem mem_cellsFrom_iff (b : List Byte) (a i : Nat) (hi : i < b.length) (hx : b[i] ≠ unlisted) : (a + i, b[i]) ∈ cellsFrom a b := by
  induction b generalizing a i with
  | nil => simp at hi
  | cons x b ih =>
    simp only [cellsFrom]
    cases i with
    | zero =>
      have : ¬x = unlisted := by simpa using hx
      simp [this]
    | succ i =>
      have hi' : i < b.length := by simpa using hi
      have := ih (a + 1) i hi' (by simpa using hx)
      have e : a + (i + 1) = a + 1 + i := by omega
      split
      · simpa [e] using this
      · exact List.mem_cons_of_mem _ (by simpa [e] using this)

/-- No other cell of the run stands at that address. -/
theorem cellsFrom_unique (b : List Byte) (a i : Nat) (hi : i < b.length) (c : Host.Cell) (hc : c ∈ cellsFrom a b) (he : c.1 = a + i) :
    c.2 = b[i] := by
  induction b generalizing a i with
  | nil => simp at hi
  | cons x b ih =>
    simp only [cellsFrom] at hc
    cases i with
    | zero =>
      split at hc
      · have := (mem_cellsFrom b (a + 1) c hc).1; omega
      · rcases List.mem_cons.1 hc with rfl | hc
        · rfl
        · have := (mem_cellsFrom b (a + 1) c hc).1; omega
    | succ i =>
      have hi' : i < b.length := by simpa using hi
      have hc' : c ∈ cellsFrom (a + 1) b := by
        split at hc
        · exact hc
        · rcases List.mem_cons.1 hc with rfl | hc
          · simp at he
          · exact hc
      simpa using ih (a + 1) i hi' hc' (by omega)

/-- A byte of a written block reads as it was written. -/
theorem read_writeBlock_in (m : Memory) (hm : wf m = true) (blk : Nat) (bytes : List Byte) (hb : blk < blocks)
    (hl : bytes.length = Config.blockBytes) (i : Nat) (hi : i < bytes.length) :
    read (writeBlock m blk bytes) (base blk + i) = bytes[i] := by
  have hw := wf_writeBlock m blk bytes hm
  by_cases hx : bytes[i] = unlisted
  · rw [hx]
    apply read_eq_unlisted
    intro c hc he
    unfold writeBlock at hc
    rw [if_pos hb] at hc
    have ht : bytes.take Config.blockBytes = bytes := by rw [← hl, List.take_length]
    simp only [List.mem_append, List.mem_filter, decide_eq_true_eq, ht] at hc
    rcases hc with (hc | hc) | hc
    · omega
    · have h1 := cellsFrom_unique bytes (base blk) i hi c hc he
      exact (mem_cellsFrom _ _ _ hc).2.2 (h1.trans hx)
    · omega
  · have hmem : (base blk + i, bytes[i]) ∈ writeBlock m blk bytes := by
      unfold writeBlock
      rw [if_pos hb]
      have ht : bytes.take Config.blockBytes = bytes := by rw [← hl, List.take_length]
      simp only [List.mem_append, ht]
      exact Or.inl (Or.inr (mem_cellsFrom_iff bytes (base blk) i hi hx))
    exact read_eq_of_mem _ hw _ hmem

/-- Every byte outside a written block reads as before. -/
theorem read_writeBlock_out (m : Memory) (hm : wf m = true) (blk : Nat) (bytes : List Byte) (a : Nat)
    (ha : a < base blk ∨ base blk + Config.blockBytes ≤ a) : read (writeBlock m blk bytes) a = read m a := by
  have hw := wf_writeBlock m blk bytes hm
  by_cases hb : blk < blocks
  · have hsub : ∀ c : Host.Cell, c.1 = a → (c ∈ writeBlock m blk bytes ↔ c ∈ m) := by
      intro c he
      unfold writeBlock
      rw [if_pos hb]
      simp only [List.mem_append, List.mem_filter, decide_eq_true_eq]
      constructor
      · rintro ((h | h) | h)
        · exact h.1
        · have h1 := mem_cellsFrom _ _ _ h
          have h2 : (bytes.take Config.blockBytes).length ≤ Config.blockBytes := by simp
          omega
        · exact h.1
      · intro h
        rcases ha with ha | ha
        · exact Or.inl (Or.inl ⟨h, by omega⟩)
        · exact Or.inr ⟨h, by omega⟩
    by_cases hx : ∃ c ∈ m, c.1 = a
    · obtain ⟨c, hc, rfl⟩ := hx
      rw [read_eq_of_mem m hm c hc, read_eq_of_mem _ hw c ((hsub c rfl).2 hc)]
    · rw [read_eq_unlisted m a (fun c hc he => hx ⟨c, hc, he⟩),
        read_eq_unlisted _ a (fun c hc he => hx ⟨c, (hsub c he).1 hc, he⟩)]
  · unfold writeBlock
    rw [if_neg hb]

/-- A block read gives as many bytes as a block has. -/
theorem length_bytesFrom (n a : Nat) (m : Memory) : (bytesFrom n a m).length = n := by
  induction n generalizing a m with
  | zero => rfl
  | succ n ih =>
    cases m with
    | nil => simp [bytesFrom, ih]
    | cons c m => simp only [bytesFrom]; split <;> simp [ih]

theorem length_readBlock (m : Memory) (blk : Nat) : (readBlock m blk).length = Config.blockBytes := length_bytesFrom _ _ _

/-- Over cells none of which lies below it, a run of bytes is what the reads of its addresses give. -/
theorem getElem_bytesFrom (n a : Nat) (m : Memory) (hm : wf m = true) (ha : ∀ c ∈ m, a ≤ c.1) (i : Nat) (hi : i < n) :
    (bytesFrom n a m)[i]'(by rw [length_bytesFrom]; exact hi) = read m (a + i) := by
  induction n generalizing a m i with
  | zero => omega
  | succ n ih =>
    cases m with
    | nil =>
      cases i with
      | zero => simp [bytesFrom, read]
      | succ i =>
        have := ih (a + 1) [] rfl (by simp) i (by omega)
        simp only [bytesFrom, List.getElem_cons_succ, this]
        rfl
    | cons c m =>
      have hw := (wf_iff _).1 hm
      have hp := List.pairwise_cons.1 hw.2
      have htail : wf m = true := (wf_iff _).2 ⟨fun e he => hw.1 e (List.mem_cons_of_mem _ he), hp.2⟩
      have hc := ha c (List.mem_cons_self ..)
      by_cases he : c.1 = a
      · cases i with
        | zero => simp [bytesFrom, he, read]
        | succ i =>
          have hgt : ∀ d ∈ m, a + 1 ≤ d.1 := fun d hd => by have := hp.1 d hd; omega
          have h1 := ih (a + 1) m htail hgt i (by omega)
          have hne : (c.1 == a + (i + 1)) = false := by simp; omega
          simp only [bytesFrom, if_pos he, List.getElem_cons_succ, h1]
          simp only [read, List.find?_cons, hne]
          rw [show a + 1 + i = a + (i + 1) by omega]
      · cases i with
        | zero =>
          have : read (c :: m) (a + 0) = unlisted := by
            apply read_eq_unlisted
            intro d hd hda
            rcases List.mem_cons.1 hd with rfl | hd
            · omega
            · have := hp.1 d hd; omega
          rw [this]; simp [bytesFrom, he]
        | succ i =>
          have hge : ∀ d ∈ c :: m, a + 1 ≤ d.1 := by
            intro d hd
            rcases List.mem_cons.1 hd with rfl | hd
            · omega
            · have := hp.1 d hd; omega
          have h1 := ih (a + 1) (c :: m) hm hge i (by omega)
          simp only [bytesFrom, if_neg he, List.getElem_cons_succ, h1]
          rw [show a + 1 + i = a + (i + 1) by omega]

/-- The cells at and above an address read there as the whole memory does. -/
theorem read_filter_ge (m : Memory) (hm : wf m = true) (b a : Nat) (h : b ≤ a) :
    read (m.filter (fun c => decide (b ≤ c.1))) a = read m a := by
  have hw := wf_filter m (fun c => decide (b ≤ c.1)) hm
  by_cases hx : ∃ c ∈ m, c.1 = a
  · obtain ⟨c, hc, rfl⟩ := hx
    rw [read_eq_of_mem m hm c hc, read_eq_of_mem _ hw c (List.mem_filter.2 ⟨hc, by simpa using h⟩)]
  · rw [read_eq_unlisted m a (fun c hc he => hx ⟨c, hc, he⟩),
      read_eq_unlisted _ a (fun c hc he => hx ⟨c, List.mem_of_mem_filter hc, he⟩)]

/-- A block read gives the byte at each of its addresses. -/
theorem getElem_readBlock (m : Memory) (hm : wf m = true) (blk i : Nat) (hi : i < Config.blockBytes) :
    (readBlock m blk)[i]'(by rw [length_readBlock]; exact hi) = read m (base blk + i) := by
  have := getElem_bytesFrom Config.blockBytes (base blk) (m.filter (fun c => decide (base blk ≤ c.1))) (wf_filter m _ hm)
    (fun c hc => by simpa using (List.mem_filter.1 hc).2) i hi
  exact this.trans (read_filter_ge m hm _ _ (by omega))

/-- A block reads back as it was written. -/
theorem readBlock_writeBlock (m : Memory) (hm : wf m = true) (blk : Nat) (bytes : List Byte) (hb : blk < blocks)
    (hl : bytes.length = Config.blockBytes) : readBlock (writeBlock m blk bytes) blk = bytes := by
  apply List.ext_getElem (by rw [length_readBlock, hl])
  intro i h1 h2
  rw [getElem_readBlock _ (wf_writeBlock m blk bytes hm) blk i (by rw [length_readBlock] at h1; exact h1),
    read_writeBlock_in m hm blk bytes hb hl i h2]

end Sys2Proof.Machine.Memory
end

