-- ==== Sys2Proof/Laws/PerInstr.lean ====
section
/-!
SUPPORT. For every command, as syntax: the request it carries, where it is well-formed, has a length and a code that LNK
takes (10, Table 10-2).
-/
namespace Sys2Proof.Laws.Request
set_option Elab.async false

/-- The request a well-formed command carries has one of the lengths its code allows, and a code of Table 10-2. -/
def Statement (i : Instr) : Prop :=
  i.wellFormed = true → ∀ (l : Link) (t : Nat) (q : Machine.Request), Machine.requestOf i = some (l, t, q) →
    q.lengthOk = true ∧ Machine.knownCodes.contains q.code = true

theorem code_known (q : Machine.Request) : Machine.knownCodes.contains q.code = true := by cases q <;> rfl

theorem powerOn (found : PowerOn) : Statement (.powerOn found) := by
  intro _ l t q hq; cases hq

theorem linksStart : Statement (.linksStart) := by
  intro _ l t q hq; cases hq

theorem clockAdvance : Statement (.clockAdvance) := by
  intro _ l t q hq; cases hq

theorem trimAccumulatorOverflow : Statement (.trimAccumulatorOverflow) := by
  intro _ l t q hq; cases hq

theorem temporaryTrimExpiry : Statement (.temporaryTrimExpiry) := by
  intro _ l t q hq; cases hq

theorem closeTargetReached : Statement (.closeTargetReached) := by
  intro _ l t q hq; cases hq

theorem press (line : LineNo) : Statement (.press line) := by
  intro _ l t q hq; cases hq

theorem printerAccept (line : LineNo) : Statement (.printerAccept line) := by
  intro _ l t q hq; cases hq

theorem printerAcceptNegated (line : LineNo) : Statement (.printerAcceptNegated line) := by
  intro _ l t q hq; cases hq

theorem strayByte (link : Link) : Statement (.strayByte link) := by
  intro _ l t q hq; cases hq

theorem badFrame (link : Link) (frame : BadFrame) : Statement (.badFrame link frame) := by
  intro _ l t q hq; cases hq

theorem responseSend (link : Link) : Statement (.responseSend link) := by
  intro _ l t q hq; cases hq

theorem responseAccepted (link : Link) : Statement (.responseAccepted link) := by
  intro _ l t q hq; cases hq

theorem dataAccepted (link : Link) : Statement (.dataAccepted link) := by
  intro _ l t q hq; cases hq

theorem bufferPortMove (parityFault : Bool) : Statement (.bufferPortMove parityFault) := by
  intro _ l t q hq; cases hq

theorem deliveryTimeout (link : Link) : Statement (.deliveryTimeout link) := by
  intro _ l t q hq; cases hq

theorem linkReset (link : Link) : Statement (.linkReset link) := by
  intro _ l t q hq; cases hq

theorem linkResetRelease (link : Link) : Statement (.linkResetRelease link) := by
  intro _ l t q hq; cases hq

theorem lookup (link : Link) (tag : Nat) (inst : InstrNum) : Statement (.lookup link tag inst) := by
  intro _ l t q hq
  simp only [Machine.requestOf, Option.some.injEq, Prod.mk.injEq] at hq
  obtain ⟨_, _, rfl⟩ := hq
  exact ⟨rfl, code_known _⟩

theorem pendingList (link : Link) (tag : Nat) (after : OptField) : Statement (.pendingList link tag after) := by
  intro _ l t q hq
  simp only [Machine.requestOf, Option.some.injEq, Prod.mk.injEq] at hq
  obtain ⟨_, _, rfl⟩ := hq
  exact ⟨rfl, code_known _⟩

theorem folioSearch (link : Link) (tag : Nat) (folio : Nat) (after : OptField) (mode : Nat) : Statement (.folioSearch link tag folio after mode) := by
  intro _ l t q hq
  simp only [Machine.requestOf, Option.some.injEq, Prod.mk.injEq] at hq
  obtain ⟨_, _, rfl⟩ := hq
  exact ⟨rfl, code_known _⟩

theorem restore (link : Link) (tag : Nat) (p : RestoreParams) : Statement (.restore link tag p) := by
  intro h l t q hq
  simp only [Machine.requestOf, Option.some.injEq, Prod.mk.injEq] at hq
  obtain ⟨_, _, rfl⟩ := hq
  refine ⟨?_, code_known _⟩
  simp only [Instr.wellFormed, RestoreParams.fits, Bool.and_eq_true] at h
  simp only [Machine.Request.lengthOk, Bool.and_eq_true]
  exact ⟨h.2.1.2, h.2.2⟩

theorem catalogueReady (link : Link) (tag : Nat) : Statement (.catalogueReady link tag) := by
  intro _ l t q hq
  simp only [Machine.requestOf, Option.some.injEq, Prod.mk.injEq] at hq
  obtain ⟨_, _, rfl⟩ := hq
  exact ⟨rfl, code_known _⟩

theorem lodge (link : Link) (tag : Nat) : Statement (.lodge link tag) := by
  intro _ l t q hq
  simp only [Machine.requestOf, Option.some.injEq, Prod.mk.injEq] at hq
  obtain ⟨_, _, rfl⟩ := hq
  exact ⟨rfl, code_known _⟩

theorem clockRead (link : Link) (tag : Nat) : Statement (.clockRead link tag) := by
  intro _ l t q hq
  simp only [Machine.requestOf, Option.some.injEq, Prod.mk.injEq] at hq
  obtain ⟨_, _, rfl⟩ := hq
  exact ⟨rfl, code_known _⟩

theorem clockLoad (link : Link) (tag : Nat) (value : Stamp) : Statement (.clockLoad link tag value) := by
  intro _ l t q hq
  simp only [Machine.requestOf, Option.some.injEq, Prod.mk.injEq] at hq
  obtain ⟨_, _, rfl⟩ := hq
  exact ⟨rfl, code_known _⟩

theorem clockStep (link : Link) (tag : Nat) (seconds : Int) : Statement (.clockStep link tag seconds) := by
  intro _ l t q hq
  simp only [Machine.requestOf, Option.some.injEq, Prod.mk.injEq] at hq
  obtain ⟨_, _, rfl⟩ := hq
  exact ⟨rfl, code_known _⟩

theorem clockTrimBase (link : Link) (tag : Nat) (trim : Int) : Statement (.clockTrimBase link tag trim) := by
  intro _ l t q hq
  simp only [Machine.requestOf, Option.some.injEq, Prod.mk.injEq] at hq
  obtain ⟨_, _, rfl⟩ := hq
  exact ⟨rfl, code_known _⟩

theorem clockTrimTemporary (link : Link) (tag : Nat) (trim : Int) (duration : Nat) : Statement (.clockTrimTemporary link tag trim duration) := by
  intro _ l t q hq
  simp only [Machine.requestOf, Option.some.injEq, Prod.mk.injEq] at hq
  obtain ⟨_, _, rfl⟩ := hq
  exact ⟨rfl, code_known _⟩

theorem clockTrimEnd (link : Link) (tag : Nat) (form : Nat) : Statement (.clockTrimEnd link tag form) := by
  intro _ l t q hq
  simp only [Machine.requestOf, Option.some.injEq, Prod.mk.injEq] at hq
  obtain ⟨_, _, rfl⟩ := hq
  exact ⟨rfl, code_known _⟩

theorem closeTargetSet (link : Link) (tag : Nat) (target : Nat) (mode : Nat) (value : Nat) : Statement (.closeTargetSet link tag target mode value) := by
  intro _ l t q hq
  simp only [Machine.requestOf, Option.some.injEq, Prod.mk.injEq] at hq
  obtain ⟨_, _, rfl⟩ := hq
  exact ⟨rfl, code_known _⟩

theorem openFiling (link : Link) (tag : Nat) (inst : OptField) : Statement (.openFiling link tag inst) := by
  intro _ l t q hq
  simp only [Machine.requestOf, Option.some.injEq, Prod.mk.injEq] at hq
  obtain ⟨_, _, rfl⟩ := hq
  exact ⟨rfl, code_known _⟩

theorem feed (link : Link) (tag : Nat) (slot : Nat) (pageStart : Nat) (block : List Byte) : Statement (.feed link tag slot pageStart block) := by
  intro h l t q hq
  simp only [Machine.requestOf, Option.some.injEq, Prod.mk.injEq] at hq
  obtain ⟨_, _, rfl⟩ := hq
  refine ⟨?_, code_known _⟩
  simp only [Instr.wellFormed, blockOk, Bool.and_eq_true] at h
  simpa [Machine.Request.lengthOk] using h.2

theorem commit (link : Link) (tag : Nat) (p : CommitParams) : Statement (.commit link tag p) := by
  intro h l t q hq
  simp only [Machine.requestOf, Option.some.injEq, Prod.mk.injEq] at hq
  obtain ⟨_, _, rfl⟩ := hq
  refine ⟨?_, code_known _⟩
  simp only [Instr.wellFormed, CommitParams.fits, Bool.and_eq_true] at h
  simp only [Machine.Request.lengthOk, Bool.and_eq_true]
  exact ⟨h.2.1.2, h.2.2⟩

theorem abandon (link : Link) (tag : Nat) (slot : Nat) : Statement (.abandon link tag slot) := by
  intro _ l t q hq
  simp only [Machine.requestOf, Option.some.injEq, Prod.mk.injEq] at hq
  obtain ⟨_, _, rfl⟩ := hq
  exact ⟨rfl, code_known _⟩

theorem withdraw (link : Link) (tag : Nat) (inst : InstrNum) : Statement (.withdraw link tag inst) := by
  intro _ l t q hq
  simp only [Machine.requestOf, Option.some.injEq, Prod.mk.injEq] at hq
  obtain ⟨_, _, rfl⟩ := hq
  exact ⟨rfl, code_known _⟩

theorem closeSide (link : Link) (tag : Nat) : Statement (.closeSide link tag) := by
  intro _ l t q hq
  simp only [Machine.requestOf, Option.some.injEq, Prod.mk.injEq] at hq
  obtain ⟨_, _, rfl⟩ := hq
  exact ⟨rfl, code_known _⟩

theorem filingIdleTimeout (slot : FSlot) : Statement (.filingIdleTimeout slot) := by
  intro _ l t q hq; cases hq

theorem fetch (link : Link) (tag : Nat) (p : FetchParams) : Statement (.fetch link tag p) := by
  intro _ l t q hq
  simp only [Machine.requestOf, Option.some.injEq, Prod.mk.injEq] at hq
  obtain ⟨_, _, rfl⟩ := hq
  exact ⟨rfl, code_known _⟩

theorem bundle (link : Link) (tag : Nat) (p : BundleParams) : Statement (.bundle link tag p) := by
  intro h l t q hq
  simp only [Machine.requestOf, Option.some.injEq, Prod.mk.injEq] at hq
  obtain ⟨_, _, rfl⟩ := hq
  refine ⟨?_, code_known _⟩
  simp only [Instr.wellFormed, BundleParams.fits, Bool.and_eq_true] at h
  simp only [Machine.Request.lengthOk, Bool.and_eq_true]
  exact ⟨h.2.1.2, h.2.2⟩

theorem quote (link : Link) (tag : Nat) (p : FetchParams) : Statement (.quote link tag p) := by
  intro _ l t q hq
  simp only [Machine.requestOf, Option.some.injEq, Prod.mk.injEq] at hq
  obtain ⟨_, _, rfl⟩ := hq
  exact ⟨rfl, code_known _⟩

theorem importPlatter (link : Link) (tag : Nat) : Statement (.importPlatter link tag) := by
  intro _ l t q hq
  simp only [Machine.requestOf, Option.some.injEq, Prod.mk.injEq] at hq
  obtain ⟨_, _, rfl⟩ := hq
  exact ⟨rfl, code_known _⟩

theorem exportPlatter (link : Link) (tag : Nat) (platter : Nat) : Statement (.exportPlatter link tag platter) := by
  intro _ l t q hq
  simp only [Machine.requestOf, Option.some.injEq, Prod.mk.injEq] at hq
  obtain ⟨_, _, rfl⟩ := hq
  exact ⟨rfl, code_known _⟩

theorem substitute (link : Link) (tag : Nat) (retired : Nat) (replacement : Nat) : Statement (.substitute link tag retired replacement) := by
  intro _ l t q hq
  simp only [Machine.requestOf, Option.some.injEq, Prod.mk.injEq] at hq
  obtain ⟨_, _, rfl⟩ := hq
  exact ⟨rfl, code_known _⟩

theorem driveReset (link : Link) (tag : Nat) (drive : Nat) : Statement (.driveReset link tag drive) := by
  intro _ l t q hq
  simp only [Machine.requestOf, Option.some.injEq, Prod.mk.injEq] at hq
  obtain ⟨_, _, rfl⟩ := hq
  exact ⟨rfl, code_known _⟩

theorem settingsSet (link : Link) (tag : Nat) (count : Nat) (enables : Four Nat) : Statement (.settingsSet link tag count enables) := by
  intro _ l t q hq
  simp only [Machine.requestOf, Option.some.injEq, Prod.mk.injEq] at hq
  obtain ⟨_, _, rfl⟩ := hq
  exact ⟨rfl, code_known _⟩

theorem scheduleSetPending (link : Link) (tag : Nat) (schedule : Option Schedule) : Statement (.scheduleSetPending link tag schedule) := by
  intro _ l t q hq
  simp only [Machine.requestOf, Option.some.injEq, Prod.mk.injEq] at hq
  obtain ⟨_, _, rfl⟩ := hq
  exact ⟨rfl, code_known _⟩

theorem scheduleSetImmediate (link : Link) (tag : Nat) (schedule : Option Schedule) : Statement (.scheduleSetImmediate link tag schedule) := by
  intro _ l t q hq
  simp only [Machine.requestOf, Option.some.injEq, Prod.mk.injEq] at hq
  obtain ⟨_, _, rfl⟩ := hq
  exact ⟨rfl, code_known _⟩

theorem scheduleSetCancelPending (link : Link) (tag : Nat) (schedule : Option Schedule) : Statement (.scheduleSetCancelPending link tag schedule) := by
  intro _ l t q hq
  simp only [Machine.requestOf, Option.some.injEq, Prod.mk.injEq] at hq
  obtain ⟨_, _, rfl⟩ := hq
  exact ⟨rfl, code_known _⟩

theorem scheduleSetShow (link : Link) (tag : Nat) (form : Nat) (schedule : Option Schedule) : Statement (.scheduleSetShow link tag form schedule) := by
  intro _ l t q hq
  simp only [Machine.requestOf, Option.some.injEq, Prod.mk.injEq] at hq
  obtain ⟨_, _, rfl⟩ := hq
  exact ⟨rfl, code_known _⟩

theorem accountSetCreate (link : Link) (tag : Nat) (p : AccountParams) : Statement (.accountSetCreate link tag p) := by
  intro _ l t q hq
  simp only [Machine.requestOf, Option.some.injEq, Prod.mk.injEq] at hq
  obtain ⟨_, _, rfl⟩ := hq
  exact ⟨rfl, code_known _⟩

theorem accountSetChange (link : Link) (tag : Nat) (p : AccountParams) : Statement (.accountSetChange link tag p) := by
  intro _ l t q hq
  simp only [Machine.requestOf, Option.some.injEq, Prod.mk.injEq] at hq
  obtain ⟨_, _, rfl⟩ := hq
  exact ⟨rfl, code_known _⟩

theorem accountSetReset (link : Link) (tag : Nat) (p : AccountParams) : Statement (.accountSetReset link tag p) := by
  intro _ l t q hq
  simp only [Machine.requestOf, Option.some.injEq, Prod.mk.injEq] at hq
  obtain ⟨_, _, rfl⟩ := hq
  exact ⟨rfl, code_known _⟩

theorem accountSetDelete (link : Link) (tag : Nat) (action : Nat) (p : AccountParams) : Statement (.accountSetDelete link tag action p) := by
  intro _ l t q hq
  simp only [Machine.requestOf, Option.some.injEq, Prod.mk.injEq] at hq
  obtain ⟨_, _, rfl⟩ := hq
  exact ⟨rfl, code_known _⟩

theorem accountRead (link : Link) (tag : Nat) (after : OptField) : Statement (.accountRead link tag after) := by
  intro _ l t q hq
  simp only [Machine.requestOf, Option.some.injEq, Prod.mk.injEq] at hq
  obtain ⟨_, _, rfl⟩ := hq
  exact ⟨rfl, code_known _⟩

theorem periodTake (link : Link) (tag : Nat) (after : OptField) : Statement (.periodTake link tag after) := by
  intro _ l t q hq
  simp only [Machine.requestOf, Option.some.injEq, Prod.mk.injEq] at hq
  obtain ⟨_, _, rfl⟩ := hq
  exact ⟨rfl, code_known _⟩

theorem periodClear (link : Link) (tag : Nat) (period : Nat) : Statement (.periodClear link tag period) := by
  intro _ l t q hq
  simp only [Machine.requestOf, Option.some.injEq, Prod.mk.injEq] at hq
  obtain ⟨_, _, rfl⟩ := hq
  exact ⟨rfl, code_known _⟩

theorem rightsSet (link : Link) (tag : Nat) (target : Nat) (rights : Nat) : Statement (.rightsSet link tag target rights) := by
  intro _ l t q hq
  simp only [Machine.requestOf, Option.some.injEq, Prod.mk.injEq] at hq
  obtain ⟨_, _, rfl⟩ := hq
  exact ⟨rfl, code_known _⟩

theorem eventsRead (link : Link) (tag : Nat) : Statement (.eventsRead link tag) := by
  intro _ l t q hq
  simp only [Machine.requestOf, Option.some.injEq, Prod.mk.injEq] at hq
  obtain ⟨_, _, rfl⟩ := hq
  exact ⟨rfl, code_known _⟩

theorem eventsAck (link : Link) (tag : Nat) (kinds : Nat) : Statement (.eventsAck link tag kinds) := by
  intro _ l t q hq
  simp only [Machine.requestOf, Option.some.injEq, Prod.mk.injEq] at hq
  obtain ⟨_, _, rfl⟩ := hq
  exact ⟨rfl, code_known _⟩

theorem eventsEnable (link : Link) (tag : Nat) (kinds : Nat) : Statement (.eventsEnable link tag kinds) := by
  intro _ l t q hq
  simp only [Machine.requestOf, Option.some.injEq, Prod.mk.injEq] at hq
  obtain ⟨_, _, rfl⟩ := hq
  exact ⟨rfl, code_known _⟩

theorem status (link : Link) (tag : Nat) (platter : OptField) : Statement (.status link tag platter) := by
  intro _ l t q hq
  simp only [Machine.requestOf, Option.some.injEq, Prod.mk.injEq] at hq
  obtain ⟨_, _, rfl⟩ := hq
  exact ⟨rfl, code_known _⟩

theorem driveReadyReport (drive : DriveNo) : Statement (.driveReadyReport drive) := by
  intro _ l t q hq; cases hq

theorem driveUnloadedReport (drive : DriveNo) : Statement (.driveUnloadedReport drive) := by
  intro _ l t q hq; cases hq

theorem driveBlockReport (drive : DriveNo) (report : BlockReport) : Statement (.driveBlockReport drive report) := by
  intro _ l t q hq; cases hq

theorem driveDoneReport (drive : DriveNo) : Statement (.driveDoneReport drive) := by
  intro _ l t q hq; cases hq

theorem driveMediumError (drive : DriveNo) : Statement (.driveMediumError drive) := by
  intro _ l t q hq; cases hq

theorem driveUnreadable (drive : DriveNo) : Statement (.driveUnreadable drive) := by
  intro _ l t q hq; cases hq

theorem driveFaultReport (drive : DriveNo) : Statement (.driveFaultReport drive) := by
  intro _ l t q hq; cases hq

theorem driveCommandTimeout (drive : DriveNo) : Statement (.driveCommandTimeout drive) := by
  intro _ l t q hq; cases hq

theorem residencyExpiry (drive : DriveNo) : Statement (.residencyExpiry drive) := by
  intro _ l t q hq; cases hq

theorem pickerMoveDone : Statement (.pickerMoveDone) := by
  intro _ l t q hq; cases hq

theorem pickerLabelReport (report : LabelReport) : Statement (.pickerLabelReport report) := by
  intro _ l t q hq; cases hq

theorem pickerMoveTimeout : Statement (.pickerMoveTimeout) := by
  intro _ l t q hq; cases hq

theorem doorOpened : Statement (.doorOpened) := by
  intro _ l t q hq; cases hq

theorem doorClosed : Statement (.doorClosed) := by
  intro _ l t q hq; cases hq

theorem mailSlotFilled : Statement (.mailSlotFilled) := by
  intro _ l t q hq; cases hq

theorem mailSlotEmptied : Statement (.mailSlotEmptied) := by
  intro _ l t q hq; cases hq

theorem powerFail (cut : PowerCut) : Statement (.powerFail cut) := by
  intro _ l t q hq; cases hq

theorem settingsWriteEnd (ok : Bool) : Statement (.settingsWriteEnd ok) := by
  intro _ l t q hq; cases hq

theorem pressInputInactive (line : LineNo) : Statement (.pressInputInactive line) := by
  intro _ l t q hq; cases hq

end Sys2Proof.Laws.Request
end

