-- ==== Sys2Proof/Laws/Requests.lean ====
section
/-!
SUPPORT. Settling, and the way of a request from its lane to the unit that owns it, each said once.
-/
namespace Sys2Proof.Machine
set_option Elab.async false

/-! ## Settling -/

theorem State.settleFor_agenda (n : Nat) (s : State) : (State.settleFor n s).agenda = [] := by
  induction n generalizing s with
  | zero => rfl
  | succ n ih =>
    simp only [State.settleFor]
    split
    · assumption
    · exact ih _

/-- Settling leaves nothing to do. -/
@[simp] theorem State.settle_agenda (s : State) : s.settle.agenda = [] := State.settleFor_agenda _ s

/-- With nothing to do, settling changes nothing. -/
theorem State.settle_nil (s : State) (h : s.agenda = []) : s.settle = s := by
  show State.settleFor (4095 + 1) s = s
  simp only [State.settleFor, h]

@[simp] theorem State.settle_settle (s : State) : s.settle.settle = s.settle := State.settle_nil _ (State.settle_agenda s)

/-- One piece of work, of a list known to be done within the fuel. -/
theorem State.settleFor_cons (n : Nat) (s : State) (t : Task) (ts : List Task) (h : s.agenda = t :: ts) :
    State.settleFor (n + 1) s =
      State.settleFor n { State.runTask { s with agenda := [] } t with agenda := (State.runTask { s with agenda := [] } t).agenda ++ ts } := by
  simp only [State.settleFor, h]

theorem State.settleFor_nil (n : Nat) (s : State) (h : s.agenda = []) : State.settleFor n s = s := by
  cases n with
  | zero => cases s; simp_all [State.settleFor]
  | succ n => simp only [State.settleFor, h]

/-! ## Commands -/

/-- Every command answers a next state with nothing left to do. -/
theorem exec_next (i : Instr) (s : State) : ∃ t, exec i s = .next t ∧ t.agenda = [] := by
  cases i <;> exact ⟨_, rfl, State.settle_agenda _⟩

/-- A command that carries a request is the arrival of that request. -/
theorem exec_request (i : Instr) (l : Link) (t : Nat) (q : Request) (h : requestOf i = some (l, t, q)) (s : State) :
    exec i s = request l t q s := by
  cases i <;> simp only [requestOf, Option.some.injEq, Prod.mk.injEq, reduceCtorEq] at h
  all_goals
    obtain ⟨rfl, rfl, rfl⟩ := h
    rfl

theorem State.acknowledges_of (s : State) (l : Link) (x : LaneInput) (h : s.LaneFree l) : s.acknowledges l x = true := by
  obtain ⟨h1, _, h3, _, h5, h6⟩ := h
  simp only [State.acknowledges, h1, h3, h5]
  cases x <;> simp [h6]

/-- What comes on a free lane is taken at once. -/
theorem State.arrive_of (s : State) (l : Link) (x : LaneInput) (h : s.LaneFree l) : s.arrive l x = s.takeInput l x := by
  have ha := s.acknowledges_of l x h
  obtain ⟨h1, _, _, h4, _⟩ := h
  simp [State.arrive, h1, h4, ha]

/-- A request on a free lane is taken whole. -/
theorem request_of (s : State) (l : Link) (t : Nat) (q : Request) (h : s.LaneFree l) :
    request l t q s = .next (s.takeRequest l t q).settle := by
  simp [request, done, s.arrive_of l _ h, State.takeInput]

/-- A request that passes every check of LNK is its unit's. -/
theorem request_takes (s : State) (l : Link) (t : Nat) (q : Request) (h : s.Takes l t q) :
    request l t q s = .next ((s.tagTaken l t).handle (s.replyTo l t q) q).settle := by
  obtain ⟨⟨h0, h1, h2, h3⟩, h4, h5⟩ := h
  rw [request_of s l t q h0]
  have h6 : ¬(3 < t ∨ (!q.lengthOk) = true) := by simp [h2]; omega
  have h7 : ¬((s.tagTaken l t).absentMode && !q.takenAbsent) = true := by
    intro hh
    simp only [Bool.and_eq_true, Bool.not_eq_true'] at hh
    have : q.takenAbsent = true := h5 hh.1
    simp [this] at hh
  simp only [State.takeRequest, if_neg h6, h3, Bool.false_eq_true, if_false, State.route]
  rw [if_neg (by simp [h4]), if_neg (by simpa [State.tagTaken] using h7)]
  rfl

/-- Handing over the response of a request taken now. -/
theorem State.respond_tagTaken (s : State) (l : Link) (t : Nat) (q : Request) (st : Status) (b : Body) :
    (s.tagTaken l t).respond (s.replyTo l t q) st b = s.answered l t q.code st b := by
  simp [State.respond, State.tagTaken, State.replyTo, State.answered, State.modLink]

theorem State.answer_tagTaken (s : State) (l : Link) (t : Nat) (q : Request) (st : Status) :
    (s.tagTaken l t).answer (s.replyTo l t q) st = s.answered l t q.code st .none := s.respond_tagTaken l t q st .none

@[simp] theorem State.answered_agenda (s : State) (l : Link) (t code : Nat) (st : Status) (b : Body) :
    (s.answered l t code st b).agenda = s.agenda := rfl

/-- A request whose unit only answers it. -/
theorem request_answers (s : State) (l : Link) (t : Nat) (q : Request) (h : s.Takes l t q) (st : Status) (b : Body)
    (hq : (s.tagTaken l t).handle (s.replyTo l t q) q = (s.tagTaken l t).respond (s.replyTo l t q) st b) :
    request l t q s = .next (s.answered l t q.code st b) := by
  rw [request_takes s l t q h, hq, State.respond_tagTaken, State.settle_nil (s.answered l t q.code st b) h.1.1.2.1]

/-- A request whose unit makes a change that takes no note of the links, and then answers it. -/
theorem request_changes (s s' : State) (l : Link) (t : Nat) (q : Request) (h : s.Takes l t q) (st : Status) (b : Body)
    (hl : s'.links = s.links) (ha : s'.agenda = [])
    (hq : (s.tagTaken l t).handle (s.replyTo l t q) q = (s'.tagTaken l t).respond (s.replyTo l t q) st b) :
    request l t q s = .next (s'.answered l t q.code st b) := by
  have hr : s.replyTo l t q = s'.replyTo l t q := by simp [State.replyTo, hl]
  rw [request_takes s l t q h, hq, hr, State.respond_tagTaken, State.settle_nil (s'.answered l t q.code st b) ha]

/-! ## Refusals by LNK -/

theorem request_busy (s : State) (l : Link) (t : Nat) (q : Request) (h : s.LaneFree l) (ht : t ≤ 3) (hl : q.lengthOk = true)
    (hb : s.tagInUse l t = true) : request l t q s = .next (s.refuseFrame l (some t) q.code .busy) := by
  rw [request_of s l t q h]
  have h6 : ¬(3 < t ∨ (!q.lengthOk) = true) := by simp [hl]; omega
  simp only [State.takeRequest, if_neg h6, hb, if_true]
  rw [State.settle_nil]
  exact h.2.1

theorem request_noRight (s : State) (l : Link) (t : Nat) (q : Request) (h : s.Frames l t q) (hr : q.allowed (s.rights.get l) = false) :
    request l t q s = .next (s.answered l t q.code .noRight .none) := by
  obtain ⟨h0, h1, h2, h3⟩ := h
  rw [request_of s l t q h0]
  have h6 : ¬(3 < t ∨ (!q.lengthOk) = true) := by simp [h2]; omega
  have h8 : (!q.allowed ((s.tagTaken l t).rights.get l)) = true := by
    have : (s.tagTaken l t).rights = s.rights := rfl
    simp [this, hr]
  simp only [State.takeRequest, if_neg h6, h3, Bool.false_eq_true, if_false, State.route]
  rw [if_pos (by simpa [State.tagTaken] using h8)]
  show Host.Outcome.next ((s.tagTaken l t).answer (s.replyTo l t q) .noRight).settle = _
  rw [State.answer_tagTaken, State.settle_nil (s.answered l t q.code .noRight .none) h0.2.1]

theorem request_absent (s : State) (l : Link) (t : Nat) (q : Request) (h : s.Frames l t q) (hr : q.allowed (s.rights.get l) = true)
    (ha : s.absentMode = true) (hq : q.takenAbsent = false) :
    request l t q s = .next (s.answered l t q.code .catalogueAbsent .none) := by
  obtain ⟨h0, h1, h2, h3⟩ := h
  rw [request_of s l t q h0]
  have h6 : ¬(3 < t ∨ (!q.lengthOk) = true) := by simp [h2]; omega
  have h8 : ¬(!q.allowed ((s.tagTaken l t).rights.get l)) = true := by
    have : (s.tagTaken l t).rights = s.rights := rfl
    simp [this, hr]
  have h9 : ((s.tagTaken l t).absentMode && !q.takenAbsent) = true := by
    have : (s.tagTaken l t).absentMode = s.absentMode := rfl
    simp [this, ha, hq]
  simp only [State.takeRequest, if_neg h6, h3, Bool.false_eq_true, if_false, State.route]
  rw [if_neg (by simpa [State.tagTaken] using h8), if_pos (by simpa [State.tagTaken] using h9)]
  show Host.Outcome.next ((s.tagTaken l t).answer (s.replyTo l t q) .catalogueAbsent).settle = _
  rw [State.answer_tagTaken, State.settle_nil (s.answered l t q.code .catalogueAbsent .none) h0.2.1]

theorem request_badFrame (s : State) (l : Link) (t : Nat) (q : Request) (h : s.LaneFree l) (hb : 3 < t ∨ q.lengthOk = false) :
    request l t q s = .next (s.badFrame l { tag := some t, code := q.code }) := by
  rw [request_of s l t q h]
  have h6 : 3 < t ∨ (!q.lengthOk) = true := by simpa using hb
  simp only [State.takeRequest, if_pos h6]
  rw [State.settle_nil]
  exact h.2.1

end Sys2Proof.Machine
end

