-- ==== Sys2Proof/Laws/Settling.lean ====
section
/-!
SUPPORT. How the work that one change hands over is done, step by step; and that nothing a lane or a
unit does touches the queue of commands.
-/
namespace Sys2Proof.Machine
set_option Elab.async false

/-! ## Work handed over -/

theorem State.later_nil (s : State) : s.later [] = s := by simp [State.later]

theorem State.later_later (s : State) (a b : List Task) : (s.later a).later b = s.later (a ++ b) := by simp [State.later]

/-- The first piece of work handed over is done first, and what it hands over comes before the rest. -/
theorem State.settleFor_later (n : Nat) (s : State) (t : Task) (ts : List Task) (h : s.agenda = []) :
    State.settleFor (n + 1) (s.later (t :: ts)) = State.settleFor n ((State.runTask s t).later ts) := by
  rw [State.settleFor_cons n (s.later (t :: ts)) t ts (by simp [State.later, h])]
  have : ({ s.later (t :: ts) with agenda := [] } : State) = s := by cases s; simp_all [State.later]
  rw [this]; rfl

/-- One piece of work that hands nothing over. -/
theorem State.settle_later_one {s b : State} {t : Task} (h : s.agenda = []) (h1 : State.runTask s t = b) (hb : b.agenda = []) :
    (s.later [t]).settle = b := by
  show State.settleFor (4095 + 1) _ = _
  rw [State.settleFor_later _ _ _ _ h, h1, State.later_nil]; exact State.settleFor_nil _ _ hb

/-- A piece of work that hands over one more. -/
theorem State.settle_later_two {s a b : State} {t u : Task} (h : s.agenda = []) (h1 : State.runTask s t = a.later [u])
    (ha : a.agenda = []) (h2 : State.runTask a u = b) (hb : b.agenda = []) : (s.later [t]).settle = b := by
  show State.settleFor (4094 + 1 + 1) _ = _
  rw [State.settleFor_later _ _ _ _ h, h1, State.later_nil, State.settleFor_later _ _ _ _ ha, h2, State.later_nil]
  exact State.settleFor_nil _ _ hb

/-- Three pieces of work, each handed over by the one before. -/
theorem State.settle_later_three {s a b c : State} {t u v : Task} (h : s.agenda = []) (h1 : State.runTask s t = a.later [u])
    (ha : a.agenda = []) (h2 : State.runTask a u = b.later [v]) (hb : b.agenda = []) (h3 : State.runTask b v = c) (hc : c.agenda = []) :
    (s.later [t]).settle = c := by
  show State.settleFor (4093 + 1 + 1 + 1) _ = _
  rw [State.settleFor_later _ _ _ _ h, h1, State.later_nil, State.settleFor_later _ _ _ _ ha, h2, State.later_nil,
    State.settleFor_later _ _ _ _ hb, h3, State.later_nil]
  exact State.settleFor_nil _ _ hc

/-- A change that hands nothing over answers as it stands. -/
theorem done_nil (s : State) (h : s.agenda = []) : done s = .next s := by rw [done, State.settle_nil s h]

/-! ## A request taken, and its reply -/

@[simp] theorem State.tagTaken_cat (s : State) (l : Link) (t : Nat) : (s.tagTaken l t).cat = s.cat := rfl
@[simp] theorem State.tagTaken_absentMode (s : State) (l : Link) (t : Nat) : (s.tagTaken l t).absentMode = s.absentMode := rfl
@[simp] theorem State.tagTaken_filings (s : State) (l : Link) (t : Nat) : (s.tagTaken l t).filings = s.filings := rfl
@[simp] theorem State.tagTaken_lib (s : State) (l : Link) (t : Nat) : (s.tagTaken l t).lib = s.lib := rfl
@[simp] theorem State.tagTaken_ref (s : State) (l : Link) (t : Nat) : (s.tagTaken l t).ref = s.ref := rfl
@[simp] theorem State.tagTaken_rights (s : State) (l : Link) (t : Nat) : (s.tagTaken l t).rights = s.rights := rfl
@[simp] theorem State.tagTaken_agenda (s : State) (l : Link) (t : Nat) : (s.tagTaken l t).agenda = s.agenda := rfl
@[simp] theorem State.tagTaken_ring (s : State) (l : Link) (t : Nat) : (s.tagTaken l t).ring = s.ring := rfl
@[simp] theorem State.tagTaken_commitQueue (s : State) (l : Link) (t : Nat) : (s.tagTaken l t).commitQueue = s.commitQueue := rfl
@[simp] theorem State.tagTaken_filUse (s : State) (l : Link) (t : Nat) : (s.tagTaken l t).filUse = s.filUse := rfl
@[simp] theorem State.tagTaken_power (s : State) (l : Link) (t : Nat) : (s.tagTaken l t).power = s.power := rfl
@[simp] theorem State.tagTaken_ops (s : State) (l : Link) (t : Nat) : (s.tagTaken l t).ops = s.ops := rfl
@[simp] theorem State.tagTaken_segments (s : State) (l : Link) (t : Nat) : (s.tagTaken l t).segments = s.segments := rfl
@[simp] theorem State.tagTaken_spaceFifo (s : State) (l : Link) (t : Nat) : (s.tagTaken l t).spaceFifo = s.spaceFifo := rfl
@[simp] theorem State.tagTaken_outChans (s : State) (l : Link) (t : Nat) : (s.tagTaken l t).outChans = s.outChans := rfl
@[simp] theorem State.tagTaken_clock (s : State) (l : Link) (t : Nat) : (s.tagTaken l t).clock = s.clock := rfl

@[simp] theorem State.post_agenda (s : State) (e : Event) : (s.post e).agenda = s.agenda := by unfold State.post; split <;> rfl

theorem State.post_cat (s : State) (e : Event) : (s.post e).cat = s.cat := by unfold State.post; split <;> rfl

/-- Posting an event and taking a tag do not meet. -/
theorem State.post_tagTaken (s : State) (l : Link) (t : Nat) (e : Event) : (s.tagTaken l t).post e = (s.post e).tagTaken l t := by
  cases hp : s.power with
  | off => simp [State.post, State.tagTaken, State.modLink, hp]
  | starting => simp [State.post, State.tagTaken, State.modLink, hp]
  | running => cases l <;> simp [State.post, State.tagTaken, State.modLink, hp, State.postTo, Three.set, Three.get] <;> split <;> simp

theorem State.post_resetCount (s : State) (e : Event) (l : Link) : ((s.post e).links.get l).resetCount = (s.links.get l).resetCount := by
  unfold State.post; split
  · cases l <;> simp [Three.get, State.postTo] <;> split <;> rfl
  · rfl
  · rfl

theorem State.replyTo_post (s : State) (e : Event) (l : Link) (t : Nat) (q : Request) : (s.post e).replyTo l t q = s.replyTo l t q := by
  simp [State.replyTo, State.post_resetCount]

@[simp] theorem State.closePeriod_agenda (s : State) : s.closePeriod.agenda = s.agenda := by simp [State.closePeriod, State.modCat]

@[simp] theorem State.testClose_agenda (s : State) : s.testClose.agenda = s.agenda := by unfold State.testClose; split <;> simp

@[simp] theorem State.tick_agenda (s : State) : s.tick.agenda = s.agenda := by unfold State.tick; split <;> simp

/-- A period close and taking a tag do not meet. -/
theorem State.closePeriod_tagTaken (s : State) (l : Link) (t : Nat) : (s.tagTaken l t).closePeriod = s.closePeriod.tagTaken l t := by
  unfold State.closePeriod
  show State.post (State.tagTaken (s.modCat (fun c => c.close s.clock.now.sec)) l t) s.cat.closeEvent = _
  rw [State.post_tagTaken]

theorem State.replyTo_closePeriod (s : State) (l : Link) (t : Nat) (q : Request) : s.closePeriod.replyTo l t q = s.replyTo l t q := by
  unfold State.closePeriod; rw [State.replyTo_post]; rfl

@[simp] theorem State.issue_agenda (s : State) (n : InstrNum) (v : Stamp) (src : Source) : (s.issue n v src).agenda = s.agenda := by
  simp only [State.issue, State.postLow]; split <;> simp [State.modCat]

/-- The tests of a stamp issue read the clock, the mode and catalogue memory alone. -/
theorem State.issueTest_congr (s u : State) (h1 : u.clock = s.clock) (h2 : u.absentMode = s.absentMode) (h3 : u.cat = s.cat) :
    u.issueTest = s.issueTest := by
  unfold State.issueTest State.formStamp State.formNumber; rw [h1, h2, h3]

/-- Work handed over before a response is still handed over after it. -/
theorem State.respond_later (s : State) (r : Reply) (st : Status) (b : Body) (ts : List Task) :
    (s.later ts).respond r st b = (s.respond r st b).later ts := by
  simp only [State.respond, State.later]; split <;> simp [State.modLink, *]

theorem State.modLink_congr (s : State) (l : Link) (f g : LinkRec → LinkRec) (h : f (s.links.get l) = g (s.links.get l)) :
    s.modLink l f = s.modLink l g := by
  simp [State.modLink, h]

/-- A lane with nothing waiting has nothing to take. -/
theorem State.drain_nil (s : State) (l : Link) (h : (s.links.get l).lane = []) : s.drain l = s := by
  simp [State.drain, h, State.drainFor]

theorem State.drainAll_nil (s : State) (h : ∀ k, (s.links.get k).lane = []) : s.drainAll = s := by
  have e : ∀ l, s.drain l = s := fun l => State.drain_nil s l (h l)
  simp [State.drainAll, e]

/-! ## The queue of commands -/

theorem State.pending_of_calm {s t : State} (h : s.calm = t.calm) : s.pending = t.pending := (State.calm_iff.mp h).1

@[simp] theorem State.settle_pending (s : State) : s.settle.pending = s.pending := State.pending_of_calm (by simp)

@[simp] theorem State.beginWrite_pending (s : State) : s.beginWrite.pending = s.pending := by unfold State.beginWrite; split <;> rfl

theorem State.handle_pending (s : State) (r : Reply) (q : Request) : (s.handle r q).pending = s.pending := by
  have h1 : ∀ (s : State) (r : Reply) (st : Status) (b : Body), (s.respond r st b).pending = s.pending := fun s r st b => State.pending_of_calm (by simp)
  have h2 : ∀ (s : State) (r : Reply) (st : Status), (s.answer r st).pending = s.pending := fun s r st => State.pending_of_calm (by simp)
  have h3 : ∀ (s : State) (e : Event), (s.post e).pending = s.pending := fun s e => State.pending_of_calm (by simp)
  have h4 : ∀ s : State, s.testClose.pending = s.pending := fun s => State.pending_of_calm (by simp)
  cases q <;> simp only [State.handle]
  case settingsSet => simp only [handleSettingsSet]; repeat' split
                      all_goals simp [h2, State.askWrite]
  case clockTrim f => cases f <;> simp only [handleClockTrim] <;> (repeat' split) <;> simp [h2, State.askWrite]
  case clockLoad => simp only [handleClockLoad]; split <;> simp [h1, h2, h3, h4]
  case clockStep => simp only [handleClockStep]; split <;> (try split) <;> simp [h1, h2, h3, h4]
  case catalogueReady => simp only [handleCatalogueReady]; split <;> simp [h1, h2, State.later, State.modCat]
  case rightsSet => simp only [handleRightsSet]; repeat' split
                    all_goals simp [h2, State.askWrite]
  case eventsAck => simp only [handleEventsAck]; repeat' split
                    all_goals simp [h1, h2, State.modLink]
  case eventsEnable => simp only [handleEventsEnable]; repeat' split
                       all_goals simp [h1, h2, State.modLink]
  all_goals first | (apply State.pending_of_calm; simp) | skip

theorem State.route_pending (s : State) (r : Reply) (q : Request) : (s.route r q).pending = s.pending := by
  have h2 : ∀ (s : State) (r : Reply) (st : Status), (s.answer r st).pending = s.pending := fun s r st => State.pending_of_calm (by simp)
  unfold State.route; repeat' split
  all_goals simp [h2, State.handle_pending]

theorem State.takeInput_pending (s : State) (l : Link) (x : LaneInput) : (State.takeInput s l x).pending = s.pending := by
  cases x <;> simp only [State.takeInput]
  · rfl
  · rfl
  · rw [State.settle_pending]; simp only [State.takeRequest]; repeat' split
    all_goals first | rfl | (rw [State.route_pending]; rfl)

theorem State.drainFor_pending (n : Nat) (s : State) (l : Link) : (State.drainFor n s l).pending = s.pending := by
  induction n generalizing s with
  | zero => rfl
  | succ n ih =>
    simp only [State.drainFor]
    split
    · rfl
    · split
      · rw [ih, State.takeInput_pending]; rfl
      · rfl

/-- Taking what waits on the lanes leaves the queue of commands alone. -/
@[simp] theorem State.drainAll_pending (s : State) : s.drainAll.pending = s.pending := by
  simp [State.drainAll, State.drain, State.drainFor_pending]

@[simp] theorem State.arrive_pending (s : State) (l : Link) (x : LaneInput) : (s.arrive l x).pending = s.pending := by
  unfold State.arrive; repeat' split
  all_goals first | rfl | exact State.takeInput_pending _ _ _

end Sys2Proof.Machine
end

