-- ==== Sys2Proof/Laws/Slots.lean ====
section
/-!
SUPPORT. Filing slots by their numbers, what the buffer port finds to do, and the release of a slot.
-/
namespace Sys2Proof.Machine
set_option Elab.async false

theorem Quad.ofNat?_toNat (q : Quad) : Quad.ofNat? q.toNat = some q := by cases q <;> rfl

theorem Quad.toNat_of_ofNat? (n : Nat) (q : Quad) (h : Quad.ofNat? n = some q) : q.toNat = n := by
  unfold Quad.ofNat? at h; split at h <;> simp at h <;> subst h <;> rfl

theorem Quad.toNat_inj {a b : Quad} (h : a.toNat = b.toNat) : a = b := by
  have := Quad.ofNat?_toNat a
  rw [h, Quad.ofNat?_toNat] at this
  exact (Option.some.inj this).symm

theorem State.slotOf_none (s : State) (n : Nat) (h : ∀ q : FSlot, q.toNat = n → s.filings.get q = none) : s.slotOf n = none := by
  unfold State.slotOf
  cases hq : Quad.ofNat? n with
  | none => rfl
  | some q => simp [h q (Quad.toNat_of_ofNat? n q hq)]

theorem State.slotOf_some (s : State) (n : Nat) (q : FSlot) (f : Filing) (h : q.toNat = n) (hf : s.filings.get q = some f) :
    s.slotOf n = some (q, f) := by
  subst h; simp [State.slotOf, Quad.ofNat?_toNat, hf]

/-- The free slot of an OPEN_FILING is the lowest. -/
theorem State.freeFiling_lowest (s : State) (q : FSlot) (h : s.filings.get q = none)
    (h2 : ∀ k : FSlot, k.toNat < q.toNat → s.filings.get k ≠ none) : s.freeFiling = some q := by
  have a := h2 .q1; have b := h2 .q2; have c := h2 .q3
  unfold State.freeFiling Quad.all
  cases q <;> simp [Quad.toNat] at a b c <;> simp [List.find?_cons, h, Option.isNone_iff_eq_none, a, b, c]

theorem State.freeFiling_none (s : State) (h2 : ∀ k : FSlot, s.filings.get k ≠ none) : s.freeFiling = none := by
  unfold State.freeFiling; simp [List.find?_eq_none]; intro q _; exact h2 q

/-! ## What the buffer port finds -/

theorem State.no_drive_wants (s : State) (h : ∀ d, s.driveWants d = false) : DriveNo.all.find? s.driveWants = none := by
  simp [List.find?_eq_none, h]

theorem State.no_store_holds (s : State) (h : ∀ k, (s.inChans.get k).store = none) :
    Link.all.find? (fun l => (s.inChans.get l).store.isSome) = none := by
  simp [List.find?_eq_none, h]

theorem State.no_out_wants (s : State) (h : ∀ k, s.outWants k = false) : Link.all.find? s.outWants = none := by
  simp [List.find?_eq_none, h]

theorem State.first_store (s : State) (l : Link) (b : List Byte) (h : (s.inChans.get l).store = some b)
    (h2 : ∀ k : Link, k.toNat < l.toNat → (s.inChans.get k).store = none) :
    Link.all.find? (fun l => (s.inChans.get l).store.isSome) = some l := by
  have a := h2 .l0; have b := h2 .l1
  unfold Link.all
  cases l <;> simp [Link.toNat] at a b <;> simp [List.find?_cons, h, a, b]

/-- A move of the port that hands nothing over, while no lane has anything waiting. -/
theorem exec_portMove (s : State) (p : Bool) (u : State) (h : s.portMove p = u) (ha : u.agenda = []) (hl : ∀ k, (u.links.get k).lane = []) :
    exec (.bufferPortMove p) s = .next u := by
  show Host.Outcome.next ((((s.portMove p).settle).drainAll).settle) = _
  rw [h, State.settle_nil _ ha, State.drainAll_nil _ hl, State.settle_nil _ ha]

/-! ## The release of a slot -/

theorem CatMem.releaseEntry_eq (c : CatMem) (n : InstrNum) (h3 : c.isFiling n = true) (h4 : ∀ e ∈ c.table, e.claim ≠ some n) :
    c.releaseEntry n = { c with table := c.table.map (fun e => if e.num = n then { e with state := .lodged } else e) } := by
  simp only [CatMem.releaseEntry, h3, if_true, CatMem.dropClaims, CatMem.modEntry, List.map_map]
  congr 1
  apply List.map_congr_left
  intro e he
  by_cases hh : e.num = n <;> simp [hh, h4 e he]

/-- A slot given up whose instrument claims nothing: its ring blocks are discarded and its instrument is LODGED again. -/
theorem State.discardSlot_eq (s : State) (q : FSlot) (n : InstrNum) (h3 : s.cat.isFiling n = true) (h4 : ∀ e ∈ s.cat.table, e.claim ≠ some n) :
    s.discardSlot q n =
      { s with
        ring := (s.ring.map (fun b => if b.slot = q then { b with mark := .discarded } else b)).dropWhile (fun b => b.mark ≠ .live)
        cat := { s.cat with table := s.cat.table.map (fun e => if e.num = n then { e with state := .lodged } else e) }
        reserved := s.reserved.set q []
        filings := s.filings.set q none
        commitQueue := s.commitQueue.erase q } := by
  simp only [State.discardSlot, State.freeSlot, State.releaseInst, State.markSlot, h3, State.modCat, reclaimRing, State.setFiling, if_true,
    CatMem.releaseEntry_eq _ _ h3 h4]

/-- The ring position of the one LIVE block of a slot that has a block number (R106). -/
theorem State.ringPos_of_held (s : State) (q : FSlot) (e : Nat) (b : RingBlock) (h : b ∈ s.ring ∧ b.slot = q ∧ b.mark = .live ∧ b.ext = e)
    (one : ∀ c, c ∈ s.ring ∧ c.slot = q ∧ c.mark = .live ∧ c.ext = e → c = b) : s.ringPos q e = b.pos := by
  unfold State.ringPos
  cases hf : s.ring.find? (fun b => b.slot == q && b.mark == .live && b.ext == e) with
  | none => simpa [h.2] using List.find?_eq_none.mp hf b h.1
  | some c =>
    have hc := List.find?_some hf
    simp only [Bool.and_eq_true, beq_iff_eq] at hc
    rw [one c ⟨List.mem_of_find?_eq_some hf, hc.1.1, hc.1.2, hc.2⟩]

/-- With no such block it is 0 (assumption log 72). -/
theorem State.ringPos_of_none (s : State) (q : FSlot) (e : Nat) (h : ∀ b ∈ s.ring, b.slot = q → b.mark = .live → b.ext ≠ e) : s.ringPos q e = 0 := by
  have hf : s.ring.find? (fun b => b.slot == q && b.mark == .live && b.ext == e) = none :=
    List.find?_eq_none.mpr (fun b hb => by simpa using fun h1 h2 => h b hb h1 h2)
  simp only [State.ringPos, hf]

end Sys2Proof.Machine
end

