-- ==== Sys2Proof/Tests/Slice0.lean ====
section
/-!
SUPPORT. Tests: ill-formed commands are refused, worked examples of the spec, one step of the commands on small states, and, for every
statement with hypotheses, a state and operands that meet them together, clause by clause (theorems test_meets_<statement>, or test_meets_<part> for a part that
has a name of its own). The states are `base`,
a running controller with instruments, platters, filings and accounts in it, and small changes of it.
-/
namespace Sys2Proof.Tests
set_option maxRecDepth 20000
set_option linter.unreachableTactic false
set_option synthInstance.maxSize 100000
set_option synthInstance.maxHeartbeats 400000
set_option Elab.async false
open Sys2Proof.Machine

/-! ## States and operands -/

def day0 : Nat := 968112000
def tod (h m s ms : Nat) : Stamp := ⟨day0 + h*3600+m*60+s, ms⟩
def sched : Schedule := { b := 250, t := 10, s1 := 100, s2 := 60, l := 450, c := 1200, h := 25, opens := 30600, closes := 61200, m := 50000 }
def sfull : SideRec := ⟨.full 307000, 0⟩
def plat (id home : Nat) (loc : PlatterLoc) (a b : SideRec) : Platter := { id := id, home := some home, loc := loc, side0 := a, side1 := b, mounts := 3, lastUnload := none }
def rdy (id : Nat) (sd : Side) : Drive := { Drive.vacant .ready with platter := some ⟨some id, sd⟩, loadTime := some ⟨day0,0⟩ }
def ent (n : InstrNum) (st : EntryState) (suc : Option InstrNum) : Entry :=
  { num := n, state := st, stamp := ⟨n.day*86400+n.seq, 0⟩, source := .line .q1, restricted := false, successor := suc, claim := none, copies := 2 }
def platters0 : List Platter :=
  [plat 2655 1 (.drive .d1) sfull ⟨.opened 1000, 0⟩, plat 3140 22 (.slot 22) sfull sfull, plat 3907 2 (.drive .d2) sfull sfull,
   plat 4127 12 (.slot 12) ⟨.unchecked,0⟩ ⟨.blank,0⟩]
def fil0 (n : InstrNum) (o : Link) (st : FilingState) : Filing := { inst := n, owner := o, state := st, blocks := 3, starts := [], overflow := false, idleSince := 0, commit := none, extent := none }
def att0 : List Attention := [⟨.stampIssued, .stampIssued ⟨1,1⟩ ⟨86400,0⟩ (.link .l0), 255⟩, ⟨.door, .door false, 2⟩]
def base : State :=
  let r := { State.reset with power := .running, ref := 1000000 }
  let c : CatMem := { r.cat with
     marker := .valid
     active := sched, storedCount := 6
     table := [ent ⟨11012,410⟩ (.recorded ⟨2655,.s0,100,5⟩ ⟨1,1⟩) (some ⟨11100,77⟩),
               ent ⟨11100,77⟩ (.recorded ⟨2655,.s0,200,5⟩ ⟨1,1⟩) (some ⟨11180,139⟩),
               ent ⟨11180,139⟩ (.recorded ⟨3140,.s1,40112,23⟩ ⟨9,1⟩) none,
               ent ⟨11200,1⟩ .lodged none, ent ⟨11200,2⟩ (.filing .q1) none, ent ⟨11200,3⟩ (.filing .q4) none, ent ⟨11200,4⟩ .withdrawn none]
     folios := [⟨7, [⟨11012,410⟩]⟩, ⟨900, [⟨11100,77⟩, ⟨11180,139⟩]⟩]
     lastStamp := ⟨11204*86400 + 69125, 400⟩, lastNumber := some ⟨11204,388⟩
     platters := platters0
     slots := [⟨1, .occupied 2655⟩, ⟨2, .occupied 3907⟩, ⟨12, .occupied 4127⟩, ⟨22, .occupied 3140⟩, ⟨30, .foreignOccupied⟩]
     accounts := [Account.cash, {Account.cash with code := 17, inFlight := 2, tally := ⟨5,6,7,8,true⟩}, {Account.cash with code := 18, suspended := true}]
     period := 521, grand := 77 }
  let lk : LinkRec := { LinkRec.start false with enable := 1023#10, attention := att0, responses := [⟨some 3, 0x20, .done, .none⟩], tags := 8#4, strays := 2, frameErrors := 1, resetCount := 4 }
  { r with cat := c, absentMode := false, clock := { r.clock with now := tod 8 30 2 114, valid := true, continuity := true, acc := 5 }
           links := ⟨lk, {lk with resetAsserted := true, lane := []}, lk⟩, startEvents := []
           lastFiling := some ⟨2655, .s1⟩
           reserved := ⟨[5], [], [], []⟩
           settings := { r.settings with stored := some { SettingsRec.default with drives := 4 } }
           filings := ⟨some (fil0 ⟨11200,2⟩ .l0 .receiving), none, none, some (fil0 ⟨11200,3⟩ .l1 .receiving)⟩
           ring := [⟨4090, .q1, 0, .live⟩, ⟨4091, .q4, 0, .live⟩,⟨4092, .q1, 1, .live⟩,⟨4093, .q1, 2, .live⟩,⟨4094, .q4, 1, .live⟩,⟨4095, .q4, 2, .live⟩]
           ringNext := 0
           lib := { r.lib with drives := { r.lib.drives with a1 := rdy 2655 .s1, a2 := rdy 3907 .s1, a5 := Drive.vacant .absent, a6 := Drive.vacant .absent } } }
def ip (n : InstrNum) (mode := 1) (k := 1) (f := 0) (l := 0) : ItemParams := ⟨n, mode, k, f, l⟩
def itm (n : InstrNum) (cur := true) (sel := Selection.all) : Item := { named := n, current := cur, sel := sel, resolved := none, range := none, quote := none, decode := none, phase := .pending, delivered := 0, receipt := none }
def a12 : InstrNum := ⟨11012,410⟩
def a180 : InstrNum := ⟨11180,139⟩
def seg0 (n : InstrNum) (first len staged : Nat) (us : List ItemRef) : Segment := { inst := n, first := first, len := len, staged := staged, users := us, fill := none, filler := none, started := true }
def opOf (l : Link) (t : Nat) (is : List Item) (cur := 1) (pu := Purpose.view) (b := false) : Op := { reply := ⟨l, t, 4, if b then 0x41 else 0x40⟩, bundle := b, purpose := pu, account := 17, cls := .counter, admTime := 5, admReading := ⟨1,1⟩, items := is, current := cur }
def v180 : Resolved := ⟨a180, 2, ⟨3140,.s1,40112,23⟩, ⟨9,1⟩⟩
def E12 : Entry := ent a12 (.recorded ⟨2655,.s0,100,5⟩ ⟨1,1⟩) (some ⟨11100,77⟩)
def E180 : Entry := ent a180 (.recorded ⟨3140,.s1,40112,23⟩ ⟨9,1⟩) none
def wit1 : Account := {Account.cash with code := 17, inFlight := 2, tally := ⟨5,6,7,8,true⟩}
def N62 : State := { base with segments := [seg0 a180 5 23 3 [⟨.l2,1,1⟩]], ops := [opOf .l2 1 [{itm a180 with phase := .delivering, resolved := some v180}]] }
def p62 : FetchParams := ⟨ip a12, 2, 17, 1⟩
def N64 : State := { N62 with spaceFifo := [⟨⟨.l2,0,1⟩, ⟨11100,77⟩, 5⟩] }
def p64 : BundleParams := ⟨2, 17, 2, 3, [ip ⟨11100,77⟩ 2, ip ⟨11200,1⟩, ip a180]⟩
def wit2 : BundleParams := {p64 with items := [ip ⟨11200,1⟩, ip ⟨11200,1⟩, ip a180]}
def wit3 : BundleParams := {p64 with count := 2}
def wit4 : FetchParams := {p62 with purpose := 1}
def wit5 : FetchParams := {p62 with account := 99}
def fr (r : ItemRef) : DataFrame := ⟨r, 0x40, 1, 0, []⟩
def oc (r : ItemRef) (rem : Nat) (st := ChanState.paused): OutChan := { chan := ⟨st, .item r, some .sequential, 4096+7, rem, .endItem⟩, offsets := some [1,2], frame := some (fr r), ahead := 2, offeredAt := 900000 }
def r0 : ItemRef := ⟨.l0,3,1⟩
def i67 : Item := {itm a12 with resolved := some v180, range := some (1,10), phase := .delivering, quote := some ⟨250,9,1,false,false⟩, delivered := 4}
def N67 : State := { base with segments := [seg0 a180 5 23 3 [⟨.l2,1,1⟩, r0]], ops := [opOf .l2 1 [{itm a180 with phase := .delivering, resolved := some v180}], opOf .l0 3 [i67]], links := base.links.set .l0 {base.links.a0 with out := some (.data (fr r0))}, outChans := base.outChans.set .l0 (oc r0 3) }
def N67b : State := { N67 with segments := [seg0 a180 5 23 4 [⟨.l2,1,1⟩, r0]] }
def N68 : State := { N67 with ops := [opOf .l0 3 [i67]], outChans := base.outChans.set .l0 (oc r0 1) }
def N69 : State := { N68 with outChans := base.outChans.set .l0 {oc r0 5 with offeredAt := 970000} }
def N69b : State := { N69 with ref := 999999 }
def ap (c st ex : Nat) : AccountParams := ⟨c, st, ex⟩
def wit7 : Schedule := {sched with opens := 70000}
def Nr : State := { base with rights := base.rights.set .l0 0x7F#8 }
def snap1 : Snapshot := ⟨3,4,2,100,[⟨17,⟨1,2,3,4,true⟩⟩,⟨18,⟨0,0,0,0,true⟩⟩,⟨20,⟨0,0,0,0,true⟩⟩]⟩
def Nsn : State := { base with cat := {base.cat with snapshot := some snap1, accounts := [Account.cash, {Account.cash with code := 17, inFlight := 0, tally := ⟨5,6,7,8,true⟩}, {Account.cash with code := 18, suspended := true}, {Account.cash with code := 20, inFlight := 1}] } }
def wit8 : Account := {Account.cash with code := 17, inFlight := 0, tally := ⟨5,6,7,8,true⟩}
def wit9 : Account := {Account.cash with code := 20, inFlight := 1}
def wit10 : Account := {Account.cash with code := 18, suspended := true}
def many : State := { Nsn with cat := {Nsn.cat with accounts := (List.range 12).map (fun c => {Account.cash with code := c*2}), snapshot := some {snap1 with records := (List.range 17).map (fun c => ⟨c*3, Tally.zero⟩)} } }
def wit11 : Snapshot := {snap1 with records := (List.range 17).map (fun c => ⟨c*3, Tally.zero⟩)}
def lib (f : Library → Library) (s : State := base) : State := {s with lib := f s.lib}
def cat (f : CatMem → CatMem) (s : State := base) : State := {s with cat := f s.cat}
def dem (id : Nat) (sd : Side) (m : Option DriveNo := none) : Demand := ⟨⟨id,sd⟩, m, [.filing 3]⟩
def L75 : State := lib fun b => {b with mail := .incoming}
def L75m : State := lib (s := L75) fun b => {b with picker := {b.picker with state := .moving}, media := [.importReq none]}
def L75h : State := lib (s := L75) fun b => {b with picker := {b.picker with state := .halted}, media := [.importReq none]}
def wit12 : State := lib (s := L75) fun b => {b with doorOpen := true}
def wit13 : State := lib (s := L75) fun b => {b with sweep.running := true}
def wit14 : State := lib (s := L75) fun b => {b with picker.state := .jammed}
def P3140 : Platter := plat 3140 22 (.slot 22) sfull sfull
def P9 : Platter := plat 9 9 .exported sfull sfull
def wit15 : State := lib fun b => {b with demands := [dem 3140 .s0]}
def wit16 : State := cat fun c => {c with platters := [plat 9 9 .exported sfull sfull]}
def P5000 : Platter := plat 5000 14 (.slot 14) ⟨.unchecked,0⟩ ⟨.unchecked,0⟩
def C77 : State := cat (s := {base with commitQueue := []}) fun c => {c with platters := c.platters ++ [plat 5000 14 (.slot 14) ⟨.unchecked,0⟩ ⟨.unchecked,0⟩]}
def dr (d : DriveNo) (f : Drive → Drive) (s : State := base) : State := {s with lib := {s.lib with drives := s.lib.drives.set d (f (s.lib.drives.get d))}}
def L78 : State := dr .d2 fun k => {k with state := .fault}
def L79 : State := lib (s := dr .d2 fun k => {k with state := .loading, cmd := some .load, reported := 0, retry := true}) fun b => {b with demands := [dem 3140 .s0, ⟨⟨3907,.s1⟩, some .d2, []⟩]}
def L79b : State := lib (s := L79) fun b => {b with demands := [dem 3140 .s0]}
def L80 : State := lib (s := dr .d2 fun k => {k with state := .unloading, cmd := some .unload, reported := 0, retry := true}) fun b => {b with picker := {b.picker with state := .moving, move := some ⟨.drive .d2, some (.slot 2), true⟩, piece := some (.mountUnload .d2 ⟨3140,.s0⟩)}, demands := [⟨⟨3140,.s0⟩, some .d2, [.filing 3]⟩, dem 4127 .s0]}
def L81 : State := dr .d2 fun k => {k with state := .busy, cmd := some (.read 100 5), reported := 2, work := [.fill ⟨11012,410⟩, .filing], retry := true}
def FU (st : FilStage) : FilUse := ⟨⟨2655,.s1⟩, st, some .q1, ⟨0,0⟩, false⟩
def L81b : State := {(dr .d1 fun k => {k with state := .busy, cmd := some (.erase 100 5), reported := 2, work := [.filing], pinned := true}) with filUse := some (FU (.erase .d1)) }
def g82 : Segment := { inst := ⟨11012,410⟩, first := 7, len := 5, staged := 1, users := [⟨.l2,1,1⟩], fill := some .d2, filler := some ⟨.l2,1,1⟩, started := true }
def blk : List Byte := (List.range 1024).map (BitVec.ofNat 8)
def L82 : State := {L81 with segments := [g82], driveChans := base.driveChans.set .d2 { chan := ⟨.running, .item ⟨.l2,1,1⟩, some .sequential, 4096+8, 4, .none⟩, held := [blk, [1#8]], ringBlock := none, passed := none }, outChans := base.outChans.set .l2 {OutChan.idle with chan := ⟨.running, .item ⟨.l2,1,1⟩, some .sequential, 4096+7, 0, .endItem⟩}, mem := [⟨4, 5#8⟩] }
def q83 : Filing := { fil0 ⟨11200,2⟩ .l0 .writing with extent := some ⟨2655,.s1,100,3⟩ }
def L83 : State := {(dr .d1 fun k => {k with state := .busy, cmd := some (.erase 100 3), reported := 2, work := [.filing], pinned := true, retry := true}) with filUse := some (FU (.erase .d1)), filings := base.filings.set .q1 (some q83), commitQueue := [.q1] }
def L83b : State := dr (s := L82) .d2 fun k => {k with reported := 5}
def c84 : Commit := { small := 1, plan := 0, restricted := false, folios := [5], targets := [], reply := ⟨.l0,3,4,0x32⟩, attempts := 3, failed := [], abandonPending := false, admitted := 50 }
def q84 : Filing := { q83 with commit := some c84 }
def p84 : Platter := plat 2655 1 (.drive .d1) ⟨.opened 200,0⟩ sfull
def u84 : FilUse := ⟨⟨2655,.s0⟩, .write .d1, some .q1, ⟨0,0⟩, false⟩
def L84 : State := {(dr .d1 fun k => {k with state := .busy, cmd := some (.write 100 3), reported := 2, work := [.filing, .fill ⟨11012,410⟩], pinned := true, retry := true}) with filUse := some u84, filings := base.filings.set .q1 (some q84), commitQueue := [.q1], cat := {base.cat with platters := [p84]} }
def v12 : Resolved := ⟨⟨11012,410⟩, 0, ⟨2655,.s0,100,5⟩, ⟨1,1⟩⟩
def i85 : Item := { itm ⟨11012,410⟩ false with resolved := some v12, range := some (1,2), phase := .ready }
def o85 : Op := { reply := ⟨.l0, 3, 4, 0x40⟩, bundle := false, purpose := .view, account := 17, cls := .counter, admTime := 5, admReading := ⟨1,1⟩, items := [i85], current := 1 }
def g85 : Segment := { inst := ⟨11012,410⟩, first := 7, len := 5, staged := 1, users := [⟨.l0,3,1⟩], fill := some .d2, filler := some ⟨.l0,3,1⟩, started := true }
def L85' : State := {L82 with segments := [g85], ops := [o85]}
def L89 : State := lib (s := base) fun b => {b with picker := ⟨.moving, some 4127, some ⟨.slot 12, some (.drive .d3), false⟩, some 77, some (.mountFetch .d3 ⟨4127,.s0⟩)⟩, demands := [{dem 4127 .s0 with mounting := some .d3}]}
def wit20 : State := lib (s := L89) fun b => {b with doorOpen := true, media := [.importReq none], demands := [dem 4127 .s0]}
def L90 (n : Nat) : State := lib (s := base) fun b => {b with picker := ⟨.moving, none, some ⟨.slot n, none, false⟩, some 77, some .sweep⟩, sweep := ⟨true, n, [2655], 2, 1, 1, 0, 0⟩, demands := [dem 4127 .s0]}
def wit21 : State := L90 3
def wit22 : State := L90 30
def wit23 : State := L90 160
def L91 : State := cat (s := lib (s := base) fun b => {b with picker := ⟨.moving, some 4127, some ⟨.slot 12, some (.drive .d3), false⟩, some 77, some (.mountFetch .d3 ⟨4127,.s0⟩)⟩}) fun c => {c with platters := [plat 4127 12 .picker ⟨.unchecked,0⟩ ⟨.blank,0⟩]}
def wit24 : State := {L91 with ref := 25076}
def wit25 : State := lib (s := base) fun b => {b with sweepDue := true}
def L92 : State := lib (s := L91) fun b => {b with doorOpen := true, sweep := ⟨false, 9, [2], 3,4,5,6,7⟩}
def wit26 : State := lib (s := L92) fun b => {b with picker.state := .jammed}
def L93 : State := cat (s := lib (s := base) fun b => {b with mail := .outgoing 3140}) fun c => {c with platters := [plat 2655 1 (.drive .d1) sfull ⟨.opened 1000, 0⟩, plat 3140 22 .mail sfull sfull]}
def L93m : State := lib (s := L93) fun b => {b with picker := ⟨.moving, some 4127, some ⟨.slot 12, some .mail, false⟩, some 77, some (.exportMove ⟨.l0,3,4,0x51⟩ 4127)⟩}
def L97 : State := {base with power := .starting, startEvents := []}
def nx (i : Instr) (s : State) : State := match exec i s with | .next t => t | _ => s
def off : State := nx (.powerFail .clear) {L84 with cat := {base.cat with storedCount := 7}}
def rec0 : SettingsRec := { SettingsRec.default with drives := 4 }
def long : RestoreParams := ⟨⟨1,1⟩,⟨1,1⟩,1,2655,1,0,1,1,0,0,⟨0,0⟩,5,[1,2,3,4,5]⟩
def wit27 : State := {base with rights := base.rights.set .l0 0x03#8}
def wit28 : State := {base with absentMode := true}
def ref : Response := ⟨some 1, 0x20, .busy, .none⟩
def full4 : State := base.modLink .l0 fun k => {k with responses := [ref, ⟨none, 0, .badFrame, .none⟩, ref, ref]}
def sending : State := base.modLink .l0 fun k => {k with out := some (.response ⟨some 3, 0x20, .done, .none⟩), responses := []}
def sendingData : State := { sending with outChans := sending.outChans.set .l0 { (oc r0 3 .running) with ahead := 0 } }
def oneAdmin : State := { base with rights := ⟨0xFF#8, 0x7F#8, 0x7F#8⟩ }
def writing : State := { oneAdmin with settings := { base.settings with writing := some (SettingsRec.default, ⟨.l0, 2, 4, 0x54⟩) } }
def due (t : Nat) (s : State := base) : State := cat (s := s) fun c => {c with target := ⟨t, .add, 86400⟩}
def edge : State := due (day0 + 30603) { base with clock := { base.clock with now := ⟨day0 + 30602, 999⟩ } }
def spills (n : Int) : State := { base with clock := { base.clock with base := n, acc := 999900, now := ⟨day0, 997⟩ } }
def wit29 : State := spills 100
def wit30 : State := spills (-100)
def wit31 : State := spills 99
def expiring : State := { base with clock := { base.clock with temp := -200, tempLeft := 1, acc := 999799, now := ⟨4294967294, 999⟩ } }
def wit32 : State := due (day0 + 30602) Nsn
def wit33 : State := due 1 {base with cat := {base.cat with period := 65535}}
def wit35 : State := due 6
def wit36 : State := due 5
def wit37 : State := { base with clock := { base.clock with valid := false } }
def wit38 : State := due (day0 + 30603)
def wit39 : State := cat fun c => {c with lastStamp := ⟨4294967295, 999⟩}
def N9999 : State := cat fun c => {c with lastNumber := some ⟨11205, 9999⟩, lastStamp := ⟨11205*86400 + 3, 0⟩}
def line1 (k : Line) : State := { base with lines := base.lines.set .q1 k }
def pr : PrintRec := ⟨.q1, ⟨1,1⟩, ⟨1,1⟩⟩
def k4 : Line := { enabled := true, queue := [pr, pr, pr, pr], lamp := false, offered := true, pressed := false, accept := false }
def wit40 : State := line1 {k4 with pressed := true}
def wit41 : State := line1 k4
def wit42 : State := line1 {k4 with queue := [pr, pr, pr]}
def wit43 : State := line1 {k4 with accept := true, offered := false}
def rp : RestoreParams := ⟨⟨11150,1⟩, ⟨11150*86400,1⟩, 1, 3140, 0, 5000, 6, 2, 3, 1, ⟨1, 11180*65536+139⟩, 2, [900, 901]⟩
def rl : Location := ⟨3140, .s0, 5000, 6⟩
def wit44 : RestoreParams := {rp with source := 0}
def absent : State := { base with absentMode := true, commitQueue := [] }
def fullF : State := { base with filings := ⟨base.filings.a1, some (fil0 ⟨1,1⟩ .l0 .receiving), some (fil0 ⟨1,1⟩ .l0 .receiving), base.filings.a4⟩ }
def f4095 : Filing := { fil0 ⟨11200,2⟩ .l0 .receiving with blocks := 4095 }
def fNone : Filing := { fil0 ⟨11200,2⟩ .l0 .receiving with blocks := 0 }
def fThree : Filing := fil0 ⟨11200,2⟩ .l0 .receiving
def fQueued : Filing := fil0 ⟨11200,2⟩ .l0 .queued
def fOther : Filing := fil0 ⟨11200,3⟩ .l1 .receiving
def fl1 (f : Filing → Filing) : State := { base with filings := base.filings.set .q1 (some (f (fil0 ⟨11200,2⟩ .l0 .receiving))) }
def wit46 : State := fl1 fun _ => f4095
def wit47 : State := fl1 fun _ => fQueued
def fed : State := { base with inChans := base.inChans.set .l0 { chan := { state := .running, op := .slot .q1, mode := some .lane, next := 4095, remaining := 1, action := .none }, store := some blk } }
def cp : CommitParams := ⟨1, 1, 0, 0, 1, 1, [5, 11180*65536+139]⟩
def wit48 : CommitParams := {cp with folioCount := 2}
def wit49 : State := fl1 fun _ => fNone
def wit50 : CommitParams := {cp with slot := 4}
def wit51 : CommitParams := {cp with slot := 2}
def rpDup : RestoreParams := {rp with inst := ⟨11100,77⟩, stamp := ⟨11100*86400,0⟩}
def rpLate : RestoreParams := {rp with inst := ⟨11204,389⟩, stamp := ⟨11204*86400,0⟩}
def rpAfter : RestoreParams := {rp with inst := ⟨11190,1⟩, stamp := ⟨11190*86400,0⟩}
def rpOver : RestoreParams := {rp with side := 1, start := 40134}
def rlOver : Location := ⟨3140, .s1, 40134, 6⟩
def fullTable : State := { base with absentMode := true, cat := { base.cat with table := List.replicate 131072 (ent ⟨1,1⟩ .lodged none) } }
def rpNo : RestoreParams := {rp with successor := ⟨0,0⟩}
def fullFolios : State := { base with absentMode := true, cat := { base.cat with folios := [⟨7, List.replicate 262144 ⟨11012,410⟩⟩] } }
def fullPresent : State := { fullTable with absentMode := false }
def mapCells : Memory := [⟨4188161, 1#8⟩, ⟨4188163, 1#8⟩]
def fm : Filing := { fil0 ⟨11200,2⟩ .l0 .receiving with starts := [1] }
def y0 : Reply := ⟨.l0, 3, 4, 0x32⟩
def mapWaits : State := { base with filings := base.filings.set .q1 (some fm), mem := mapCells, mapReads := [⟨y0, cp⟩], commitQueue := [.q4] }
def mapBad : State := { mapWaits with mem := [] }
def cpOld : CommitParams := ⟨1, 1, 0, 0, 1, 1, [5, 11100*65536+77]⟩
def mapOld : State := { mapWaits with mapReads := [⟨y0, cpOld⟩] }
def mapFull : State := { mapWaits with cat := { base.cat with folios := [⟨7, List.replicate 262144 ⟨11012,410⟩⟩] } }
def headNone : State := { mapWaits with commitQueue := [], cat := { base.cat with platters := [plat 3140 22 (.slot 22) sfull sfull] } }
def headOpen : State := { mapWaits with commitQueue := [], cat := { base.cat with platters := [plat 2655 1 (.slot 1) sfull ⟨.opened 307197, 0⟩] }, lib := { base.lib with drives := base.lib.drives.set .d1 (Drive.vacant .empty), picker := { base.lib.picker with state := .moving } } }
def notCopier : State := { base with rights := base.rights.set .l0 0xF9#8 }
def notAdmin : State := { base with rights := base.rights.set .l0 0x7F#8 }
def cq : Commit := { c84 with attempts := 0 }
def fq : Filing := { fThree with state := .queued, commit := some cq }
def headQueued : State := { base with filings := base.filings.set .q1 (some fq), commitQueue := [.q1] }
def idle600 : State := { base with ref := 600000 }
def idle599 : State := { base with ref := 599999 }

def bothDeliver : State := { N67 with outChans := base.outChans.set .l0 (oc r0 1) }
def viewDelivers : State := { bothDeliver with ops := [opOf .l2 1 [{itm a180 with phase := .delivering, resolved := some v180}], opOf .l0 3 [{i67 with quote := none}]] }
def bothLate : State := { N67 with outChans := base.outChans.set .l0 {oc r0 5 with offeredAt := 970000} }
def handedItem : Item := { itm a12 false with resolved := some ⟨a12, 0, ⟨3907, .s1, 100, 5⟩, ⟨1, 1⟩⟩, range := some (1, 2), phase := .waitingMount, decode := some .mount }
def handedOver : State := { base with
  ops := [opOf .l0 3 [handedItem]]
  segments := [{ seg0 a12 7 5 0 [r0, ⟨.l2,1,1⟩] with filler := some r0, started := false }]
  lib.drives.a2 := { rdy 3907 .s1 with state := .loading, cmd := some .load, loadTime := none }
  lib.demands := [⟨⟨3907, .s1⟩, some .d2, [.item r0 .counter 5, .item ⟨.l2,1,1⟩ .counter 6]⟩] }
def handedBusy : State := { handedOver with outChans.a0 := oc ⟨.l0,2,1⟩ 3 }
def filingReady (x : SideState) : State := { base with
  cat.platters := [plat 2655 1 (.drive .d1) sfull ⟨x, 0⟩]
  filings.a1 := some fq
  commitQueue := [.q1]
  filUse := some (FU .demanded)
  lib.drives.a1 := { rdy 2655 .s1 with state := .loading, cmd := some .load, loadTime := none }
  lib.demands := [⟨⟨2655, .s1⟩, some .d1, [.filing 3]⟩] }
def filingReadyUnchecked : State := filingReady .unchecked
def filingReadyBlank : State := filingReady .blank
def filingReadyOpen : State := filingReady (.opened 1000)
def evictDoorOpen : State := lib (s := L80) fun b => {b with doorOpen := true}
def flipDue : State := lib (s := L80) fun b => {b with picker.piece := some (.mountUnload .d2 ⟨3907, .s0⟩)}
def exportDue : State := lib (s := L80) fun b => {b with picker.piece := some (.exportUnload ⟨.l0,3,4,0x51⟩ 3907 .d2), demands := []}
def exportDoorOpen : State := lib (s := exportDue) fun b => {b with doorOpen := true}
def farTarget : State := due (day0 + 40000)
def foundOther : State := { base with lastFiling := some ⟨4127, .s0⟩ }
def noSideLeft : State := cat fun c => {c with platters := [P3140]}

/-! ## States too large to evaluate, and hypotheses over unbounded ranges -/

theorem fullTable_entry : fullTable.cat.entry? rpNo.inst = none := by
  simp only [fullTable, CatMem.entry?, List.find?_eq_none]
  intro e he
  have := List.eq_of_mem_replicate he
  subst this; decide

theorem fullTable_length : 131072 ≤ fullTable.cat.table.length := by
  rw [show fullTable.cat.table = List.replicate 131072 (ent ⟨1, 1⟩ .lodged none) from rfl, List.length_replicate]

theorem fullTable_noOverlap (x : Location) (h : x ∈ fullTable.filingExtents ∨ ∃ e ∈ fullTable.cat.table, e.loc? = some x) :
    fullTable.cat.overlaps rl x = false := by
  rcases h with h | ⟨e, he, hx⟩
  · have e : fullTable.filingExtents = [] := rfl
    rw [e] at h; cases h
  · have := List.eq_of_mem_replicate he
    subst this
    cases hx

theorem fullFolios_noOverlap (x : Location) (h : x ∈ fullFolios.filingExtents ∨ ∃ e ∈ fullFolios.cat.table, e.loc? = some x) :
    fullFolios.cat.overlaps rl x = false := by
  rcases h with h | ⟨e, he, hx⟩
  · have e : fullFolios.filingExtents = [] := rfl
    rw [e] at h; cases h
  · have h1 : fullFolios.cat.table.all (fun e => match e.loc? with | some x => !fullFolios.cat.overlaps rl x | none => true) = true := by
      decide +kernel
    have h2 := List.all_eq_true.mp h1 e he
    rw [hx] at h2
    simpa using h2

theorem folioFull (fs : List Nat) (s : State) (h : s.cat.folios = [⟨7, List.replicate 262144 ⟨11012, 410⟩⟩]) (hf : fs ≠ []) :
    s.folioRoom fs = false := by
  have h1 : s.cat.linksUsed = 262144 := by rw [CatMem.linksUsed, h]; simp only [List.map_cons, List.map_nil, List.length_replicate]; rfl
  have h2 : 0 < fs.length := List.length_pos_of_ne_nil hf
  simp only [State.folioRoom, h1, Config.maxFolioLinks, Bool.and_eq_false_iff]
  left
  simp
  omega

theorem chainLinked (k : Nat) (a b : InstrNum) (ha : [a12, ⟨11100, 77⟩, a180][k]? = some a)
    (hb : [a12, ⟨11100, 77⟩, a180][k + 1]? = some b) : ∃ e, base.cat.entry? a = some e ∧ e.successor = some b := by
  match k with
  | 0 => cases ha; cases hb; exact ⟨E12, by decide, by decide⟩
  | 1 => cases ha; cases hb; exact ⟨ent ⟨11100, 77⟩ (.recorded ⟨2655, .s0, 200, 5⟩ ⟨1, 1⟩) (some a180), by decide, by decide⟩
  | 2 => cases hb
  | k + 3 => cases hb

theorem headNone_full (ps : PlatterSide) (x : SideRec) (h : headNone.sideRec? ps = some x) : x.state ≠ .blank ∧ x.state ≠ .unchecked := by
  obtain ⟨id, sd⟩ := ps
  have h1 : headNone.sideRec? ⟨id, sd⟩ = some sfull ∨ headNone.sideRec? ⟨id, sd⟩ = none := by
    by_cases e : id = 3140
    · subst e; left; cases sd <;> decide
    · right
      have e' : (P3140.id == id) = false := by simp [P3140, plat]; exact fun h => e h.symm
      have hp : headNone.cat.platters = [P3140] := rfl
      simp only [State.sideRec?, State.platter?, hp, findKeyed, List.find?_cons, e', List.find?_nil, Option.map_none]
  rcases h1 with h1 | h1
  · rw [h1] at h; cases h; decide
  · rw [h1] at h; cases h

theorem decodeNoFail (st : Status) : base.decode (Resolved.mk a180 2 v180.loc v180.pages) ≠ Decode.fail st := by
  have e : base.decode v180 = .mount := by decide +kernel
  intro h
  cases e.symm.trans h

/-- Nothing waits for the buffer port, and every lane is empty. -/
theorem portRests (s : State) (h : (DriveNo.all.all (fun d => !s.driveWants d) && Link.all.all (fun k => (s.inChans.get k).store.isNone &&
    !s.outWants k && (s.links.get k).lane.isEmpty)) = true) :
    (∀ d, s.driveWants d = false) ∧ (∀ k, (s.inChans.get k).store = none) ∧ (∀ k, s.outWants k = false) ∧ ∀ k, (s.links.get k).lane = [] := by
  simp only [DriveNo.all, Link.all, List.all_cons, List.all_nil, Bool.and_true, Bool.and_eq_true, Bool.not_eq_true', Option.isNone_iff_eq_none,
    List.isEmpty_iff] at h
  refine ⟨fun d => ?_, fun k => ?_, fun k => ?_, fun k => ?_⟩
  · cases d <;> simp only [h]
  all_goals cases k <;> simp only [h]

/-! ## Hypotheses met -/


/-- The hypotheses of RequestFramesReadBack are met, clause by clause. -/
theorem test_meets_RequestFramesReadBack :
    (requestOf (Instr.fetch Link.l0 3 p62) = some (Link.l0, 3, Request.fetch p62) ∧ (Instr.fetch Link.l0 3 p62).wellFormed = true ∧ 3 ≤ 3) :=
  by decide +kernel

/-- The hypotheses of LinkRefusesInOrder are met, clause by clause. -/
theorem test_meets_LinkRefusesInOrder :
    (requestOf (Instr.fetch Link.l0 4 p62) = some (Link.l0, 4, Request.fetch p62) ∧ base.LaneFree Link.l0 ∧
      (3 < 4 ∨ (Request.fetch p62).lengthOk = false)) ∧
    (requestOf (Instr.restore Link.l0 0 long) = some (Link.l0, 0, Request.restore long) ∧ (3 < 0 ∨ (Request.restore long).lengthOk = false)) ∧
    (requestOf (Instr.fetch Link.l0 3 p62) = some (Link.l0, 3, Request.fetch p62) ∧ 3 ≤ 3 ∧ (Request.fetch p62).lengthOk = true ∧
      (base.links.get Link.l0).tags.getLsbD 3 = true) ∧
    (requestOf (Instr.lodge Link.l0 0) = some (Link.l0, 0, Request.lodge) ∧ wit27.LaneFree Link.l0 ∧ 0 ≤ 3 ∧
      Request.lodge.lengthOk = true ∧ (wit27.links.get Link.l0).tags.getLsbD 0 = false ∧ Request.lodge.mask ≠ 0#8 ∧
      wit27.rights.get Link.l0 &&& Request.lodge.mask = 0#8) ∧
    (wit28.LaneFree Link.l0 ∧ (wit28.links.get Link.l0).tags.getLsbD 0 = false ∧
      (Request.lodge.mask = 0#8 ∨ wit28.rights.get Link.l0 &&& Request.lodge.mask ≠ 0#8) ∧ wit28.absentMode = true ∧
      Request.lodge.takenAbsent = false) :=
  by decide +kernel

/-- The hypotheses of LaneInputTaken are met, clause by clause. -/
theorem test_meets_LaneInputTaken :
    (full4.agenda = [] ∧ full4.power ≠ Power.off ∧
      (full4.power = Power.starting ∨ (full4.links.get Link.l0).resetAsserted = true ∨ (full4.links.get Link.l0).lane ≠ [] ∨ (full4.inChans.get Link.l0).store.isSome = true ∨ 4 ≤ (List.filter Response.isRefusal (full4.links.get Link.l0).responses).length)) ∧
    (base.agenda = [] ∧ base.power ≠ Power.off ∧
      (base.power = Power.starting ∨ (base.links.get Link.l1).resetAsserted = true ∨ (base.links.get Link.l1).lane ≠ [] ∨ (base.inChans.get Link.l1).store.isSome = true ∨ 4 ≤ (List.filter Response.isRefusal (base.links.get Link.l1).responses).length)) ∧
    (base.LaneFree Link.l0) :=
  by decide +kernel

/-- The hypotheses of ResponsesSentAndAccepted are met, clause by clause. -/
theorem test_meets_ResponsesSentAndAccepted :
    (base.agenda = [] ∧ (base.links.get Link.l0).lane = [] ∧
      (base.links.get Link.l0).responses = [Response.mk (some 3) 32 Status.done Body.none] ∧ (base.links.get Link.l0).out = none ∧
      ((base.outChans.get Link.l0).chan.state ≠ ChanState.running ∨ (base.outChans.get Link.l0).offsets = none ∨ 0 < (base.outChans.get Link.l0).ahead)) ∧
    (N67.agenda = [] ∧ (N67.links.get Link.l0).lane = [] ∧ ((N67.links.get Link.l0).responses = [] ∨ (N67.links.get Link.l0).out ≠ none)) ∧
    (sending.agenda = [] ∧ (sending.links.get Link.l0).out = some (OutFrame.response (Response.mk (some 3) 32 Status.done Body.none)) ∧
      ((sending.outChans.get Link.l0).frame = none ∨ (sending.outChans.get Link.l0).chan.state ≠ ChanState.running ∨ (sending.outChans.get Link.l0).ahead ≠ 0)) ∧
    (sendingData.agenda = [] ∧
      (sendingData.links.get Link.l0).out = some (OutFrame.response (Response.mk (some 3) 32 Status.done Body.none)) ∧
      (sendingData.outChans.get Link.l0).frame = some (fr r0) ∧ (sendingData.outChans.get Link.l0).chan.state = ChanState.running ∧
      (sendingData.outChans.get Link.l0).ahead = 0) :=
  by decide +kernel

/-- The hypotheses of LinkResetAndRelease are met, clause by clause. -/
theorem test_meets_LinkResetAndRelease :
    (N62.Quiet ∧ (N62.links.get Link.l0).resetAsserted = false ∧ (∀ o ∈ N62.ops, o.reply.link ≠ Link.l0)) ∧
    ((N62.links.get Link.l1).resetAsserted = true) ∧
    (base.agenda = [] ∧ (base.links.get Link.l1).lane = []) :=
  by decide +kernel

/-- The hypotheses of PostingReachesAllLinks are met, clause by clause. -/
theorem test_meets_PostingReachesAllLinks :
    (base.power = Power.running) ∧
    (base.AttentionOk) :=
  ⟨by decide +kernel, (by intro l; cases l <;> exact ⟨by decide +kernel, by decide +kernel⟩)⟩

/-- The hypotheses of EventsReadAndAck are met, clause by clause. -/
theorem test_meets_EventsReadAndAck :
    (base.Takes Link.l0 0 Request.eventsRead) ∧
    (base.Takes Link.l0 0 (Request.eventsAck 1023) ∧ 1023 < 1024) ∧
    (base.Takes Link.l0 0 (Request.eventsAck 1024) ∧ 1024 ≤ 1024) :=
  by decide +kernel

/-- The hypotheses of EventsEnableReplacesSet are met, clause by clause. -/
theorem test_meets_EventsEnableReplacesSet :
    (base.Takes Link.l0 0 (Request.eventsEnable 1023) ∧ 1023 < 1024) ∧
    (base.Takes Link.l0 0 (Request.eventsEnable 1024) ∧ 1024 ≤ 1024) :=
  ⟨by decide +kernel, by decide +kernel⟩

/-- The hypotheses of RightsSetKeepsAnAdmin are met, clause by clause. -/
theorem test_meets_RightsSetKeepsAnAdmin :
    (oneAdmin.Takes Link.l0 0 (Request.rightsSet 3 255) ∧ 2 < 3) ∧
    (oneAdmin.Takes Link.l0 0 (Request.rightsSet 0 127) ∧ Link.l0.toNat = 0) ∧
    ((∀ (k : Link), (oneAdmin.rights.set Link.l0 127#8).get k &&& 128#8 = 0#8)) ∧
    (oneAdmin.Takes Link.l0 0 (Request.rightsSet 2 0) ∧ Link.l2.toNat = 2 ∧ oneAdmin.settings.writing = none ∧
      oneAdmin.settings.waiting = []) ∧
    ((∃ k, (oneAdmin.rights.set Link.l2 0#8).get k &&& 128#8 ≠ 0#8)) ∧
    (writing.Takes Link.l0 0 (Request.rightsSet 2 0) ∧ writing.settings.writing ≠ none) ∧
    ((∃ k, (writing.rights.set Link.l2 0#8).get k &&& 128#8 ≠ 0#8)) :=
  ⟨by decide +kernel, by decide +kernel, by intro k; cases k <;> decide +kernel, by decide +kernel, ⟨.l0, by decide +kernel⟩,
    by decide +kernel, ⟨.l0, by decide +kernel⟩⟩

/-- The hypotheses of SettingsRecordWritten are met, clause by clause. -/
theorem test_meets_SettingsRecordWritten :
    (base.Takes Link.l0 0 (Request.settingsSet 7 (Four.mk 1 1 1 1))) ∧
    ((7 < 1 ∨ 6 < 7 ∨ ∃ q, 1 < (Four.mk 1 1 1 1).get q)) ∧
    (base.Takes Link.l0 0 (Request.settingsSet 6 (Four.mk 1 1 2 1))) ∧
    ((6 < 1 ∨ 6 < 6 ∨ ∃ q, 1 < (Four.mk 1 1 2 1).get q)) ∧
    (base.Takes Link.l0 0 (Request.settingsSet 6 (Four.mk 1 0 1 1)) ∧ 1 ≤ 6 ∧ 6 ≤ 6 ∧ base.settings.writing = none ∧
      base.settings.waiting = []) ∧
    ((∀ (q : Quad), (Four.mk 1 0 1 1).get q ≤ 1)) ∧
    (writing.agenda = [] ∧ writing.settings.writing = some (SettingsRec.default, Reply.mk Link.l0 2 4 84) ∧ writing.settings.waiting = [] ∧
      (writing.links.get (Reply.mk Link.l0 2 4 84).link).resetCount = (Reply.mk Link.l0 2 4 84).gen ∧ true = true ∧
      writing.settings.answered = true) ∧
    ((false = false ∨ writing.settings.answered = false)) :=
  ⟨by decide +kernel, .inr (.inl (by decide)), by decide +kernel, .inr (.inr ⟨.q3, by decide⟩), by decide +kernel,
    by intro k; cases k <;> decide +kernel, by decide +kernel, by decide +kernel⟩

/-- The hypotheses of ClockAdvances are met, clause by clause. -/
theorem test_meets_ClockAdvances :
    (base.power ≠ Power.off ∧ base.agenda = [] ∧
      (¬(base.clock.valid = true ∧ base.cat.target.target ≠ 0 ∧ base.cat.target.target ≤ min (base.clock.now.sec * 1000 + base.clock.now.ms + if (if 0 < base.clock.tempLeft then base.clock.temp else base.clock.base) ≠ 0 ∧ 1000000 ≤ base.clock.acc + (if 0 < base.clock.tempLeft then base.clock.temp else base.clock.base).natAbs then if 0 < if 0 < base.clock.tempLeft then base.clock.temp else base.clock.base then 2 else 0 else 1) 4294967295999 / 1000))) ∧
    (edge.power ≠ Power.off ∧ edge.agenda = [] ∧
      (edge.clock.valid = true ∧ edge.cat.target.target ≠ 0 ∧ edge.cat.target.target ≤ min (edge.clock.now.sec * 1000 + edge.clock.now.ms + if (if 0 < edge.clock.tempLeft then edge.clock.temp else edge.clock.base) ≠ 0 ∧ 1000000 ≤ edge.clock.acc + (if 0 < edge.clock.tempLeft then edge.clock.temp else edge.clock.base).natAbs then if 0 < if 0 < edge.clock.tempLeft then edge.clock.temp else edge.clock.base then 2 else 0 else 1) 4294967295999 / 1000)) :=
  ⟨by decide +kernel, by decide +kernel⟩

/-- The hypotheses of TrimEventsAdvanceClock are met, clause by clause. -/
theorem test_meets_TrimEventsAdvanceClock :
    (wit29.power ≠ Power.off ∧ wit29.agenda = [] ∧ (if 0 < wit29.clock.tempLeft then wit29.clock.temp else wit29.clock.base) ≠ 0 ∧
      1000000 ≤ wit29.clock.acc + (if 0 < wit29.clock.tempLeft then wit29.clock.temp else wit29.clock.base).natAbs ∧
      wit29.clock.now.sec ≤ 4294967295 ∧ wit29.clock.now.ms < 998 ∧
      (wit29.cat.target.target = 0 ∨ wit29.clock.now.sec < wit29.cat.target.target ∨ wit29.clock.valid = false)) ∧
    (wit30.power ≠ Power.off ∧ wit30.agenda = [] ∧ (if 0 < wit30.clock.tempLeft then wit30.clock.temp else wit30.clock.base) ≠ 0 ∧
      1000000 ≤ wit30.clock.acc + (if 0 < wit30.clock.tempLeft then wit30.clock.temp else wit30.clock.base).natAbs ∧
      wit30.clock.now.sec ≤ 4294967295 ∧ wit30.clock.now.ms < 998 ∧
      (wit30.cat.target.target = 0 ∨ wit30.clock.now.sec < wit30.cat.target.target ∨ wit30.clock.valid = false)) ∧
    (wit31.power ≠ Power.off ∧ wit31.agenda = [] ∧
      ((if 0 < wit31.clock.tempLeft then wit31.clock.temp else wit31.clock.base) = 0 ∨ wit31.clock.acc + (if 0 < wit31.clock.tempLeft then wit31.clock.temp else wit31.clock.base).natAbs < 1000000)) ∧
    (expiring.power ≠ Power.off ∧ expiring.agenda = [] ∧ expiring.clock.tempLeft = 1 ∧
      expiring.clock.acc + expiring.clock.temp.natAbs < 1000000 ∧ expiring.clock.now.ms = 999 ∧ expiring.clock.now.sec < 4294967295 ∧
      (expiring.cat.target.target = 0 ∨ expiring.clock.now.sec + 1 < expiring.cat.target.target ∨ expiring.clock.valid = false)) ∧
    (base.power ≠ Power.off ∧ base.agenda = [] ∧ base.clock.tempLeft ≠ 1) :=
  by decide +kernel

/-- The hypotheses of PeriodCloseMovesTallies are met, clause by clause. -/
theorem test_meets_PeriodCloseMovesTallies :
    (wit32.Quiet ∧ wit32.clock.valid = true ∧ wit32.cat.target.target ≠ 0 ∧ wit32.cat.target.target ≤ wit32.clock.now.sec) ∧
    (wit33.Quiet ∧ wit33.clock.valid = true ∧ wit33.cat.target.target ≠ 0 ∧ wit33.cat.target.target ≤ wit33.clock.now.sec) ∧
    (risingKeys SnapRec.code snap1.records = true) :=
  by decide +kernel

/-- The hypotheses of ClockReadReturnsClock are met, clause by clause. -/
theorem test_meets_ClockReadReturnsClock :
    (base.Takes Link.l0 0 Request.clockRead) :=
  by decide +kernel

/-- The hypotheses of ClockLoadAndStepSetClock are met, clause by clause. -/
theorem test_meets_ClockLoadAndStepSetClock :
    (base.power = Power.running ∧ base.Takes Link.l0 0 (Request.clockLoad (Stamp.mk 5 1000)) ∧ 999 < (Stamp.mk 5 1000).ms) ∧
    (wit35.power = Power.running ∧ wit35.Takes Link.l0 0 (Request.clockLoad (Stamp.mk 5 999)) ∧ (Stamp.mk 5 999).ms ≤ 999 ∧
      (wit35.cat.target.target = 0 ∨ (Stamp.mk 5 999).sec < wit35.cat.target.target)) ∧
    (wit36.power = Power.running ∧ wit36.Takes Link.l0 0 (Request.clockLoad (Stamp.mk 5 999)) ∧ wit36.cat.target.target ≠ 0 ∧
      wit36.cat.target.target ≤ (Stamp.mk 5 999).sec) ∧
    (base.Takes Link.l0 0 (Request.clockStep 86401) ∧ (86401 < -86400 ∨ 86400 < 86401)) ∧
    (wit37.power = Power.running ∧ wit37.Takes Link.l0 0 (Request.clockStep 86400) ∧ -86400 ≤ 86400 ∧ 86400 ≤ 86400 ∧
      wit37.clock.valid = false) ∧
    (base.Takes Link.l0 0 (Request.clockStep (-86400)) ∧ -86400 ≤ -86400 ∧ base.clock.valid = true ∧
      (base.cat.target.target = 0 ∨ (if (base.clock.now.sec : Int) + -86400 < 0 then Stamp.mk 0 base.clock.now.ms else if 4294967295 < (base.clock.now.sec : Int) + -86400 then Stamp.mk 4294967295 999 else Stamp.mk ((base.clock.now.sec : Int) + -86400).toNat base.clock.now.ms).sec < base.cat.target.target)) ∧
    (wit38.power = Power.running ∧ wit38.Takes Link.l0 0 (Request.clockStep 1) ∧ -86400 ≤ 1 ∧ 1 ≤ 86400 ∧ wit38.clock.valid = true ∧
      wit38.cat.target.target ≠ 0 ∧
      wit38.cat.target.target ≤ (if (wit38.clock.now.sec : Int) + 1 < 0 then Stamp.mk 0 wit38.clock.now.ms else if 4294967295 < (wit38.clock.now.sec : Int) + 1 then Stamp.mk 4294967295 999 else Stamp.mk ((wit38.clock.now.sec : Int) + 1).toNat wit38.clock.now.ms).sec) :=
  by decide +kernel

/-- The hypotheses of TrimAndCloseTargetSet are met, clause by clause. -/
theorem test_meets_TrimAndCloseTargetSet :
    (base.Takes Link.l0 0 (Request.clockTrim (TrimForm.base 200)) ∧ -200 ≤ 200 ∧ 200 ≤ 200 ∧ base.settings.writing = none ∧
      base.settings.waiting = []) ∧
    (base.Takes Link.l0 0 (Request.clockTrim (TrimForm.base (-201))) ∧ (-201 < -200 ∨ 200 < -201)) ∧
    (base.Takes Link.l0 0 (Request.clockTrim (TrimForm.temporary (-200) 65535)) ∧ -200 ≤ -200 ∧ 1 ≤ 65535 ∧ 65535 ≤ 65535) ∧
    (base.Takes Link.l0 0 (Request.clockTrim (TrimForm.temporary 0 0)) ∧ (0 < -200 ∨ 200 < 0 ∨ 0 = 0)) ∧
    (expiring.Takes Link.l0 0 (Request.clockTrim TrimForm.stop)) ∧
    (base.Takes Link.l0 0 (Request.clockTrim (TrimForm.other 4)) ∧ 4 ≠ 3) ∧
    (base.Takes Link.l0 0 (Request.closeTargetSet 0 1 604801) ∧
      (1 ≠ 1 ∧ 1 ≠ 2 ∨ 1 = 1 ∧ (604801 < 1 ∨ 604800 < 604801) ∨ base.clock.valid = true ∧ 0 ≠ 0 ∧ 0 ≤ base.clock.now.sec)) ∧
    (base.Takes Link.l0 0 (Request.closeTargetSet (day0 + 30602) 2 0) ∧
      (2 ≠ 1 ∧ 2 ≠ 2 ∨ 2 = 1 ∧ (0 < 1 ∨ 604800 < 0) ∨ base.clock.valid = true ∧ day0 + 30602 ≠ 0 ∧ day0 + 30602 ≤ base.clock.now.sec)) ∧
    (base.Takes Link.l0 0 (Request.closeTargetSet (day0 + 30603) 1 604800) ∧
      (¬(1 ≠ 1 ∧ 1 ≠ 2 ∨ 1 = 1 ∧ (604800 < 1 ∨ 604800 < 604800) ∨ base.clock.valid = true ∧ day0 + 30603 ≠ 0 ∧ day0 + 30603 ≤ base.clock.now.sec))) :=
  by decide +kernel

/-- The hypotheses of LodgementIssuesStamp are met, clause by clause. -/
theorem test_meets_LodgementIssuesStamp :
    (State.reset.clock.now.ms ≤ 999 ∧ State.reset.cat.lastStamp.ms ≤ 999 ∧ State.reset.clock.valid = false) ∧
    (wit28.clock.now.ms ≤ 999 ∧ wit28.cat.lastStamp.ms ≤ 999 ∧ wit28.clock.valid = true ∧ wit28.absentMode = true) ∧
    (wit39.clock.now.ms ≤ 999 ∧ wit39.cat.lastStamp.ms ≤ 999 ∧ wit39.clock.valid = true ∧ wit39.absentMode = false ∧
      wit39.cat.table.length < 131072 ∧ 4294967295999 ≤ wit39.cat.lastStamp.sec * 1000 + wit39.cat.lastStamp.ms) ∧
    (N9999.clock.now.ms ≤ 999 ∧ N9999.cat.lastStamp.ms ≤ 999 ∧ N9999.clock.valid = true ∧ N9999.absentMode = false ∧
      N9999.cat.table.length < 131072 ∧ N9999.cat.lastStamp.sec * 1000 + N9999.cat.lastStamp.ms < 4294967295999 ∧
      9999 < match N9999.cat.lastNumber with | some n => if n.day = max (N9999.clock.now.sec * 1000 + N9999.clock.now.ms) (N9999.cat.lastStamp.sec * 1000 + N9999.cat.lastStamp.ms + 1) / 1000 / 86400 then n.seq + 1 else 1 | none => 1) ∧
    (base.clock.now.ms ≤ 999 ∧ base.cat.lastStamp.ms ≤ 999 ∧ base.clock.valid = true ∧ base.absentMode = false ∧
      base.cat.table.length < 131072 ∧ base.cat.lastStamp.sec * 1000 + base.cat.lastStamp.ms < 4294967295999 ∧
      (match base.cat.lastNumber with | some n => if n.day = max (base.clock.now.sec * 1000 + base.clock.now.ms) (base.cat.lastStamp.sec * 1000 + base.cat.lastStamp.ms + 1) / 1000 / 86400 then n.seq + 1 else 1 | none => 1) ≤ 9999) ∧
    (base.Takes Link.l0 0 Request.lodge ∧ base.issueTest = Except.ok (InstrNum.mk 11205 1, tod 8 30 2 114)) ∧
    (N9999.Takes Link.l0 0 Request.lodge ∧ N9999.issueTest = Except.error Status.dayFull) ∧
    (fullPresent.clock.now.ms ≤ 999) ∧
    (fullPresent.cat.lastStamp.ms ≤ 999) ∧
    (fullPresent.clock.valid = true) ∧
    (fullPresent.absentMode = false) ∧
    (131072 ≤ fullPresent.cat.table.length) :=
  ⟨by decide +kernel, by decide +kernel, by decide +kernel, (by decide +kernel), by decide +kernel, by decide +kernel, by decide +kernel,
    by decide, by decide, by decide, by decide, fullTable_length⟩

/-- The hypotheses of PressAsksForStamp are met, clause by clause. -/
theorem test_meets_PressAsksForStamp :
    (wit40.agenda = [] ∧
      ((wit40.lines.get Quad.q1).pressed = true ∨ (wit40.lines.get Quad.q1).enabled = false ∨ wit40.power ≠ Power.running)) ∧
    (wit41.agenda = [] ∧ (wit41.lines.get Quad.q1).pressed = false ∧ (wit41.lines.get Quad.q1).enabled = true ∧
      wit41.power = Power.running ∧ 4 ≤ (wit41.lines.get Quad.q1).queue.length) ∧
    (wit42.agenda = [] ∧ (wit42.lines.get Quad.q1).pressed = false ∧ (wit42.lines.get Quad.q1).enabled = true ∧
      wit42.power = Power.running ∧ (wit42.lines.get Quad.q1).queue.length < 4 ∧
      wit42.issueTest = Except.ok (InstrNum.mk 11205 1, tod 8 30 2 114)) ∧
    (N9999.agenda = [] ∧ (N9999.lines.get Quad.q1).pressed = false ∧ (N9999.lines.get Quad.q1).enabled = true ∧
      N9999.power = Power.running ∧ (N9999.lines.get Quad.q1).queue.length < 4 ∧ N9999.issueTest = Except.error Status.dayFull) ∧
    (base.agenda = []) :=
  by decide +kernel

/-- The hypotheses of PrinterHandshake are met, clause by clause. -/
theorem test_meets_PrinterHandshake :
    (wit41.agenda = [] ∧ (wit41.lines.get Quad.q1).offered = true ∧ (wit41.lines.get Quad.q1).accept = false) ∧
    (wit43.agenda = [] ∧ ((wit43.lines.get Quad.q1).offered = false ∨ (wit43.lines.get Quad.q1).accept = true)) :=
  ⟨by decide +kernel, by decide +kernel⟩

/-- The hypotheses of CatalogueReads are met, clause by clause. -/
theorem test_meets_CatalogueReads :
    (base.Takes Link.l0 0 (Request.lookup (InstrNum.mk 11200 4)) ∧ ent (InstrNum.mk 11200 4) EntryState.withdrawn none ∈ base.cat.table ∧
      (ent (InstrNum.mk 11200 4) EntryState.withdrawn none).num = InstrNum.mk 11200 4 ∧
      List.Pairwise (fun a b => a.num ≠ b.num) base.cat.table) ∧
    (base.Takes Link.l0 0 (Request.lookup (InstrNum.mk 11200 5)) ∧ (∀ e ∈ base.cat.table, e.num ≠ InstrNum.mk 11200 5)) ∧
    (base.Takes Link.l0 0 (Request.pendingList (OptField.mk 1 0)) ∧ (OptField.mk 1 0).presence ≤ 1) ∧
    (base.Takes Link.l0 0 (Request.pendingList (OptField.mk 2 0)) ∧ 1 < (OptField.mk 2 0).presence) ∧
    (base.Takes Link.l0 0 (Request.folioSearch 999999 (OptField.mk 0 0) 1) ∧ (OptField.mk 0 0).presence ≤ 1 ∧ (1 = 1 ∨ 1 = 2) ∧
      1 ≤ 999999 ∧ 999999 ≤ 999999) ∧
    (base.Takes Link.l0 0 (Request.folioSearch 1000000 (OptField.mk 0 0) 2) ∧
      (1 < (OptField.mk 0 0).presence ∨ 2 ≠ 1 ∧ 2 ≠ 2 ∨ 1000000 < 1 ∨ 999999 < 1000000)) :=
  by decide +kernel

/-- The hypotheses of RestoreInsertsEntry are met, clause by clause. -/
theorem test_meets_RestoreInsertsEntry :
    (base.Takes Link.l0 0 (Request.restore wit44) ∧ restoreFields wit44 = none) ∧
    (base.Takes Link.l0 0 (Request.restore rp) ∧
      base.restoreTest rp = Except.ok (Source.line Quad.q1, rl, true, some (InstrNum.mk 11180 139))) ∧
    (risingKeys FolioRec.folio base.cat.folios = true ∧ 900 ∈ [900, 901]) ∧
    (7 ∉ [900, 901]) ∧
    (base.Takes Link.l0 0 (Request.restore rpDup) ∧
      restoreFields rpDup = some (Source.line Quad.q1, rl, true, some (InstrNum.mk 11180 139)) ∧ base.cat.entry? rpDup.inst ≠ none) ∧
    (base.Takes Link.l0 0 (Request.restore rpLate) ∧
      restoreFields rpLate = some (Source.line Quad.q1, rl, true, some (InstrNum.mk 11180 139)) ∧ base.cat.entry? rpLate.inst = none ∧
      base.absentMode = false ∧
      (∀ (n : InstrNum), base.cat.lastNumber = some n → n.key < rpLate.inst.key ∨ base.cat.lastStamp.toMs < rpLate.stamp.toMs)) ∧
    (base.Takes Link.l0 0 (Request.restore rpAfter) ∧
      restoreFields rpAfter = some (Source.line Quad.q1, rl, true, some (InstrNum.mk 11180 139)) ∧ base.cat.entry? rpAfter.inst = none ∧
      (base.absentMode = true ∨ ∃ n, base.cat.lastNumber = some n ∧ rpAfter.inst.key ≤ n.key ∧ rpAfter.stamp.toMs ≤ base.cat.lastStamp.toMs) ∧
      (∃ n, some (InstrNum.mk 11180 139) = some n ∧ ∀ (e : Entry), base.cat.entry? n = some e → e.loc? = none ∨ e.stamp.toMs ≤ rpAfter.stamp.toMs)) ∧
    (absent.Takes Link.l0 0 (Request.restore rpOver) ∧
      restoreFields rpOver = some (Source.line Quad.q1, rlOver, true, some (InstrNum.mk 11180 139)) ∧
      absent.cat.entry? rpOver.inst = none ∧
      (absent.absentMode = true ∨ ∃ n, absent.cat.lastNumber = some n ∧ rpOver.inst.key ≤ n.key ∧ rpOver.stamp.toMs ≤ absent.cat.lastStamp.toMs) ∧
      (∀ (n : InstrNum), some (InstrNum.mk 11180 139) = some n → ∃ e, absent.cat.entry? n = some e ∧ e.loc? ≠ none ∧ rpOver.stamp.toMs < e.stamp.toMs)) ∧
    ((∃ x, (x ∈ absent.filingExtents ∨ ∃ e ∈ absent.cat.table, e.loc? = some x) ∧ absent.cat.overlaps rlOver x = true)) ∧
    (restoreFields rpNo = some (Source.line Quad.q1, rl, true, none)) ∧
    (fullTable.Takes Link.l0 0 (Request.restore rpNo)) ∧
    (fullTable.cat.entry? rpNo.inst = none) ∧
    ((fullTable.absentMode = true ∨ ∃ n, fullTable.cat.lastNumber = some n ∧ rpNo.inst.key ≤ n.key ∧ rpNo.stamp.toMs ≤ fullTable.cat.lastStamp.toMs)) ∧
    ((∀ (n : InstrNum), none = some n → ∃ e, fullTable.cat.entry? n = some e ∧ e.loc? ≠ none ∧ rpNo.stamp.toMs < e.stamp.toMs)) ∧
    (131072 ≤ fullTable.cat.table.length) ∧
    ((∀ (x : Location), (x ∈ fullTable.filingExtents ∨ ∃ e ∈ fullTable.cat.table, e.loc? = some x) → fullTable.cat.overlaps rl x = false)) ∧
    (fullFolios.Takes Link.l0 0 (Request.restore rpNo)) ∧
    (fullFolios.cat.entry? rpNo.inst = none) ∧
    ((fullFolios.absentMode = true ∨ ∃ n, fullFolios.cat.lastNumber = some n ∧ rpNo.inst.key ≤ n.key ∧ rpNo.stamp.toMs ≤ fullFolios.cat.lastStamp.toMs)) ∧
    ((∀ (n : InstrNum), none = some n → ∃ e, fullFolios.cat.entry? n = some e ∧ e.loc? ≠ none ∧ rpNo.stamp.toMs < e.stamp.toMs)) ∧
    (fullFolios.cat.table.length < 131072) ∧
    (fullFolios.folioRoom (distinct rpNo.folios) = false) ∧
    ((∀ (x : Location), (x ∈ fullFolios.filingExtents ∨ ∃ e ∈ fullFolios.cat.table, e.loc? = some x) → fullFolios.cat.overlaps rl x = false)) :=
  ⟨by decide +kernel, by decide +kernel, by decide +kernel, (by decide +kernel), by decide +kernel, by decide +kernel, by decide +kernel,
    (by decide +kernel), ⟨⟨3140, .s1, 40112, 23⟩, .inr ⟨E180, by decide +kernel, by decide +kernel⟩, by decide +kernel⟩,
    by decide +kernel, by decide, fullTable_entry, .inl rfl, (by intro n h; cases h), fullTable_length, fullTable_noOverlap, by decide, by decide, .inl rfl, (by intro n h; cases h), by decide, folioFull _ _ rfl (by decide), fullFolios_noOverlap⟩

/-- The hypotheses of CatalogueReadyEndsAbsentMode are met, clause by clause. -/
theorem test_meets_CatalogueReadyEndsAbsentMode :
    (absent.Takes Link.l0 0 Request.catalogueReady ∧ absent.absentMode = true ∧ absent.commitQueue = []) ∧
    (base.Takes Link.l0 0 Request.catalogueReady ∧ base.absentMode = false) :=
  ⟨by decide +kernel, by decide +kernel⟩

/-- The hypotheses of WithdrawAndCloseSide are met, clause by clause. -/
theorem test_meets_WithdrawAndCloseSide :
    (base.Takes Link.l0 0 (Request.withdraw (InstrNum.mk 11200 1)) ∧
      (∃ e ∈ base.cat.table, e.num = InstrNum.mk 11200 1 ∧ e.state = EntryState.lodged)) ∧
    (base.Takes Link.l0 0 Request.closeSide ∧ base.openSide = some (PlatterSide.mk 2655 Side.s1, 1000)) ∧
    (base.Takes Link.l0 0 (Request.withdraw (InstrNum.mk 11200 4)) ∧
      (∀ e ∈ base.cat.table, e.num = InstrNum.mk 11200 4 → e.state ≠ EntryState.lodged)) :=
  by decide +kernel

/-- The hypotheses of OpenFilingOccupiesSlot are met, clause by clause. -/
theorem test_meets_OpenFilingOccupiesSlot :
    (base.Takes Link.l0 0 (Request.openFiling (OptField.mk 0 0)) ∧ (OptField.mk 0 0).presence ≤ 1 ∧
      ((if (OptField.mk 0 0).presence = 0 then Option.map (fun x => x.num) (List.filter (fun e => e.state == EntryState.lodged) base.cat.table).head? else if ∃ e ∈ List.filter (fun e => e.state == EntryState.lodged) base.cat.table, e.num = InstrNum.mk ((OptField.mk 0 0).value / 65536) ((OptField.mk 0 0).value % 65536) then some (InstrNum.mk ((OptField.mk 0 0).value / 65536) ((OptField.mk 0 0).value % 65536)) else none) = some (InstrNum.mk 11200 1)) ∧
      base.filings.get Quad.q2 = none) ∧
    ((∀ (k : Quad), k.toNat < Quad.q2.toNat → base.filings.get k ≠ none)) ∧
    (base.Takes Link.l0 0 (Request.openFiling (OptField.mk 1 (11200 * 65536 + 2))) ∧ (OptField.mk 1 (11200 * 65536 + 2)).presence ≤ 1 ∧
      ((if (OptField.mk 1 (11200 * 65536 + 2)).presence = 0 then Option.map (fun x => x.num) (List.filter (fun e => e.state == EntryState.lodged) base.cat.table).head? else if ∃ e ∈ List.filter (fun e => e.state == EntryState.lodged) base.cat.table, e.num = InstrNum.mk ((OptField.mk 1 (11200 * 65536 + 2)).value / 65536) ((OptField.mk 1 (11200 * 65536 + 2)).value % 65536) then some (InstrNum.mk ((OptField.mk 1 (11200 * 65536 + 2)).value / 65536) ((OptField.mk 1 (11200 * 65536 + 2)).value % 65536)) else none) = none)) ∧
    (base.Takes Link.l0 0 (Request.openFiling (OptField.mk 2 0)) ∧ 1 < (OptField.mk 2 0).presence) ∧
    (fullF.Takes Link.l0 0 (Request.openFiling (OptField.mk 0 0)) ∧
      ((if (OptField.mk 0 0).presence = 0 then Option.map (fun x => x.num) (List.filter (fun e => e.state == EntryState.lodged) fullF.cat.table).head? else if ∃ e ∈ List.filter (fun e => e.state == EntryState.lodged) fullF.cat.table, e.num = InstrNum.mk ((OptField.mk 0 0).value / 65536) ((OptField.mk 0 0).value % 65536) then some (InstrNum.mk ((OptField.mk 0 0).value / 65536) ((OptField.mk 0 0).value % 65536)) else none) = some (InstrNum.mk 11200 1))) ∧
    ((∀ (k : Quad), fullF.filings.get k ≠ none)) :=
  ⟨by decide +kernel, by intro k; cases k <;> decide +kernel, by decide +kernel, by decide +kernel, by decide +kernel,
    by intro k; cases k <;> decide +kernel⟩

/-- The hypotheses of FeedAppendsBlock are met, clause by clause. -/
theorem test_meets_FeedAppendsBlock :
    (base.Takes Link.l0 0 (Request.feed 1 1 blk) ∧ 1 ≤ 1 ∧ Quad.q1.toNat = 1 ∧ base.filings.get Quad.q1 = some fThree ∧
      fThree.owner = Link.l0 ∧ fThree.state = FilingState.receiving ∧ fThree.blocks < 4095 ∧ base.ring.length < 4096) ∧
    (wit46.Takes Link.l0 0 (Request.feed 1 1 blk) ∧ wit46.filings.get Quad.q1 = wit46.filings.get Quad.q1 ∧ f4095.owner = Link.l0 ∧
      f4095.state = FilingState.receiving ∧ 4095 ≤ f4095.blocks) ∧
    (base.Takes Link.l0 0 (Request.feed 4 1 blk) ∧ Quad.q4.toNat = 4 ∧ base.filings.get Quad.q4 = some fOther ∧ fOther.owner ≠ Link.l0) ∧
    (base.Takes Link.l0 0 (Request.feed 5 1 blk)) ∧
    ((∀ (k : FSlot), Quad.toNat k = 5 → base.filings.get k = none)) ∧
    (base.Takes Link.l0 0 (Request.feed 1 2 blk) ∧ 1 < 2) ∧
    (wit47.Takes Link.l0 0 (Request.feed 1 0 blk) ∧ 0 ≤ 1 ∧ wit47.filings.get Quad.q1 = wit47.filings.get Quad.q1 ∧
      fQueued.owner = Link.l0 ∧ fQueued.state ≠ FilingState.receiving) :=
  ⟨by decide +kernel, by decide +kernel, by decide +kernel, by decide +kernel, by intro k; cases k <;> decide +kernel, by decide +kernel,
    by decide +kernel⟩

/-- The hypotheses of PortMovesBlocks are met, clause by clause. -/
theorem test_meets_PortMovesBlocks :
    (fed.agenda = [] ∧ (fed.inChans.get Link.l0).store = some blk ∧ blk.length = 1024 ∧ (fed.inChans.get Link.l0).chan.next < 8192) ∧
    ((∀ (d : DriveNo), fed.driveWants d = false)) ∧
    ((∀ (d : Link), (fed.links.get d).lane = [])) ∧
    ((∀ (k : Link), k.toNat < Link.l0.toNat → (fed.inChans.get k).store = none)) ∧
    (fed.MemoryOk) ∧
    (base.agenda = [] ∧ base.mapReads = []) ∧
    ((∀ (d : DriveNo), base.driveWants d = false)) ∧
    ((∀ (d : Link), (base.links.get d).lane = [])) ∧
    ((∀ (d : Link), (base.inChans.get d).store = none)) ∧
    ((∀ (d : Link), base.outWants d = false)) ∧
    (L82.Quiet ∧ (L82.lib.drives.get DriveNo.d2).work = [Use.fill (InstrNum.mk 11012 410), Use.filing] ∧
      (L82.driveChans.get DriveNo.d2).held = [blk, [1#8]] ∧ 1 < (L82.driveChans.get DriveNo.d2).chan.remaining ∧
      (L82.driveChans.get DriveNo.d2).chan.next < 8192 ∧ L82.segments = [g82] ∧ g82.inst = InstrNum.mk 11012 410 ∧
      g82.staged + 1 < g82.len ∧ (∀ u ∈ g82.users, (L82.outChans.get u.link).chan.state ≠ ChanState.waiting)) ∧
    ((∀ (k : Link), (L82.links.get k).lane = [])) ∧
    ((∀ (k : DriveNo), k.toNat < DriveNo.d2.toNat → L82.driveWants k = false)) ∧
    (L82.MemoryOk) :=
  ⟨by decide +kernel, by intro k; cases k <;> decide +kernel, by intro k; cases k <;> decide +kernel,
    by intro k; cases k <;> decide +kernel, by unfold State.MemoryOk; decide +kernel, by decide +kernel,
    by intro k; cases k <;> decide +kernel, by intro k; cases k <;> decide +kernel, by intro k; cases k <;> decide +kernel,
    by intro k; cases k <;> decide +kernel, by decide +kernel, by intro k; cases k <;> decide +kernel,
    by intro k; cases k <;> decide +kernel, by unfold State.MemoryOk; decide +kernel⟩

/-- The hypotheses of CommitWaitsForMap are met, clause by clause. -/
theorem test_meets_CommitWaitsForMap :
    (base.Takes Link.l0 0 (Request.commit cp) ∧ Quad.q1.toNat = cp.slot ∧ base.filings.get Quad.q1 = some fThree ∧ fThree.owner = Link.l0 ∧
      fThree.state = FilingState.receiving ∧ commitFields cp ≠ none ∧ fThree.blocks ≠ 0) ∧
    (base.Takes Link.l0 0 (Request.commit wit48) ∧ Quad.q1.toNat = wit48.slot ∧ commitFields wit48 = none) ∧
    (wit49.Takes Link.l0 0 (Request.commit cp) ∧ wit49.filings.get Quad.q1 = wit49.filings.get Quad.q1 ∧ fNone.owner = Link.l0 ∧
      fNone.state = FilingState.receiving ∧ fNone.blocks = 0) ∧
    (base.Takes Link.l0 0 (Request.commit wit50) ∧ Quad.q4.toNat = wit50.slot ∧ base.filings.get Quad.q4 = base.filings.get Quad.q4 ∧
      fOther.owner ≠ Link.l0) ∧
    (base.Takes Link.l0 0 (Request.commit wit51)) ∧
    ((∀ (k : FSlot), Quad.toNat k = wit51.slot → base.filings.get k = none)) :=
  ⟨by decide +kernel, by decide +kernel, by decide +kernel, (by decide +kernel), by decide +kernel, by intro k; cases k <;> decide +kernel⟩

/-- The hypotheses of CommitAdmitted are met, clause by clause. -/
theorem test_meets_CommitAdmitted :
    (mapWaits.Quiet ∧ (mapWaits.links.get y0.link).resetCount = y0.gen ∧ mapWaits.mapReads = [MapRead.mk y0 cp] ∧ Quad.q1.toNat = cp.slot ∧
      mapWaits.filings.get Quad.q1 = some fm ∧ fm.owner = y0.link ∧ fm.state = FilingState.receiving ∧
      commitFields cp = some (false, [5], [InstrNum.mk 11180 139]) ∧ true = true) ∧
    ((∀ d, mapWaits.driveWants d = false) ∧ (∀ k, (mapWaits.inChans.get k).store = none) ∧ (∀ k, mapWaits.outWants k = false) ∧
      ∀ k, (mapWaits.links.get k).lane = []) ∧
    (false = false ∧ fm.mapValid (Memory.readBlock mapWaits.mem (mapWaits.ringPos Quad.q1 0)) cp = true ∧
      mapWaits.cat.claimFault fm.inst [InstrNum.mk 11180 139] = none ∧ mapWaits.folioRoom (distinct [5]) = true ∧ mapWaits.commitQueue ≠ []) ∧
    (mapBad.Quiet ∧ (mapBad.links.get y0.link).resetCount = y0.gen ∧ mapBad.mapReads = [MapRead.mk y0 cp] ∧
      mapBad.filings.get Quad.q1 = some fm ∧ fm.mapValid (Memory.readBlock mapBad.mem (mapBad.ringPos Quad.q1 0)) cp = false) ∧
    ((∀ d, mapBad.driveWants d = false) ∧ (∀ k, (mapBad.inChans.get k).store = none) ∧ (∀ k, mapBad.outWants k = false) ∧
      ∀ k, (mapBad.links.get k).lane = []) ∧
    (mapOld.Quiet ∧ (mapOld.links.get y0.link).resetCount = y0.gen ∧ mapOld.mapReads = [MapRead.mk y0 cpOld] ∧ Quad.q1.toNat = cpOld.slot ∧
      mapOld.filings.get Quad.q1 = some fm ∧ commitFields cpOld = some (false, [5], [InstrNum.mk 11100 77]) ∧
      fm.mapValid (Memory.readBlock mapOld.mem (mapOld.ringPos Quad.q1 0)) cpOld = true ∧
      mapOld.cat.claimFault fm.inst [InstrNum.mk 11100 77] = some Status.supersedeInvalid) ∧
    ((∀ d, mapOld.driveWants d = false) ∧ (∀ k, (mapOld.inChans.get k).store = none) ∧ (∀ k, mapOld.outWants k = false) ∧
      ∀ k, (mapOld.links.get k).lane = []) ∧
    (mapFull.Quiet) ∧
    ((mapFull.links.get y0.link).resetCount = y0.gen) ∧
    (mapFull.mapReads = [MapRead.mk y0 cp]) ∧
    (mapFull.filings.get Quad.q1 = some fm) ∧
    (fm.mapValid (Memory.readBlock mapFull.mem (mapFull.ringPos Quad.q1 0)) cp = true) ∧
    (mapFull.cat.claimFault fm.inst [InstrNum.mk 11180 139] = none) ∧
    (mapFull.folioRoom (distinct [5]) = false) ∧
    ((∀ d, mapFull.driveWants d = false) ∧ (∀ k, (mapFull.inChans.get k).store = none) ∧ (∀ k, mapFull.outWants k = false) ∧
      ∀ k, (mapFull.links.get k).lane = []) ∧
    (headNone.Quiet ∧ headNone.mapReads = [MapRead.mk y0 cp] ∧ headNone.filings.get Quad.q1 = some fm ∧
      fm.mapValid (Memory.readBlock headNone.mem (headNone.ringPos Quad.q1 0)) cp = true ∧
      headNone.cat.claimFault fm.inst [InstrNum.mk 11180 139] = none ∧ headNone.folioRoom (distinct [5]) = true ∧
      headNone.commitQueue = [] ∧ headNone.filUse = none ∧ headNone.openSide = none) ∧
    ((∀ d, headNone.driveWants d = false) ∧ (∀ k, (headNone.inChans.get k).store = none) ∧ (∀ k, headNone.outWants k = false) ∧
      ∀ k, (headNone.links.get k).lane = []) ∧
    ((∀ (ps : PlatterSide) (x : SideRec), headNone.sideRec? ps = some x → x.state ≠ SideState.blank ∧ x.state ≠ SideState.unchecked)) ∧
    (headOpen.Quiet ∧ headOpen.mapReads = [MapRead.mk y0 cp] ∧ headOpen.filings.get Quad.q1 = some fm ∧
      fm.mapValid (Memory.readBlock headOpen.mem (headOpen.ringPos Quad.q1 0)) cp = true ∧
      headOpen.cat.claimFault fm.inst [InstrNum.mk 11180 139] = none ∧ headOpen.folioRoom (distinct [5]) = true ∧
      headOpen.commitQueue = [] ∧ headOpen.filUse = none ∧ headOpen.openSide = some (PlatterSide.mk 2655 Side.s1, 307197) ∧
      headOpen.reachable (PlatterSide.mk 2655 Side.s1).platter = true ∧ fm.blocks ≤ 307200 - 307197 ∧
      headOpen.mountedIn (PlatterSide.mk 2655 Side.s1) = none ∧ headOpen.demand? (PlatterSide.mk 2655 Side.s1) = none ∧
      headOpen.lib.picker.state ≠ PickerState.idle) ∧
    ((∀ d, headOpen.driveWants d = false) ∧ (∀ k, (headOpen.inChans.get k).store = none) ∧ (∀ k, headOpen.outWants k = false) ∧
      ∀ k, (headOpen.links.get k).lane = []) :=
  ⟨by decide +kernel, portRests _ (by decide +kernel), by decide +kernel, by decide +kernel, portRests _ (by decide +kernel), by decide +kernel, portRests _ (by decide +kernel), by decide, by decide, by decide, by decide, by decide +kernel, by decide, folioFull _ _ rfl (by decide), portRests _ (by decide +kernel), by decide +kernel, portRests _ (by decide +kernel), headNone_full, by decide +kernel, portRests _ (by decide +kernel)⟩

/-- The hypotheses of FilingsEndEarly are met, clause by clause. -/
theorem test_meets_FilingsEndEarly :
    (base.Takes Link.l0 0 (Request.abandon 2)) ∧
    ((∀ (q : FSlot), Quad.toNat q = 2 → base.filings.get q = none)) ∧
    (notAdmin.Takes Link.l0 0 (Request.abandon 4) ∧ Quad.q4.toNat = 4 ∧ notAdmin.filings.get Quad.q4 = some fOther ∧
      fOther.owner ≠ Link.l0 ∧ notAdmin.rights.get Link.l0 &&& 128#8 = 0#8) ∧
    (base.Takes Link.l0 0 (Request.abandon 1) ∧ Quad.q1.toNat = 1 ∧ base.filings.get Quad.q1 = some fThree ∧
      (fThree.owner = Link.l0 ∨ base.rights.get Link.l0 &&& 128#8 ≠ 0#8) ∧ fThree.state = FilingState.receiving ∧
      base.cat.isFiling fThree.inst = true ∧ (∀ e ∈ base.cat.table, e.claim ≠ some fThree.inst) ∧ fThree.commit = none ∧
      (∀ (u : FilUse), base.filUse = some u → u.slot ≠ some Quad.q1) ∧ base.commitQueue = []) ∧
    (L84.Takes Link.l0 0 (Request.abandon 1) ∧ L84.filings.get Quad.q1 = some q84 ∧
      (q84.owner = Link.l0 ∨ L84.rights.get Link.l0 &&& 128#8 ≠ 0#8) ∧
      (q84.state = FilingState.writing ∨ q84.state = FilingState.verifying)) ∧
    (headQueued.Takes Link.l0 0 (Request.abandon 1) ∧ headQueued.filings.get Quad.q1 = some fq ∧
      (fq.owner = Link.l0 ∨ headQueued.rights.get Link.l0 &&& 128#8 ≠ 0#8) ∧
      (fq.state = FilingState.queued ∨ fq.state = FilingState.waitingMedia) ∧ headQueued.cat.isFiling fq.inst = true ∧
      (∀ e ∈ headQueued.cat.table, e.claim ≠ some fq.inst) ∧ fq.commit = some cq ∧ headQueued.filUse = none ∧
      headQueued.commitQueue = [Quad.q1] ∧ (headQueued.links.get cq.reply.link).resetCount = cq.reply.gen) ∧
    (idle600.Quiet ∧ idle600.filings.get Quad.q1 = some fThree ∧ fThree.idleSince + 600000 ≤ idle600.ref ∧
      idle600.cat.isFiling fThree.inst = true ∧ (∀ e ∈ idle600.cat.table, e.claim ≠ some fThree.inst) ∧ Quad.q1 ∉ idle600.commitQueue) ∧
    (idle599.Quiet ∧ idle599.filings.get Quad.q1 = some fThree ∧
      (fThree.state ≠ FilingState.receiving ∨ idle599.ref < fThree.idleSince + 600000)) :=
  ⟨by decide +kernel, by intro k; cases k <;> decide +kernel, by decide +kernel⟩

/-- The hypotheses of AdmissionChecksAndResolution are met, clause by clause. -/
theorem test_meets_AdmissionChecksAndResolution :
    ((itm a12).hasEnded = false ∧
      ((match Purpose.copy with | Purpose.view => 0#8 | Purpose.copy => 2#8 | Purpose.certified => 4#8) = 0#8 ∨ (base.rights.get Link.l0 &&& match Purpose.copy with | Purpose.view => 0#8 | Purpose.copy => 2#8 | Purpose.certified => 4#8) ≠ 0#8) ∧
      base.cat.entry? a12 = some E12 ∧ E12.loc? ≠ none ∧ base.resolve (itm a12) = some (a180, 2) ∧ base.cat.entry? a180 = some E180 ∧
      E180.state = E180.state ∧ (E180.restricted = false ∨ base.rights.get Link.l0 &&& 8#8 ≠ 0#8) ∧
      clampSel (itm a12).sel (v180.pages.small + v180.pages.plan) (Purpose.copy == Purpose.certified) = some (1, 10) ∧
      (Purpose.copy = Purpose.view ∨ ∃ a, base.cat.account? 17 = some a ∧ a.suspended = false)) ∧
    ((∀ (st : Status), base.decode (Resolved.mk a180 2 v180.loc v180.pages) ≠ Decode.fail st)) ∧
    ((itm a12).current = true ∧ [a12, InstrNum.mk 11100 77, a180] ≠ [] ∧ [a12, InstrNum.mk 11100 77, a180].head? = some (itm a12).named ∧
      (∀ (a : InstrNum), [a12, InstrNum.mk 11100 77, a180].getLast? = some a → ∀ (e : Entry), base.cat.entry? a = some e → e.successor = none) ∧
      [a12, InstrNum.mk 11100 77, a180].length ≤ 9) ∧
    ((∀ (k : Nat) (a b : InstrNum), [a12, InstrNum.mk 11100 77, a180][k]? = some a → [a12, InstrNum.mk 11100 77, a180][k + 1]? = some b → ∃ e, base.cat.entry? a = some e ∧ e.successor = some b)) ∧
    ((match Purpose.copy with | Purpose.view => 0#8 | Purpose.copy => 2#8 | Purpose.certified => 4#8) ≠ 0#8 ∧
      (notCopier.rights.get Link.l0 &&& match Purpose.copy with | Purpose.view => 0#8 | Purpose.copy => 2#8 | Purpose.certified => 4#8) = 0#8) :=
  ⟨by decide +kernel, decodeNoFail, by decide +kernel, chainLinked, by decide +kernel⟩

/-- The hypotheses of FetchAdmittedOrRefused are met, clause by clause. -/
theorem test_meets_FetchAdmittedOrRefused :
    (N62.Takes Link.l0 0 (Request.fetch p62) ∧ parseItem p62.item = some (itm a12) ∧ purpose? p62.purpose = some Purpose.copy ∧
      class? p62.cls = some MountClass.counter ∧
      N62.admitted Link.l0 Purpose.copy p62.account (itm a12) = N62.admitted Link.l0 Purpose.copy p62.account (itm a12) ∧
      (N62.admitted Link.l0 Purpose.copy 17 (itm a12)).hasEnded = false ∧
      (N62.admitted Link.l0 Purpose.copy 17 (itm a12)).resolved = some v180 ∧
      (N62.admitted Link.l0 Purpose.copy 17 (itm a12)).phase = Phase.pending ∧
      N62.segments = [seg0 a180 5 23 3 [ItemRef.mk Link.l2 1 1]] ∧ (seg0 a180 5 23 3 [ItemRef.mk Link.l2 1 1]).inst = v180.inst ∧
      (∀ o ∈ N62.ops, o.reply.link ≠ Link.l0) ∧ (N62.outChans.get Link.l0).chan.op = ChanOp.none) ∧
    (N62.Takes Link.l0 0 (Request.fetch (FetchParams.mk (ip (InstrNum.mk 11200 4)) 2 17 1)) ∧
      parseItem (FetchParams.mk (ip (InstrNum.mk 11200 4)) 2 17 1).item = some (itm (InstrNum.mk 11200 4)) ∧
      purpose? (FetchParams.mk (ip (InstrNum.mk 11200 4)) 2 17 1).purpose = some Purpose.copy ∧
      class? (FetchParams.mk (ip (InstrNum.mk 11200 4)) 2 17 1).cls = some MountClass.counter ∧
      (N62.admitted Link.l0 Purpose.copy (FetchParams.mk (ip (InstrNum.mk 11200 4)) 2 17 1).account (itm (InstrNum.mk 11200 4))).phase = Phase.ended Status.withdrawn) ∧
    (N62.Takes Link.l0 0 (Request.fetch (FetchParams.mk (ip (InstrNum.mk 11200 4) 3) 2 17 1)) ∧
      (parseItem (FetchParams.mk (ip (InstrNum.mk 11200 4) 3) 2 17 1).item = none ∨ purpose? (FetchParams.mk (ip (InstrNum.mk 11200 4) 3) 2 17 1).purpose = none ∨ class? (FetchParams.mk (ip (InstrNum.mk 11200 4) 3) 2 17 1).cls = none)) :=
  by decide +kernel

/-- The hypotheses of BundleAdmitted are met, clause by clause. -/
theorem test_meets_BundleAdmitted :
    (N64.Takes Link.l0 0 (Request.bundle p64) ∧
      parseItems p64.items = some [itm (InstrNum.mk 11100 77) false, itm (InstrNum.mk 11200 1), itm a180] ∧
      purpose? p64.purpose = some Purpose.copy ∧ class? p64.cls = some MountClass.bulk ∧ p64.count = p64.items.length ∧
      (N64.admitted Link.l0 Purpose.copy p64.account (itm (InstrNum.mk 11100 77) false)).phase = Phase.pending ∧
      (N64.admitted Link.l0 Purpose.copy p64.account (itm (InstrNum.mk 11100 77) false)).resolved = some (Resolved.mk (InstrNum.mk 11100 77) 0 (Location.mk 2655 Side.s0 200 5) (Pages.mk 1 1)) ∧
      N64.spaceFifo ≠ [] ∧ (∀ o ∈ N64.ops, ¬(o.reply.link = Link.l0 ∧ o.reply.tag = 0))) ∧
    ((N64.decode (Resolved.mk (InstrNum.mk 11100 77) 0 (Location.mk 2655 Side.s0 200 5) (Pages.mk 1 1)) = Decode.mount ∨ ∃ d, N64.decode (Resolved.mk (InstrNum.mk 11100 77) 0 (Location.mk 2655 Side.s0 200 5) (Pages.mk 1 1)) = Decode.drive d)) ∧
    (N64.Takes Link.l0 0 (Request.bundle wit2) ∧
      parseItems wit2.items = some [itm (InstrNum.mk 11200 1), itm (InstrNum.mk 11200 1), itm a180] ∧
      purpose? wit2.purpose = some Purpose.copy ∧ class? wit2.cls = some MountClass.bulk ∧ wit2.count = wit2.items.length ∧
      (N64.admitted Link.l0 Purpose.copy wit2.account (itm (InstrNum.mk 11200 1))).phase = Phase.ended Status.notRecorded) ∧
    (N64.Takes Link.l0 0 (Request.bundle wit3) ∧
      (parseItems wit3.items = none ∨ purpose? wit3.purpose = none ∨ class? wit3.cls = none ∨ wit3.count ≠ wit3.items.length)) :=
  ⟨by decide +kernel, .inl (by decide +kernel), by decide +kernel, by decide +kernel⟩

/-- The hypotheses of QuoteReturnsFee are met, clause by clause. -/
theorem test_meets_QuoteReturnsFee :
    (N62.Takes Link.l0 0 (Request.quote p62) ∧ parseItem p62.item = some (itm a12) ∧ purpose? p62.purpose = some Purpose.copy ∧
      Purpose.copy ≠ Purpose.view ∧ class? p62.cls = some MountClass.counter ∧
      (N62.checkItem Link.l0 Purpose.copy p62.account false (itm a12)).hasEnded = false ∧
      (N62.checkItem Link.l0 Purpose.copy p62.account false (itm a12)).resolved = some v180 ∧
      (N62.checkItem Link.l0 Purpose.copy p62.account false (itm a12)).range = some (1, 10)) ∧
    (N62.Takes Link.l0 0 (Request.quote wit4) ∧
      (parseItem wit4.item = none ∨ purpose? wit4.purpose = none ∨ purpose? wit4.purpose = some Purpose.view ∨ class? wit4.cls = none)) ∧
    (N62.Takes Link.l0 0 (Request.quote wit5) ∧ parseItem wit5.item = some (itm a12) ∧ purpose? wit5.purpose = some Purpose.copy ∧
      class? wit5.cls = some MountClass.counter ∧
      (N62.checkItem Link.l0 Purpose.copy wit5.account false (itm a12)).phase = Phase.ended Status.noAccount) :=
  by decide +kernel

/-- The hypotheses of FeeOfACopy are met, clause by clause. -/
theorem test_meets_FeeOfACopy :
    (1 ≤ 1 ∧ 1 ≤ 12 ∧ 12 ≤ (Pages.mk 9 3).small + (Pages.mk 9 3).plan) ∧
    (1 ≤ 9 ∧ 9 ≤ 10 ∧ 10 ≤ (Pages.mk 9 3).small + (Pages.mk 9 3).plan) ∧
    (1 ≤ 10 ∧ 10 ≤ 90 ∧ 90 ≤ (Pages.mk 90 3).small + (Pages.mk 90 3).plan) :=
  by decide +kernel

/-- The hypotheses of AccountsSet are met, clause by clause. -/
theorem test_meets_AccountsSet :
    (risingKeys Account.code base.cat.accounts = true ∧ (ap 5 2 1).state = (ap 5 2 1).state ∧ (ap 5 2 1).exempt = (ap 5 2 1).exempt ∧
      base.Takes Link.l0 0 (Request.accountSet AccountAction.create (ap 5 2 1)) ∧ (∀ b ∈ base.cat.accounts, b.code ≠ (ap 5 2 1).code) ∧
      base.cat.accounts.length < 64) ∧
    ((ap 17 2 0).state = (ap 17 2 0).state ∧ (ap 17 2 0).exempt = (ap 17 2 0).exempt ∧
      base.Takes Link.l0 0 (Request.accountSet AccountAction.create (ap 17 2 0)) ∧ (∃ b ∈ base.cat.accounts, b.code = (ap 17 2 0).code)) ∧
    ((ap 17 2 1).state = (ap 17 2 1).state ∧ (ap 17 2 1).exempt = (ap 17 2 1).exempt ∧
      base.Takes Link.l0 0 (Request.accountSet AccountAction.change (ap 17 2 1)) ∧ wit1 ∈ base.cat.accounts ∧ wit1.code = (ap 17 2 1).code) ∧
    ((ap 19 2 1).state = (ap 19 2 1).state ∧ (ap 19 2 1).exempt = (ap 19 2 1).exempt ∧
      base.Takes Link.l0 0 (Request.accountSet AccountAction.change (ap 19 2 1)) ∧ (∀ b ∈ base.cat.accounts, b.code ≠ (ap 19 2 1).code)) ∧
    (risingKeys Account.code Nsn.cat.accounts = true ∧ Nsn.Takes Link.l0 0 (Request.accountSet AccountAction.reset (ap 17 0 0)) ∧
      Nsn.rights.get Link.l0 &&& 128#8 ≠ 0#8 ∧ wit8 ∈ Nsn.cat.accounts ∧ wit8.code = (ap 17 0 0).code ∧ wit8.inFlight = 0) ∧
    (Nsn.Takes Link.l0 0 (Request.accountSet AccountAction.reset (ap 20 0 0)) ∧ wit9 ∈ Nsn.cat.accounts ∧ wit9.code = (ap 20 0 0).code ∧
      wit9.inFlight ≠ 0) ∧
    (Nsn.Takes Link.l0 0 (Request.accountSet AccountAction.reset (ap 21 0 0)) ∧ (∀ b ∈ Nsn.cat.accounts, b.code ≠ (ap 21 0 0).code)) ∧
    (Nsn.Takes Link.l0 0 (Request.accountSet AccountAction.delete (ap 18 0 0)) ∧ (ap 18 0 0).code ≠ 0 ∧ wit10 ∈ Nsn.cat.accounts ∧
      wit10.code = (ap 18 0 0).code ∧ (¬(wit10.inFlight ≠ 0 ∨ wit10.tally.isZero = false ∨ Nsn.cat.snapBusy (ap 18 0 0).code = true))) ∧
    (Nsn.Takes Link.l0 0 (Request.accountSet AccountAction.delete (ap 17 0 0)) ∧ (ap 17 0 0).code ≠ 0 ∧
      (wit8.inFlight ≠ 0 ∨ wit8.tally.isZero = false ∨ Nsn.cat.snapBusy (ap 17 0 0).code = true)) ∧
    (Nsn.Takes Link.l0 0 (Request.accountSet AccountAction.delete (ap 0 0 0)) ∧ (ap 0 0 0).code = 0) ∧
    (Nsn.Takes Link.l0 0 (Request.accountSet (AccountAction.other 5) (ap 0 0 0)) ∧ 5 ≠ 4) ∧
    (((ap 5 3 1).state ≠ 1 ∧ (ap 5 3 1).state ≠ 2 ∨ 1 < (ap 5 3 1).exempt) ∧
      base.Takes Link.l0 0 (Request.accountSet AccountAction.create (ap 5 3 1))) ∧
    (((ap 5 2 2).state ≠ 1 ∧ (ap 5 2 2).state ≠ 2 ∨ 1 < (ap 5 2 2).exempt) ∧
      base.Takes Link.l0 0 (Request.accountSet AccountAction.change (ap 5 2 2))) :=
  by decide +kernel

/-- The hypotheses of RecordsReturnedByEight are met, clause by clause. -/
theorem test_meets_RecordsReturnedByEight :
    (many.Takes Link.l0 0 (Request.accountRead (OptField.mk 0 5)) ∧ (OptField.mk 0 5).presence ≤ 1) ∧
    (many.Takes Link.l0 0 (Request.accountRead (OptField.mk 1 5)) ∧ (OptField.mk 1 5).presence ≤ 1) ∧
    (many.Takes Link.l0 0 (Request.accountRead (OptField.mk 1 6)) ∧ (OptField.mk 1 6).presence ≤ 1) ∧
    (many.Takes Link.l0 0 (Request.accountRead (OptField.mk 2 6)) ∧ 1 < (OptField.mk 2 6).presence) ∧
    (many.Takes Link.l0 0 (Request.periodTake (OptField.mk 1 24)) ∧ (OptField.mk 1 24).presence ≤ 1 ∧ many.cat.snapshot = some wit11) ∧
    (many.Takes Link.l0 0 (Request.periodTake (OptField.mk 1 21)) ∧ (OptField.mk 1 21).presence ≤ 1) ∧
    (base.Takes Link.l0 0 (Request.periodTake (OptField.mk 1 24)) ∧ base.cat.snapshot = none) :=
  by decide +kernel

/-- The hypotheses of PeriodClearReleasesSnapshot are met, clause by clause. -/
theorem test_meets_PeriodClearReleasesSnapshot :
    (Nsn.Takes Link.l0 0 (Request.periodClear 4) ∧ Nsn.cat.snapshot = some snap1 ∧ 4 = snap1.last) ∧
    (Nsn.Takes Link.l0 0 (Request.periodClear 5) ∧ 5 ≠ snap1.last) ∧
    (base.Takes Link.l0 0 (Request.periodClear 5) ∧ base.cat.snapshot = none) :=
  by decide +kernel

/-- The hypotheses of ImportAndExportTaken are met, clause by clause. -/
theorem test_meets_ImportAndExportTaken :
    (base.Takes Link.l0 0 Request.importPlatter ∧ base.lib.doorOpen = false ∧ base.lib.sweep.running = false ∧
      base.lib.picker.state ≠ PickerState.jammed ∧ base.lib.mail = MailState.empty) ∧
    (L75.Takes Link.l0 0 Request.importPlatter ∧ L75.lib.doorOpen = false ∧ L75.lib.sweep.running = false ∧
      L75.lib.mail ≠ MailState.empty ∧ L75.lib.picker.state = PickerState.idle ∧ L75.lib.returns = [] ∧ L75.lib.media = []) ∧
    (L75m.Takes Link.l0 0 Request.importPlatter ∧ L75m.lib.doorOpen = false ∧ L75m.lib.sweep.running = false ∧
      L75m.lib.mail ≠ MailState.empty ∧ (L75m.lib.picker.state = PickerState.moving ∨ L75m.lib.picker.state = PickerState.halted)) ∧
    (L75h.Takes Link.l0 0 Request.importPlatter ∧ L75h.lib.doorOpen = false ∧ L75h.lib.sweep.running = false ∧
      L75h.lib.mail ≠ MailState.empty ∧ (L75h.lib.picker.state = PickerState.moving ∨ L75h.lib.picker.state = PickerState.halted)) ∧
    (wit12.Takes Link.l0 0 Request.importPlatter ∧ wit12.lib.doorOpen = true) ∧
    (wit13.Takes Link.l0 0 Request.importPlatter ∧ wit13.lib.doorOpen = false ∧ wit13.lib.sweep.running = true) ∧
    (wit14.Takes Link.l0 0 Request.importPlatter ∧ wit14.lib.doorOpen = false ∧ wit14.lib.sweep.running = false ∧
      wit14.lib.picker.state = PickerState.jammed) ∧
    (base.Takes Link.l0 0 (Request.exportPlatter 3140) ∧ base.platter? 3140 = some P3140 ∧ P3140.loc = PlatterLoc.slot 22 ∧
      (∀ q ∈ base.lib.demands, q.side.platter ≠ 3140) ∧ base.lib.picker.state = PickerState.idle ∧ base.lib.returns = [] ∧
      base.lib.media = []) ∧
    ((∀ (a : Nat), ¬SideState.full 307000 = SideState.opened a)) ∧
    (L75.Takes Link.l0 0 (Request.exportPlatter 3140) ∧ L75.platter? 3140 = some P3140 ∧ L75.lib.picker.state ≠ PickerState.jammed ∧
      (∀ q ∈ L75.lib.demands, q.side.platter ≠ 3140)) ∧
    (wit15.Takes Link.l0 0 (Request.exportPlatter 3140) ∧ wit15.platter? 3140 = some P3140 ∧ wit15.lib.doorOpen = false ∧
      wit15.lib.sweep.running = false ∧ wit15.lib.picker.state ≠ PickerState.jammed) ∧
    (((∃ q ∈ wit15.lib.demands, q.side.platter = 3140) ∨ (∃ f, P3140.side0.state = SideState.opened f) ∨ ∃ f, P3140.side1.state = SideState.opened f)) ∧
    (base.Takes Link.l0 0 (Request.exportPlatter 3141) ∧ base.platter? 3141 = none) ∧
    (wit16.Takes Link.l0 0 (Request.exportPlatter 9) ∧ wit16.platter? 9 = some P9 ∧
      (P9.loc = PlatterLoc.picker ∨ P9.loc = PlatterLoc.mail ∨ P9.loc = PlatterLoc.exported ∨ P9.loc = PlatterLoc.unknown)) :=
  ⟨by decide +kernel, by decide +kernel, by decide +kernel, (by decide +kernel), by decide +kernel, by decide +kernel, by decide +kernel,
    (by decide +kernel), (by intro a h; cases h), by decide +kernel, by decide +kernel, .inl (by decide +kernel), by decide +kernel,
    by decide +kernel⟩

/-- The hypotheses of SubstituteRecordsPair are met, clause by clause. -/
theorem test_meets_SubstituteRecordsPair :
    (C77.Takes Link.l0 0 (Request.substitute 3140 5000) ∧ C77.platter? 3140 = some P3140 ∧ C77.platter? 5000 = some P5000 ∧
      (¬(3140 = 5000 ∨ (∃ x ∈ C77.cat.substs, x.retired = 3140 ∨ x.replacement = 3140 ∨ x.retired = 5000 ∨ x.replacement = 5000) ∨ P5000.side0.state ≠ SideState.unchecked ∨ P5000.side1.state ≠ SideState.unchecked ∨ ∃ e ∈ C77.cat.table, ∃ x, e.loc? = some x ∧ x.platter = 5000)) ∧
      C77.cat.substs.length < 8 ∧ C77.commitQueue = []) ∧
    ((¬((∃ f, P3140.side0.state = SideState.opened f) ∨ ∃ f, P3140.side1.state = SideState.opened f))) :=
  ⟨by decide +kernel, (by rintro (⟨f, h⟩ | ⟨f, h⟩) <;> cases h)⟩

/-- The hypotheses of DriveResetEjects are met, clause by clause. -/
theorem test_meets_DriveResetEjects :
    (L78.Takes Link.l0 0 (Request.driveReset 2) ∧ DriveNo.d2.toNat = 2 ∧ (L78.lib.drives.get DriveNo.d2).state = DriveState.fault ∧
      (L78.lib.drives.get DriveNo.d2).reset = none) ∧
    (L78.Takes Link.l0 0 (Request.driveReset 5) ∧ DriveNo.d5.toNat = 5 ∧ (L78.lib.drives.get DriveNo.d5).state = DriveState.absent) ∧
    (L78.Takes Link.l0 0 (Request.driveReset 1) ∧ DriveNo.d1.toNat = 1 ∧ (L78.lib.drives.get DriveNo.d1).state ≠ DriveState.absent ∧
      (L78.lib.drives.get DriveNo.d1).state ≠ DriveState.fault) ∧
    (L78.Takes Link.l0 0 (Request.driveReset 7) ∧ (7 = 0 ∨ 6 < 7)) :=
  by decide +kernel

/-- The hypotheses of DriveBlocksAndDone are met, clause by clause. -/
theorem test_meets_DriveBlocksAndDone :
    (L81.Quiet ∧ (L81.lib.drives.get DriveNo.d2).cmd = some (DriveCmd.read 100 5) ∧ (L81.lib.drives.get DriveNo.d2).reported < 5 ∧
      (L81.lib.drives.get DriveNo.d2).work = [Use.fill (InstrNum.mk 11012 410), Use.filing]) ∧
    (L81b.Quiet ∧ (L81b.lib.drives.get DriveNo.d1).cmd = some (DriveCmd.erase 100 5) ∧ (L81b.lib.drives.get DriveNo.d1).reported < 5 ∧
      (L81b.lib.drives.get DriveNo.d1).work = [Use.filing] ∧ L81b.filUse = some (FU (FilStage.erase DriveNo.d1))) ∧
    (base.Quiet ∧
      ((base.lib.drives.get DriveNo.d2).cmd = none ∨ ∃ c, (base.lib.drives.get DriveNo.d2).cmd = some c ∧ c.len ≤ (base.lib.drives.get DriveNo.d2).reported)) ∧
    (L83.Quiet ∧ (L83.lib.drives.get DriveNo.d1).staleDone = false ∧ (L83.lib.drives.get DriveNo.d1).cmd = some (DriveCmd.erase 100 3) ∧
      (L83.lib.drives.get DriveNo.d1).work = [Use.filing] ∧ L83.filUse = some (FU (FilStage.erase DriveNo.d1)) ∧
      (FU (FilStage.erase DriveNo.d1)).stage = FilStage.erase DriveNo.d1 ∧ (FU (FilStage.erase DriveNo.d1)).slot = some Quad.q1 ∧
      L83.filings.get Quad.q1 = some q83 ∧ q83.extent = some (Location.mk 2655 Side.s1 100 3)) ∧
    (∀ c, q83.commit = some c → c.abandonPending = false) ∧
    (L83b.Quiet ∧ (L83b.lib.drives.get DriveNo.d2).staleDone = false ∧ (L83b.lib.drives.get DriveNo.d2).cmd = some (DriveCmd.read 100 5) ∧
      5 ≤ (L83b.lib.drives.get DriveNo.d2).reported ∧
      (L83b.lib.drives.get DriveNo.d2).work = [Use.fill (InstrNum.mk 11012 410), Use.filing] ∧
      (L83b.driveChans.get DriveNo.d2).chan.remaining ≠ 0) ∧
    ((base.lib.drives.get DriveNo.d2).staleDone = false ∧ (base.lib.drives.get DriveNo.d2).cmd = none) :=
  ⟨by decide +kernel, by decide +kernel, by decide +kernel, by decide +kernel, (by intro c h; cases h), by decide +kernel,
    by decide +kernel⟩

/-- The hypotheses of PickerReports are met, clause by clause. -/
theorem test_meets_PickerReports :
    (L89.Quiet ∧ L89.lib.picker.state = PickerState.moving ∧ L89.lib.picker.since = some 77 ∧
      L89.lib.picker.move = some (Move.mk (Pos.slot 12) (some (Pos.drive DriveNo.d3)) false) ∧
      (Move.mk (Pos.slot 12) (some (Pos.drive DriveNo.d3)) false).dst ≠ none ∧
      L89.lib.picker.piece = some (Piece.mountFetch DriveNo.d3 (PlatterSide.mk 4127 Side.s0)) ∧
      (L89.lib.drives.get DriveNo.d3).state ≠ DriveState.fault ∧ L89.lib.sweepDue = false ∧
      (L89.lib.doorOpen = true ∨ L89.lib.returns = [] ∧ L89.lib.media = [] ∧ ∀ q ∈ L89.lib.demands, q.mounting ≠ none) ∧
      L89.lib.sweep.running = false) ∧
    (wit20.Quiet ∧ wit20.lib.picker.state = PickerState.moving ∧ wit20.lib.picker.since = some 77 ∧
      wit20.lib.picker.move = some (Move.mk (Pos.slot 12) (some (Pos.drive DriveNo.d3)) false) ∧
      wit20.lib.picker.piece = some (Piece.mountFetch DriveNo.d3 (PlatterSide.mk 4127 Side.s0)) ∧
      (wit20.lib.drives.get DriveNo.d3).state ≠ DriveState.fault ∧ wit20.lib.sweepDue = false ∧
      (wit20.lib.doorOpen = true ∨ wit20.lib.returns = [] ∧ wit20.lib.media = [] ∧ ∀ q ∈ wit20.lib.demands, q.mounting ≠ none) ∧
      wit20.lib.sweep.running = false) ∧
    (base.Quiet ∧ (base.lib.picker.state ≠ PickerState.moving ∨ base.lib.picker.since = none ∨ base.lib.picker.move = none)) ∧
    (wit21.Quiet ∧ wit21.lib.picker.state = PickerState.moving ∧ wit21.lib.picker.since = some 77 ∧
      wit21.lib.picker.move = some (Move.mk (Pos.slot 3) none false) ∧ (Move.mk (Pos.slot 3) none false).dst = none ∧
      wit21.lib.picker.piece = some Piece.sweep ∧ wit21.lib.doorOpen = false ∧ wit21.lib.sweepDue = false ∧ wit21.lib.sweep.next ≤ 160 ∧
      (∀ p ∈ wit21.cat.platters, p.home ≠ some wit21.lib.sweep.next) ∧ wit21.cat.slotUse? wit21.lib.sweep.next = none) ∧
    (wit22.Quiet ∧ wit22.lib.picker.state = PickerState.moving ∧ wit22.lib.picker.since = some 77 ∧
      wit22.lib.picker.move = some (Move.mk (Pos.slot 30) none false) ∧ (Move.mk (Pos.slot 30) none false).dst = none ∧
      wit22.lib.picker.piece = some Piece.sweep ∧ wit22.lib.doorOpen = false ∧ wit22.lib.sweepDue = false ∧ wit22.lib.sweep.next ≤ 160 ∧
      (∀ p ∈ wit22.cat.platters, p.home ≠ some wit22.lib.sweep.next) ∧
      wit22.cat.slotUse? wit22.lib.sweep.next = some SlotUse.foreignOccupied) ∧
    (3000 ≠ 0 ∧ wit22.platter? 3000 = none ∧ 3000 ∉ wit22.lib.sweep.found ∧ wit22.cat.platters.length < 160) ∧
    (wit23.Quiet ∧ wit23.lib.picker.state = PickerState.moving ∧ wit23.lib.picker.since = some 77 ∧
      wit23.lib.picker.move = some (Move.mk (Pos.slot 160) none false) ∧ (Move.mk (Pos.slot 160) none false).dst = none ∧
      wit23.lib.picker.piece = some Piece.sweep ∧ wit23.lib.doorOpen = false ∧ wit23.lib.sweepDue = false ∧ wit23.lib.sweep.next ≤ 160 ∧
      (∀ p ∈ wit23.cat.platters, p.home ≠ some wit23.lib.sweep.next) ∧ wit23.platter? 3000 = none ∧ 3000 ∉ wit23.lib.sweep.found ∧
      wit23.cat.platters.length < 160) ∧
    (L91.Quiet ∧ L91.lib.picker.state = PickerState.moving ∧ L91.lib.picker.since = some 77 ∧ 77 + 25000 ≤ L91.ref ∧
      L91.lib.picker.move = some (Move.mk (Pos.slot 12) (some (Pos.drive DriveNo.d3)) false) ∧ L91.lib.picker.held = some 4127 ∧
      L91.platter? 4127 = some (plat 4127 12 PlatterLoc.picker (SideRec.mk SideState.unchecked 0) (SideRec.mk SideState.blank 0)) ∧
      L91.lib.picker.piece = some (Piece.mountFetch DriveNo.d3 (PlatterSide.mk 4127 Side.s0)) ∧ L91.lib.demands = [] ∧ L91.lib.media = [] ∧
      L91.lib.sweepDue = false) ∧
    (wit24.Quiet ∧
      (wit24.lib.picker.state ≠ PickerState.moving ∨ wit24.lib.picker.since = none ∨ ∃ since, wit24.lib.picker.since = some since ∧ wit24.ref < since + 25000)) :=
  by decide +kernel

/-- The hypotheses of DoorAndMailSlot are met, clause by clause. -/
theorem test_meets_DoorAndMailSlot :
    (wit25.Quiet ∧ wit25.lib.doorOpen = false ∧ wit25.lib.media = []) ∧
    (L91.Quiet ∧ L91.lib.doorOpen = false ∧ L91.lib.media = []) ∧
    (L92.Quiet ∧ L92.lib.doorOpen = true) ∧
    (L92.lib.picker.state = PickerState.moving) ∧
    (wit26.Quiet ∧ wit26.lib.doorOpen = true ∧ wit26.lib.picker.state ≠ PickerState.moving) ∧
    (base.Quiet ∧ base.lib.doorOpen = false) ∧
    (base.mailMoving = false ∧ base.lib.mail = MailState.empty ∧ base.absentMode = false) ∧
    (L75.Quiet ∧ L75.mailMoving = false ∧ L75.lib.mail = MailState.incoming) ∧
    (L93.Quiet ∧ L93.mailMoving = false ∧ L93.lib.mail = MailState.outgoing 3140 ∧
      L93.platter? 3140 = some (plat 3140 22 PlatterLoc.mail sfull sfull) ∧ (plat 3140 22 PlatterLoc.mail sfull sfull).home = some 22 ∧
      L93.cat.slotUse? 22 = some (SlotUse.occupied 3140) ∧ L93.lib.demands = []) ∧
    (L93m.Quiet ∧ L93m.mailMoving = true) :=
  by decide +kernel

/-- The hypotheses of PowerCycle are met, clause by clause. -/
theorem test_meets_PowerCycle :
    (L97.agenda = [] ∧ L97.power = Power.starting ∧ L97.startEvents = [] ∧ L97.lib.doorOpen = false ∧
      L97.lib.picker.state = PickerState.idle) ∧
    ((∀ (l : Link), (L97.links.get l).lane = [])) ∧
    (base.agenda = [] ∧ base.power ≠ Power.starting) ∧
    (L84.power ≠ Power.off) ∧
    (off.power = Power.off ∧ off.agenda = []) ∧
    (off.update = UpdateRecord.clear ∧ off.settings.stored = some rec0 ∧ off.clock.continuity = true ∧ off.cat.marker = Marker.valid ∧
      off.cat.agrees = true ∧ (off.cat.target.target = 0 ∨ off.clock.now.sec < off.cat.target.target)) :=
  ⟨by decide +kernel, by intro k; cases k <;> decide +kernel, by decide +kernel⟩

/-- The hypotheses of DataAcceptedGoesOn are met, clause by clause. -/
theorem test_meets_DataAcceptedGoesOn :
    (let s := N67; ∃ l : Link, s.agenda = [] ∧ ∃ f : DataFrame, (s.links.get l).out = some (.data f) ∧ let c := s.outChans.get l; c.chan.state =
      .paused ∧ ∃ r : ItemRef, c.chan.op = .item r ∧ 1 < c.chan.remaining ∧ ∃ g : Segment, s.segmentOf r = some g) ∧
    (let s := N67b; ∃ l : Link, s.agenda = [] ∧ ∃ f : DataFrame, (s.links.get l).out = some (.data f) ∧ let c := s.outChans.get l; c.chan.state =
      .paused ∧ ∃ r : ItemRef, c.chan.op = .item r ∧ 1 < c.chan.remaining ∧ ∃ g : Segment, s.segmentOf r = some g) :=
  ⟨⟨.l0, (by decide +kernel), _, rfl, (by decide +kernel), _, rfl, (by decide +kernel), _, rfl⟩,
   ⟨.l0, (by decide +kernel), _, rfl, (by decide +kernel), _, rfl, (by decide +kernel), _, rfl⟩⟩

/-- The hypotheses of LastBlockEndsFetch are met, clause by clause. -/
theorem test_meets_LastBlockEndsFetch :
    (let s := bothDeliver; ∃ l : Link, s.agenda = [] ∧ ∃ f : DataFrame, (s.links.get l).out = some (.data f) ∧ ∃ o : Op, o ∈ s.ops ∧ ((∀ p ∈ s.ops,
      p.reply.link = l → p = o) ∧ o.reply.link = l ∧ (s.links.get l).resetCount = o.reply.gen ∧ o.bundle = false) ∧ ∃ i : Item, o.items = [i] ∧
      (o.current = 1 ∧ i.hasEnded = false) ∧ ∃ v : Resolved, i.resolved = some v ∧ let r : ItemRef := ⟨l, o.reply.tag, 1⟩; let c := s.outChans.get l;
      (c.chan.state = .paused ∧ c.chan.op = .item r ∧ c.chan.remaining = 1) ∧ ∃ g : Segment, s.segmentOf r = some g ∧ ((∀ h ∈ s.segments, h.inst =
      g.inst → h = g) ∧ g.started = true ∧ s.spaceFifo = []) ∧ (∀ q ∈ s.lib.demands, (q.mounting = none → q.waiters ≠ []) ∧ ∀ cls age, Waiter.item r
      cls age ∉ q.waiters)) ∧
    (let s := viewDelivers; ∃ l : Link, s.agenda = [] ∧ ∃ f : DataFrame, (s.links.get l).out = some (.data f) ∧ ∃ o : Op, o ∈ s.ops ∧ ((∀ p ∈ s.ops,
      p.reply.link = l → p = o) ∧ o.reply.link = l ∧ (s.links.get l).resetCount = o.reply.gen ∧ o.bundle = false) ∧ ∃ i : Item, o.items = [i] ∧
      (o.current = 1 ∧ i.hasEnded = false) ∧ ∃ v : Resolved, i.resolved = some v ∧ let r : ItemRef := ⟨l, o.reply.tag, 1⟩; let c := s.outChans.get l;
      (c.chan.state = .paused ∧ c.chan.op = .item r ∧ c.chan.remaining = 1) ∧ ∃ g : Segment, s.segmentOf r = some g ∧ ((∀ h ∈ s.segments, h.inst =
      g.inst → h = g) ∧ g.started = true ∧ s.spaceFifo = []) ∧ (∀ q ∈ s.lib.demands, (q.mounting = none → q.waiters ≠ []) ∧ ∀ cls age, Waiter.item r
      cls age ∉ q.waiters)) :=
  ⟨⟨.l0, (by decide +kernel), _, rfl, _, List.mem_of_getElem? (i := 1) rfl, (by decide +kernel), _, rfl, (by decide +kernel), _, rfl,
      (by decide +kernel), _, rfl, (by decide +kernel), (by intro q hq; exact (List.not_mem_nil hq).elim)⟩,
   ⟨.l0, (by decide +kernel), _, rfl, _, List.mem_of_getElem? (i := 1) rfl, (by decide +kernel), _, rfl, (by decide +kernel), _, rfl,
      (by decide +kernel), _, rfl, (by decide +kernel), (by intro q hq; exact (List.not_mem_nil hq).elim)⟩⟩

/-- The hypotheses of DeliveryTimeoutEndsItem are met, clause by clause. -/
theorem test_meets_DeliveryTimeoutEndsItem :
    (let s := bothLate; ∃ l : Link, s.agenda = [] ∧ ∃ o : Op, o ∈ s.ops ∧ ((∀ p ∈ s.ops, p.reply.link = l → p = o) ∧ o.reply.link = l ∧ (s.links.get
      l).resetCount = o.reply.gen ∧ o.bundle = false) ∧ ∃ i : Item, o.items = [i] ∧ (o.current = 1 ∧ i.hasEnded = false) ∧ let r : ItemRef := ⟨l,
      o.reply.tag, 1⟩; let c := s.outChans.get l; (c.chan.state = .paused ∧ c.chan.op = .item r ∧ c.offeredAt + 30000 ≤ s.ref) ∧ ∃ g : Segment,
      s.segmentOf r = some g ∧ ((∀ h ∈ s.segments, h.inst = g.inst → h = g) ∧ g.started = true ∧ s.spaceFifo = []) ∧ (∀ q ∈ s.lib.demands,
      (q.mounting = none → q.waiters ≠ []) ∧ ∀ cls age, Waiter.item r cls age ∉ q.waiters)) ∧
    (let s := N69b; ∃ l : Link, s.agenda = [] ∧ ((s.outChans.get l).chan.state ≠ .paused ∨ s.ref < (s.outChans.get l).offeredAt + 30000)) ∧
    (let s := base; ∃ l : Link, s.agenda = [] ∧ ((s.outChans.get l).chan.state ≠ .paused ∨ s.ref < (s.outChans.get l).offeredAt + 30000)) :=
  ⟨⟨.l0, (by decide +kernel), _, List.mem_of_getElem? (i := 1) rfl, (by decide +kernel), _, rfl, (by decide +kernel), (by decide +kernel), _, rfl,
      (by decide +kernel), (by intro q hq; exact (List.not_mem_nil hq).elim)⟩,
   ⟨.l0, by decide +kernel⟩,
   ⟨.l0, by decide +kernel⟩⟩

/-- The hypotheses of DriveReadyCompletesMount are met, clause by clause. -/
theorem test_meets_DriveReadyCompletesMount :
    (let s := L79; ∃ d : DriveNo, s.Quiet ∧ let k := s.lib.drives.get d; k.cmd = some .load ∧ ∃ (id : Nat) (sd : Side), k.platter = some ⟨some id,
      sd⟩ ∧ k.work = [] ∧ (s.demand? ⟨id, sd⟩ = none ∨ ∃ q, s.demand? ⟨id, sd⟩ = some q ∧ q.mounting = some d ∧ q.waiters = [])) ∧
    (let s := L79b; ∃ d : DriveNo, s.Quiet ∧ let k := s.lib.drives.get d; k.cmd = some .load ∧ ∃ (id : Nat) (sd : Side), k.platter = some ⟨some id,
      sd⟩ ∧ k.work = [] ∧ (s.demand? ⟨id, sd⟩ = none ∨ ∃ q, s.demand? ⟨id, sd⟩ = some q ∧ q.mounting = some d ∧ q.waiters = [])) ∧
    (let s := base; ∃ d : DriveNo, s.Quiet ∧ let k := s.lib.drives.get d; k.cmd ≠ some .load) :=
  ⟨⟨.d2, (by decide +kernel), (by decide +kernel), _, _, rfl, (by decide +kernel), (by first | exact .inl rfl | exact .inr ⟨_, rfl, rfl, rfl⟩)⟩,
   ⟨.d2, (by decide +kernel), (by decide +kernel), _, _, rfl, (by decide +kernel), (by first | exact .inl rfl | exact .inr ⟨_, rfl, rfl, rfl⟩)⟩,
   ⟨.d1, (by decide +kernel), by decide +kernel⟩⟩

/-- The hypotheses of DriveReadyHandsOver are met, clause by clause. -/
theorem test_meets_DriveReadyHandsOver :
    (let s := handedBusy; ∃ d : DriveNo, s.Quiet ∧ let k := s.lib.drives.get d; k.cmd = some .load ∧ ∃ (id : Nat) (sd : Side), k.platter = some ⟨some
      id, sd⟩ ∧ k.work = [] ∧ ∃ q : Demand, s.demand? ⟨id, sd⟩ = some q ∧ q.mounting = some d ∧ ∃ (r : ItemRef) (cls : MountClass) (age : Nat) (ws :
      List Waiter), q.waiters = .item r cls age :: ws ∧ (∀ w ∈ ws, ∃ r' c a, w = .item r' c a) ∧ ws.length ≤ 12 ∧ ∃ (o : Op) (i : Item), s.item? r =
      some (o, i) ∧ ∃ v : Resolved, i.resolved = some v ∧ (o.current = r.pos ∧ 1 ≤ r.pos) ∧ ∃ g : Segment, s.segment? v.inst = some g ∧ s.segmentOf r
      = some g ∧ g.filler = some r ∧ g.started = false ∧ g.staged = 0 ∧ (s.outChans.get r.link).chan.op ≠ .none) ∧
    (let s := handedOver; ∃ d : DriveNo, s.Quiet ∧ let k := s.lib.drives.get d; k.cmd = some .load ∧ ∃ (id : Nat) (sd : Side), k.platter = some ⟨some
      id, sd⟩ ∧ k.work = [] ∧ ∃ q : Demand, s.demand? ⟨id, sd⟩ = some q ∧ q.mounting = some d ∧ ∃ (r : ItemRef) (cls : MountClass) (age : Nat) (ws :
      List Waiter), q.waiters = .item r cls age :: ws ∧ (∀ w ∈ ws, ∃ r' c a, w = .item r' c a) ∧ ws.length ≤ 12 ∧ ∃ (o : Op) (i : Item), s.item? r =
      some (o, i) ∧ ∃ v : Resolved, i.resolved = some v ∧ (o.current = r.pos ∧ 1 ≤ r.pos) ∧ ∃ g : Segment, s.segment? v.inst = some g ∧ (s.segmentOf
      r = some g ∧ g.filler = some r ∧ g.started = false ∧ g.staged = 0 ∧ (s.outChans.get r.link).chan.op = .none) ∧ (∀ p ∈ s.ops, p.reply.link =
      r.link → ∀ j, p.items[p.current - 1]? = some j → j.phase ≠ .ready)) :=
  ⟨⟨.d2, (by decide +kernel), (by decide +kernel), _, _, rfl, (by decide +kernel), _, rfl, (by decide +kernel), _, _, _, _, rfl,
      (by intro w hw; cases List.mem_singleton.mp hw; exact ⟨_, _, _, rfl⟩), (by decide +kernel), _, _, rfl, _, rfl, (by decide +kernel), _, rfl,
      by decide +kernel⟩,
   ⟨.d2, (by decide +kernel), (by decide +kernel), _, _, rfl, (by decide +kernel), _, rfl, (by decide +kernel), _, _, _, _, rfl,
      (by intro w hw; cases List.mem_singleton.mp hw; exact ⟨_, _, _, rfl⟩), (by decide +kernel), _, _, rfl, _, rfl, (by decide +kernel), _, rfl,
      (by decide +kernel), (by intro p hp _ j hj; cases List.mem_singleton.mp hp; cases hj; decide +kernel)⟩⟩

/-- The hypotheses of DriveReadyStartsFiling are met, clause by clause. -/
theorem test_meets_DriveReadyStartsFiling :
    (let s := filingReadyUnchecked; ∃ d : DriveNo, ∃ side : PlatterSide, s.Quiet ∧ let k := s.lib.drives.get d; (k.cmd = some .load ∧ k.platter =
      some ⟨some side.platter, side.side⟩ ∧ k.work = []) ∧ ∃ w : Demand, s.demand? side = some w ∧ w.mounting = some d ∧ ∃ age : Nat, w.waiters =
      [.filing age] ∧ ∃ u : FilUse, s.filUse = some u ∧ u.side = side ∧ ∃ q : FSlot, u.slot = some q ∧ ∃ f : Filing, s.filings.get q = some f ∧ ∃ p :
      Platter, s.platter? side.platter = some p ∧ (p.sideRec side.side).state = .unchecked) ∧
    (let s := filingReadyBlank; ∃ d : DriveNo, ∃ side : PlatterSide, s.Quiet ∧ let k := s.lib.drives.get d; (k.cmd = some .load ∧ k.platter = some
      ⟨some side.platter, side.side⟩ ∧ k.work = []) ∧ ∃ w : Demand, s.demand? side = some w ∧ w.mounting = some d ∧ ∃ age : Nat, w.waiters = [.filing
      age] ∧ ∃ u : FilUse, s.filUse = some u ∧ u.side = side ∧ ∃ q : FSlot, u.slot = some q ∧ ∃ f : Filing, s.filings.get q = some f ∧ ∃ p : Platter,
      s.platter? side.platter = some p ∧ (p.sideRec side.side).state = .blank) ∧
    (let s := filingReadyOpen; ∃ d : DriveNo, ∃ side : PlatterSide, s.Quiet ∧ let k := s.lib.drives.get d; (k.cmd = some .load ∧ k.platter = some
      ⟨some side.platter, side.side⟩ ∧ k.work = []) ∧ ∃ w : Demand, s.demand? side = some w ∧ w.mounting = some d ∧ ∃ age : Nat, w.waiters = [.filing
      age] ∧ ∃ u : FilUse, s.filUse = some u ∧ u.side = side ∧ ∃ q : FSlot, u.slot = some q ∧ ∃ f : Filing, s.filings.get q = some f ∧ ∃ p : Platter,
      s.platter? side.platter = some p ∧ ∃ fill : Nat, (p.sideRec side.side).state = .opened fill ∧ (s.openSide = some (side, fill) ∧ p.loc = .drive
      d ∧ f.blocks ≤ 307200 - fill) ∧ (∀ c, f.commit = some c → side ∉ c.failed)) :=
  ⟨⟨.d1, ⟨2655, .s1⟩, (by decide +kernel), (by decide +kernel), _, rfl, (by decide +kernel), _, rfl, _, rfl, (by decide +kernel), _, rfl, _, rfl, _,
      rfl, by decide +kernel⟩,
   ⟨.d1, ⟨2655, .s1⟩, (by decide +kernel), (by decide +kernel), _, rfl, (by decide +kernel), _, rfl, _, rfl, (by decide +kernel), _, rfl, _, rfl, _,
      rfl, by decide +kernel⟩,
   ⟨.d1, ⟨2655, .s1⟩, (by decide +kernel), (by decide +kernel), _, rfl, (by decide +kernel), _, rfl, _, rfl, (by decide +kernel), _, rfl, _, rfl, _,
      rfl, _, rfl, (by decide +kernel), (by intro c hc; cases hc; decide +kernel)⟩⟩

/-- The hypotheses of DriveUnloadedStartsMove are met, clause by clause. -/
theorem test_meets_DriveUnloadedStartsMove :
    (let s := L80; ∃ d : DriveNo, s.Quiet ∧ let k := s.lib.drives.get d; (k.cmd = some .unload ∧ k.state = .unloading) ∧ ∃ (id : Nat) (sd : Side),
      k.platter = some ⟨some id, sd⟩ ∧ s.lib.sweepDue = false ∧ ∃ p : Platter, s.platter? id = some p ∧ ∃ want : PlatterSide, (s.lib.picker.piece =
      some (.mountUnload d want) ∧ id ≠ want.platter ∧ s.lib.doorOpen = false) ∧ ∃ n : Nat, p.home = some n ∧ s.cat.slotUse? n = some (.occupied id)
      ∧ (s.cat.slots.filter (fun r => decide (r.slot = n ∨ (r.use ≠ .occupied id ∧ r.use ≠ .reserved id))) = s.cat.slots) ∧ risingKeys SlotRec.slot
      s.cat.slots = true) ∧
    (let s := flipDue; ∃ d : DriveNo, s.Quiet ∧ let k := s.lib.drives.get d; (k.cmd = some .unload ∧ k.state = .unloading) ∧ ∃ (id : Nat) (sd :
      Side), k.platter = some ⟨some id, sd⟩ ∧ s.lib.sweepDue = false ∧ ∃ p : Platter, s.platter? id = some p ∧ ∃ want : PlatterSide,
      s.lib.picker.piece = some (.mountUnload d want) ∧ id = want.platter ∧ s.lib.doorOpen = false) ∧
    (let s := evictDoorOpen; ∃ d : DriveNo, s.Quiet ∧ let k := s.lib.drives.get d; (k.cmd = some .unload ∧ k.state = .unloading) ∧ ∃ (id : Nat) (sd :
      Side), k.platter = some ⟨some id, sd⟩ ∧ s.lib.sweepDue = false ∧ ∃ p : Platter, s.platter? id = some p ∧ ∃ want : PlatterSide,
      (s.lib.picker.piece = some (.mountUnload d want) ∧ s.lib.doorOpen = true) ∧ ∃ q : Demand, s.demand? want = some q ∧ q.mounting = some d ∧
      q.waiters ≠ [] ∧ (∀ h ∈ s.lib.demands, h.side = want → h = q) ∧ (∀ h ∈ s.lib.demands, h.mounting = none → h.waiters ≠ [])) ∧
    (let s := exportDue; ∃ d : DriveNo, s.Quiet ∧ let k := s.lib.drives.get d; (k.cmd = some .unload ∧ k.state = .unloading) ∧ ∃ (id : Nat) (sd :
      Side), k.platter = some ⟨some id, sd⟩ ∧ s.lib.sweepDue = false ∧ ∃ p : Platter, s.platter? id = some p ∧ ∃ y : Reply, s.lib.picker.piece = some
      (.exportUnload y id d) ∧ s.lib.doorOpen = false) ∧
    (let s := exportDoorOpen; ∃ d : DriveNo, s.Quiet ∧ let k := s.lib.drives.get d; (k.cmd = some .unload ∧ k.state = .unloading) ∧ ∃ (id : Nat) (sd
      : Side), k.platter = some ⟨some id, sd⟩ ∧ s.lib.sweepDue = false ∧ ∃ p : Platter, s.platter? id = some p ∧ ∃ y : Reply, s.lib.picker.piece =
      some (.exportUnload y id d) ∧ s.lib.doorOpen = true ∧ (s.links.get y.link).resetCount = y.gen) :=
  ⟨⟨.d2, (by decide +kernel), (by decide +kernel), _, _, rfl, (by decide +kernel), _, rfl, ⟨3140, .s0⟩, (by decide +kernel), _, rfl,
      by decide +kernel⟩,
   ⟨.d2, (by decide +kernel), (by decide +kernel), _, _, rfl, (by decide +kernel), _, rfl, ⟨3907, .s0⟩, by decide +kernel⟩,
   ⟨.d2, (by decide +kernel), (by decide +kernel), _, _, rfl, (by decide +kernel), _, rfl, ⟨3140, .s0⟩, (by decide +kernel), _, rfl,
      by decide +kernel⟩,
   ⟨.d2, (by decide +kernel), (by decide +kernel), _, _, rfl, (by decide +kernel), _, rfl, ⟨.l0, 3, 4, 0x51⟩, by decide +kernel⟩,
   ⟨.d2, (by decide +kernel), (by decide +kernel), _, _, rfl, (by decide +kernel), _, rfl, ⟨.l0, 3, 4, 0x51⟩, by decide +kernel⟩⟩

/-- The hypotheses of SideSearchTakesFirst are met, clause by clause. -/
theorem test_meets_SideSearchTakesFirst :
    (let s := base; ∃ f : Filing, (risingKeys Platter.id s.cat.platters = true ∧ (∀ p ∈ s.cat.platters, ∀ r ∈ s.cat.platters, p.home ≠ none → p.home
      = r.home → p = r)) ∧ ∃ ps : PlatterSide, s.findSide f = some ps) ∧
    (let s := foundOther; ∃ f : Filing, (risingKeys Platter.id s.cat.platters = true ∧ (∀ p ∈ s.cat.platters, ∀ r ∈ s.cat.platters, p.home ≠ none →
      p.home = r.home → p = r)) ∧ ∃ ps : PlatterSide, s.findSide f = some ps) ∧
    (let s := noSideLeft; ∃ f : Filing, risingKeys Platter.id s.cat.platters = true ∧ (∀ p ∈ s.cat.platters, ∀ r ∈ s.cat.platters, p.home ≠ none →
      p.home = r.home → p = r) ∧ s.findSide f = none) :=
  ⟨⟨fThree, (by decide +kernel), _, rfl⟩,
   ⟨fThree, (by decide +kernel), _, rfl⟩,
   ⟨fThree, by decide +kernel⟩⟩

/-- The hypotheses of CloseTargetComesNext are met: at `edge` the next advance reaches the target, at `farTarget` it does not. -/
theorem test_meets_CloseTargetComesNext :
    let reached (s : State) (sec : Nat) : Prop := s.clock.valid = true ∧ s.cat.target.target ≠ 0 ∧ s.cat.target.target ≤ sec
    let sec (s : State) : Nat := min (s.clock.now.sec * 1000 + s.clock.now.ms + 1) 4294967295999 / 1000
    (edge.power ≠ .off ∧ edge.agenda = [] ∧ edge.clock.tempLeft = 0 ∧ edge.clock.base = 0 ∧ ¬reached edge edge.clock.now.sec ∧ reached edge (sec edge)) ∧
    (farTarget.power ≠ .off ∧ farTarget.agenda = [] ∧ farTarget.clock.tempLeft = 0 ∧ farTarget.clock.base = 0 ∧
      ¬reached farTarget farTarget.clock.now.sec ∧ ¬reached farTarget (sec farTarget)) := by
  dsimp only; decide +kernel

/-- A supersede target that Table 1-4 calls invalid for a claimant. -/
def InvalidTarget (c : CatMem) (x : Entry) (m : InstrNum) : Prop := c.entry? m = none ∨ ∃ e, c.entry? m = some e ∧
  ((∀ loc pages, e.state ≠ .recorded loc pages) ∨ e.successor ≠ none ∨ x.stamp.toMs ≤ e.stamp.toMs)

def claimant : Entry := ent ⟨11200, 2⟩ (.filing .q1) none
def claimedMem : CatMem := { base.cat with table := base.cat.table.map (fun e => if e.num = a180 then { e with claim := some ⟨11200, 3⟩ } else e) }

theorem a180_valid (c : CatMem) (e : Entry) (h : c.entry? a180 = some e) (hr : ∃ loc pages, e.state = .recorded loc pages)
    (hs : e.successor = none) (ht : e.stamp.toMs < claimant.stamp.toMs) : ¬InvalidTarget c claimant a180 := by
  rintro (h0 | ⟨e', h', hi⟩)
  · rw [h] at h0; cases h0
  · rw [h] at h'; cases h'
    obtain ⟨loc, pages, hr⟩ := hr
    rcases hi with hi | hi | hi
    · exact hi loc pages hr
    · exact hi hs
    · omega

/-- The hypotheses of ClaimFaultsTested are met, clause by clause: an absent target, a target named twice, a claimed one, and a good one. -/
theorem test_meets_ClaimFaultsTested :
    (base.cat.entry? ⟨11200, 2⟩ = some claimant ∧ (∃ m ∈ [⟨1, 1⟩], InvalidTarget base.cat claimant m) ∧ ¬[a180, a180].Nodup) ∧
    (claimedMem.entry? ⟨11200, 2⟩ = some claimant ∧ (∀ m ∈ [a180], ¬InvalidTarget claimedMem claimant m) ∧ [a180].Nodup ∧
      ∃ m ∈ [a180], ∃ e, claimedMem.entry? m = some e ∧ e.claim ≠ none) ∧
    ((∀ m ∈ [a180], ¬InvalidTarget base.cat claimant m) ∧ ¬∃ m ∈ [a180], ∃ e, base.cat.entry? m = some e ∧ e.claim ≠ none) := by
  refine ⟨⟨by decide +kernel, ⟨⟨1, 1⟩, List.mem_singleton.mpr rfl, .inl (by decide +kernel)⟩, by decide⟩,
    ⟨by decide +kernel, ?_, by decide, a180, List.mem_singleton.mpr rfl, _, rfl, by decide +kernel⟩, ?_, ?_⟩
  · intro m hm; cases List.mem_singleton.mp hm
    exact a180_valid _ _ rfl ⟨_, _, rfl⟩ rfl (by decide +kernel)
  · intro m hm; cases List.mem_singleton.mp hm
    exact a180_valid _ _ rfl ⟨_, _, rfl⟩ rfl (by decide +kernel)
  · rintro ⟨m, hm, e, he, hc⟩
    cases List.mem_singleton.mp hm
    cases he; exact hc rfl

/-- The hypothesis of FolioRoomCounted is met, with room and without. -/
theorem test_meets_FolioRoomCounted : ([5, 7].Nodup ∧ base.folioRoom [5, 7] = true) ∧ ([5].Nodup ∧ fullFolios.folioRoom [5] = false) :=
  ⟨by decide +kernel, by decide, folioFull _ _ rfl (by decide)⟩

def inFault : State := dr .d2 fun k => { k with state := .fault }
def facingOther : State := dr .d2 fun k => { k with platter := some ⟨some 3907, .s0⟩ }
def exported9 : State := cat fun c => { c with platters := [P9] }
def located (id : Nat) (sd : Side) : Resolved := ⟨⟨11150, 1⟩, 0, ⟨id, sd, 16, 5⟩, ⟨1, 1⟩⟩

/-- The hypotheses of DecodeFollowsTable are met, clause by clause. -/
theorem test_meets_DecodeFollowsTable :
    let mounted (s : State) (sd : Side) (id : Nat) (d : DriveNo) : Prop :=
      let k := s.lib.drives.get d
      (k.state = .loading ∨ k.state = .ready ∨ k.state = .busy) ∧ k.platter = some ⟨some id, sd⟩
    (∃ g ∈ N62.segments, g.inst = v180.inst) ∧
    ((∀ g ∈ base.segments, g.inst ≠ (located 999 .s0).inst) ∧ base.cat.substs = [] ∧ base.platter? 999 = none) ∧
    ((∀ g ∈ inFault.segments, g.inst ≠ (located 3907 .s1).inst) ∧ ∃ p, inFault.platter? 3907 = some p ∧ p.loc = .drive .d2 ∧
      (inFault.lib.drives.get .d2).state = .fault) ∧
    (∃ p, base.platter? 3907 = some p ∧ p.loc = .drive .d2 ∧ (base.lib.drives.get .d2).state ≠ .fault ∧ mounted base .s1 3907 .d2 ∧
      ∀ e, mounted base .s1 3907 e → e = .d2) ∧
    (∃ p, facingOther.platter? 3907 = some p ∧ p.loc = .drive .d2 ∧ (facingOther.lib.drives.get .d2).state ≠ .fault ∧ ∀ e, ¬mounted facingOther .s1 3907 e) ∧
    (∃ p, base.platter? 3140 = some p ∧ ∃ n, p.loc = .slot n) ∧
    (∃ p, exported9.platter? 9 = some p ∧ p.loc = .exported) := by
  refine ⟨⟨_, List.mem_of_getElem? (i := 0) rfl, by decide +kernel⟩, by decide +kernel, ⟨by decide +kernel, _, rfl, by decide +kernel⟩,
    ⟨_, rfl, rfl, by decide +kernel, by decide +kernel, ?_⟩, ⟨_, rfl, rfl, by decide +kernel, ?_⟩, ⟨_, rfl, _, rfl⟩, ⟨_, rfl, rfl⟩⟩
  · intro e; cases e <;> decide +kernel
  · intro e; cases e <;> decide +kernel

/-- The hypotheses of ScheduleSetForms are met, clause by clause. -/
theorem test_meets_ScheduleSetForms :
    (base.Takes .l0 0 (.scheduleSet .pending (some sched)) ∧ scheduleOk sched = true) ∧
    (base.Takes .l0 0 (.scheduleSet .pending (some wit7)) ∧ scheduleOk wit7 = false) ∧
    (Nr.Takes .l0 0 (.scheduleSet .immediate (some sched)) ∧ Nr.rights.get .l0 &&& 0x80#8 = 0#8) ∧
    (base.Takes .l0 0 (.scheduleSet .immediate (some sched)) ∧ base.Takes .l0 0 (.scheduleSet .immediate (some wit7)) ∧
      base.Takes .l0 0 (.scheduleSet .immediate none) ∧ base.rights.get .l0 &&& 0x80#8 ≠ 0#8) ∧
    base.Takes .l0 0 (.scheduleSet .cancelPending none) ∧ base.Takes .l0 0 (.scheduleSet .view none) ∧
    base.Takes .l0 0 (.scheduleSet .pending none) ∧ base.Takes .l0 0 (.scheduleSet .cancelPending (some sched)) ∧
    base.Takes .l0 0 (.scheduleSet .view (some sched)) ∧
    (base.Takes .l0 0 (.scheduleSet (.other 9) none) ∧ base.Takes .l0 0 (.scheduleSet (.other 0) (some sched)) ∧ (9 : Nat) ≠ 4 ∧ (0 : Nat) ≠ 4) := by
  decide +kernel

def waits : State := { base with
  ops := [opOf .l0 3 [handedItem]]
  lib.demands := [⟨⟨3907, .s1⟩, none, [.item r0 .counter 5]⟩] }
def waiting : Op := opOf .l0 3 [handedItem]
def listed : State := { waits with lib.demands := [], lib.drives.a2 := { rdy 3907 .s1 with work := [.fill a12] } }
def unanswered : State := { base with settings := { base.settings with answered := false } }

/-- The hypotheses of StatusReportsUnits, StatusAnswered and StatusReportsOperations are met, clause by clause. -/
theorem test_meets_StatusReportsUnits :
    (L84.Takes .l0 0 (.status ⟨1, 3140⟩) ∧ (OptField.mk 1 3140).presence ≤ 1) ∧
    (L84.Takes .l0 0 (.status ⟨2, 3140⟩) ∧ 1 < (OptField.mk 2 3140).presence) ∧
    (base.filings.get .q2 = none ∧ ∃ f, base.filings.get .q1 = some f) ∧
    (State.reset.ring = [] ∧ ∃ r rest, base.ring = r :: rest) ∧
    (base.settings.answered = true ∧ ∃ r, base.settings.stored = some r) ∧
    (unanswered.settings.answered = false ∨ unanswered.settings.stored = none) ∧
    (waits.ops = [waiting] ∧ waiting.items = [handedItem] ∧ waiting.current = 1 ∧ handedItem.phase = .waitingMount ∧ handedItem.resolved.isSome = true ∧
      (waits.lib.demands.find? (fun q => q.waiters.any (fun w => decide (w.item? = some waiting.ref)))).isSome = true ∧
      ((waits.outChans.get .l0).chan.op ≠ .item waiting.ref ∨ (waits.outChans.get .l0).offsets = none)) ∧
    (listed.ops = [waiting] ∧ (∀ q ∈ listed.lib.demands, ∀ w ∈ q.waiters, w.item? ≠ some waiting.ref) ∧
      DriveNo.all.find? (fun d => (listed.lib.drives.get d).work.contains (.fill a12)) = some .d2 ∧
      (listed.lib.drives.get .d2).platter = some ⟨some 3907, .s1⟩) ∧
    (N67.ops[1]? = some (opOf .l0 3 [i67]) ∧ (N67.outChans.get .l0).chan.op = .item r0 ∧ (opOf .l0 3 [i67]).ref = r0 ∧
      (N67.outChans.get .l0).offsets = some [1, 2] ∧ i67.range = some (1, 10) ∧ (N67.segmentOf r0).isSome = true ∧ i67.phase ≠ .waitingMount) :=
  ⟨by decide +kernel, by decide +kernel, ⟨rfl, _, rfl⟩, ⟨rfl, _, _, rfl⟩, ⟨rfl, _, rfl⟩, by decide +kernel⟩

def failedAt (c : PowerCut) : State := nx (.powerFail c) { L84 with cat := { base.cat with storedCount := 7 } }
def cutRelease : State := failedAt (.complete (.release .q1))
def cutImage : CatMem := match cutRelease.update with | .complete m => m | _ => base.cat
def cutPartly : State := failedAt .partly
def badMarker : State := { off with cat.marker := .unrecognised }
def foundMixed : PowerOn := ⟨.kept, false, .kept, true, true, ⟨.fault, .ejected .s1, .silent, .noPlatter, .fault, .silent⟩⟩
def foundBad : PowerOn := { foundMixed with memory := .disagrees }

/-- The hypotheses of PowerOnCompletesChange are met: a release whose record is whole, and a record partly written. -/
theorem test_meets_PowerOnCompletesChange :
    (cutRelease.power = .off ∧ cutRelease.update = .complete cutImage ∧ cutRelease.settings.stored = some rec0 ∧ cutRelease.clock.continuity = true ∧
      cutImage.marker = .valid ∧ cutImage.agrees = true ∧ (cutImage.target.target = 0 ∨ cutRelease.clock.now.sec < cutImage.target.target)) ∧
    (cutPartly.power = .off ∧ cutPartly.update = .partly ∧ cutPartly.settings.stored = some rec0 ∧ cutPartly.clock.continuity = true ∧
      cutPartly.cat.marker = .valid ∧ cutPartly.cat.agrees = true ∧
      (cutPartly.cat.target.target = 0 ∨ cutPartly.clock.now.sec < cutPartly.cat.target.target)) := by
  decide +kernel

/-- The hypotheses of PowerOnClearsCatalogue are met: a memory that disagrees, and a marker not recognised. -/
theorem test_meets_PowerOnClearsCatalogue :
    (off.power = .off ∧ off.update = .clear ∧ foundBad.memory ≠ .kept) ∧
    (badMarker.power = .off ∧ badMarker.update = .clear ∧ badMarker.cat.marker = .unrecognised) := by decide +kernel

/-- The hypotheses of PowerOnFindsMechanics are met, with every answer a drive can give, and drives fitted and not. -/
theorem test_meets_PowerOnFindsMechanics :
    off.power = .off ∧ off.update = .clear ∧ off.settings.stored = some rec0 ∧ foundMixed.settings = .kept ∧ foundMixed.batteryLost = false ∧
      foundMixed.memory = .kept ∧ off.clock.continuity = true ∧ off.cat.marker = .valid ∧ off.cat.agrees = true ∧
      (off.cat.target.target = 0 ∨ off.clock.now.sec < off.cat.target.target) ∧ rec0.drives = 4 := by decide +kernel

def headMounted : State := { mapWaits with
  commitQueue := []
  cat.platters := [plat 2655 1 (.drive .d1) sfull ⟨.opened 1000, 0⟩] }
def headFinds : State := { headNone with
  cat.platters := platters0.map (fun p => if p.id = 2655 then { p with side1 := sfull } else p)
  lib.picker.state := .moving }

/-- The hypotheses of HeadOfCommitQueueTurn are met where the side search finds a side, and where the OPEN side is mounted (the other clauses:
`test_meets_CommitAdmitted`). -/
theorem test_meets_HeadOfCommitQueueTurn :
    (headFinds.Quiet ∧ headFinds.mapReads = [⟨y0, cp⟩] ∧ Quad.toNat .q1 = cp.slot ∧ headFinds.filings.get .q1 = some fm ∧ fm.owner = y0.link ∧
      fm.state = .receiving ∧ commitFields cp = some (false, [5], [⟨11180, 139⟩]) ∧
      fm.mapValid (Memory.readBlock headFinds.mem (headFinds.ringPos .q1 0)) cp = true ∧
      headFinds.cat.claimFault fm.inst [⟨11180, 139⟩] = none ∧ headFinds.folioRoom (distinct [5]) = true ∧ headFinds.commitQueue = [] ∧
      headFinds.filUse = none ∧ headFinds.openSide = none ∧ headFinds.findSide { fm with commit := none } = some ⟨4127, .s0⟩ ∧
      headFinds.mountedIn ⟨4127, .s0⟩ = none ∧ headFinds.demand? ⟨4127, .s0⟩ = none ∧ headFinds.lib.picker.state ≠ .idle) ∧
    ((∀ d, headFinds.driveWants d = false) ∧ (∀ k, (headFinds.inChans.get k).store = none) ∧ (∀ k, headFinds.outWants k = false) ∧
      ∀ k, (headFinds.links.get k).lane = []) ∧
    (headMounted.Quiet ∧ headMounted.mapReads = [⟨y0, cp⟩] ∧ headMounted.filings.get .q1 = some fm ∧
      fm.mapValid (Memory.readBlock headMounted.mem (headMounted.ringPos .q1 0)) cp = true ∧
      headMounted.cat.claimFault fm.inst [⟨11180, 139⟩] = none ∧ headMounted.folioRoom (distinct [5]) = true ∧ headMounted.commitQueue = [] ∧
      headMounted.filUse = none ∧ headMounted.openSide = some (⟨2655, .s1⟩, 1000) ∧ headMounted.mountedIn ⟨2655, .s1⟩ = some .d1 ∧
      headMounted.demand? ⟨2655, .s1⟩ = none ∧ headMounted.platter? 2655 = some (plat 2655 1 (.drive .d1) sfull ⟨.opened 1000, 0⟩) ∧
      risingKeys Platter.id headMounted.cat.platters = true ∧ (headMounted.lib.drives.get .d1).pinned = false ∧
      (headMounted.lib.drives.get .d1).state = .ready ∧ (headMounted.lib.drives.get .d1).work = [] ∧ fm.blocks ≤ 307200 - 1000) ∧
    ((∀ d, headMounted.driveWants d = false) ∧ (∀ k, (headMounted.inChans.get k).store = none) ∧ (∀ k, headMounted.outWants k = false) ∧
      ∀ k, (headMounted.links.get k).lane = []) :=
  ⟨by decide +kernel, portRests _ (by decide +kernel), by decide +kernel, portRests _ (by decide +kernel)⟩

/-- A lane byte of even parity is not good (R184), and the tag of a frame of bad parity is known where the tag byte is good (R185). -/
theorem test_meets_LaneBytesCarryParity :
    ({ byte := 3#8, parity := false, mark := true } : LaneByte).good = false ∧ (laneByte true 3#8).parity = true ∧
      readLane [laneByte true 1#8, laneByte false 2#8, { byte := 0x20#8, parity := true, mark := false }] = .bad { tag := some 2, code := 0x20 } := by
  decide +kernel

/-! ## Hypotheses met: medium errors and unreadable blocks -/

def mediumErrorRetriesOnSide1 : State := { base with
  cat.platters := [⟨3907, some 3, .drive .d2, ⟨.full 21, 0⟩, ⟨.opened 19, 0⟩, 1, none⟩]
  filings.a1 := some ⟨⟨11205, 1⟩, .l2, .writing, 3, [1, 2], false, 150285, some ⟨1, 1, false, [7], [], ⟨.l2, 3, 0, 50⟩, 0, [], false, 210369⟩,
    some ⟨3907, .s1, 16, 3⟩⟩
  filUse := some ⟨⟨3907, .s1⟩, .erase .d2, some .q1, ⟨967892800, 7⟩, false⟩
  lib.drives.a2 := ⟨.busy, some ⟨some 3907, .s1⟩, some ⟨967979200, 7⟩, some 210379, true, false, [.filing], some (.erase 16 3), 0, 595765, none,
    false⟩ }
def mediumErrorRetriesOnSide2 : State := { base with
  cat.platters := [⟨2655, some 1, .drive .d1, sfull, ⟨.opened 1000, 1⟩, 3, none⟩]
  filings.a1 := some ⟨⟨11200, 2⟩, .l0, .writing, 3, [1], false, 0, some ⟨1, 0, false, [5], [], ⟨.l0, 3, 4, 0x32⟩, 1, [], false, 50⟩, some ⟨2655, .s1,
    100, 3⟩⟩
  commitQueue := [.q1]
  filUse := some ⟨⟨2655, .s1⟩, .write .d1, some .q1, ⟨0, 0⟩, false⟩
  lib.drives.a1 := ⟨.busy, some ⟨some 2655, .s1⟩, none, none, true, false, [.filing], some (.write 100 3), 2, 0, none, false⟩ }
def mediumErrorRetriesOnSide3 : State := { base with
  filings.a1 := some ⟨⟨11200, 2⟩, .l0, .writing, 3, [1], false, 0, some ⟨1, 0, false, [5], [], ⟨.l0, 3, 4, 0x32⟩, 1, [⟨3907, .s0⟩], false, 50⟩,
    some ⟨2655, .s1, 100, 3⟩⟩
  commitQueue := [.q1]
  filUse := some ⟨⟨2655, .s1⟩, .write .d1, some .q1, ⟨0, 0⟩, false⟩
  lib.drives.a1 := ⟨.busy, some ⟨some 2655, .s1⟩, none, none, true, false, [.filing], some (.write 100 3), 2, 0, none, false⟩ }

/-- The hypotheses of MediumErrorRetriesOnSide are met, clause by clause. -/
theorem test_meets_MediumErrorRetriesOnSide :
    (let s := mediumErrorRetriesOnSide1; ∃ d : DriveNo, s.Quiet ∧ let k := s.lib.drives.get d; ∃ cmd : DriveCmd, k.cmd = some cmd ∧ (∃ a n, cmd =
      .erase a n ∨ cmd = .write a n) ∧ ∃ u : FilUse, s.filUse = some u ∧ ∃ q : FSlot, u.slot = some q ∧ ∃ f : Filing, s.filings.get q = some f ∧ ∃ c
      : Commit, f.commit = some c ∧ ∃ p : Platter, s.platter? u.side.platter = some p ∧ ∃ fill : Nat, (p.sideRec u.side.side).state = .opened fill ∧
      ((u.stage = .erase d ∨ u.stage = .write d) ∧ c.abandonPending = false) ∧ ∃ rest : List Use, k.work = .filing :: rest ∧ c.failed = [] ∧
      (p.sideRec u.side.side).fails = 0 ∧ s.openSide = some (u.side, fill) ∧ p.loc = .drive d ∧ k.state ≠ .fault ∧ f.blocks ≤ 307200 - fill) ∧
    (let s := mediumErrorRetriesOnSide2; ∃ d : DriveNo, s.Quiet ∧ let k := s.lib.drives.get d; ∃ cmd : DriveCmd, k.cmd = some cmd ∧ (∃ a n, cmd =
      .erase a n ∨ cmd = .write a n) ∧ ∃ u : FilUse, s.filUse = some u ∧ ∃ q : FSlot, u.slot = some q ∧ ∃ f : Filing, s.filings.get q = some f ∧ ∃ c
      : Commit, f.commit = some c ∧ ∃ p : Platter, s.platter? u.side.platter = some p ∧ ∃ fill : Nat, (p.sideRec u.side.side).state = .opened fill ∧
      (u.stage = .erase d ∨ u.stage = .write d) ∧ c.abandonPending = false ∧ c.failed = [] ∧ (p.sideRec u.side.side).fails = 1 ∧ k.work = [.filing] ∧
      s.PickerRests ∧ k.platter = some ⟨some p.id, u.side.side⟩ ∧ s.demand? u.side = none ∧ s.OthersShut u.side ∧ s.commitQueue.head? = some q ∧ (∀
      p' ∈ s.cat.platters, p'.id = p.id → p' = p)) ∧
    (let s := mediumErrorRetriesOnSide3; ∃ d : DriveNo, s.Quiet ∧ let k := s.lib.drives.get d; ∃ cmd : DriveCmd, k.cmd = some cmd ∧ (∃ a n, cmd =
      .erase a n ∨ cmd = .write a n) ∧ ∃ u : FilUse, s.filUse = some u ∧ ∃ q : FSlot, u.slot = some q ∧ ∃ f : Filing, s.filings.get q = some f ∧ ∃ c
      : Commit, f.commit = some c ∧ ∃ p : Platter, s.platter? u.side.platter = some p ∧ ∃ fill : Nat, (p.sideRec u.side.side).state = .opened fill ∧
      ((u.stage = .erase d ∨ u.stage = .write d) ∧ c.abandonPending = false) ∧ ∃ x, x ∈ c.failed ∧ c.failed = [x] ∧ x ≠ u.side ∧ k.work = [.filing] ∧
      s.PickerRests ∧ k.platter = some ⟨some p.id, u.side.side⟩ ∧ s.demand? u.side = none ∧ s.commitQueue = [q] ∧ s.cat.isFiling f.inst = true ∧
      (s.links.get c.reply.link).resetCount = c.reply.gen ∧ (∀ p' ∈ s.cat.platters, p'.id = p.id → p' = p)) :=
  ⟨⟨.d2, (by decide +kernel), _, rfl, (by first | exact ⟨_, _, .inl rfl⟩ | exact ⟨_, _, .inr rfl⟩), _, rfl, _, rfl, _, rfl, _, rfl, _, rfl, _, rfl,
      (by decide +kernel), [], by decide +kernel⟩,
   ⟨.d1, (by decide +kernel), _, rfl, (by first | exact ⟨_, _, .inl rfl⟩ | exact ⟨_, _, .inr rfl⟩), _, rfl, _, rfl, _, rfl, _, rfl, _, rfl, _, rfl,
      by decide +kernel⟩,
   ⟨.d1, (by decide +kernel), _, rfl, (by first | exact ⟨_, _, .inl rfl⟩ | exact ⟨_, _, .inr rfl⟩), _, rfl, _, rfl, _, rfl, _, rfl, _, rfl, _, rfl,
      (by decide +kernel), _, List.mem_of_getElem? (i := 0) rfl, by decide +kernel⟩⟩

def unreadableFailsFill1 : State := { base with
  links.a1.resetCount := 0
  ops := [⟨⟨.l1, 3, 0, 64⟩, false, .copy, 17, .counter, 1311893, ⟨968125354, 0⟩, [⟨⟨11205, 1⟩, false, .all, some ⟨⟨11205, 1⟩, 0, ⟨3907, .s1, 16, 3⟩,
    ⟨1, 1⟩⟩, some (1, 2), some ⟨1000, 1, 1, false, true⟩, some (.drive .d2), .delivering, 0, none⟩], 1⟩]
  segments := [⟨⟨11205, 1⟩, 5, 3, 0, [⟨.l1, 3, 1⟩], some .d2, some ⟨.l1, 3, 1⟩, true⟩]
  lib.drives.a2 := ⟨.busy, some ⟨some 3907, .s1⟩, some ⟨967979200, 7⟩, some 210379, false, false, [.fill ⟨11205, 1⟩], some (.read 16 3), 0, 1311893,
    none, false⟩ }
def unreadableFailsFill2 : State := { base with
  links.a2.resetCount := 0
  ops := [⟨⟨.l2, 3, 0, 64⟩, false, .copy, 17, .bulk, 20070, ⟨968152000, 5⟩, [⟨⟨11000, 1⟩, true, .all, some ⟨⟨11000, 3⟩, 1, ⟨3140, .s0, 100, 5⟩, ⟨1,
    1⟩⟩, some (1, 2), some ⟨800, 1, 1, false, false⟩, some .mount, .delivering, 0, none⟩], 1⟩]
  segments := [⟨⟨11000, 3⟩, 0, 5, 0, [⟨.l2, 3, 1⟩], some .d1, some ⟨.l2, 3, 1⟩, true⟩]
  driveChans.a1 := ⟨⟨.running, .item ⟨.l2, 3, 1⟩, some .sequential, 4096, 5, .none⟩, [[0x00#8, 0x02#8, 0x00#8, 0x01#8, 0x00#8,
    0x02#8] ++ List.replicate 1018 0x00#8], none, none⟩
  lib.drives.a1 := ⟨.busy, some ⟨some 3140, .s0⟩, some ⟨968152000, 5⟩, some 40091, false, false, [.fill ⟨11000, 3⟩], some (.read 100 5), 1, 40108,
    none, false⟩ }
def unreadableFailsFill3 : State := { base with
  links.a0.resetCount := 0
  links.a2.resetCount := 0
  ops := [⟨⟨.l2, 2, 0, 64⟩, false, .certified, 17, .bulk, 290317, ⟨968152684, 0⟩, [⟨⟨11000, 2⟩, false, .all, some ⟨⟨11000, 2⟩, 0, ⟨2655, .s1, 200,
    5⟩, ⟨1, 1⟩⟩, some (1, 2), some ⟨2000, 1, 1, true, false⟩, some .mount, .delivering, 0, none⟩], 1⟩, ⟨⟨.l0, 1, 0, 64⟩, false, .certified, 17,
    .bulk, 290321, ⟨968152684, 0⟩, [⟨⟨11000, 2⟩, true, .all, some ⟨⟨11000, 2⟩, 0, ⟨2655, .s1, 200, 5⟩, ⟨1, 1⟩⟩, some (1, 2), some ⟨2000, 1, 1, true,
    false⟩, some .staged, .delivering, 0, none⟩], 1⟩]
  segments := [⟨⟨11000, 2⟩, 5, 5, 0, [⟨.l2, 2, 1⟩, ⟨.l0, 1, 1⟩], some .d1, some ⟨.l2, 2, 1⟩, true⟩]
  lib.drives.a1 := ⟨.busy, some ⟨some 2655, .s1⟩, some ⟨968152684, 0⟩, some 290327, false, false, [.fill ⟨11000, 2⟩], some (.read 200 5), 0, 290327,
    none, false⟩ }

/-- The hypotheses of UnreadableFailsFill are met, clause by clause. -/
theorem test_meets_UnreadableFailsFill :
    (let s := unreadableFailsFill1; ∃ d : DriveNo, s.Quiet ∧ let k := s.lib.drives.get d; ∃ (a : Nat) (n : Nat), k.cmd = some (.read a n) ∧ ∃ g :
      Segment, g ∈ s.segments ∧ ∃ o : Op, o ∈ s.ops ∧ ∃ i : Item, o.items[o.current - 1]? = some i ∧ k.state = .busy ∧ k.work = [.fill g.inst] ∧ (∀ h
      ∈ s.segments, h.inst = g.inst → h = g) ∧ s.AtLastItem o i ∧ s.NotWaiting o.ref ∧ s.spaceFifo = [] ∧ s.PickerRests ∧ g.users = [o.ref] ∧ (∀ h ∈
      s.segments, o.ref ∈ h.users → h = g)) ∧
    (let s := unreadableFailsFill2; ∃ d : DriveNo, s.Quiet ∧ let k := s.lib.drives.get d; ∃ (a : Nat) (n : Nat), k.cmd = some (.read a n) ∧ ∃ g :
      Segment, g ∈ s.segments ∧ ∃ o : Op, o ∈ s.ops ∧ ∃ i : Item, o.items[o.current - 1]? = some i ∧ (k.state = .busy ∧ k.work = [.fill g.inst] ∧ (∀
      h ∈ s.segments, h.inst = g.inst → h = g) ∧ s.AtLastItem o i ∧ s.NotWaiting o.ref ∧ s.spaceFifo = [] ∧ s.PickerRests ∧ g.users = [o.ref] ∧ (∀ h
      ∈ s.segments, o.ref ∈ h.users → h = g) ∧ DriveNo.all.find? s.driveWants = some d) ∧ (∀ l, (s.links.get l).lane = [])) ∧
    (let s := unreadableFailsFill3; ∃ d : DriveNo, s.Quiet ∧ let k := s.lib.drives.get d; ∃ (a : Nat) (n : Nat), k.cmd = some (.read a n) ∧ ∃ g :
      Segment, g ∈ s.segments ∧ ∃ o : Op, o ∈ s.ops ∧ ∃ i : Item, o.items[o.current - 1]? = some i ∧ (k.state = .busy ∧ k.work = [.fill g.inst] ∧ (∀
      h ∈ s.segments, h.inst = g.inst → h = g) ∧ s.AtLastItem o i ∧ s.NotWaiting o.ref ∧ s.spaceFifo = [] ∧ s.PickerRests) ∧ ∃ o', o' ∈ s.ops ∧ ∃ i'
      : Item, o'.items[o'.current - 1]? = some i' ∧ g.users = [o.ref, o'.ref] ∧ o.reply.link ≠ o'.reply.link ∧ s.AtLastItem o' i' ∧ s.NotWaiting
      o'.ref ∧ (∀ h ∈ s.segments, (o.ref ∈ h.users ∨ o'.ref ∈ h.users) → h = g)) :=
  ⟨⟨.d2, (by decide +kernel), _, _, rfl, _, List.mem_of_getElem? (i := 0) rfl, _, List.mem_of_getElem? (i := 0) rfl, _, rfl, by decide +kernel⟩,
   ⟨.d1, (by decide +kernel), _, _, rfl, _, List.mem_of_getElem? (i := 0) rfl, _, List.mem_of_getElem? (i := 0) rfl, _, rfl, (by decide +kernel),
      by intro e; cases e <;> decide +kernel⟩,
   ⟨.d1, (by decide +kernel), _, _, rfl, _, List.mem_of_getElem? (i := 0) rfl, _, List.mem_of_getElem? (i := 0) rfl, _, rfl, (by decide +kernel), _,
      List.mem_of_getElem? (i := 1) rfl, _, rfl, by decide +kernel⟩⟩

/-! ## Hypotheses met: drives that fail, and residency -/

def driveBecomesFault3 : State := { base with
  links.a1.resetCount := 0
  ops := [⟨⟨.l1, 3, 0, 64⟩, false, .copy, 17, .counter, 1311893, ⟨968125354, 0⟩, [⟨⟨11205, 1⟩, false, .all, some ⟨⟨11205, 1⟩, 0, ⟨3907, .s1, 16, 3⟩,
    ⟨1, 1⟩⟩, some (1, 2), some ⟨1000, 1, 1, false, true⟩, some (.drive .d2), .delivering, 0, none⟩], 1⟩]
  segments := [⟨⟨11205, 1⟩, 5, 3, 0, [⟨.l1, 3, 1⟩], some .d2, some ⟨.l1, 3, 1⟩, true⟩]
  lib.drives.a2 := ⟨.busy, some ⟨some 3907, .s1⟩, some ⟨967979200, 7⟩, some 210379, false, false, [.fill ⟨11205, 1⟩], some (.read 16 3), 0, 1311893,
    none, false⟩ }
def driveBecomesFault4 : State := { base with
  cat.platters := [⟨3907, some 3, .drive .d2, ⟨.full 21, 0⟩, ⟨.opened 19, 0⟩, 1, none⟩]
  filings.a1 := some ⟨⟨11205, 1⟩, .l0, .queued, 3, [1, 2], false, 20062, some ⟨1, 1, false, [7], [], ⟨.l0, 3, 0, 50⟩, 0, [], false, 20073⟩, none⟩
  commitQueue := [.q1]
  filUse := some ⟨⟨3907, .s1⟩, .erase .d2, some .q1, ⟨968238400, 5⟩, false⟩
  lib.drives.a2 := ⟨.busy, some ⟨some 3907, .s1⟩, some ⟨968152000, 5⟩, some 20091, true, false, [.filing], some (.erase 16 3), 1, 300584, none, false⟩ }
def driveBecomesFault5 : State := { base with
  links.a1.resetCount := 0
  ops := [⟨⟨.l1, 0, 0, 64⟩, false, .view, 17, .counter, 1742971, ⟨968126311, 0⟩, [⟨⟨11000, 5⟩, true, .all, some ⟨⟨11000, 5⟩, 0, ⟨3907, .s0, 16, 5⟩,
    ⟨1, 1⟩⟩, some (1, 2), none, some .mount, .waitingMount, 0, none⟩], 1⟩]
  segments := [⟨⟨11000, 5⟩, 8, 5, 0, [⟨.l1, 0, 1⟩], none, some ⟨.l1, 0, 1⟩, false⟩]
  lib.drives.a2 := ⟨.loading, some ⟨some 3907, .s0⟩, some ⟨967979200, 7⟩, none, false, false, [], some .load, 0, 1828107, none, false⟩
  lib.demands := [⟨⟨3907, .s0⟩, some .d2, [.item ⟨.l1, 0, 1⟩ .counter 1742971]⟩] }
def driveBecomesFault6 : State := { base with
  lib.demands := [⟨⟨3140, .s0⟩, some .d2, [.filing 3]⟩]
  lib.drives.a2 := ⟨.unloading, some ⟨some 3907, .s1⟩, none, none, false, true, [], some .unload, 0, 0, none, false⟩
  lib.picker := ⟨.moving, none, some ⟨.drive .d2, some (.slot 2), true⟩, none, some (.mountUnload .d2 ⟨3140, .s0⟩)⟩
  lib.doorOpen := true }
def driveBecomesFault7 : State := { base with
  lib.demands := [⟨⟨3140, .s0⟩, some .d2, [.filing 3]⟩]
  lib.drives.a2 := ⟨.unloading, some ⟨some 3907, .s1⟩, none, none, false, true, [], some .unload, 0, 0, none, false⟩
  lib.picker := ⟨.moving, none, some ⟨.drive .d2, some (.slot 2), true⟩, none, some (.mountUnload .d2 ⟨3140, .s0⟩)⟩
  lib.drives.a1 := Drive.vacant .absent
  lib.drives.a3 := Drive.vacant .absent
  lib.drives.a4 := Drive.vacant .absent }

/-- A flip whose platter the picker holds, for an item, and an EXPORT that waits for its drive. -/
def flipFaults : State := { driveBecomesFault5 with
  lib.drives.a2 := ⟨.unloading, some ⟨some 3907, .s1⟩, some ⟨967979200, 7⟩, none, false, false, [], none, 0, 1828107, none, false⟩
  lib.picker := ⟨.moving, some 3907, some ⟨.drive .d2, some (.drive .d2), true⟩, some 77, some (.mountFlip .d2 ⟨3907, .s0⟩)⟩ }
def exportFaults : State := { base with
  lib.drives.a2 := ⟨.unloading, some ⟨some 3907, .s1⟩, none, none, false, false, [], some .unload, 0, 0, none, false⟩
  lib.picker := ⟨.moving, none, some ⟨.drive .d2, some .mail, true⟩, none, some (.exportUnload ⟨.l0, 3, 4, 0x51⟩ 3907 .d2)⟩ }

/-- R127 step 2: a FAULT in step 2 of a flip removes its demand and ends its item, the last of its operation; the picker's move goes on (log 35). -/
theorem test_flip_fault_ends_demand :
    let t := nx (.driveFaultReport .d2) flipFaults
    t.lib.demands = [] ∧ t.ops = [] ∧ t.lib.picker = flipFaults.lib.picker ∧ (t.lib.drives.get .d2).platter = none ∧
      (t.links.get .l1).responses.getLast?.map (fun r => r.status) = some .mediaFault := by decide +kernel

/-- R187: the response an EXPORT gets when its drive becomes FAULT frees its tag as any response does: it is no refusal (log 25). -/
theorem test_export_fault_no_refusal (n : Nat) : ({ tag := some 3, code := 0x51, status := exportLostStatus n, body := .none } : Response).isRefusal = false := by
  have h := exportLostStatus_not_refusal n
  simp [Response.isRefusal, h.1, h.2]

/-- The hypotheses of the clauses of DriveBecomesFault on a flip and on an EXPORT are met. -/
theorem test_meets_DriveFaultEndsFlipAndExport :
    (let s := flipFaults; s.Quiet ∧ let k := s.lib.drives.get .d2; ∃ q ∈ s.lib.demands, ∃ w ∈ q.waiters, ∃ o ∈ s.ops, ∃ i : Item,
      o.items[o.current - 1]? = some i ∧ ∃ g ∈ s.segments, ∃ sd : Side, s.lib.picker.piece = some (.mountFlip .d2 q.side) ∧ k.state = .unloading ∧
      k.platter = some ⟨some q.side.platter, sd⟩ ∧ (k.reset = none ∧ k.work = [] ∧ q.mounting = some .d2 ∧
      (∀ h ∈ s.lib.demands, (h.side = q.side ∨ h.mounting = some .d2) → h = q) ∧ q.waiters = [w] ∧ w.item? = some o.ref) ∧ s.Unstarted g o.ref ∧
      s.AtLastItem o i ∧ s.DemandsAwaited ∧ (∀ h ∈ s.lib.demands, ∀ v ∈ h.waiters, h ≠ q → v.item? ≠ some o.ref) ∧ s.spaceFifo = []) ∧
    (let s := exportFaults; s.Quiet ∧ let k := s.lib.drives.get .d2; k.state ≠ .absent ∧ k.state ≠ .fault ∧ k.reset = none ∧ s.taken .d2 = false ∧
      (∀ q ∈ s.lib.demands, ∀ p, k.platter = some p → p.id ≠ some q.side.platter) ∧ ∃ (y : Reply) (id : Nat),
      s.lib.picker.piece = some (.exportUnload y id .d2) ∧ k.work = [] ∧ (∀ q ∈ s.lib.demands, q.mounting ≠ some .d2) ∧
      (s.links.get y.link).resetCount = y.gen ∧ s.NothingNext) :=
  ⟨⟨by decide +kernel, _, List.mem_of_getElem? (i := 0) rfl, _, List.mem_of_getElem? (i := 0) rfl, _, List.mem_of_getElem? (i := 0) rfl, _, rfl,
      _, List.mem_of_getElem? (i := 0) rfl, .s1, rfl, rfl, rfl, by decide +kernel, by decide +kernel, by decide +kernel⟩,
   ⟨by decide +kernel, by decide +kernel, by decide +kernel, by decide +kernel, by decide +kernel, (by intro q hq; cases hq), _, _, rfl,
      by decide +kernel⟩⟩

/-- The hypotheses of the clause of CommitAdmitted on ring positions are met, at a slot's first block, at its last, and beyond it. -/
theorem test_meets_RingPositions :
    (∃ b ∈ base.ring, (b.slot = .q1 ∧ b.mark = .live ∧ b.ext = 0) ∧ ∀ c ∈ base.ring, c.slot = .q1 ∧ c.mark = .live ∧ c.ext = 0 → c = b) ∧
    (∃ b ∈ base.ring, (b.slot = .q1 ∧ b.mark = .live ∧ b.ext = 2) ∧ ∀ c ∈ base.ring, c.slot = .q1 ∧ c.mark = .live ∧ c.ext = 2 → c = b) ∧
    (∀ b ∈ base.ring, ¬(b.slot = .q1 ∧ b.mark = .live ∧ b.ext = 3)) := by decide +kernel

/-- R122: the lowest free slot among some taken, at the last slot, and with every slot taken. -/
theorem test_lowest_free_slot :
    base.cat.lowestFree = some 3 ∧ ({ base.cat with slots := (List.range' 1 159).map (fun n => ⟨n, .foreignOccupied⟩) } : CatMem).lowestFree = some 160 ∧
      ({ base.cat with slots := (List.range' 1 160).map (fun n => ⟨n, .foreignOccupied⟩) } : CatMem).lowestFree = none := by decide +kernel

/-- The hypotheses of DriveBecomesFault are met, clause by clause (a flip and an EXPORT: test_meets_DriveFaultEndsFlipAndExport). -/
theorem test_meets_DriveBecomesFault :
    (let s := base; ∃ d : DriveNo, s.Quiet ∧ let k := s.lib.drives.get d; (k.state = .absent ∨ (k.state = .fault ∧ k.cmd = none))) ∧
    (let s := base; ∃ d : DriveNo, s.Quiet ∧ let k := s.lib.drives.get d; ∃ timeout : Bool, ((timeout = true → k.cmd ≠ none ∧ k.since + 15000 ≤ s.ref
      ∧ k.retry = true) ∧ k.state ≠ .absent ∧ k.state ≠ .fault ∧ k.reset = none ∧ s.taken d = false) ∧ (∀ q ∈ s.lib.demands, ∀ p, k.platter = some p
      → p.id ≠ some q.side.platter) ∧ k.work = [] ∧ (∀ q ∈ s.lib.demands, q.mounting ≠ some d) ∧ s.waitsAt d = false) ∧
    (let s := driveBecomesFault3; ∃ d : DriveNo, s.Quiet ∧ let k := s.lib.drives.get d; ∃ timeout : Bool, ((timeout = true → k.cmd ≠ none ∧ k.since +
      15000 ≤ s.ref ∧ k.retry = true) ∧ k.state ≠ .absent ∧ k.state ≠ .fault ∧ k.reset = none ∧ s.taken d = false) ∧ (∀ q ∈ s.lib.demands, ∀ p,
      k.platter = some p → p.id ≠ some q.side.platter) ∧ ∃ g : Segment, g ∈ s.segments ∧ ∃ o : Op, o ∈ s.ops ∧ ∃ i : Item, o.items[o.current - 1]? =
      some i ∧ k.work = [.fill g.inst] ∧ g.users = [o.ref] ∧ (∀ h ∈ s.segments, (o.ref ∈ h.users ∨ h.inst = g.inst) → h = g) ∧ s.AtLastItem o i ∧
      s.NotWaiting o.ref ∧ s.spaceFifo = [] ∧ s.PickerRests ∧ (∀ q ∈ s.lib.demands, q.mounting ≠ some d) ∧ s.waitsAt d = false) ∧
    (let s := driveBecomesFault4; ∃ d : DriveNo, s.Quiet ∧ let k := s.lib.drives.get d; ∃ timeout : Bool, ((timeout = true → k.cmd ≠ none ∧ k.since +
      15000 ≤ s.ref ∧ k.retry = true) ∧ k.state ≠ .absent ∧ k.state ≠ .fault ∧ k.reset = none ∧ s.taken d = false) ∧ (∀ q ∈ s.lib.demands, ∀ p,
      k.platter = some p → p.id ≠ some q.side.platter) ∧ ∃ u : FilUse, s.filUse = some u ∧ ∃ q : FSlot, u.slot = some q ∧ ∃ f : Filing, s.filings.get
      q = some f ∧ ∃ c : Commit, f.commit = some c ∧ ∃ p : Platter, s.platter? u.side.platter = some p ∧ ∃ fill : Nat, (p.sideRec u.side.side).state
      = .opened fill ∧ k.work = [.filing] ∧ (u.stage = .erase d ∨ u.stage = .write d ∨ u.stage = .verify d) ∧ c.abandonPending = false ∧ c.failed =
      [] ∧ (p.sideRec u.side.side).fails = 0 ∧ s.openSide = some (u.side, fill) ∧ p.loc = .drive d ∧ k.platter = some ⟨some p.id, u.side.side⟩ ∧
      s.OthersShut u.side ∧ s.commitQueue.head? = some q ∧ (∀ p' ∈ s.cat.platters, p'.id = p.id → p' = p) ∧ s.PickerRests ∧ (∀ q ∈ s.lib.demands,
      q.mounting ≠ some d) ∧ s.waitsAt d = false) ∧
    (let s := driveBecomesFault5; ∃ d : DriveNo, s.Quiet ∧ let k := s.lib.drives.get d; ∃ timeout : Bool, ((timeout = true → k.since + 15000 ≤ s.ref
      ∧ k.retry = true) ∧ k.reset = none ∧ s.taken d = false ∧ k.work = [] ∧ s.DemandsAwaited) ∧ ∃ q : Demand, q ∈ s.lib.demands ∧ (q.mounting = some
      d ∧ (∀ h ∈ s.lib.demands, (h.side = q.side ∨ h.mounting = some d) → h = q)) ∧ ∃ o : Op, o ∈ s.ops ∧ ∃ i : Item, o.items[o.current - 1]? = some
      i ∧ ∃ g : Segment, g ∈ s.segments ∧ (k.cmd = some .load ∧ k.state = .loading ∧ k.platter = some ⟨some q.side.platter, q.side.side⟩ ∧ (∀ h ∈
      s.lib.demands, h.side.platter = q.side.platter → h = q)) ∧ ∃ w : Waiter, w ∈ q.waiters ∧ (q.waiters = [w] ∧ w.item? = some o.ref ∧ g.users =
      [o.ref] ∧ g.filler = some o.ref ∧ g.started = false ∧ (∀ h ∈ s.segments, (o.ref ∈ h.users ∨ h.inst = g.inst) → h = g)) ∧ (∀ e, .fill g.inst ∉
      (s.lib.drives.get e).work) ∧ s.AtLastItem o i ∧ (∀ h ∈ s.lib.demands, ∀ w ∈ h.waiters, h ≠ q → w.item? ≠ some o.ref) ∧ s.spaceFifo = [] ∧
      s.waitsAt d = false) ∧
    (let s := driveBecomesFault6; ∃ d : DriveNo, s.Quiet ∧ let k := s.lib.drives.get d; ∃ timeout : Bool, ((timeout = true → k.since + 15000 ≤ s.ref
      ∧ k.retry = true) ∧ k.reset = none ∧ s.taken d = false ∧ k.work = [] ∧ s.DemandsAwaited) ∧ ∃ q : Demand, q ∈ s.lib.demands ∧ (q.mounting = some
      d ∧ (∀ h ∈ s.lib.demands, (h.side = q.side ∨ h.mounting = some d) → h = q)) ∧ ∃ p : InDrive, k.platter = some p ∧ k.cmd = some .unload ∧
      k.state = .unloading ∧ s.lib.picker.piece = some (.mountUnload d q.side) ∧ (∀ h ∈ s.lib.demands, p.id ≠ some h.side.platter) ∧ q.waiters ≠ [] ∧
      s.lib.doorOpen = true) ∧
    (let s := driveBecomesFault7; ∃ d : DriveNo, s.Quiet ∧ let k := s.lib.drives.get d; let returns := s.lib.returns.filter (fun e => decide (e ≠
      d)); ∃ timeout : Bool, ((timeout = true → k.since + 15000 ≤ s.ref ∧ k.retry = true) ∧ k.reset = none ∧ s.taken d = false ∧ k.work = [] ∧
      s.DemandsAwaited) ∧ ∃ q : Demand, q ∈ s.lib.demands ∧ (q.mounting = some d ∧ (∀ h ∈ s.lib.demands, (h.side = q.side ∨ h.mounting = some d) → h
      = q)) ∧ ∃ p : InDrive, k.platter = some p ∧ (k.cmd = some .unload ∧ k.state = .unloading ∧ s.lib.picker.piece = some (.mountUnload d q.side) ∧
      (∀ h ∈ s.lib.demands, p.id ≠ some h.side.platter) ∧ q.waiters ≠ [] ∧ s.lib.doorOpen = false ∧ s.lib.sweepDue = false ∧ returns = [] ∧
      s.lib.media = []) ∧ (∀ e, e ≠ d → (s.lib.drives.get e).state ≠ .empty ∧ (s.lib.drives.get e).state ≠ .ready)) :=
  ⟨⟨.d5, (by decide +kernel), by decide +kernel⟩,
   ⟨.d1, (by decide +kernel), false, (by decide +kernel), (by intro q hq p hp; cases hp <;> (revert q; decide +kernel)), by decide +kernel⟩,
   ⟨.d2, (by decide +kernel), false, (by decide +kernel), (by intro q hq p hp; cases hp <;> (revert q; decide +kernel)), _,
      List.mem_of_getElem? (i := 0) rfl, _, List.mem_of_getElem? (i := 0) rfl, _, rfl, by decide +kernel⟩,
   ⟨.d2, (by decide +kernel), false, (by decide +kernel), (by intro q hq p hp; cases hp <;> (revert q; decide +kernel)), _, rfl, _, rfl, _, rfl, _,
      rfl, _, rfl, _, rfl, by decide +kernel⟩,
   ⟨.d2, (by decide +kernel), false, (by decide +kernel), _, List.mem_of_getElem? (i := 0) rfl, (by decide +kernel), _,
      List.mem_of_getElem? (i := 0) rfl, _, rfl, _, List.mem_of_getElem? (i := 0) rfl, (by decide +kernel), _, List.mem_of_getElem? (i := 0) rfl,
      (by decide +kernel), (by intro e; cases e <;> decide +kernel), by decide +kernel⟩,
   ⟨.d2, (by decide +kernel), false, (by decide +kernel), _, List.mem_of_getElem? (i := 0) rfl, (by decide +kernel), _, rfl, by decide +kernel⟩,
   ⟨.d2, (by decide +kernel), false, (by decide +kernel), _, List.mem_of_getElem? (i := 0) rfl, (by decide +kernel), _, rfl, (by decide +kernel),
      by intro e; cases e <;> decide +kernel⟩⟩

def driveTimerRuns1 : State := { base with
  lib.drives.a1 := ⟨.busy, some ⟨some 5002, .s1⟩, some ⟨968152000, 5⟩, some 13, false, false, [.fill ⟨11000, 8⟩], some (.read 16 5), 4, 37, none,
    false⟩ }
def driveTimerRuns2 : State := { base with
  filings.a1 := some ⟨⟨11205, 1⟩, .l2, .writing, 3, [1, 2], false, 150285, some ⟨1, 1, false, [7], [], ⟨.l2, 3, 0, 50⟩, 0, [], false, 210369⟩,
    some ⟨3907, .s1, 16, 3⟩⟩
  filUse := some ⟨⟨3907, .s1⟩, .write .d2, some .q1, ⟨967892800, 7⟩, false⟩
  lib.drives.a2 := ⟨.busy, some ⟨some 3907, .s1⟩, some ⟨967979200, 7⟩, some 210379, true, false, [.filing], some (.write 16 3), 0, 620782, none,
    false⟩ }
def driveTimerRuns3 : State := { base with
  links.a1.resetCount := 0
  lib.drives.a3 := ⟨.fault, none, none, none, false, false, [], some .eject, 0, 6, some ⟨.l1, 1, 0, 83⟩, false⟩ }
def driveTimerRuns4 : State := { base with
  lib.drives.a1 := ⟨.fault, some ⟨some 2655, .s1⟩, none, none, false, true, [], some .eject, 0, 0, some ⟨.l0, 2, 4, 0x52⟩, false⟩ }

/-- The hypotheses of DriveTimerRuns are met, clause by clause. -/
theorem test_meets_DriveTimerRuns :
    (let s := driveTimerRuns1; ∃ d : DriveNo, s.Quiet ∧ let k := s.lib.drives.get d; (k.cmd ≠ none ∧ k.since + 15000 ≤ s.ref ∧ k.retry = false) ∧ (∀
      u, s.filUse = some u → u.stage ≠ .write d)) ∧
    (let s := driveTimerRuns2; ∃ d : DriveNo, s.Quiet ∧ let k := s.lib.drives.get d; (k.cmd ≠ none ∧ k.since + 15000 ≤ s.ref ∧ k.retry = false) ∧ ∃ u
      : FilUse, s.filUse = some u ∧ ∃ q : FSlot, u.slot = some q ∧ ∃ f : Filing, s.filings.get q = some f ∧ ∃ e : Location, f.extent = some e ∧
      u.stage = .write d) ∧
    (let s := driveTimerRuns3; ∃ d : DriveNo, s.Quiet ∧ let k := s.lib.drives.get d; ∃ y : Reply, k.reset = some y ∧ k.state = .fault ∧ (s.links.get
      y.link).resetCount = y.gen ∧ k.cmd ≠ none) ∧
    (let s := driveTimerRuns4; ∃ d : DriveNo, s.Quiet ∧ let k := s.lib.drives.get d; ∃ y : Reply, k.reset = some y ∧ k.state = .fault ∧ (s.links.get
      y.link).resetCount = y.gen ∧ k.cmd ≠ none ∧ k.since + 15000 ≤ s.ref ∧ k.retry = true) ∧
    (let s := base; ∃ d : DriveNo, s.Quiet ∧ let k := s.lib.drives.get d; (k.cmd = none ∨ s.ref < k.since + 15000)) :=
  ⟨⟨.d1, (by decide +kernel), (by decide +kernel), by intro u hu; cases hu <;> decide +kernel⟩,
   ⟨.d2, (by decide +kernel), (by decide +kernel), _, rfl, _, rfl, _, rfl, _, rfl, by decide +kernel⟩,
   ⟨.d3, (by decide +kernel), _, rfl, by decide +kernel⟩,
   ⟨.d1, (by decide +kernel), _, rfl, by decide +kernel⟩,
   ⟨.d1, (by decide +kernel), by decide +kernel⟩⟩

def residencyEnds2 : State := { base with
  lib.drives.a1 := ⟨.busy, some ⟨some 5002, .s1⟩, some ⟨968152000, 5⟩, some 13, false, false, [.fill ⟨11000, 8⟩], some (.read 16 5), 4, 37, none,
    false⟩ }
def residencyEnds3 : State := { base with
  ref := 1692653
  cat.platters := [⟨4127, some 5, .slot 5, ⟨.full 21, 0⟩, ⟨.unchecked, 0⟩, 0, none⟩, ⟨5002, some 12, .drive .d1, ⟨.unchecked, 0⟩, ⟨.full 21, 0⟩, 1,
    none⟩]
  cat.slots := [⟨12, .occupied 5002⟩]
  lib.drives.a1 := ⟨.ready, some ⟨some 5002, .s1⟩, some ⟨968179147, 0⟩, some 1317232, false, false, [], none, 0, 1382282, none, false⟩
  lib.drives.a2 := ⟨.busy, some ⟨some 3907, .s1⟩, some ⟨968179147, 0⟩, some 1297198, false, false, [.filing], some (.write 0 16), 4, 1692643, none,
    false⟩
  lib.drives.a3 := ⟨.absent, none, none, none, false, false, [], none, 0, 0, none, false⟩
  lib.drives.a4 := ⟨.absent, none, none, none, false, false, [], none, 0, 0, none, false⟩
  lib.demands := [⟨⟨4127, .s0⟩, none, [.item ⟨.l0, 1, 1⟩ .bulk 1692653]⟩] }
def residencyEnds4 : State := { base with
  cat.platters := [⟨3907, some 3, .drive .d1, ⟨.full 21, 0⟩, ⟨.unchecked, 0⟩, 1, none⟩]
  lib.drives.a1 := ⟨.ready, some ⟨some 3907, .s0⟩, some ⟨968162232, 999⟩, some 95088, false, false, [], none, 0, 95145, none, false⟩
  lib.demands := [⟨⟨3907, .s1⟩, none, [.filing 95086]⟩] }

/-- The hypotheses of ResidencyEnds are met, clause by clause. -/
theorem test_meets_ResidencyEnds :
    (let s := base; ∃ d : DriveNo, s.Quiet ∧ let k := s.lib.drives.get d; (k.residency = none ∨ ∃ at0, k.residency = some at0 ∧ s.ref < at0 + 20000)) ∧
    (let s := residencyEnds2; ∃ d : DriveNo, s.Quiet ∧ let k := s.lib.drives.get d; ∃ at0 : Nat, k.residency = some at0 ∧ at0 + 20000 ≤ s.ref ∧
      s.PickerRests) ∧
    (let s := residencyEnds3; ∃ d : DriveNo, s.Quiet ∧ let k := s.lib.drives.get d; ∃ at0 : Nat, k.residency = some at0 ∧ at0 + 20000 ≤ s.ref ∧ ∃ q :
      Demand, q ∈ s.lib.demands ∧ ∃ (id : Nat) (sd : Side), k.platter = some ⟨some id, sd⟩ ∧ ∃ p : Platter, s.platter? id = some p ∧
      (s.lib.picker.state = .idle ∧ s.lib.doorOpen = false ∧ s.lib.sweep.running = false ∧ s.lib.returns = [] ∧ s.lib.media = [] ∧ (∀ h ∈
      s.lib.demands, h.mounting = none → h = q) ∧ (s.lib.demands.filter (fun h => h.mounting.isNone)).length = 1 ∧ q.mounting = none ∧ k.state =
      .ready ∧ k.pinned = false ∧ k.work = []) ∧ ∃ w : Platter, s.platter? q.side.platter = some w ∧ ∃ m : Nat, w.loc = .slot m ∧ ∃ n : Nat, p.home =
      some n ∧ (∀ e, (s.lib.drives.get e).state ≠ .empty ∧ (e = d ∨ (s.lib.drives.get e).state ≠ .ready ∨ (s.lib.drives.get e).residency ≠ none)) ∧
      s.cat.slotUse? n = some (.occupied id) ∧ q.side ≠ ⟨id, sd⟩ ∧ id ≠ q.side.platter ∧ p.id = id) ∧
    (let s := residencyEnds4; ∃ d : DriveNo, s.Quiet ∧ let k := s.lib.drives.get d; ∃ at0 : Nat, k.residency = some at0 ∧ at0 + 20000 ≤ s.ref ∧ ∃ q :
      Demand, q ∈ s.lib.demands ∧ ∃ (id : Nat) (sd : Side), k.platter = some ⟨some id, sd⟩ ∧ ∃ p : Platter, s.platter? id = some p ∧
      s.lib.picker.state = .idle ∧ s.lib.doorOpen = false ∧ s.lib.sweep.running = false ∧ s.lib.returns = [] ∧ s.lib.media = [] ∧ (∀ h ∈
      s.lib.demands, h.mounting = none → h = q) ∧ (s.lib.demands.filter (fun h => h.mounting.isNone)).length = 1 ∧ q.mounting = none ∧ k.state =
      .ready ∧ k.pinned = false ∧ k.work = [] ∧ q.side = ⟨id, sd.other⟩ ∧ p.loc = .drive d) :=
  ⟨⟨.d1, (by decide +kernel), by first | exact .inl rfl | exact .inr ⟨_, rfl, by decide +kernel⟩⟩,
   ⟨.d1, (by decide +kernel), _, rfl, by decide +kernel⟩,
   ⟨.d1, (by decide +kernel), _, rfl, (by decide +kernel), _, List.mem_of_getElem? (i := 0) rfl, _, _, rfl, _, rfl, (by decide +kernel), _, rfl, _,
      rfl, _, rfl, (by intro e; cases e <;> decide +kernel), by decide +kernel⟩,
   ⟨.d1, (by decide +kernel), _, rfl, (by decide +kernel), _, List.mem_of_getElem? (i := 0) rfl, _, _, rfl, _, rfl, by decide +kernel⟩⟩

/-! ## Hypotheses met: media requests -/

def exportOfMountedOrQueued1 : State := { base with
  lib.drives.a2 := ⟨.empty, none, none, none, false, false, [], none, 0, 0, none, false⟩ }
def exportOfMountedOrQueued2 : State := { base with
  cat.platters := [⟨5002, some 12, .drive .d1, ⟨.unchecked, 0⟩, ⟨.full 21, 0⟩, 1, none⟩] }
def exportOfMountedOrQueued3 : State := { base with
  lib.picker := ⟨.moving, some 3140, some ⟨.slot 2, some .mail, false⟩, some 1, some (.exportMove ⟨.l2, 1, 0, 81⟩ 3140)⟩ }

/-- The hypotheses of ExportOfMountedOrQueued are met, clause by clause. -/
theorem test_meets_ExportOfMountedOrQueued :
    (let s := exportOfMountedOrQueued1; ∃ l : Link, ∃ t : Nat, ∃ id : Nat, ∃ p : Platter, s.platter? id = some p ∧ (s.Takes l t (.exportPlatter id) ∧
      s.lib.doorOpen = false ∧ s.lib.sweep.running = false ∧ s.lib.picker.state ≠ .jammed ∧ (∀ q ∈ s.lib.demands, q.side.platter ≠ id)) ∧ (∀ n,
      p.side0.state ≠ .opened n ∧ p.side1.state ≠ .opened n) ∧ ∃ d : DriveNo, p.loc = .drive d ∧ let k := s.lib.drives.get d; (k.state ≠ .ready ∨
      k.work ≠ [])) ∧
    (let s := exportOfMountedOrQueued2; ∃ l : Link, ∃ t : Nat, ∃ id : Nat, ∃ p : Platter, s.platter? id = some p ∧ (s.Takes l t (.exportPlatter id) ∧
      s.lib.doorOpen = false ∧ s.lib.sweep.running = false ∧ s.lib.picker.state ≠ .jammed ∧ (∀ q ∈ s.lib.demands, q.side.platter ≠ id)) ∧ (∀ n,
      p.side0.state ≠ .opened n ∧ p.side1.state ≠ .opened n) ∧ ∃ d : DriveNo, p.loc = .drive d ∧ let k := s.lib.drives.get d; ∃ (x : Option Nat) (sd
      : Side), k.platter = some ⟨x, sd⟩ ∧ k.state = .ready ∧ k.work = [] ∧ s.lib.mail = .empty ∧ s.lib.picker.state = .idle ∧ s.lib.returns = [] ∧
      s.lib.media = []) ∧
    (let s := exportOfMountedOrQueued3; ∃ l : Link, ∃ t : Nat, ∃ id : Nat, ∃ p : Platter, s.platter? id = some p ∧ (s.Takes l t (.exportPlatter id) ∧
      s.lib.doorOpen = false ∧ s.lib.sweep.running = false ∧ s.lib.picker.state ≠ .jammed ∧ (∀ q ∈ s.lib.demands, q.side.platter ≠ id)) ∧ (∀ n,
      p.side0.state ≠ .opened n ∧ p.side1.state ≠ .opened n) ∧ ((∃ n, p.loc = .slot n) ∨ ∃ d, p.loc = .drive d ∧ (s.lib.drives.get d).state = .ready
      ∧ (s.lib.drives.get d).work = []) ∧ s.lib.mail = .empty ∧ s.lib.picker.state ≠ .idle) :=
  ⟨⟨.l0, 0, 3907, _, rfl, (by decide +kernel), (by intro n; exact ⟨fun h => (by cases h), fun h => (by cases h)⟩), _, rfl, by decide +kernel⟩,
   ⟨.l0, 0, 5002, _, rfl, (by decide +kernel), (by intro n; exact ⟨fun h => (by cases h), fun h => (by cases h)⟩), _, rfl, _, _, rfl,
      by decide +kernel⟩,
   ⟨.l0, 0, 3140, _, rfl, (by decide +kernel), (by intro n; exact ⟨fun h => (by cases h), fun h => (by cases h)⟩),
      (by first | exact .inl ⟨_, rfl⟩ | exact .inr ⟨_, rfl, by decide +kernel⟩), by decide +kernel⟩⟩

def importLabelDecides1 : State := { base with
  links.a1.resetCount := 0
  lib.picker := ⟨.moving, none, some ⟨.mail, none, false⟩, some 65080, some (.importLabel (some ⟨.l1, 0, 0, 80⟩))⟩ }
def importLabelDecides3 : State := { base with
  cat.slots := (List.range 160).map (fun i => ⟨i + 1, .foreignOccupied⟩)
  lib.picker := ⟨.moving, none, some ⟨.mail, none, false⟩, some 77, some (.importLabel (some ⟨.l0, 3, 4, 0x50⟩))⟩ }
def importLabelDecides4 : State := { base with
  cat.platters := (List.range 160).map (fun i => ⟨2000 + i, none, .unknown, sfull, sfull, 0, none⟩)
  lib.picker := ⟨.moving, none, some ⟨.mail, none, false⟩, some 77, some (.importLabel none)⟩ }
def importLabelDecides6 : State := { base with
  cat.platters := [⟨777, none, .exported, sfull, sfull, 0, none⟩]
  cat.slots := (List.range 160).map (fun i => ⟨i + 1, .foreignOccupied⟩)
  lib.picker := ⟨.moving, none, some ⟨.mail, none, false⟩, some 77, some (.importLabel none)⟩ }
def importLabelDecides8 : State := { base with
  links.a1.resetCount := 0
  lib.picker := ⟨.moving, none, some ⟨.mail, none, false⟩, some 65080, some (.importLabel (some ⟨.l1, 0, 0, 80⟩))⟩
  lib.mail := .outgoing 3907 }
def importLabelDecides9 : State := { base with
  links.a2.resetCount := 0
  lib.picker := ⟨.moving, none, some ⟨.mail, none, false⟩, some 20047, some (.importLabel (some ⟨.l2, 0, 0, 80⟩))⟩
  lib.doorOpen := true }

/-- The hypotheses of ImportLabelDecides are met, clause by clause. -/
theorem test_meets_ImportLabelDecides :
    (let s := importLabelDecides1; s.Quiet ∧ ∃ m : Move, s.lib.picker.move = some m ∧ ∃ y : Option Reply, s.lib.picker.piece = some (.importLabel y)
      ∧ s.lib.picker.state = .moving ∧ s.lib.picker.since ≠ none ∧ m.dst = none ∧ (∀ r ∈ y, (s.links.get r.link).resetCount = r.gen) ∧ s.NothingNext) ∧
    (let s := importLabelDecides1; s.Quiet ∧ ∃ m : Move, s.lib.picker.move = some m ∧ ∃ y : Option Reply, s.lib.picker.piece = some (.importLabel y)
      ∧ s.lib.picker.state = .moving ∧ s.lib.picker.since ≠ none ∧ m.dst = none ∧ (∀ r ∈ y, (s.links.get r.link).resetCount = r.gen) ∧ s.NothingNext) ∧
    (let s := importLabelDecides3; s.Quiet ∧ ∃ m : Move, s.lib.picker.move = some m ∧ ∃ y : Option Reply, s.lib.picker.piece = some (.importLabel y)
      ∧ (s.lib.picker.state = .moving ∧ s.lib.picker.since ≠ none ∧ m.dst = none ∧ (∀ r ∈ y, (s.links.get r.link).resetCount = r.gen) ∧
      s.NothingNext) ∧ ∃ id : Nat, id ≠ 0 ∧ s.platter? id = none ∧ s.cat.lowestFree = none) ∧
    (let s := importLabelDecides4; s.Quiet ∧ ∃ m : Move, s.lib.picker.move = some m ∧ ∃ y : Option Reply, s.lib.picker.piece = some (.importLabel y)
      ∧ (s.lib.picker.state = .moving ∧ s.lib.picker.since ≠ none ∧ m.dst = none ∧ (∀ r ∈ y, (s.links.get r.link).resetCount = r.gen) ∧
      s.NothingNext) ∧ ∃ id : Nat, id ≠ 0 ∧ s.platter? id = none ∧ s.cat.lowestFree ≠ none ∧ 160 ≤ s.cat.platters.length) ∧
    (let s := importLabelDecides1; s.Quiet ∧ ∃ m : Move, s.lib.picker.move = some m ∧ ∃ y : Option Reply, s.lib.picker.piece = some (.importLabel y)
      ∧ (s.lib.picker.state = .moving ∧ s.lib.picker.since ≠ none ∧ m.dst = none ∧ (∀ r ∈ y, (s.links.get r.link).resetCount = r.gen) ∧
      s.NothingNext) ∧ ∃ id : Nat, ∃ p : Platter, s.platter? id = some p ∧ id ≠ 0 ∧ p.loc ≠ .exported ∧ s.lib.mail ≠ .outgoing id) ∧
    (let s := importLabelDecides6; s.Quiet ∧ ∃ m : Move, s.lib.picker.move = some m ∧ ∃ y : Option Reply, s.lib.picker.piece = some (.importLabel y)
      ∧ (s.lib.picker.state = .moving ∧ s.lib.picker.since ≠ none ∧ m.dst = none ∧ (∀ r ∈ y, (s.links.get r.link).resetCount = r.gen) ∧
      s.NothingNext) ∧ ∃ id : Nat, ∃ p : Platter, s.platter? id = some p ∧ id ≠ 0 ∧ (p.loc = .exported ∨ s.lib.mail = .outgoing id) ∧ p.home = none ∧
      s.cat.lowestFree = none) ∧
    (let s := importLabelDecides1; s.Quiet ∧ ∃ m : Move, s.lib.picker.move = some m ∧ ∃ y : Option Reply, s.lib.picker.piece = some (.importLabel y)
      ∧ (s.lib.picker.state = .moving ∧ s.lib.picker.since ≠ none ∧ m.dst = none ∧ (∀ r ∈ y, (s.links.get r.link).resetCount = r.gen) ∧
      s.lib.doorOpen = false ∧ s.lib.sweepDue = false) ∧ ∃ id : Nat, ∃ n : Nat, s.cat.lowestFree = some n ∧ id ≠ 0 ∧ s.platter? id = none ∧
      s.cat.platters.length < 160) ∧
    (let s := importLabelDecides8; s.Quiet ∧ ∃ m : Move, s.lib.picker.move = some m ∧ ∃ y : Option Reply, s.lib.picker.piece = some (.importLabel y)
      ∧ (s.lib.picker.state = .moving ∧ s.lib.picker.since ≠ none ∧ m.dst = none ∧ (∀ r ∈ y, (s.links.get r.link).resetCount = r.gen) ∧
      s.lib.doorOpen = false ∧ s.lib.sweepDue = false) ∧ ∃ id : Nat, ∃ p : Platter, s.platter? id = some p ∧ ∃ n : Nat, p.home = some n ∧ id ≠ 0 ∧
      ((p.loc = .exported ∧ s.cat.slotUse? n = some (.reserved id)) ∨ (p.loc ≠ .exported ∧ s.lib.mail = .outgoing id))) ∧
    (let s := importLabelDecides9; s.Quiet ∧ ∃ m : Move, s.lib.picker.move = some m ∧ ∃ y : Option Reply, s.lib.picker.piece = some (.importLabel y)
      ∧ (s.lib.picker.state = .moving ∧ s.lib.picker.since ≠ none ∧ m.dst = none ∧ (∀ r ∈ y, (s.links.get r.link).resetCount = r.gen)) ∧ ∃ id : Nat,
      id ≠ 0 ∧ s.platter? id = none ∧ s.cat.platters.length < 160 ∧ s.cat.lowestFree ≠ none ∧ s.lib.doorOpen = true) :=
  ⟨⟨(by decide +kernel), _, rfl, _, rfl, by decide +kernel⟩,
   ⟨(by decide +kernel), _, rfl, _, rfl, by decide +kernel⟩,
   ⟨(by decide +kernel), _, rfl, _, rfl, (by decide +kernel), 777, by decide +kernel⟩,
   ⟨(by decide +kernel), _, rfl, _, rfl, (by decide +kernel), 777, by decide +kernel⟩,
   ⟨(by decide +kernel), _, rfl, _, rfl, (by decide +kernel), 2655, _, rfl, by decide +kernel⟩,
   ⟨(by decide +kernel), _, rfl, _, rfl, (by decide +kernel), 777, _, rfl, by decide +kernel⟩,
   ⟨(by decide +kernel), _, rfl, _, rfl, (by decide +kernel), 777, _, rfl, by decide +kernel⟩,
   ⟨(by decide +kernel), _, rfl, _, rfl, (by decide +kernel), 3907, _, rfl, _, rfl, by decide +kernel⟩,
   ⟨(by decide +kernel), _, rfl, _, rfl, (by decide +kernel), 777, by decide +kernel⟩⟩

def mediaMovesDone1 : State := { base with
  links.a1.resetCount := 0
  lib.picker := ⟨.moving, some 3907, some ⟨.mail, some (.slot 3), false⟩, some 65086, some (.importMove (some ⟨.l1, 0, 0, 80⟩) 3907)⟩ }
def mediaMovesDone2 : State := { base with
  links.a1.resetCount := 0
  lib.picker := ⟨.moving, some 777, some ⟨.mail, some (.slot 4), false⟩, some 981156, some (.importMove (some ⟨.l1, 3, 0, 80⟩) 777)⟩ }
def mediaMovesDone3 : State := { base with
  links.a2.resetCount := 0
  lib.picker := ⟨.moving, some 3140, some ⟨.slot 2, some .mail, false⟩, some 1, some (.exportMove ⟨.l2, 1, 0, 81⟩ 3140)⟩ }
def mediaMovesDone4 : State := { base with
  links.a2.resetCount := 0
  lib.drives.a1 := ⟨.unloading, some ⟨some 3140, .s0⟩, some ⟨968152000, 5⟩, none, false, false, [], none, 0, 340719, none, false⟩
  lib.picker := ⟨.moving, some 3140, some ⟨.drive .d1, some .mail, false⟩, some 340720, some (.exportDrive ⟨.l2, 1, 0, 81⟩ 3140 .d1)⟩ }

/-- The hypotheses of MediaMovesDone are met, clause by clause. -/
theorem test_meets_MediaMovesDone :
    (let s := mediaMovesDone1; s.Quiet ∧ ∃ m : Move, s.lib.picker.move = some m ∧ (s.lib.picker.state = .moving ∧ s.lib.picker.since ≠ none ∧
      s.NothingNext ∧ s.HeadHasMedia) ∧ ∃ n : Nat, m.dst = some (.slot n) ∧ ∃ (y : Option Reply) (id : Nat), s.lib.picker.piece = some (.importMove y
      id) ∧ (∀ r ∈ y, (s.links.get r.link).resetCount = r.gen) ∧ ∃ p : Platter, s.platter? id = some p) ∧
    (let s := mediaMovesDone2; s.Quiet ∧ ∃ m : Move, s.lib.picker.move = some m ∧ (s.lib.picker.state = .moving ∧ s.lib.picker.since ≠ none ∧
      s.NothingNext ∧ s.HeadHasMedia) ∧ ∃ n : Nat, m.dst = some (.slot n) ∧ ∃ (y : Option Reply) (id : Nat), s.lib.picker.piece = some (.importMove y
      id) ∧ (∀ r ∈ y, (s.links.get r.link).resetCount = r.gen) ∧ s.platter? id = none) ∧
    (let s := mediaMovesDone3; s.Quiet ∧ ∃ m : Move, s.lib.picker.move = some m ∧ (s.lib.picker.state = .moving ∧ s.lib.picker.since ≠ none ∧
      s.NothingNext ∧ s.HeadHasMedia ∧ m.dst ≠ none) ∧ ∃ (y : Reply) (id : Nat), s.lib.picker.piece = some (.exportMove y id) ∧ (s.links.get
      y.link).resetCount = y.gen ∧ (∀ q ∈ s.lib.demands, q.side.platter ≠ id)) ∧
    (let s := mediaMovesDone4; s.Quiet ∧ ∃ m : Move, s.lib.picker.move = some m ∧ (s.lib.picker.state = .moving ∧ s.lib.picker.since ≠ none ∧
      s.NothingNext ∧ s.HeadHasMedia ∧ m.dst ≠ none) ∧ ∃ (y : Reply) (id : Nat) (d : DriveNo), s.lib.picker.piece = some (.exportDrive y id d) ∧
      (s.links.get y.link).resetCount = y.gen ∧ (∀ q ∈ s.lib.demands, q.side.platter ≠ id) ∧ (s.lib.drives.get d).state = .unloading) :=
  ⟨⟨(by decide +kernel), _, rfl, (by decide +kernel), _, rfl, _, _, rfl, (by decide +kernel), _, rfl⟩,
   ⟨(by decide +kernel), _, rfl, (by decide +kernel), _, rfl, _, _, rfl, by decide +kernel⟩,
   ⟨(by decide +kernel), _, rfl, (by decide +kernel), _, _, rfl, by decide +kernel⟩,
   ⟨(by decide +kernel), _, rfl, (by decide +kernel), _, _, _, rfl, by decide +kernel⟩⟩

/-! ## Hypotheses met: the sweep, return homes, jams and the door -/

def sweepMovesHomes1 : State := { base with
  lib.picker := ⟨.moving, none, some ⟨.slot 1, none, false⟩, some 1131477, some .sweep⟩ }
def sweepMovesHomes3 : State := { base with
  lib.picker := ⟨.moving, none, some ⟨.slot 4, none, false⟩, some 1151488, some .sweep⟩
  lib.sweep := ⟨true, 4, [2655], 1, 0, 0, 0, 0⟩ }
def sweepMovesHomes4 : State := { base with
  cat.platters := (List.range 160).map (fun i => ⟨2000 + i, none, .unknown, sfull, sfull, 0, none⟩)
  lib.sweep := ⟨true, 160, [], 0, 0, 0, 0, 0⟩
  lib.picker := ⟨.moving, none, some ⟨.slot 160, none, false⟩, some 77, some .sweep⟩ }
def sweepMovesHomes5 : State := { base with
  cat.platters := [⟨5001, some 9, .exported, ⟨.full 21, 0⟩, ⟨.unchecked, 0⟩, 0, none⟩]
  lib.picker := ⟨.moving, none, some ⟨.slot 1, none, false⟩, some 1131477, some .sweep⟩ }
def sweepMovesHomes7 : State := { base with
  lib.picker := ⟨.moving, none, some ⟨.slot 59, none, false⟩, some 40113, some .sweep⟩
  lib.doorOpen := true }

/-- The hypotheses of SweepMovesHomes are met, clause by clause. -/
theorem test_meets_SweepMovesHomes :
    (let s := sweepMovesHomes1; s.Quiet ∧ ∃ m : Move, s.lib.picker.move = some m ∧ (s.lib.picker.piece = some .sweep ∧ s.lib.picker.state = .moving ∧
      s.lib.picker.since ≠ none ∧ m.dst = none ∧ s.lib.sweepDue = false) ∧ let w := s.lib.sweep; let n := w.next; n ≤ 160 ∧ s.lib.doorOpen = false ∧
      s.cat.slotUse? n ≠ some .foreignOccupied) ∧
    (let s := sweepMovesHomes1; s.Quiet ∧ ∃ m : Move, s.lib.picker.move = some m ∧ (s.lib.picker.piece = some .sweep ∧ s.lib.picker.state = .moving ∧
      s.lib.picker.since ≠ none ∧ m.dst = none ∧ s.lib.sweepDue = false) ∧ let w := s.lib.sweep; let n := w.next; (n ≤ 160 ∧ s.lib.doorOpen = false)
      ∧ ∃ p : Platter, s.cat.platters.find? (fun p => p.home == some n) = some p ∧ (∀ q ∈ s.lib.demands, q.side.platter ≠ p.id)) ∧
    (let s := sweepMovesHomes3; s.Quiet ∧ ∃ m : Move, s.lib.picker.move = some m ∧ (s.lib.picker.piece = some .sweep ∧ s.lib.picker.state = .moving ∧
      s.lib.picker.since ≠ none ∧ m.dst = none ∧ s.lib.sweepDue = false) ∧ let w := s.lib.sweep; let n := w.next; (n ≤ 160 ∧ s.lib.doorOpen = false)
      ∧ ∃ id : Nat, (id ≠ 0 ∧ (∀ p ∈ s.cat.platters, p.home ≠ some n)) ∧ (id ∈ w.found ∨ ∃ p, s.platter? id = some p ∧ (p.loc = .mail ∨ ∃ d, p.loc =
      .drive d))) ∧
    (let s := sweepMovesHomes4; s.Quiet ∧ ∃ m : Move, s.lib.picker.move = some m ∧ (s.lib.picker.piece = some .sweep ∧ s.lib.picker.state = .moving ∧
      s.lib.picker.since ≠ none ∧ m.dst = none ∧ s.lib.sweepDue = false) ∧ let w := s.lib.sweep; let n := w.next; (n ≤ 160 ∧ s.lib.doorOpen = false)
      ∧ ∃ id : Nat, id ≠ 0 ∧ s.platter? id = none ∧ id ∉ w.found ∧ (∀ p ∈ s.cat.platters, p.home ≠ some n) ∧ 160 ≤ s.cat.platters.length) ∧
    (let s := sweepMovesHomes5; s.Quiet ∧ ∃ m : Move, s.lib.picker.move = some m ∧ (s.lib.picker.piece = some .sweep ∧ s.lib.picker.state = .moving ∧
      s.lib.picker.since ≠ none ∧ m.dst = none ∧ s.lib.sweepDue = false) ∧ let w := s.lib.sweep; let n := w.next; (n ≤ 160 ∧ s.lib.doorOpen = false)
      ∧ ∃ id : Nat, ∃ x : Platter, s.platter? id = some x ∧ (id ≠ 0 ∧ id ∉ w.found ∧ x.loc ≠ .mail) ∧ (∀ d, x.loc ≠ .drive d) ∧ (∀ p ∈
      s.cat.platters, p.home = some n → p.id = id)) ∧
    (let s := sweepMovesHomes1; s.Quiet ∧ ∃ m : Move, s.lib.picker.move = some m ∧ (s.lib.picker.piece = some .sweep ∧ s.lib.picker.state = .moving ∧
      s.lib.picker.since ≠ none ∧ m.dst = none ∧ s.lib.sweepDue = false) ∧ let w := s.lib.sweep; let n := w.next; (n ≤ 160 ∧ s.lib.doorOpen = false)
      ∧ ∃ id : Nat, ∃ x : Platter, s.platter? id = some x ∧ (id ≠ 0 ∧ id ∉ w.found ∧ x.loc ≠ .mail) ∧ (∀ d, x.loc ≠ .drive d) ∧ ∃ p : Platter,
      s.cat.platters.find? (fun p => p.home == some n && p.id != id) = some p ∧ (∀ q ∈ s.lib.demands, q.side.platter ≠ p.id)) ∧
    (let s := sweepMovesHomes7; s.Quiet ∧ ∃ m : Move, s.lib.picker.move = some m ∧ (s.lib.picker.piece = some .sweep ∧ s.lib.picker.state = .moving ∧
      s.lib.picker.since ≠ none ∧ m.dst = none ∧ s.lib.sweepDue = false) ∧ let w := s.lib.sweep; let n := w.next; n ≤ 160 ∧ s.lib.doorOpen = true ∧
      s.cat.slotUse? n ≠ some .foreignOccupied) :=
  ⟨⟨(by decide +kernel), _, rfl, (by decide +kernel), by decide +kernel⟩,
   ⟨(by decide +kernel), _, rfl, (by decide +kernel), (by decide +kernel), _, rfl, by decide +kernel⟩,
   ⟨(by decide +kernel), _, rfl, (by decide +kernel), (by decide +kernel), 2655, (by decide +kernel),
      (by first | exact .inl (by decide +kernel) | exact .inr ⟨_, rfl, .inl rfl⟩ | exact .inr ⟨_, rfl, .inr ⟨_, rfl⟩⟩)⟩,
   ⟨(by decide +kernel), _, rfl, (by decide +kernel), (by decide +kernel), 777, by decide +kernel⟩,
   ⟨(by decide +kernel), _, rfl, (by decide +kernel), (by decide +kernel), 5001, _, rfl, (by decide +kernel), (by intro d h; cases h),
      by decide +kernel⟩,
   ⟨(by decide +kernel), _, rfl, (by decide +kernel), (by decide +kernel), 3140, _, rfl, (by decide +kernel), (by intro d h; cases h), _, rfl,
      by decide +kernel⟩,
   ⟨(by decide +kernel), _, rfl, (by decide +kernel), by decide +kernel⟩⟩

def sweepEnds1 : State := { base with
  lib.picker := ⟨.moving, none, some ⟨.mail, none, false⟩, some 1342206, some .sweep⟩
  lib.sweep := ⟨true, 161, [], 0, 0, 0, 0, 0⟩ }
def sweepEnds3 : State := { base with
  cat.platters := [⟨3140, some 22, .mail, sfull, sfull, 3, none⟩]
  lib.sweep := ⟨true, 161, [2655], 1, 0, 0, 0, 0⟩
  lib.mail := .outgoing 3140
  lib.picker := ⟨.moving, none, some ⟨.mail, none, false⟩, some 77, some .sweep⟩
  commitQueue := [] }

/-- The hypotheses of SweepEnds are met, clause by clause. -/
theorem test_meets_SweepEnds :
    (let s := sweepEnds1; s.Quiet ∧ ∃ m : Move, s.lib.picker.move = some m ∧ (s.lib.picker.piece = some .sweep ∧ s.lib.picker.state = .moving ∧
      s.lib.picker.since ≠ none ∧ m.dst = none ∧ s.lib.sweepDue = false ∧ s.lib.doorOpen = false ∧ s.lib.returns = [] ∧ s.lib.media = [] ∧ (∀ d ∈
      DriveNo.all, (s.lib.drives.get d).state ≠ .unloading) ∧ s.absentMode = false ∧ s.HeadHasMedia) ∧ let w := s.lib.sweep; (w.next = 161 ∧ (∀ q ∈
      s.lib.demands, q.mounting ≠ none)) ∧ (∀ q ∈ s.lib.demands, ∀ p ∈ s.cat.platters, q.side.platter = p.id → ∃ d, p.loc = .drive d) ∧ (∀ id,
      s.lib.mail ≠ .outgoing id)) ∧
    (let s := sweepEnds1; s.Quiet ∧ ∃ m : Move, s.lib.picker.move = some m ∧ (s.lib.picker.piece = some .sweep ∧ s.lib.picker.state = .moving ∧
      s.lib.picker.since ≠ none ∧ m.dst = none ∧ s.lib.sweepDue = false ∧ s.lib.doorOpen = false ∧ s.lib.returns = [] ∧ s.lib.media = [] ∧ (∀ d ∈
      DriveNo.all, (s.lib.drives.get d).state ≠ .unloading) ∧ s.absentMode = false ∧ s.HeadHasMedia) ∧ let w := s.lib.sweep; (w.next = 161 ∧ (∀ q ∈
      s.lib.demands, q.mounting ≠ none)) ∧ (∀ q ∈ s.lib.demands, ∀ p ∈ s.cat.platters, q.side.platter = p.id → ∃ d, p.loc = .drive d) ∧ (∀ id,
      s.lib.mail ≠ .outgoing id) ∧ ∃ id : Nat, True) ∧
    (let s := sweepEnds3; s.Quiet ∧ ∃ m : Move, s.lib.picker.move = some m ∧ (s.lib.picker.piece = some .sweep ∧ s.lib.picker.state = .moving ∧
      s.lib.picker.since ≠ none ∧ m.dst = none ∧ s.lib.sweepDue = false ∧ s.lib.doorOpen = false ∧ s.lib.returns = [] ∧ s.lib.media = [] ∧ (∀ d ∈
      DriveNo.all, (s.lib.drives.get d).state ≠ .unloading) ∧ s.absentMode = false ∧ s.HeadHasMedia) ∧ let w := s.lib.sweep; (w.next = 161 ∧ (∀ q ∈
      s.lib.demands, q.mounting ≠ none)) ∧ (∀ q ∈ s.lib.demands, ∀ p ∈ s.cat.platters, q.side.platter = p.id → ∃ d, p.loc = .drive d) ∧ ∃ x : Nat,
      s.lib.mail = .outgoing x) ∧
    (let s := sweepEnds3; s.Quiet ∧ ∃ m : Move, s.lib.picker.move = some m ∧ (s.lib.picker.piece = some .sweep ∧ s.lib.picker.state = .moving ∧
      s.lib.picker.since ≠ none ∧ m.dst = none ∧ s.lib.sweepDue = false ∧ s.lib.doorOpen = false ∧ s.lib.returns = [] ∧ s.lib.media = [] ∧ (∀ d ∈
      DriveNo.all, (s.lib.drives.get d).state ≠ .unloading) ∧ s.absentMode = false ∧ s.HeadHasMedia) ∧ let w := s.lib.sweep; (w.next = 161 ∧ (∀ q ∈
      s.lib.demands, q.mounting ≠ none)) ∧ (∀ q ∈ s.lib.demands, ∀ p ∈ s.cat.platters, q.side.platter = p.id → ∃ d, p.loc = .drive d) ∧ ∃ x : Nat,
      s.lib.mail = .outgoing x ∧ ∃ p : Platter, s.platter? x = some p ∧ ∃ n : Nat, p.home = some n ∧ s.cat.slotUse? n = some (.occupied x) ∧ p.loc =
      .mail ∧ p.id = x ∧ (∀ q ∈ s.lib.demands, q.side.platter ≠ x)) ∧
    (let s := sweepEnds3; s.Quiet ∧ ∃ m : Move, s.lib.picker.move = some m ∧ (s.lib.picker.piece = some .sweep ∧ s.lib.picker.state = .moving ∧
      s.lib.picker.since ≠ none ∧ m.dst = none ∧ s.lib.sweepDue = false ∧ s.lib.doorOpen = false ∧ s.lib.returns = [] ∧ s.lib.media = [] ∧ (∀ d ∈
      DriveNo.all, (s.lib.drives.get d).state ≠ .unloading) ∧ s.absentMode = false ∧ s.HeadHasMedia) ∧ let w := s.lib.sweep; (w.next = 161 ∧ (∀ q ∈
      s.lib.demands, q.mounting ≠ none)) ∧ (∀ q ∈ s.lib.demands, ∀ p ∈ s.cat.platters, q.side.platter = p.id → ∃ d, p.loc = .drive d) ∧ ∃ x : Nat,
      s.lib.mail = .outgoing x ∧ ∃ p : Platter, s.platter? x = some p ∧ ∃ n : Nat, p.home = some n ∧ (s.cat.slotUse? n = some (.occupied x) ∧ p.loc =
      .mail ∧ p.id = x ∧ (∀ q ∈ s.lib.demands, q.side.platter ≠ x)) ∧ ∃ id : Nat, id ≠ x) :=
  ⟨⟨(by decide +kernel), _, rfl, (by decide +kernel), (by decide +kernel), (by intro q hq; exact (List.not_mem_nil hq).elim),
      (by intro d h; cases h)⟩,
   ⟨(by decide +kernel), _, rfl, (by decide +kernel), (by decide +kernel), (by intro q hq; exact (List.not_mem_nil hq).elim),
      (by intro d h; cases h), 0, trivial⟩,
   ⟨(by decide +kernel), _, rfl, (by decide +kernel), (by decide +kernel), (by intro q hq; exact (List.not_mem_nil hq).elim), _, rfl⟩,
   ⟨(by decide +kernel), _, rfl, (by decide +kernel), (by decide +kernel), (by intro q hq; exact (List.not_mem_nil hq).elim), _, rfl, _, rfl, _,
      rfl, by decide +kernel⟩,
   ⟨(by decide +kernel), _, rfl, (by decide +kernel), (by decide +kernel), (by intro q hq; exact (List.not_mem_nil hq).elim), _, rfl, _, rfl, _,
      rfl, (by decide +kernel), 0, by decide +kernel⟩⟩

def ejectedPlatterReturnsHome1 : State := { base with
  links.a1.resetCount := 0
  lib.drives.a3 := ⟨.fault, none, none, none, false, false, [], some .eject, 0, 6, some ⟨.l1, 1, 0, 83⟩, false⟩
  lib.picker := ⟨.moving, none, some ⟨.drive .d2, none, false⟩, some 5, some (.homeLabel .d2)⟩ }
def ejectedPlatterReturnsHome2 : State := { base with
  links.a1.resetCount := 0
  lib.drives.a1 := ⟨.fault, some ⟨some 4127, .s0⟩, none, none, false, false, [], some .eject, 0, 40055, some ⟨.l1, 1, 0, 83⟩, false⟩
  lib.picker := ⟨.moving, none, some ⟨.slot 9, none, false⟩, some 20022, some .sweep⟩ }
def ejectedPlatterReturnsHome3 : State := { base with
  lib.drives.a1 := ⟨.fault, some ⟨some 2655, .s1⟩, none, none, false, false, [], some .eject, 0, 0, some ⟨.l0, 2, 4, 0x52⟩, false⟩ }
def ejectedPlatterReturnsHome4 : State := { base with
  cat.platters := [⟨2655, none, .drive .d1, sfull, ⟨.opened 1000, 0⟩, 3, none⟩]
  cat.slots := (List.range 160).map (fun i => ⟨i + 1, .foreignOccupied⟩)
  lib.drives.a1 := ⟨.fault, some ⟨some 2655, .s1⟩, none, none, false, false, [], some .eject, 0, 0, some ⟨.l0, 2, 4, 0x52⟩, false⟩ }
def ejectedPlatterReturnsHome5 : State := { base with
  lib.drives.a1 := ⟨.fault, some ⟨none, .s1⟩, none, none, false, false, [], some .eject, 0, 0, some ⟨.l0, 2, 4, 0x52⟩, false⟩ }

/-- The hypotheses of EjectedPlatterReturnsHome are met, clause by clause. -/
theorem test_meets_EjectedPlatterReturnsHome :
    (let s := ejectedPlatterReturnsHome1; ∃ d : DriveNo, s.Quiet ∧ let k := s.lib.drives.get d; ∃ y : Reply, k.reset = some y ∧ k.cmd = some .eject ∧
      (s.links.get y.link).resetCount = y.gen ∧ k.platter = none ∧ s.PickerRests) ∧
    (let s := ejectedPlatterReturnsHome2; ∃ d : DriveNo, s.Quiet ∧ let k := s.lib.drives.get d; ∃ y : Reply, k.reset = some y ∧ (k.cmd = some .eject
      ∧ (s.links.get y.link).resetCount = y.gen) ∧ ∃ (id : Nat) (sd : Side), k.platter = some ⟨some id, sd⟩ ∧ s.lib.picker.state ≠ .idle) ∧
    (let s := ejectedPlatterReturnsHome3; ∃ d : DriveNo, s.Quiet ∧ let k := s.lib.drives.get d; ∃ y : Reply, k.reset = some y ∧ (k.cmd = some .eject
      ∧ (s.links.get y.link).resetCount = y.gen) ∧ ∃ (id : Nat) (sd : Side), k.platter = some ⟨some id, sd⟩ ∧ ∃ p : Platter, s.platter? id = some p ∧
      (s.lib.picker.state = .idle ∧ s.lib.doorOpen = false ∧ s.lib.sweep.running = false ∧ s.lib.returns = []) ∧ ∃ n : Nat, ((p.home = some n ∧
      s.cat.slotUse? n = some (.occupied id)) ∨ ((∀ h, p.home = some h → s.cat.slotUse? h ≠ some (.occupied id)) ∧ s.cat.lowestFree = some n))) ∧
    (let s := ejectedPlatterReturnsHome4; ∃ d : DriveNo, s.Quiet ∧ let k := s.lib.drives.get d; ∃ y : Reply, k.reset = some y ∧ (k.cmd = some .eject
      ∧ (s.links.get y.link).resetCount = y.gen) ∧ ∃ (id : Nat) (sd : Side), k.platter = some ⟨some id, sd⟩ ∧ ∃ p : Platter, s.platter? id = some p ∧
      s.lib.picker.state = .idle ∧ s.lib.doorOpen = false ∧ s.lib.sweep.running = false ∧ s.lib.returns = [] ∧ p.home = none ∧ s.cat.lowestFree =
      none ∧ s.NothingNext) ∧
    (let s := ejectedPlatterReturnsHome5; ∃ d : DriveNo, s.Quiet ∧ let k := s.lib.drives.get d; ∃ y : Reply, k.reset = some y ∧ (k.cmd = some .eject
      ∧ (s.links.get y.link).resetCount = y.gen) ∧ ∃ sd : Side, k.platter = some ⟨none, sd⟩ ∧ s.lib.picker.state = .idle ∧ s.lib.doorOpen = false ∧
      s.lib.sweep.running = false ∧ s.lib.returns = []) :=
  ⟨⟨.d3, (by decide +kernel), _, rfl, by decide +kernel⟩,
   ⟨.d1, (by decide +kernel), _, rfl, (by decide +kernel), _, _, rfl, by decide +kernel⟩,
   ⟨.d1, (by decide +kernel), _, rfl, (by decide +kernel), _, _, rfl, _, rfl, (by decide +kernel), 1,
      (by first | exact .inl (by decide +kernel) | exact .inr ⟨by intro h hh; cases hh <;> decide +kernel, by decide +kernel⟩)⟩,
   ⟨.d1, (by decide +kernel), _, rfl, (by decide +kernel), _, _, rfl, _, rfl, by decide +kernel⟩,
   ⟨.d1, (by decide +kernel), _, rfl, (by decide +kernel), _, rfl, by decide +kernel⟩⟩

def returnHomeLabelled1 : State := { base with
  cat.platters := [⟨5002, some 12, .unknown, ⟨.unchecked, 0⟩, ⟨.full 21, 0⟩, 0, none⟩]
  lib.drives.a2 := ⟨.unloading, some ⟨none, .s1⟩, none, none, false, false, [], none, 0, 0, none, false⟩
  lib.picker := ⟨.moving, none, some ⟨.drive .d2, none, false⟩, some 5, some (.homeLabel .d2)⟩ }
def returnHomeLabelled2 : State := { base with
  lib.drives.a2 := ⟨.unloading, some ⟨none, .s1⟩, none, none, false, false, [], none, 0, 0, none, false⟩
  lib.picker := ⟨.moving, none, some ⟨.drive .d2, none, false⟩, some 5, some (.homeLabel .d2)⟩ }
def returnHomeLabelled5 : State := { base with
  lib.drives.a1 := ⟨.unloading, some ⟨none, .s0⟩, none, none, false, false, [], none, 0, 0, none, false⟩
  lib.picker := ⟨.moving, none, some ⟨.drive .d1, none, false⟩, some 0, some (.homeLabel .d1)⟩
  lib.doorOpen := true }

/-- The hypotheses of ReturnHomeLabelled are met, clause by clause. -/
theorem test_meets_ReturnHomeLabelled :
    (let s := returnHomeLabelled1; s.Quiet ∧ ∃ m : Move, s.lib.picker.move = some m ∧ ∃ d : DriveNo, s.lib.picker.piece = some (.homeLabel d) ∧
      (s.lib.picker.state = .moving ∧ s.lib.picker.since ≠ none ∧ m.dst = none) ∧ let k := s.lib.drives.get d; ∃ (x : Option Nat) (sd : Side),
      k.platter = some ⟨x, sd⟩ ∧ (k.state = .unloading ∧ s.lib.doorOpen = false ∧ s.lib.sweepDue = false) ∧ ∃ id : Nat, ∃ p : Platter, s.platter? id
      = some p ∧ ∃ n : Nat, (id ≠ 0 ∧ (p.loc = .unknown ∨ p.loc = .exported)) ∧ ((p.home = some n ∧ s.cat.slotUse? n = some (.occupied id)) ∨ ((∀ h,
      p.home = some h → s.cat.slotUse? h ≠ some (.occupied id)) ∧ s.cat.lowestFree = some n))) ∧
    (let s := returnHomeLabelled2; s.Quiet ∧ ∃ m : Move, s.lib.picker.move = some m ∧ ∃ d : DriveNo, s.lib.picker.piece = some (.homeLabel d) ∧
      (s.lib.picker.state = .moving ∧ s.lib.picker.since ≠ none ∧ m.dst = none) ∧ let k := s.lib.drives.get d; ∃ (x : Option Nat) (sd : Side),
      k.platter = some ⟨x, sd⟩ ∧ (k.state = .unloading ∧ s.lib.doorOpen = false ∧ s.lib.sweepDue = false) ∧ ∃ n : Nat, s.cat.lowestFree = some n ∧ ∃
      id : Nat, id ≠ 0 ∧ s.platter? id = none) ∧
    (let s := returnHomeLabelled2; s.Quiet ∧ ∃ m : Move, s.lib.picker.move = some m ∧ ∃ d : DriveNo, s.lib.picker.piece = some (.homeLabel d) ∧
      (s.lib.picker.state = .moving ∧ s.lib.picker.since ≠ none ∧ m.dst = none) ∧ let k := s.lib.drives.get d; ∃ (x : Option Nat) (sd : Side),
      k.platter = some ⟨x, sd⟩ ∧ (k.state = .unloading ∧ s.lib.doorOpen = false ∧ s.lib.sweepDue = false) ∧ ∃ n : Nat, s.cat.lowestFree = some n ∧ ∃
      id : Nat, ∃ p : Platter, s.platter? id = some p ∧ id ≠ 0 ∧ p.loc ≠ .unknown ∧ p.loc ≠ .exported) ∧
    (let s := returnHomeLabelled2; s.Quiet ∧ ∃ m : Move, s.lib.picker.move = some m ∧ ∃ d : DriveNo, s.lib.picker.piece = some (.homeLabel d) ∧
      (s.lib.picker.state = .moving ∧ s.lib.picker.since ≠ none ∧ m.dst = none) ∧ let k := s.lib.drives.get d; ∃ (x : Option Nat) (sd : Side),
      k.platter = some ⟨x, sd⟩ ∧ (k.state = .unloading ∧ s.lib.doorOpen = false ∧ s.lib.sweepDue = false) ∧ ∃ n : Nat, s.cat.lowestFree = some n) ∧
    (let s := returnHomeLabelled5; s.Quiet ∧ ∃ m : Move, s.lib.picker.move = some m ∧ ∃ d : DriveNo, s.lib.picker.piece = some (.homeLabel d) ∧
      (s.lib.picker.state = .moving ∧ s.lib.picker.since ≠ none ∧ m.dst = none) ∧ let k := s.lib.drives.get d; ∃ (x : Option Nat) (sd : Side),
      k.platter = some ⟨x, sd⟩ ∧ k.state = .unloading ∧ s.lib.doorOpen = true) :=
  ⟨⟨(by decide +kernel), _, rfl, _, rfl, (by decide +kernel), _, _, rfl, (by decide +kernel), 5002, _, rfl, 3, (by decide +kernel),
      (by first | exact .inl (by decide +kernel) | exact .inr ⟨by intro h hh; cases hh <;> decide +kernel, by decide +kernel⟩)⟩,
   ⟨(by decide +kernel), _, rfl, _, rfl, (by decide +kernel), _, _, rfl, (by decide +kernel), _, rfl, 777, by decide +kernel⟩,
   ⟨(by decide +kernel), _, rfl, _, rfl, (by decide +kernel), _, _, rfl, (by decide +kernel), _, rfl, 2655, _, rfl, by decide +kernel⟩,
   ⟨(by decide +kernel), _, rfl, _, rfl, (by decide +kernel), _, _, rfl, (by decide +kernel), _, rfl⟩,
   ⟨(by decide +kernel), _, rfl, _, rfl, (by decide +kernel), _, _, rfl, by decide +kernel⟩⟩

def returnHomeDone1 : State := { base with
  lib.drives.a5 := ⟨.unloading, some ⟨none, .s1⟩, none, none, false, false, [], none, 0, 0, none, false⟩
  lib.picker := ⟨.moving, some 4127, some ⟨.drive .d5, some (.slot 5), true⟩, some 42, some (.homeMove .d5)⟩ }
def returnHomeDone2 : State := { base with
  lib.drives.a2 := ⟨.unloading, some ⟨none, .s1⟩, none, none, false, false, [], none, 0, 0, some ⟨.l0, 2, 4, 0x52⟩, false⟩
  lib.picker := ⟨.moving, some 777, some ⟨.drive .d2, some (.slot 3), false⟩, some 77, some (.homeMove .d2)⟩ }
def returnHomeDone3 : State := { base with
  lib.drives.a5 := ⟨.unloading, some ⟨none, .s1⟩, none, none, false, false, [], none, 0, 0, none, false⟩
  lib.picker := ⟨.moving, none, some ⟨.drive .d5, some (.slot 4), true⟩, some 15, some (.homeMove .d5)⟩ }

/-- The hypotheses of ReturnHomeDone are met, clause by clause. -/
theorem test_meets_ReturnHomeDone :
    (let s := returnHomeDone1; s.Quiet ∧ ∃ m : Move, s.lib.picker.move = some m ∧ ∃ n : Nat, m.dst = some (.slot n) ∧ ∃ d : DriveNo,
      s.lib.picker.piece = some (.homeMove d) ∧ (s.lib.picker.state = .moving ∧ s.lib.picker.since ≠ none) ∧ let k := s.lib.drives.get d; (k.state =
      .unloading ∧ (∀ y ∈ k.reset, (s.links.get y.link).resetCount = y.gen) ∧ s.NothingNext ∧ s.HeadHasMedia) ∧ ∃ id : Nat, s.lib.picker.held = some
      id ∧ s.platter? id ≠ none) ∧
    (let s := returnHomeDone2; s.Quiet ∧ ∃ m : Move, s.lib.picker.move = some m ∧ ∃ n : Nat, m.dst = some (.slot n) ∧ ∃ d : DriveNo,
      s.lib.picker.piece = some (.homeMove d) ∧ (s.lib.picker.state = .moving ∧ s.lib.picker.since ≠ none) ∧ let k := s.lib.drives.get d; (k.state =
      .unloading ∧ (∀ y ∈ k.reset, (s.links.get y.link).resetCount = y.gen) ∧ s.NothingNext ∧ s.HeadHasMedia) ∧ ∃ id : Nat, s.lib.picker.held = some
      id ∧ s.platter? id = none) ∧
    (let s := returnHomeDone3; s.Quiet ∧ ∃ m : Move, s.lib.picker.move = some m ∧ ∃ n : Nat, m.dst = some (.slot n) ∧ ∃ d : DriveNo,
      s.lib.picker.piece = some (.homeMove d) ∧ (s.lib.picker.state = .moving ∧ s.lib.picker.since ≠ none) ∧ let k := s.lib.drives.get d; k.state =
      .unloading ∧ (∀ y ∈ k.reset, (s.links.get y.link).resetCount = y.gen) ∧ s.NothingNext ∧ s.HeadHasMedia ∧ s.lib.picker.held = none) :=
  ⟨⟨(by decide +kernel), _, rfl, _, rfl, _, rfl, (by decide +kernel), (by decide +kernel), _, rfl, by decide +kernel⟩,
   ⟨(by decide +kernel), _, rfl, _, rfl, _, rfl, (by decide +kernel), (by decide +kernel), _, rfl, by decide +kernel⟩,
   ⟨(by decide +kernel), _, rfl, _, rfl, _, rfl, (by decide +kernel), by decide +kernel⟩⟩

def jamEndsWork1 : State := { base with
  links.a0.resetCount := 0
  ops := [⟨⟨.l0, 0, 0, 64⟩, false, .certified, 17, .counter, 471015, ⟨968238400, 8⟩, [⟨⟨11000, 6⟩, true, .all, some ⟨⟨11000, 6⟩, 0, ⟨4127, .s0, 16,
    5⟩, ⟨1, 1⟩⟩, some (1, 2), some ⟨2000, 1, 1, true, false⟩, some .mount, .waitingMount, 0, none⟩], 1⟩]
  segments := [⟨⟨11000, 6⟩, 15, 5, 0, [⟨.l0, 0, 1⟩], none, some ⟨.l0, 0, 1⟩, false⟩]
  lib.picker := ⟨.moving, some 4127, some ⟨.slot 5, some (.drive .d5), false⟩, some 471015, some (.mountFetch .d5 ⟨4127, .s0⟩)⟩
  lib.demands := [⟨⟨4127, .s0⟩, some .d5, [.item ⟨.l0, 0, 1⟩ .counter 471015]⟩] }
def jamEndsWork2 : State := { base with
  lib.demands := [⟨⟨3140, .s0⟩, some .d2, [.filing 3]⟩]
  lib.drives.a2 := ⟨.unloading, some ⟨some 3907, .s1⟩, none, none, false, false, [], none, 0, 0, none, false⟩
  lib.picker := ⟨.moving, some 3907, some ⟨.drive .d2, some (.slot 2), true⟩, some 77, some (.mountEvict .d2 ⟨3140, .s0⟩)⟩ }
def jamEndsWork3 : State := { base with
  ref := 1211551
  lib.picker := ⟨.moving, none, some ⟨.slot 7, none, false⟩, some 1171498, some .sweep⟩ }
def jamEndsWork4 : State := { base with
  lib.picker := ⟨.moving, none, some ⟨.mail, none, false⟩, some 77, some (.importLabel none)⟩ }
def jamEndsWork5 : State := { base with
  lib.picker := ⟨.moving, some 3140, some ⟨.mail, some (.slot 3), false⟩, some 77, some (.importMove none 3140)⟩ }
def jamEndsWork6 : State := { base with
  links.a0.resetCount := 0
  lib.picker := ⟨.moving, some 3907, some ⟨.slot 3, some .mail, false⟩, some 25051, some (.exportMove ⟨.l0, 1, 0, 81⟩ 3907)⟩ }
def jamEndsWork7 : State := { base with
  links.a2.resetCount := 0
  lib.drives.a1 := ⟨.unloading, some ⟨some 777, .s1⟩, some ⟨968152000, 5⟩, some 225261, false, false, [], none, 0, 405855, none, false⟩
  lib.picker := ⟨.moving, some 777, some ⟨.drive .d1, some .mail, true⟩, some 450885, some (.exportDrive ⟨.l2, 1, 0, 81⟩ 777 .d1)⟩ }
def jamEndsWork8 : State := { base with
  lib.drives.a2 := ⟨.unloading, some ⟨some 3907, .s1⟩, none, none, false, false, [], none, 0, 0, some ⟨.l0, 2, 4, 0x52⟩, false⟩
  lib.picker := ⟨.moving, some 3907, some ⟨.drive .d2, some (.slot 2), true⟩, some 77, some (.homeMove .d2)⟩ }
def jamEndsWork9 : State := { base with
  lib.drives.a2 := ⟨.unloading, some ⟨none, .s1⟩, none, none, false, false, [], none, 0, 0, some ⟨.l0, 2, 4, 0x52⟩, false⟩
  lib.picker := ⟨.moving, none, some ⟨.drive .d2, none, false⟩, some 77, some (.homeLabel .d2)⟩ }

/-- The hypotheses of JamEndsWork are met, clause by clause. -/
theorem test_meets_JamEndsWork :
    (let s := jamEndsWork1; s.Quiet ∧ ∃ at0 : Nat, s.lib.picker.since = some at0 ∧ ∃ m : Move, s.lib.picker.move = some m ∧ (s.lib.picker.state =
      .moving ∧ at0 + 25000 ≤ s.ref ∧ s.lib.sweepDue = false ∧ s.MediaCurrent) ∧ ∃ (d : DriveNo) (want : PlatterSide), s.lib.picker.piece = some
      (.mountFetch d want) ∧ ∃ q : Demand, q ∈ s.lib.demands ∧ ∃ v : Waiter, v ∈ q.waiters ∧ (s.lib.demands = [q] ∧ q.side = want ∧ q.waiters = [v] ∧
      (∀ e ∈ DriveNo.all, (s.lib.drives.get e).platter ≠ some ⟨some want.platter, want.side⟩)) ∧ ∃ o : Op, o ∈ s.ops ∧ ∃ i : Item, o.items[o.current
      - 1]? = some i ∧ ∃ g : Segment, g ∈ s.segments ∧ v.item? = some o.ref ∧ s.AtLastItem o i ∧ s.Unstarted g o.ref ∧ s.spaceFifo = []) ∧
    (let s := jamEndsWork2; s.Quiet ∧ ∃ at0 : Nat, s.lib.picker.since = some at0 ∧ ∃ m : Move, s.lib.picker.move = some m ∧ (s.lib.picker.state =
      .moving ∧ at0 + 25000 ≤ s.ref ∧ s.lib.sweepDue = false ∧ s.MediaCurrent) ∧ ∃ (d : DriveNo) (want : PlatterSide), s.lib.picker.piece = some
      (.mountEvict d want) ∧ ∃ q : Demand, q ∈ s.lib.demands ∧ ∃ age : Nat, q.waiters = [.filing age] ∧ s.lib.demands = [q] ∧ q.side = want ∧ (∀ e ∈
      DriveNo.all, (s.lib.drives.get e).platter ≠ some ⟨some want.platter, want.side⟩) ∧ s.lib.picker.held ≠ some want.platter ∧ (s.lib.drives.get
      d).state = .unloading) ∧
    (let s := jamEndsWork3; s.Quiet ∧ ∃ at0 : Nat, s.lib.picker.since = some at0 ∧ ∃ m : Move, s.lib.picker.move = some m ∧ s.lib.picker.state =
      .moving ∧ at0 + 25000 ≤ s.ref ∧ s.lib.sweepDue = false ∧ s.MediaCurrent ∧ s.lib.demands = [] ∧ s.lib.picker.piece = some .sweep) ∧
    (let s := jamEndsWork4; s.Quiet ∧ ∃ at0 : Nat, s.lib.picker.since = some at0 ∧ ∃ m : Move, s.lib.picker.move = some m ∧ s.lib.picker.state =
      .moving ∧ at0 + 25000 ≤ s.ref ∧ s.lib.sweepDue = false ∧ s.MediaCurrent ∧ s.lib.demands = [] ∧ s.lib.picker.piece = some (.importLabel none)) ∧
    (let s := jamEndsWork5; s.Quiet ∧ ∃ at0 : Nat, s.lib.picker.since = some at0 ∧ ∃ m : Move, s.lib.picker.move = some m ∧ (s.lib.picker.state =
      .moving ∧ at0 + 25000 ≤ s.ref ∧ s.lib.sweepDue = false ∧ s.MediaCurrent ∧ s.lib.demands = []) ∧ ∃ id : Nat, s.lib.picker.piece = some
      (.importMove none id)) ∧
    (let s := jamEndsWork6; s.Quiet ∧ ∃ at0 : Nat, s.lib.picker.since = some at0 ∧ ∃ m : Move, s.lib.picker.move = some m ∧ (s.lib.picker.state =
      .moving ∧ at0 + 25000 ≤ s.ref ∧ s.lib.sweepDue = false ∧ s.MediaCurrent ∧ s.lib.demands = []) ∧ ∃ y : Reply, (s.links.get y.link).resetCount =
      y.gen ∧ (s.lib.picker.piece = some (.importLabel (some y)) ∨ (∃ id, s.lib.picker.piece = some (.importMove (some y) id) ∨ s.lib.picker.piece =
      some (.exportMove y id)))) ∧
    (let s := jamEndsWork7; s.Quiet ∧ ∃ at0 : Nat, s.lib.picker.since = some at0 ∧ ∃ m : Move, s.lib.picker.move = some m ∧ (s.lib.picker.state =
      .moving ∧ at0 + 25000 ≤ s.ref ∧ s.lib.sweepDue = false ∧ s.MediaCurrent ∧ s.lib.demands = []) ∧ ∃ y : Reply, (s.links.get y.link).resetCount =
      y.gen ∧ ∃ (y' : Reply) (id : Nat) (d : DriveNo), s.lib.picker.piece = some (.exportDrive y' id d) ∧ y' = y ∧ (s.lib.drives.get d).state =
      .unloading) ∧
    (let s := jamEndsWork8; s.Quiet ∧ ∃ at0 : Nat, s.lib.picker.since = some at0 ∧ ∃ m : Move, s.lib.picker.move = some m ∧ (s.lib.picker.state =
      .moving ∧ at0 + 25000 ≤ s.ref ∧ s.lib.sweepDue = false ∧ s.MediaCurrent ∧ s.lib.demands = []) ∧ ∃ d : DriveNo, let k := s.lib.drives.get d; ∃ y
      : Reply, k.reset = some y ∧ (s.links.get y.link).resetCount = y.gen ∧ s.lib.picker.piece = some (.homeMove d) ∧ k.state = .unloading) ∧
    (let s := jamEndsWork9; s.Quiet ∧ ∃ at0 : Nat, s.lib.picker.since = some at0 ∧ ∃ m : Move, s.lib.picker.move = some m ∧ (s.lib.picker.state =
      .moving ∧ at0 + 25000 ≤ s.ref ∧ s.lib.sweepDue = false ∧ s.MediaCurrent ∧ s.lib.demands = []) ∧ ∃ d : DriveNo, let k := s.lib.drives.get d; ∃ y
      : Reply, k.reset = some y ∧ (s.links.get y.link).resetCount = y.gen ∧ s.lib.picker.piece = some (.homeLabel d)) :=
  ⟨⟨(by decide +kernel), _, rfl, _, rfl, (by decide +kernel), _, _, rfl, _, List.mem_of_getElem? (i := 0) rfl, _, List.mem_of_getElem? (i := 0) rfl,
      (by decide +kernel), _, List.mem_of_getElem? (i := 0) rfl, _, rfl, _, List.mem_of_getElem? (i := 0) rfl, by decide +kernel⟩,
   ⟨(by decide +kernel), _, rfl, _, rfl, (by decide +kernel), _, _, rfl, _, List.mem_of_getElem? (i := 0) rfl, _, rfl, by decide +kernel⟩,
   ⟨(by decide +kernel), _, rfl, _, rfl, by decide +kernel⟩,
   ⟨(by decide +kernel), _, rfl, _, rfl, by decide +kernel⟩,
   ⟨(by decide +kernel), _, rfl, _, rfl, (by decide +kernel), _, rfl⟩,
   ⟨(by decide +kernel), _, rfl, _, rfl, (by decide +kernel), ⟨.l0, 1, 0, 81⟩, (by decide +kernel),
      (by first | exact .inl rfl | exact .inr ⟨_, .inl rfl⟩ | exact .inr ⟨_, .inr rfl⟩)⟩,
   ⟨(by decide +kernel), _, rfl, _, rfl, (by decide +kernel), ⟨.l2, 1, 0, 81⟩, (by decide +kernel), _, _, _, rfl, by decide +kernel⟩,
   ⟨(by decide +kernel), _, rfl, _, rfl, (by decide +kernel), .d2, _, rfl, by decide +kernel⟩,
   ⟨(by decide +kernel), _, rfl, _, rfl, (by decide +kernel), .d2, _, rfl, by decide +kernel⟩⟩


/-- The hypotheses of DoorOpeningRefusesMedia are met, clause by clause. -/
theorem test_meets_DoorOpeningRefusesMedia :
    (let s := base; s.Quiet ∧ s.lib.doorOpen = false ∧ s.MediaCurrent) :=
  by decide +kernel

/-! ## Hypotheses met: the filing passes and ABANDON -/

def headerCheckedAndOpened1 : State := { base with
  cat.platters := [⟨3907, some 3, .slot 3, ⟨.full 21, 0⟩, ⟨.unchecked, 0⟩, 0, none⟩]
  filUse := some ⟨⟨3907, .s1⟩, .check .d2, some .q1, ⟨0, 0⟩, false⟩
  lib.drives.a2 := ⟨.busy, some ⟨some 3907, .s1⟩, some ⟨968152000, 5⟩, some 20091, false, false, [.filing], some (.read 0 16), 0, 20091, none, false⟩ }
def headerCheckedAndOpened2 : State := { base with
  cat.platters := [⟨3907, some 3, .drive .d2, ⟨.full 21, 0⟩, ⟨.blank, 0⟩, 1, none⟩]
  filUse := some ⟨⟨3907, .s1⟩, .headWrite .d2, some .q1, ⟨968238400, 5⟩, false⟩
  lib.drives.a2 := ⟨.busy, some ⟨some 3907, .s1⟩, some ⟨968152000, 5⟩, some 20091, false, false, [.filing], some (.write 0 16), 0, 300558, none,
    false⟩ }
def headerCheckedAndOpened3 : State := { base with
  cat.platters := [⟨3907, some 3, .drive .d2, ⟨.full 21, 0⟩, ⟨.unchecked, 0⟩, 1, none⟩]
  filUse := some ⟨⟨3907, .s1⟩, .check .d2, some .q1, ⟨0, 0⟩, false⟩
  lib.drives.a2 := ⟨.busy, some ⟨some 3907, .s1⟩, some ⟨968152000, 5⟩, some 20091, false, false, [.filing], some (.read 0 16), 16, 105303, none,
    false⟩ }
def headerCheckedAndOpened4 : State := { base with
  cat.platters := [⟨2655, some 1, .drive .d1, sfull, ⟨.unchecked, 0⟩, 3, none⟩]
  filings.a1 := some ⟨⟨11200, 2⟩, .l0, .queued, 3, [1], false, 0, some ⟨1, 0, false, [5], [], ⟨.l0, 3, 4, 0x32⟩, 0, [], false, 50⟩, none⟩
  commitQueue := [.q1]
  filUse := some ⟨⟨2655, .s1⟩, .check .d1, some .q1, ⟨0, 0⟩, true⟩
  lib.drives.a1 := ⟨.busy, some ⟨some 2655, .s1⟩, none, none, false, false, [.filing], some (.read 0 16), 16, 0, none, false⟩ }
def headerCheckedAndOpened5 : State := { base with
  cat.platters := [⟨3907, some 3, .drive .d2, ⟨.full 21, 0⟩, ⟨.unchecked, 0⟩, 1, none⟩]
  filings.a1 := some ⟨⟨11205, 1⟩, .l0, .queued, 3, [1, 2], false, 20062, some ⟨1, 1, false, [7], [], ⟨.l0, 3, 0, 50⟩, 0, [], false, 20073⟩, none⟩
  commitQueue := [.q1]
  filUse := some ⟨⟨3907, .s1⟩, .check .d2, some .q1, ⟨0, 0⟩, false⟩
  lib.drives.a2 := ⟨.busy, some ⟨some 3907, .s1⟩, some ⟨968152000, 5⟩, some 20091, false, false, [.filing], some (.read 0 16), 0, 20091, none, false⟩ }
def headerCheckedAndOpened6 : State := { base with
  cat.platters := [⟨3907, some 3, .drive .d2, ⟨.full 21, 0⟩, ⟨.blank, 0⟩, 1, none⟩]
  filUse := some ⟨⟨3907, .s1⟩, .headErase .d2, some .q1, ⟨968238400, 5⟩, false⟩
  lib.drives.a2 := ⟨.busy, some ⟨some 3907, .s1⟩, some ⟨968152000, 5⟩, some 20091, false, false, [.filing], some (.erase 0 16), 0, 105309, none,
    false⟩ }

/-- The hypotheses of HeaderCheckedAndOpened are met, clause by clause. -/
theorem test_meets_HeaderCheckedAndOpened :
    (let s := headerCheckedAndOpened1; ∃ d : DriveNo, s.Quiet ∧ let k := s.lib.drives.get d; ∃ u : FilUse, s.filUse = some u ∧ ∃ q : FSlot, u.slot =
      some q ∧ ∃ f : Filing, s.filings.get q = some f ∧ ∃ p : Platter, s.platter? u.side.platter = some p ∧ ∃ cmd : DriveCmd, k.cmd = some cmd ∧
      (k.state = .busy ∧ k.staleDone = false ∧ (∀ p' ∈ s.cat.platters, p'.id = p.id → p' = p) ∧ s.OthersShut u.side) ∧ ∃ rest : List Use, (k.work =
      .filing :: rest ∧ k.reported < cmd.len) ∧ ∃ w : Bool, cmd = .read 0 16 ∧ u.stage = .check d) ∧
    (let s := headerCheckedAndOpened2; ∃ d : DriveNo, s.Quiet ∧ let k := s.lib.drives.get d; ∃ u : FilUse, s.filUse = some u ∧ ∃ q : FSlot, u.slot =
      some q ∧ ∃ f : Filing, s.filings.get q = some f ∧ ∃ p : Platter, s.platter? u.side.platter = some p ∧ ∃ cmd : DriveCmd, k.cmd = some cmd ∧
      (k.state = .busy ∧ k.staleDone = false ∧ (∀ p' ∈ s.cat.platters, p'.id = p.id → p' = p) ∧ s.OthersShut u.side) ∧ ∃ rest : List Use, k.work =
      .filing :: rest ∧ k.reported < cmd.len ∧ cmd = .write 0 16 ∧ u.stage = .headWrite d) ∧
    (let s := headerCheckedAndOpened3; ∃ d : DriveNo, s.Quiet ∧ let k := s.lib.drives.get d; ∃ u : FilUse, s.filUse = some u ∧ ∃ q : FSlot, u.slot =
      some q ∧ ∃ f : Filing, s.filings.get q = some f ∧ ∃ p : Platter, s.platter? u.side.platter = some p ∧ ∃ cmd : DriveCmd, k.cmd = some cmd ∧
      (k.state = .busy ∧ k.staleDone = false ∧ (∀ p' ∈ s.cat.platters, p'.id = p.id → p' = p) ∧ s.OthersShut u.side) ∧ ∃ rest : List Use, k.work =
      .filing :: rest ∧ cmd = .read 0 16 ∧ u.stage = .check d ∧ 16 ≤ k.reported ∧ (p.sideRec u.side.side).state = .unchecked ∧ u.sawWritten = false) ∧
    (let s := headerCheckedAndOpened4; ∃ d : DriveNo, s.Quiet ∧ let k := s.lib.drives.get d; ∃ u : FilUse, s.filUse = some u ∧ ∃ q : FSlot, u.slot =
      some q ∧ ∃ f : Filing, s.filings.get q = some f ∧ ∃ p : Platter, s.platter? u.side.platter = some p ∧ ∃ cmd : DriveCmd, k.cmd = some cmd ∧
      k.state = .busy ∧ k.staleDone = false ∧ (∀ p' ∈ s.cat.platters, p'.id = p.id → p' = p) ∧ s.OthersShut u.side ∧ k.work = [.filing] ∧ cmd = .read
      0 16 ∧ u.stage = .check d ∧ (p.sideRec u.side.side).state = .unchecked ∧ s.commitQueue.head? = some q ∧ f.state = .queued ∧ s.PickerRests ∧
      k.platter = some ⟨some p.id, u.side.side⟩ ∧ s.demand? u.side = none ∧ 16 ≤ k.reported ∧ u.sawWritten = true) ∧
    (let s := headerCheckedAndOpened5; ∃ d : DriveNo, s.Quiet ∧ let k := s.lib.drives.get d; ∃ u : FilUse, s.filUse = some u ∧ ∃ q : FSlot, u.slot =
      some q ∧ ∃ f : Filing, s.filings.get q = some f ∧ ∃ p : Platter, s.platter? u.side.platter = some p ∧ ∃ cmd : DriveCmd, k.cmd = some cmd ∧
      k.state = .busy ∧ k.staleDone = false ∧ (∀ p' ∈ s.cat.platters, p'.id = p.id → p' = p) ∧ s.OthersShut u.side ∧ k.work = [.filing] ∧ cmd = .read
      0 16 ∧ u.stage = .check d ∧ (p.sideRec u.side.side).state = .unchecked ∧ s.commitQueue.head? = some q ∧ f.state = .queued ∧ s.PickerRests ∧
      k.platter = some ⟨some p.id, u.side.side⟩ ∧ s.demand? u.side = none) ∧
    (let s := headerCheckedAndOpened6; ∃ d : DriveNo, s.Quiet ∧ let k := s.lib.drives.get d; ∃ u : FilUse, s.filUse = some u ∧ ∃ q : FSlot, u.slot =
      some q ∧ ∃ f : Filing, s.filings.get q = some f ∧ ∃ p : Platter, s.platter? u.side.platter = some p ∧ ∃ cmd : DriveCmd, k.cmd = some cmd ∧
      (k.state = .busy ∧ k.staleDone = false ∧ (∀ p' ∈ s.cat.platters, p'.id = p.id → p' = p) ∧ s.OthersShut u.side) ∧ ∃ rest : List Use, k.work =
      .filing :: rest ∧ cmd = .erase 0 16 ∧ u.stage = .headErase d) ∧
    (let s := headerCheckedAndOpened2; ∃ d : DriveNo, s.Quiet ∧ let k := s.lib.drives.get d; ∃ u : FilUse, s.filUse = some u ∧ ∃ q : FSlot, u.slot =
      some q ∧ ∃ f : Filing, s.filings.get q = some f ∧ ∃ p : Platter, s.platter? u.side.platter = some p ∧ ∃ cmd : DriveCmd, k.cmd = some cmd ∧
      (k.state = .busy ∧ k.staleDone = false ∧ (∀ p' ∈ s.cat.platters, p'.id = p.id → p' = p) ∧ s.OthersShut u.side) ∧ ∃ rest : List Use, k.work =
      .filing :: rest ∧ cmd = .write 0 16 ∧ u.stage = .headWrite d ∧ (p.sideRec u.side.side).state = .blank ∧ p.loc = .drive d ∧ f.blocks ≤ 307200 -
      16 ∧ (∀ c ∈ f.commit, u.side ∉ c.failed)) :=
  ⟨⟨.d2, (by decide +kernel), _, rfl, _, rfl, _, rfl, _, rfl, _, rfl, (by decide +kernel), [], (by decide +kernel), false, by decide +kernel⟩,
   ⟨.d2, (by decide +kernel), _, rfl, _, rfl, _, rfl, _, rfl, _, rfl, (by decide +kernel), [], by decide +kernel⟩,
   ⟨.d2, (by decide +kernel), _, rfl, _, rfl, _, rfl, _, rfl, _, rfl, (by decide +kernel), [], by decide +kernel⟩,
   ⟨.d1, (by decide +kernel), _, rfl, _, rfl, _, rfl, _, rfl, _, rfl, by decide +kernel⟩,
   ⟨.d2, (by decide +kernel), _, rfl, _, rfl, _, rfl, _, rfl, _, rfl, by decide +kernel⟩,
   ⟨.d2, (by decide +kernel), _, rfl, _, rfl, _, rfl, _, rfl, _, rfl, (by decide +kernel), [], by decide +kernel⟩,
   ⟨.d2, (by decide +kernel), _, rfl, _, rfl, _, rfl, _, rfl, _, rfl, (by decide +kernel), [], by decide +kernel⟩⟩

def passesWriteAndVerify1 : State := { base with
  filings.a2 := some ⟨⟨11205, 2⟩, .l2, .writing, 3, [1, 2], false, 85201, some ⟨1, 1, false, [7], [], ⟨.l2, 3, 0, 50⟩, 0, [], false, 85221⟩,
    some ⟨3907, .s1, 16, 3⟩⟩
  filUse := some ⟨⟨3907, .s1⟩, .write .d1, some .q2, ⟨968140281, 1⟩, false⟩
  driveChans.a1 := ⟨⟨.running, .slot .q2, none, 0, 4, .none⟩, [], none, none⟩
  lib.drives.a1 := ⟨.busy, some ⟨some 3907, .s1⟩, some ⟨968140281, 0⟩, some 125228, true, false, [.filing], some (.write 16 3), 0, 295509, none,
    false⟩ }
def passesWriteAndVerify2 : State := { base with
  filings.a1 := some ⟨⟨11205, 1⟩, .l0, .verifying, 3, [1, 2], false, 20062, some ⟨1, 1, false, [7], [], ⟨.l0, 3, 0, 50⟩, 0, [], false, 20073⟩,
    some ⟨3907, .s1, 16, 3⟩⟩
  filUse := some ⟨⟨3907, .s1⟩, .verify .d2, some .q1, ⟨968238400, 5⟩, false⟩
  driveChans.a2 := ⟨⟨.running, .slot .q1, none, 0, 16, .none⟩, [], none, none⟩
  lib.drives.a2 := ⟨.busy, some ⟨some 3907, .s1⟩, some ⟨968152000, 5⟩, some 20091, true, false, [.filing], some (.read 16 3), 2, 320684, none, false⟩ }
def passesWriteAndVerify3 : State := { base with
  filings.a1 := some ⟨⟨11205, 1⟩, .l2, .writing, 3, [1, 2], false, 150285, some ⟨1, 1, false, [7], [], ⟨.l2, 3, 0, 50⟩, 0, [], false, 210369⟩,
    some ⟨3907, .s1, 16, 3⟩⟩
  filUse := some ⟨⟨3907, .s1⟩, .write .d2, some .q1, ⟨967892800, 7⟩, false⟩
  lib.drives.a2 := ⟨.busy, some ⟨some 3907, .s1⟩, some ⟨967979200, 7⟩, some 210379, true, false, [.filing], some (.write 16 3), 0, 620782, none,
    false⟩ }
def passesWriteAndVerify4 : State := { base with
  filings.a1 := some ⟨⟨11205, 1⟩, .l2, .writing, 3, [1, 2], false, 150285, some ⟨1, 1, false, [7], [], ⟨.l2, 3, 0, 50⟩, 0, [], false, 210369⟩,
    some ⟨3907, .s1, 16, 3⟩⟩
  filUse := some ⟨⟨3907, .s1⟩, .write .d2, some .q1, ⟨967892800, 7⟩, false⟩
  lib.drives.a2 := ⟨.busy, some ⟨some 3907, .s1⟩, some ⟨967979200, 7⟩, some 210379, true, false, [.filing], some (.write 16 3), 1, 640796, none,
    false⟩ }
def passesWriteAndVerify5 : State := { base with
  filings.a1 := some ⟨⟨11205, 1⟩, .l2, .verifying, 3, [1, 2], false, 150285, some ⟨1, 1, false, [7], [], ⟨.l2, 3, 0, 50⟩, 0, [], false, 210369⟩,
    some ⟨3907, .s1, 16, 3⟩⟩
  filUse := some ⟨⟨3907, .s1⟩, .verify .d2, some .q1, ⟨967892800, 7⟩, false⟩
  lib.drives.a2 := ⟨.busy, some ⟨some 3907, .s1⟩, some ⟨967979200, 7⟩, some 210379, true, false, [.filing], some (.read 16 3), 0, 685827, none, false⟩ }
def passesWriteAndVerify6 : State := { base with
  filings.a1 := some ⟨⟨11205, 3⟩, .l1, .verifying, 3, [1, 2], false, 981172, some ⟨1, 1, false, [7], [], ⟨.l1, 3, 0, 50⟩, 0, [], false, 1001210⟩,
    some ⟨3907, .s1, 19, 3⟩⟩
  filUse := some ⟨⟨3907, .s1⟩, .verify .d2, some .q1, ⟨0, 0⟩, false⟩
  driveChans.a2 := ⟨⟨.running, .slot .q1, some .ring, 7, 3, .markWritten⟩, [], some ([0x00#8, 0x02#8, 0x00#8, 0x01#8, 0x00#8,
    0x02#8] ++ List.replicate 1018 0x00#8), none⟩
  lib.drives.a2 := ⟨.busy, some ⟨some 3907, .s1⟩, some ⟨967979200, 7⟩, some 210379, true, false, [.filing], some (.read 19 3), 0, 1001273, none,
    false⟩ }
def passesWriteAndVerify7 : State := { base with
  cat.platters := [⟨3907, some 3, .drive .d2, ⟨.full 21, 0⟩, ⟨.opened 19, 0⟩, 1, none⟩]
  filings.a1 := some ⟨⟨11205, 1⟩, .l2, .verifying, 3, [1, 2], false, 150285, some ⟨1, 1, false, [7], [], ⟨.l2, 3, 0, 50⟩, 0, [], false, 210369⟩,
    some ⟨3907, .s1, 16, 3⟩⟩
  filUse := some ⟨⟨3907, .s1⟩, .verify .d2, some .q1, ⟨967892800, 7⟩, false⟩
  driveChans.a2 := ⟨⟨.running, .slot .q1, some .ring, 0, 3, .markWritten⟩, [], some ([0x00#8, 0x02#8, 0x00#8, 0x01#8, 0x00#8,
    0x02#8] ++ List.replicate 1018 0x00#8), none⟩
  lib.drives.a2 := ⟨.busy, some ⟨some 3907, .s1⟩, some ⟨967979200, 7⟩, some 210379, true, false, [.filing], some (.read 16 3), 0, 685827, none, false⟩ }

/-- The hypotheses of PassesWriteAndVerify are met, clause by clause. -/
theorem test_meets_PassesWriteAndVerify :
    (let s := passesWriteAndVerify1; ∃ d : DriveNo, s.Quiet ∧ let k := s.lib.drives.get d; ∃ u : FilUse, s.filUse = some u ∧ ∃ q : FSlot, u.slot =
      some q ∧ ∃ f : Filing, s.filings.get q = some f ∧ ∃ e : Location, f.extent = some e ∧ ∃ cmd : DriveCmd, k.cmd = some cmd ∧ ∃ rest : List Use,
      (k.work = .filing :: rest ∧ k.staleDone = false ∧ DriveNo.all.find? s.driveWants = some d) ∧ (∀ l, (s.links.get l).lane = []) ∧ u.stage =
      .write d) ∧
    (let s := passesWriteAndVerify2; ∃ d : DriveNo, s.Quiet ∧ let k := s.lib.drives.get d; let h := s.driveChans.get d; ∃ u : FilUse, s.filUse = some
      u ∧ ∃ q : FSlot, u.slot = some q ∧ ∃ f : Filing, s.filings.get q = some f ∧ ∃ e : Location, f.extent = some e ∧ ∃ cmd : DriveCmd, k.cmd = some
      cmd ∧ ∃ rest : List Use, (k.work = .filing :: rest ∧ k.staleDone = false ∧ DriveNo.all.find? s.driveWants = some d) ∧ (∀ l, (s.links.get
      l).lane = []) ∧ u.stage = .verify d ∧ h.held = []) ∧
    (let s := passesWriteAndVerify3; ∃ d : DriveNo, s.Quiet ∧ let k := s.lib.drives.get d; let h := s.driveChans.get d; ∃ u : FilUse, s.filUse = some
      u ∧ ∃ q : FSlot, u.slot = some q ∧ ∃ f : Filing, s.filings.get q = some f ∧ ∃ e : Location, f.extent = some e ∧ ∃ cmd : DriveCmd, k.cmd = some
      cmd ∧ ∃ rest : List Use, k.work = .filing :: rest ∧ k.staleDone = false ∧ u.stage = .write d ∧ cmd = .write e.start e.len ∧ k.reported < e.len
      - h.chan.remaining) ∧
    (let s := passesWriteAndVerify4; ∃ d : DriveNo, s.Quiet ∧ let k := s.lib.drives.get d; let h := s.driveChans.get d; ∃ u : FilUse, s.filUse = some
      u ∧ ∃ q : FSlot, u.slot = some q ∧ ∃ f : Filing, s.filings.get q = some f ∧ ∃ e : Location, f.extent = some e ∧ ∃ cmd : DriveCmd, k.cmd = some
      cmd ∧ ∃ rest : List Use, k.work = .filing :: rest ∧ k.staleDone = false ∧ u.stage = .write d ∧ cmd = .write e.start e.len ∧ h.chan.remaining =
      0 ∧ (∀ c ∈ f.commit, c.abandonPending = false)) ∧
    (let s := passesWriteAndVerify5; ∃ d : DriveNo, s.Quiet ∧ let k := s.lib.drives.get d; let h := s.driveChans.get d; ∃ u : FilUse, s.filUse = some
      u ∧ ∃ q : FSlot, u.slot = some q ∧ ∃ f : Filing, s.filings.get q = some f ∧ ∃ e : Location, f.extent = some e ∧ ∃ cmd : DriveCmd, k.cmd = some
      cmd ∧ ∃ rest : List Use, (k.work = .filing :: rest ∧ k.staleDone = false ∧ u.stage = .verify d ∧ cmd = .read e.start e.len ∧ k.reported <
      e.len) ∧ ∃ b : List Byte, h.ringBlock = none) ∧
    (let s := passesWriteAndVerify6; ∃ d : DriveNo, s.Quiet ∧ let k := s.lib.drives.get d; let h := s.driveChans.get d; ∃ u : FilUse, s.filUse = some
      u ∧ ∃ q : FSlot, u.slot = some q ∧ ∃ f : Filing, s.filings.get q = some f ∧ ∃ e : Location, f.extent = some e ∧ ∃ cmd : DriveCmd, k.cmd = some
      cmd ∧ ∃ rest : List Use, (k.work = .filing :: rest ∧ k.staleDone = false ∧ u.stage = .verify d ∧ cmd = .read e.start e.len ∧ k.reported <
      e.len) ∧ ∃ b : List Byte, h.ringBlock = some b ∧ h.held = [] ∧ 1 < h.chan.remaining) ∧
    (let s := passesWriteAndVerify7; ∃ d : DriveNo, s.Quiet ∧ let k := s.lib.drives.get d; let h := s.driveChans.get d; ∃ u : FilUse, s.filUse = some
      u ∧ ∃ q : FSlot, u.slot = some q ∧ ∃ f : Filing, s.filings.get q = some f ∧ ∃ e : Location, f.extent = some e ∧ ∃ cmd : DriveCmd, k.cmd = some
      cmd ∧ ∃ rest : List Use, (k.work = .filing :: rest ∧ k.staleDone = false ∧ u.stage = .verify d ∧ cmd = .read e.start e.len ∧ k.reported <
      e.len) ∧ ∃ b : List Byte, ∃ rb : List Byte, h.ringBlock = some rb ∧ ∃ c : Commit, f.commit = some c ∧ ∃ p : Platter, s.platter? u.side.platter
      = some p ∧ ∃ fill : Nat, (p.sideRec u.side.side).state = .opened fill ∧ b ≠ rb ∧ h.held = [] ∧ c.abandonPending = false ∧ c.failed = [] ∧
      (p.sideRec u.side.side).fails = 0 ∧ s.openSide = some (u.side, fill) ∧ p.loc = .drive d ∧ k.state ≠ .fault ∧ f.blocks ≤ 307200 - fill) :=
  ⟨⟨.d1, (by decide +kernel), _, rfl, _, rfl, _, rfl, _, rfl, _, rfl, [], (by decide +kernel), (by intro e; cases e <;> decide +kernel),
      by decide +kernel⟩,
   ⟨.d2, (by decide +kernel), _, rfl, _, rfl, _, rfl, _, rfl, _, rfl, [], (by decide +kernel), (by intro e; cases e <;> decide +kernel),
      by decide +kernel⟩,
   ⟨.d2, (by decide +kernel), _, rfl, _, rfl, _, rfl, _, rfl, _, rfl, [], by decide +kernel⟩,
   ⟨.d2, (by decide +kernel), _, rfl, _, rfl, _, rfl, _, rfl, _, rfl, [], by decide +kernel⟩,
   ⟨.d2, (by decide +kernel), _, rfl, _, rfl, _, rfl, _, rfl, _, rfl, [], (by decide +kernel), [], by decide +kernel⟩,
   ⟨.d2, (by decide +kernel), _, rfl, _, rfl, _, rfl, _, rfl, _, rfl, [], (by decide +kernel), _, rfl, by decide +kernel⟩,
   ⟨.d2, (by decide +kernel), _, rfl, _, rfl, _, rfl, _, rfl, _, rfl, [], (by decide +kernel), [], _, rfl, _, rfl, _, rfl, _, rfl,
      by decide +kernel⟩⟩

def lastCompareEndsCommit1 : State := { base with
  cat.table := [⟨⟨11205, 1⟩, .filing .q1, ⟨968152000, 5⟩, .link .l0, false, none, none, 0⟩]
  links.a2.resetCount := 0
  filings.a1 := some ⟨⟨11205, 1⟩, .l2, .verifying, 3, [1, 2], false, 150285, some ⟨1, 1, false, [7], [], ⟨.l2, 3, 0, 50⟩, 0, [], false, 210369⟩,
    some ⟨3907, .s1, 16, 3⟩⟩
  commitQueue := [.q1]
  filUse := some ⟨⟨3907, .s1⟩, .verify .d2, some .q1, ⟨967892800, 7⟩, false⟩
  driveChans.a2 := ⟨⟨.running, .slot .q1, some .ring, 2, 1, .markWritten⟩, [], some (List.replicate 1024 0x07#8), none⟩
  lib.drives.a2 := ⟨.busy, some ⟨some 3907, .s1⟩, some ⟨967979200, 7⟩, some 210379, true, false, [.filing], some (.read 16 3), 2, 685830, none, false⟩ }
def lastCompareEndsCommit2 : State := { base with
  filings.a1 := some ⟨⟨11200, 2⟩, .l0, .verifying, 3, [1], false, 0, some ⟨1, 0, false, [5], [], ⟨.l0, 3, 4, 0x32⟩, 1, [], true, 50⟩, some ⟨2655,
    .s1, 100, 3⟩⟩
  commitQueue := [.q1]
  filUse := some ⟨⟨2655, .s1⟩, .verify .d1, some .q1, ⟨0, 0⟩, false⟩
  lib.drives.a1 := ⟨.busy, some ⟨some 2655, .s1⟩, none, none, true, false, [.filing], some (.read 100 3), 2, 0, none, false⟩
  driveChans.a1 := ⟨⟨.running, .slot .q1, some .ring, 0, 1, .none⟩, [], some [1#8], none⟩ }

/-- The hypotheses of LastCompareEndsCommit are met, clause by clause. -/
theorem test_meets_LastCompareEndsCommit :
    (let s := lastCompareEndsCommit1; ∃ d : DriveNo, s.Quiet ∧ let k := s.lib.drives.get d; let h := s.driveChans.get d; ∃ u : FilUse, s.filUse =
      some u ∧ ∃ q : FSlot, u.slot = some q ∧ ∃ f : Filing, s.filings.get q = some f ∧ ∃ c : Commit, f.commit = some c ∧ ∃ e : Location, f.extent =
      some e ∧ ∃ b : List Byte, h.ringBlock = some b ∧ k.work = [.filing] ∧ k.cmd = some (.read e.start e.len) ∧ k.state = .busy ∧ u.stage = .verify
      d ∧ k.reported < e.len ∧ h.held = [] ∧ h.chan.remaining = 1 ∧ k.platter = some ⟨some u.side.platter, u.side.side⟩ ∧ s.demand? u.side = none ∧
      s.PickerRests ∧ s.commitQueue = [q] ∧ (s.links.get c.reply.link).resetCount = c.reply.gen ∧ s.cat.isFiling f.inst = true ∧ c.abandonPending =
      false) ∧
    (let s := lastCompareEndsCommit2; ∃ d : DriveNo, s.Quiet ∧ let k := s.lib.drives.get d; let h := s.driveChans.get d; ∃ u : FilUse, s.filUse =
      some u ∧ ∃ q : FSlot, u.slot = some q ∧ ∃ f : Filing, s.filings.get q = some f ∧ ∃ c : Commit, f.commit = some c ∧ ∃ e : Location, f.extent =
      some e ∧ ∃ b : List Byte, h.ringBlock = some b ∧ k.work = [.filing] ∧ k.cmd = some (.read e.start e.len) ∧ k.state = .busy ∧ u.stage = .verify
      d ∧ k.reported < e.len ∧ h.held = [] ∧ h.chan.remaining = 1 ∧ k.platter = some ⟨some u.side.platter, u.side.side⟩ ∧ s.demand? u.side = none ∧
      s.PickerRests ∧ s.commitQueue = [q] ∧ (s.links.get c.reply.link).resetCount = c.reply.gen ∧ s.cat.isFiling f.inst = true ∧ c.abandonPending =
      true) :=
  ⟨⟨.d2, (by decide +kernel), _, rfl, _, rfl, _, rfl, _, rfl, _, rfl, _, rfl, by decide +kernel⟩,
   ⟨.d1, (by decide +kernel), _, rfl, _, rfl, _, rfl, _, rfl, _, rfl, _, rfl, by decide +kernel⟩⟩

def abandonGivesUpSide1 : State := { base with
  cat.table := [⟨⟨11205, 10⟩, .filing .q3, ⟨968152000, 14⟩, .link .l2, false, none, none, 0⟩]
  links.a2.resetCount := 0
  filings.a3 := some ⟨⟨11205, 10⟩, .l2, .queued, 3, [1, 2], false, 626011, some ⟨1, 1, false, [7], [], ⟨.l2, 3, 0, 50⟩, 0, [], false, 626031⟩, none⟩
  commitQueue := [.q1]
  filUse := some ⟨⟨3907, .s1⟩, .demanded, some .q1, ⟨0, 0⟩, false⟩ }
def abandonGivesUpSide2 : State := { base with
  cat.table := [⟨⟨11205, 1⟩, .filing .q1, ⟨968152000, 5⟩, .link .l0, false, none, none, 0⟩]
  links.a2.resetCount := 0
  filings.a1 := some ⟨⟨11205, 1⟩, .l2, .queued, 3, [1, 2], false, 150285, some ⟨1, 1, false, [7], [], ⟨.l2, 3, 0, 50⟩, 0, [], false, 210369⟩, none⟩
  commitQueue := [.q1]
  filUse := some ⟨⟨3907, .s1⟩, .demanded, some .q1, ⟨0, 0⟩, false⟩ }
def abandonGivesUpSide3 : State := { base with
  cat.table := [⟨⟨11205, 4⟩, .filing .q4, ⟨968152000, 8⟩, .link .l0, false, none, none, 0⟩]
  links.a1.resetCount := 0
  filings.a4 := some ⟨⟨11205, 4⟩, .l1, .queued, 3, [1, 2], false, 1081753, some ⟨1, 1, false, [7], [], ⟨.l1, 3, 0, 50⟩, 0, [], false, 1101828⟩, none⟩
  commitQueue := [.q4]
  filUse := some ⟨⟨4127, .s1⟩, .listed .d2, some .q4, ⟨0, 0⟩, false⟩
  lib.drives.a2 := ⟨.busy, some ⟨some 4127, .s1⟩, some ⟨968152005, 8⟩, some 1747797, false, false, [.fill ⟨11205, 1⟩, .filing], some (.read 16 3), 0,
    1747797, none, false⟩ }
def abandonGivesUpSide4 : State := { base with
  cat.table := [⟨⟨11205, 1⟩, .filing .q1, ⟨968152000, 5⟩, .link .l0, false, none, none, 0⟩]
  links.a2.resetCount := 0
  filings.a1 := some ⟨⟨11205, 1⟩, .l2, .queued, 3, [1, 2], false, 150285, some ⟨1, 1, false, [7], [], ⟨.l2, 3, 0, 50⟩, 0, [], false, 210369⟩, none⟩
  commitQueue := [.q1]
  filUse := some ⟨⟨3907, .s1⟩, .check .d2, some .q1, ⟨0, 0⟩, false⟩ }

/-- The hypotheses of AbandonGivesUpSide are met, clause by clause. -/
theorem test_meets_AbandonGivesUpSide :
    (let s := abandonGivesUpSide1; ∃ l : Link, ∃ t : Nat, ∃ q : FSlot, ∃ f : Filing, s.filings.get q = some f ∧ ∃ c : Commit, f.commit = some c ∧
      (s.Takes l t (.abandon q.toNat) ∧ (f.owner = l ∨ s.rights.get l &&& 0x80#8 ≠ 0#8) ∧ (f.state = .queued ∨ f.state = .waitingMedia) ∧
      s.cat.isFiling f.inst = true ∧ (s.links.get c.reply.link).resetCount = c.reply.gen) ∧ ∃ h, h ∈ s.commitQueue.head?.toList ∧ ∃ g : Filing,
      s.filings.get h = some g ∧ h ≠ q ∧ ((∃ u, s.filUse = some u ∧ u.slot ≠ some q) ∨ (s.filUse = none ∧ g.state = .waitingMedia))) ∧
    (let s := abandonGivesUpSide2; ∃ l : Link, ∃ t : Nat, ∃ q : FSlot, ∃ f : Filing, s.filings.get q = some f ∧ ∃ c : Commit, f.commit = some c ∧
      (s.Takes l t (.abandon q.toNat) ∧ (f.owner = l ∨ s.rights.get l &&& 0x80#8 ≠ 0#8) ∧ (f.state = .queued ∨ f.state = .waitingMedia) ∧
      s.cat.isFiling f.inst = true ∧ (s.links.get c.reply.link).resetCount = c.reply.gen) ∧ ∃ u : FilUse, s.filUse = some u ∧ u.slot = some q ∧
      s.commitQueue = [q] ∧ u.stage = .demanded) ∧
    (let s := abandonGivesUpSide3; ∃ l : Link, ∃ t : Nat, ∃ q : FSlot, ∃ f : Filing, s.filings.get q = some f ∧ ∃ c : Commit, f.commit = some c ∧
      (s.Takes l t (.abandon q.toNat) ∧ (f.owner = l ∨ s.rights.get l &&& 0x80#8 ≠ 0#8) ∧ (f.state = .queued ∨ f.state = .waitingMedia) ∧
      s.cat.isFiling f.inst = true ∧ (s.links.get c.reply.link).resetCount = c.reply.gen) ∧ ∃ u : FilUse, s.filUse = some u ∧ (u.slot = some q ∧
      s.commitQueue = [q]) ∧ ∃ d : DriveNo, u.stage = .listed d ∧ (s.lib.drives.get d).state ≠ .ready ∧ (s.lib.drives.get d).work.erase .filing ≠ []) ∧
    (let s := abandonGivesUpSide4; ∃ l : Link, ∃ t : Nat, ∃ q : FSlot, ∃ f : Filing, s.filings.get q = some f ∧ ∃ c : Commit, f.commit = some c ∧
      (s.Takes l t (.abandon q.toNat) ∧ (f.owner = l ∨ s.rights.get l &&& 0x80#8 ≠ 0#8) ∧ (f.state = .queued ∨ f.state = .waitingMedia) ∧
      s.cat.isFiling f.inst = true ∧ (s.links.get c.reply.link).resetCount = c.reply.gen) ∧ ∃ u : FilUse, s.filUse = some u ∧ (u.slot = some q ∧
      s.commitQueue = [q]) ∧ (∃ d, u.stage = .check d ∨ u.stage = .headErase d ∨ u.stage = .headWrite d)) :=
  ⟨⟨.l0, 0, .q3, _, rfl, _, rfl, (by decide +kernel), _, List.mem_of_getElem? (i := 0) rfl, _, rfl, (by decide +kernel),
      (by first | exact .inl ⟨_, rfl, by decide +kernel⟩ | exact .inr (by decide +kernel))⟩,
   ⟨.l0, 0, .q1, _, rfl, _, rfl, (by decide +kernel), _, rfl, by decide +kernel⟩,
   ⟨.l0, 0, .q4, _, rfl, _, rfl, (by decide +kernel), _, rfl, (by decide +kernel), .d2, by decide +kernel⟩,
   ⟨.l0, 0, .q1, _, rfl, _, rfl, (by decide +kernel), _, rfl, (by decide +kernel),
      (by first | exact ⟨_, .inl rfl⟩ | exact ⟨_, .inr (.inl rfl)⟩ | exact ⟨_, .inr (.inr rfl)⟩)⟩⟩

/-! ## Hypotheses met: link resets, outbound channels and mounts -/

def linkResetEndsOperation1 : State := { base with
  ops := [⟨⟨.l2, 0, 0, 65⟩, true, .view, 17, .counter, 5, ⟨968152000, 5⟩, [⟨⟨11000, 8⟩, true, .all, some ⟨⟨11000, 8⟩, 0, ⟨5002, .s1, 16, 5⟩, ⟨1, 1⟩⟩,
    some (1, 2), none, some .mount, .delivering, 0, none⟩, ⟨⟨11000, 8⟩, false, .range 1 1, some ⟨⟨11000, 8⟩, 0, ⟨5002, .s1, 16, 5⟩, ⟨1, 1⟩⟩, some (1,
    1), none, some .mount, .pending, 0, none⟩], 1⟩]
  segments := [⟨⟨11000, 8⟩, 0, 5, 0, [⟨.l2, 0, 1⟩], some .d1, some ⟨.l2, 0, 1⟩, true⟩] }
def linkResetEndsOperation2 : State := { base with
  ops := [⟨⟨.l2, 0, 0, 65⟩, true, .view, 17, .counter, 5, ⟨968152000, 5⟩, [⟨⟨11000, 8⟩, true, .all, some ⟨⟨11000, 8⟩, 0, ⟨5002, .s1, 16, 5⟩, ⟨1, 1⟩⟩,
    some (1, 2), none, some .mount, .waitingMount, 0, none⟩, ⟨⟨11000, 8⟩, false, .range 1 1, some ⟨⟨11000, 8⟩, 0, ⟨5002, .s1, 16, 5⟩, ⟨1, 1⟩⟩,
    some (1, 1), none, some .mount, .pending, 0, none⟩], 1⟩]
  segments := [⟨⟨11000, 8⟩, 0, 5, 0, [⟨.l2, 0, 1⟩], none, some ⟨.l2, 0, 1⟩, false⟩] }

/-- The hypotheses of LinkResetEndsOperation are met, clause by clause. -/
theorem test_meets_LinkResetEndsOperation :
    (let s := linkResetEndsOperation1; ∃ l : Link, s.Quiet ∧ ∃ o : Op, o ∈ s.ops ∧ ∃ i : Item, o.items[o.current - 1]? = some i ∧ (o.reply.link = l ∧
      (s.links.get l).resetAsserted = false ∧ (∀ p ∈ s.ops, p.reply.link = l → p = o) ∧ 1 ≤ o.current ∧ i.hasEnded = false ∧ s.spaceFifo = [] ∧ (∀ h
      ∈ s.segments, ∀ u ∈ h.users, u.link = l → u = o.ref)) ∧ (∀ q ∈ s.lib.demands, ∀ w ∈ q.waiters, ∀ u ∈ w.item?, u.link = l → u = o.ref) ∧
      s.DemandsAwaited ∧ ∃ g : Segment, g ∈ s.segments ∧ o.ref ∈ g.users ∧ (∀ h ∈ s.segments, (o.ref ∈ h.users ∨ h.inst = g.inst) → h = g) ∧
      g.started = true ∧ s.NotWaiting o.ref) ∧
    (let s := linkResetEndsOperation2; ∃ l : Link, s.Quiet ∧ ∃ o : Op, o ∈ s.ops ∧ ∃ i : Item, o.items[o.current - 1]? = some i ∧ (o.reply.link = l ∧
      (s.links.get l).resetAsserted = false ∧ (∀ p ∈ s.ops, p.reply.link = l → p = o) ∧ 1 ≤ o.current ∧ i.hasEnded = false ∧ s.spaceFifo = [] ∧ (∀ h
      ∈ s.segments, ∀ u ∈ h.users, u.link = l → u = o.ref)) ∧ (∀ q ∈ s.lib.demands, ∀ w ∈ q.waiters, ∀ u ∈ w.item?, u.link = l → u = o.ref) ∧
      s.DemandsAwaited ∧ ∃ g : Segment, g ∈ s.segments ∧ s.Unstarted g o.ref) :=
  ⟨⟨.l2, (by decide +kernel), _, List.mem_of_getElem? (i := 0) rfl, _, rfl, (by decide +kernel), (by intro q hq; exact (List.not_mem_nil hq).elim),
      (by decide +kernel), _, List.mem_of_getElem? (i := 0) rfl, by decide +kernel⟩,
   ⟨.l2, (by decide +kernel), _, List.mem_of_getElem? (i := 0) rfl, _, rfl, (by decide +kernel), (by intro q hq; exact (List.not_mem_nil hq).elim),
      (by decide +kernel), _, List.mem_of_getElem? (i := 0) rfl, by decide +kernel⟩⟩

def outboundChannelDelivers1 : State := { base with
  ops := [⟨⟨.l2, 0, 0, 65⟩, true, .view, 17, .counter, 5, ⟨968152000, 5⟩, [⟨⟨11000, 8⟩, true, .all, some ⟨⟨11000, 8⟩, 0, ⟨5002, .s1, 16, 5⟩, ⟨1, 1⟩⟩,
    some (1, 2), none, some .mount, .delivering, 0, none⟩, ⟨⟨11000, 8⟩, false, .range 1 1, some ⟨⟨11000, 8⟩, 0, ⟨5002, .s1, 16, 5⟩, ⟨1, 1⟩⟩, some (1,
    1), none, some .mount, .pending, 0, none⟩], 1⟩]
  mem := [(4194305, 0x02#8), (4194307, 0x01#8), (4194309, 0x02#8)]
  segments := [⟨⟨11000, 8⟩, 0, 5, 1, [⟨.l2, 0, 1⟩], some .d1, some ⟨.l2, 0, 1⟩, true⟩]
  outChans.a2 := ⟨⟨.running, .item ⟨.l2, 0, 1⟩, some .sequential, 4096, 0, .endItem⟩, none, none, 0, 0⟩ }
def outboundChannelDelivers2 : State := { base with
  links.a0.resetCount := 0
  ops := [⟨⟨.l0, 1, 0, 64⟩, false, .view, 17, .counter, 105197, ⟨968152000, 5⟩, [⟨⟨11000, 6⟩, true, .all, some ⟨⟨11000, 6⟩, 0, ⟨4127, .s0, 16, 5⟩,
    ⟨1, 1⟩⟩, some (1, 2), none, some .staged, .delivering, 0, none⟩], 1⟩]
  segments := [⟨⟨11000, 6⟩, 0, 5, 5, [⟨.l0, 1, 1⟩], none, some ⟨.l0, 0, 1⟩, true⟩]
  outChans.a0 := ⟨⟨.running, .item ⟨.l0, 1, 1⟩, some .sequential, 4096, 0, .endItem⟩, none, none, 0, 0⟩ }
def outboundChannelDelivers3 : State := { base with
  ops := [⟨⟨.l2, 0, 0, 64⟩, false, .copy, 17, .bulk, 95082, ⟨968162232, 999⟩, [⟨⟨11000, 5⟩, false, .all, some ⟨⟨11000, 5⟩, 0, ⟨3907, .s0, 16, 5⟩, ⟨1,
    1⟩⟩, some (1, 2), some ⟨800, 1, 1, false, false⟩, some .mount, .delivering, 0, none⟩], 1⟩]
  segments := [⟨⟨11000, 5⟩, 0, 5, 2, [⟨.l2, 0, 1⟩], some .d1, some ⟨.l2, 0, 1⟩, true⟩]
  outChans.a2 := ⟨⟨.running, .item ⟨.l2, 0, 1⟩, some .sequential, 4097, 4, .endItem⟩, some [1, 2], none, 0, 0⟩ }
def outboundChannelDelivers4 : State := { base with
  ops := [⟨⟨.l2, 0, 0, 65⟩, true, .view, 17, .counter, 5, ⟨968152000, 5⟩, [⟨⟨11000, 8⟩, true, .all, some ⟨⟨11000, 8⟩, 0, ⟨5002, .s1, 16, 5⟩, ⟨1, 1⟩⟩,
    some (1, 2), none, some .mount, .delivering, 3, none⟩, ⟨⟨11000, 8⟩, false, .range 1 1, some ⟨⟨11000, 8⟩, 0, ⟨5002, .s1, 16, 5⟩, ⟨1, 1⟩⟩, some (1,
    1), none, some .mount, .pending, 0, none⟩], 1⟩]
  segments := [⟨⟨11000, 8⟩, 0, 5, 5, [⟨.l2, 0, 1⟩], none, some ⟨.l2, 0, 1⟩, true⟩]
  outChans.a2 := ⟨⟨.running, .item ⟨.l2, 0, 1⟩, some .sequential, 4100, 1, .endItem⟩, some [1, 2], none, 4, 65082⟩ }
def outboundChannelDelivers5 : State := { base with
  links.a1.resetCount := 0
  ops := [⟨⟨.l1, 1, 0, 64⟩, false, .view, 17, .bulk, 5, ⟨968152000, 5⟩, [⟨⟨11000, 8⟩, true, .all, some ⟨⟨11000, 8⟩, 0, ⟨5002, .s1, 16, 5⟩, ⟨1, 1⟩⟩,
    some (1, 2), none, some .mount, .delivering, 1, none⟩], 1⟩]
  segments := [⟨⟨11000, 8⟩, 0, 5, 5, [⟨.l1, 1, 1⟩], none, some ⟨.l1, 1, 1⟩, true⟩]
  outChans.a1 := ⟨⟨.running, .item ⟨.l1, 1, 1⟩, some .sequential, 4098, 3, .endItem⟩, some [1, 2], none, 0, 40051⟩ }

/-- The hypotheses of OutboundChannelDelivers are met, clause by clause. -/
theorem test_meets_OutboundChannelDelivers :
    (let s := outboundChannelDelivers1; ∃ l : Link, s.Quiet ∧ let c := s.outChans.get l; ∃ o : Op, o ∈ s.ops ∧ ∃ i : Item, o.items[o.current - 1]? =
      some i ∧ ∃ g : Segment, g ∈ s.segments ∧ ∃ v : Resolved, i.resolved = some v ∧ ((∀ d ∈ DriveNo.all, s.driveWants d = false) ∧ (∀ k ∈ Link.all,
      (s.inChans.get k).store = none) ∧ Link.all.find? s.outWants = some l ∧ (∀ k ∈ Link.all, (s.links.get k).lane = []) ∧ c.chan.op = .item o.ref ∧
      o.reply.link = l ∧ (∀ p ∈ s.ops, p.reply.link = l → p = o) ∧ 1 ≤ o.current ∧ o.ref ∈ g.users ∧ (∀ h ∈ s.segments, (o.ref ∈ h.users ∨ h.inst =
      g.inst) → h = g) ∧ c.offsets = none) ∧ let map := Memory.readBlock s.mem (4096 + g.first); ∃ (a : Nat) (z : Nat), i.range = some (a, z) ∧ mapOk
      map (v.pages.small + v.pages.plan) g.len = true) ∧
    (let s := outboundChannelDelivers2; ∃ l : Link, s.Quiet ∧ let c := s.outChans.get l; ∃ o : Op, o ∈ s.ops ∧ ∃ i : Item, o.items[o.current - 1]? =
      some i ∧ ∃ g : Segment, g ∈ s.segments ∧ ∃ v : Resolved, i.resolved = some v ∧ ((∀ d ∈ DriveNo.all, s.driveWants d = false) ∧ (∀ k ∈ Link.all,
      (s.inChans.get k).store = none) ∧ Link.all.find? s.outWants = some l ∧ (∀ k ∈ Link.all, (s.links.get k).lane = []) ∧ c.chan.op = .item o.ref ∧
      o.reply.link = l ∧ (∀ p ∈ s.ops, p.reply.link = l → p = o) ∧ 1 ≤ o.current ∧ o.ref ∈ g.users ∧ (∀ h ∈ s.segments, (o.ref ∈ h.users ∨ h.inst =
      g.inst) → h = g) ∧ c.offsets = none) ∧ let map := Memory.readBlock s.mem (4096 + g.first); mapOk map (v.pages.small + v.pages.plan) g.len =
      false ∧ i.range.isSome = true ∧ s.AtLastItem o i ∧ s.NotWaiting o.ref ∧ s.spaceFifo = [] ∧ g.started = true) ∧
    (let s := outboundChannelDelivers3; ∃ l : Link, s.Quiet ∧ let c := s.outChans.get l; ∃ o : Op, o ∈ s.ops ∧ ∃ i : Item, o.items[o.current - 1]? =
      some i ∧ ∃ g : Segment, g ∈ s.segments ∧ ∃ v : Resolved, i.resolved = some v ∧ ((∀ d ∈ DriveNo.all, s.driveWants d = false) ∧ (∀ k ∈ Link.all,
      (s.inChans.get k).store = none) ∧ Link.all.find? s.outWants = some l ∧ (∀ k ∈ Link.all, (s.links.get k).lane = []) ∧ c.chan.op = .item o.ref ∧
      o.reply.link = l ∧ (∀ p ∈ s.ops, p.reply.link = l → p = o) ∧ 1 ≤ o.current ∧ o.ref ∈ g.users ∧ (∀ h ∈ s.segments, (o.ref ∈ h.users ∨ h.inst =
      g.inst) → h = g)) ∧ ∃ offs : List Nat, c.offsets = some offs ∧ c.ahead = 0 ∧ (s.links.get l).out = none) ∧
    (let s := outboundChannelDelivers4; ∃ l : Link, s.Quiet ∧ let c := s.outChans.get l; ∃ o : Op, o ∈ s.ops ∧ ∃ i : Item, o.items[o.current - 1]? =
      some i ∧ ∃ g : Segment, g ∈ s.segments ∧ ∃ v : Resolved, i.resolved = some v ∧ ((∀ d ∈ DriveNo.all, s.driveWants d = false) ∧ (∀ k ∈ Link.all,
      (s.inChans.get k).store = none) ∧ Link.all.find? s.outWants = some l ∧ (∀ k ∈ Link.all, (s.links.get k).lane = []) ∧ c.chan.op = .item o.ref ∧
      o.reply.link = l ∧ (∀ p ∈ s.ops, p.reply.link = l → p = o) ∧ 1 ≤ o.current ∧ o.ref ∈ g.users ∧ (∀ h ∈ s.segments, (o.ref ∈ h.users ∨ h.inst =
      g.inst) → h = g)) ∧ ∃ offs : List Nat, c.offsets = some offs ∧ (c.ahead ≠ 0 ∨ (s.links.get l).out ≠ none)) ∧
    (let s := outboundChannelDelivers5; ∃ l : Link, s.Quiet ∧ let c := s.outChans.get l; ∃ o : Op, o ∈ s.ops ∧ ∃ i : Item, o.items[o.current - 1]? =
      some i ∧ ∃ g : Segment, g ∈ s.segments ∧ ∃ v : Resolved, i.resolved = some v ∧ (∀ d ∈ DriveNo.all, s.driveWants d = false) ∧ (∀ k ∈ Link.all,
      (s.inChans.get k).store = none) ∧ Link.all.find? s.outWants = some l ∧ (∀ k ∈ Link.all, (s.links.get k).lane = []) ∧ c.chan.op = .item o.ref ∧
      o.reply.link = l ∧ (∀ p ∈ s.ops, p.reply.link = l → p = o) ∧ 1 ≤ o.current ∧ o.ref ∈ g.users ∧ (∀ h ∈ s.segments, (o.ref ∈ h.users ∨ h.inst =
      g.inst) → h = g) ∧ g.users = [o.ref] ∧ g.fill = none ∧ g.started = true ∧ g.len ≤ g.staged ∧ s.AtLastItem o i ∧ s.NotWaiting o.ref ∧
      s.spaceFifo = []) :=
  ⟨⟨.l2, (by decide +kernel), _, List.mem_of_getElem? (i := 0) rfl, _, rfl, _, List.mem_of_getElem? (i := 0) rfl, _, rfl, (by decide +kernel), _, _,
      rfl, by decide +kernel⟩,
   ⟨.l0, (by decide +kernel), _, List.mem_of_getElem? (i := 0) rfl, _, rfl, _, List.mem_of_getElem? (i := 0) rfl, _, rfl, (by decide +kernel),
      by decide +kernel⟩,
   ⟨.l2, (by decide +kernel), _, List.mem_of_getElem? (i := 0) rfl, _, rfl, _, List.mem_of_getElem? (i := 0) rfl, _, rfl, (by decide +kernel), _,
      rfl, by decide +kernel⟩,
   ⟨.l2, (by decide +kernel), _, List.mem_of_getElem? (i := 0) rfl, _, rfl, _, List.mem_of_getElem? (i := 0) rfl, _, rfl, (by decide +kernel), _,
      rfl, by decide +kernel⟩,
   ⟨.l1, (by decide +kernel), _, List.mem_of_getElem? (i := 0) rfl, _, rfl, _, List.mem_of_getElem? (i := 0) rfl, _, rfl, by decide +kernel⟩⟩

def stagedBlockWakesChannel1 : State := { base with
  segments := [⟨⟨11000, 8⟩, 0, 5, 0, [⟨.l2, 0, 1⟩], none, some ⟨.l2, 0, 1⟩, false⟩]
  driveChans.a1 := ⟨⟨.running, .item ⟨.l2, 0, 1⟩, some .sequential, 4096, 5, .none⟩, [[0x00#8, 0x02#8, 0x00#8, 0x01#8, 0x00#8,
    0x02#8] ++ List.replicate 1018 0x00#8], none, none⟩
  outChans.a2 := ⟨⟨.waiting, .item ⟨.l2, 0, 1⟩, some .sequential, 4096, 0, .endItem⟩, none, none, 0, 0⟩
  lib.drives.a1 := ⟨.busy, some ⟨some 5002, .s1⟩, some ⟨968152000, 5⟩, some 13, false, false, [.fill ⟨11000, 8⟩], some (.read 16 5), 1, 22, none,
    false⟩ }
def stagedBlockWakesChannel2 : State := { base with
  segments := [⟨⟨11000, 8⟩, 0, 5, 4, [⟨.l2, 0, 1⟩], some .d1, some ⟨.l2, 0, 1⟩, true⟩]
  driveChans.a1 := ⟨⟨.running, .item ⟨.l2, 0, 1⟩, some .sequential, 4100, 1, .none⟩, [List.replicate 1024 0x07#8], none, none⟩
  lib.drives.a1 := ⟨.busy, some ⟨some 5002, .s1⟩, some ⟨968152000, 5⟩, some 13, false, false, [.fill ⟨11000, 8⟩], some (.read 16 5), 5, 25054, none,
    false⟩ }
def stagedBlockWakesChannel3 : State := { base with
  segments := [⟨⟨11000, 6⟩, 5, 5, 4, [⟨.l1, 0, 1⟩], some .d2, some ⟨.l1, 0, 1⟩, true⟩]
  driveChans.a2 := ⟨⟨.running, .item ⟨.l1, 0, 1⟩, some .sequential, 4105, 1, .none⟩, [List.replicate 1024 0x07#8], none, none⟩
  lib.drives.a2 := ⟨.ready, some ⟨some 4127, .s0⟩, some ⟨968152000, 5⟩, some 90067, false, false, [.fill ⟨11000, 6⟩], none, 0, 130131, none, false⟩ }
def stagedBlockWakesChannel4 : State := { base with
  segments := [⟨⟨11000, 8⟩, 0, 5, 5, [⟨.l2, 0, 1⟩], none, some ⟨.l2, 0, 1⟩, true⟩]
  lib.drives.a1 := ⟨.busy, some ⟨some 5002, .s1⟩, some ⟨968152000, 5⟩, some 13, false, false, [.fill ⟨11000, 8⟩], some (.read 16 5), 5, 25054, none,
    false⟩ }

/-- The hypotheses of StagedBlockWakesChannel are met, clause by clause. -/
theorem test_meets_StagedBlockWakesChannel :
    (let s := stagedBlockWakesChannel1; ∃ d : DriveNo, s.Quiet ∧ let k := s.lib.drives.get d; let c := s.driveChans.get d; ∃ g : Segment, g ∈
      s.segments ∧ (k.work = [.fill g.inst] ∧ (∀ h ∈ s.segments, h.inst = g.inst → h = g)) ∧ ∃ (b : List Byte) (held : List (List Byte)), c.held = b
      :: held ∧ (DriveNo.all.find? s.driveWants = some d ∧ (∀ k ∈ Link.all, (s.links.get k).lane = [])) ∧ ∃ l : Link, ∃ r : ItemRef, r ∈ g.users ∧
      let o := s.outChans.get l; r.link = l ∧ o.chan.op = .item r ∧ o.chan.state = .waiting ∧ (∀ u ∈ g.users, u.link ≠ l → (s.outChans.get
      u.link).chan.state ≠ .waiting) ∧ 1 < c.chan.remaining ∧ g.staged + 1 < g.len ∧ o.chan.next = 4096 + (g.first + g.staged)) ∧
    (let s := stagedBlockWakesChannel2; ∃ d : DriveNo, s.Quiet ∧ let k := s.lib.drives.get d; let c := s.driveChans.get d; ∃ g : Segment, g ∈
      s.segments ∧ (k.work = [.fill g.inst] ∧ (∀ h ∈ s.segments, h.inst = g.inst → h = g)) ∧ ∃ (b : List Byte) (held : List (List Byte)), c.held = b
      :: held ∧ DriveNo.all.find? s.driveWants = some d ∧ (∀ k ∈ Link.all, (s.links.get k).lane = []) ∧ (∀ u ∈ g.users, (s.outChans.get
      u.link).chan.state ≠ .waiting) ∧ c.chan.remaining = 1 ∧ g.staged + 1 = g.len ∧ g.users ≠ [] ∧ k.cmd ≠ none) ∧
    (let s := stagedBlockWakesChannel3; ∃ d : DriveNo, s.Quiet ∧ let k := s.lib.drives.get d; let c := s.driveChans.get d; ∃ g : Segment, g ∈
      s.segments ∧ (k.work = [.fill g.inst] ∧ (∀ h ∈ s.segments, h.inst = g.inst → h = g)) ∧ ∃ (b : List Byte) (held : List (List Byte)), c.held = b
      :: held ∧ DriveNo.all.find? s.driveWants = some d ∧ (∀ k ∈ Link.all, (s.links.get k).lane = []) ∧ (∀ u ∈ g.users, (s.outChans.get
      u.link).chan.state ≠ .waiting) ∧ c.chan.remaining = 1 ∧ g.staged + 1 = g.len ∧ g.users ≠ [] ∧ k.cmd = none ∧ s.PickerRests) ∧
    (let s := stagedBlockWakesChannel4; ∃ d : DriveNo, s.Quiet ∧ let k := s.lib.drives.get d; let c := s.driveChans.get d; ∃ g : Segment, g ∈
      s.segments ∧ (k.work = [.fill g.inst] ∧ (∀ h ∈ s.segments, h.inst = g.inst → h = g)) ∧ ∃ (a : Nat) (n : Nat), k.cmd = some (.read a n) ∧
      k.staleDone = false ∧ n ≤ k.reported ∧ c.chan.remaining = 0 ∧ s.PickerRests) :=
  ⟨⟨.d1, (by decide +kernel), _, List.mem_of_getElem? (i := 0) rfl, (by decide +kernel), _, _, rfl, (by decide +kernel), .l2, _,
      List.mem_of_getElem? (i := 0) rfl, by decide +kernel⟩,
   ⟨.d1, (by decide +kernel), _, List.mem_of_getElem? (i := 0) rfl, (by decide +kernel), _, _, rfl, by decide +kernel⟩,
   ⟨.d2, (by decide +kernel), _, List.mem_of_getElem? (i := 0) rfl, (by decide +kernel), _, _, rfl, by decide +kernel⟩,
   ⟨.d1, (by decide +kernel), _, List.mem_of_getElem? (i := 0) rfl, (by decide +kernel), _, _, rfl, by decide +kernel⟩⟩

def fetchMountsPlatter1 : State := { base with
  lib.picker := ⟨.moving, some 2655, some ⟨.slot 1, some .mail, false⟩, some 1, some (.exportMove ⟨.l2, 1, 0, 81⟩ 2655)⟩ }
def fetchMountsPlatter2 : State := { base with
  cat.table := [⟨⟨11000, 6⟩, .recorded ⟨4127, .s0, 16, 5⟩ ⟨1, 1⟩, ⟨950400200, 0⟩, .line .q1, false, none, none, 0⟩] }

/-- The hypotheses of FetchMountsPlatter are met, clause by clause. -/
theorem test_meets_FetchMountsPlatter :
    (let s := fetchMountsPlatter1; ∃ l : Link, ∃ t : Nat, ∃ e : Entry, e ∈ s.cat.table ∧ ∃ (loc : Location) (pages : Pages), e.state = .recorded loc
      pages ∧ ∃ m : Nat, ∃ cl : Nat, ∃ p : Platter, s.platter? loc.platter = some p ∧ ∃ n : Nat, p.loc = .slot n ∧ let req : FetchParams :=
      { item := { inst := e.num, mode := m, selKind := 1, first := 0, last := 0 }, purpose := 1, account := 0, cls := cl }; s.Takes l t (.fetch req)
      ∧ (m = 1 ∨ m = 2) ∧ (cl = 1 ∨ cl = 2) ∧ e.num.seq ≠ 0 ∧ s.cat.entry? e.num = some e ∧ e.successor = none ∧ e.restricted = false ∧ 1 ≤
      pages.small + pages.plan ∧ s.cat.canonId loc.platter = loc.platter ∧ s.segments = [] ∧ s.spaceFifo = [] ∧ loc.len ≤ 4096 ∧ (∀ o ∈ s.ops,
      ¬(o.reply.link = l ∧ o.reply.tag = t)) ∧ s.demand? ⟨loc.platter, loc.side⟩ = none ∧ (∀ d ∈ DriveNo.all, (s.lib.drives.get d).platter ≠ some
      ⟨some loc.platter, loc.side⟩) ∧ s.lib.picker.state ≠ .jammed ∧ s.lib.picker.state ≠ .idle) ∧
    (let s := fetchMountsPlatter2; ∃ l : Link, ∃ t : Nat, ∃ e : Entry, e ∈ s.cat.table ∧ ∃ (loc : Location) (pages : Pages), e.state = .recorded loc
      pages ∧ ∃ m : Nat, ∃ cl : Nat, ∃ p : Platter, s.platter? loc.platter = some p ∧ ∃ n : Nat, p.loc = .slot n ∧ let req : FetchParams :=
      { item := { inst := e.num, mode := m, selKind := 1, first := 0, last := 0 }, purpose := 1, account := 0, cls := cl }; (s.Takes l t (.fetch req)
      ∧ (m = 1 ∨ m = 2) ∧ (cl = 1 ∨ cl = 2) ∧ e.num.seq ≠ 0 ∧ s.cat.entry? e.num = some e ∧ e.successor = none ∧ e.restricted = false ∧ 1 ≤
      pages.small + pages.plan ∧ s.cat.canonId loc.platter = loc.platter ∧ s.segments = [] ∧ s.spaceFifo = [] ∧ loc.len ≤ 4096 ∧ (∀ o ∈ s.ops,
      ¬(o.reply.link = l ∧ o.reply.tag = t)) ∧ s.demand? ⟨loc.platter, loc.side⟩ = none ∧ (∀ d ∈ DriveNo.all, (s.lib.drives.get d).platter ≠ some
      ⟨some loc.platter, loc.side⟩) ∧ s.lib.picker.state ≠ .jammed) ∧ ∃ d : DriveNo, s.lib.picker.state = .idle ∧ s.lib.doorOpen = false ∧
      s.lib.sweep.running = false ∧ s.lib.returns = [] ∧ s.lib.media = [] ∧ (∀ q ∈ s.lib.demands, q.mounting ≠ none) ∧ DriveNo.all.find? (fun d =>
      decide ((s.lib.drives.get d).state = .empty)) = some d ∧ (s.lib.drives.get d).platter = none) :=
  ⟨⟨.l0, 0, _, List.mem_of_getElem? (i := 2) rfl, _, _, rfl, 1, 1, _, rfl, _, rfl, by decide +kernel⟩,
   ⟨.l0, 0, _, List.mem_of_getElem? (i := 0) rfl, _, _, rfl, 1, 1, _, rfl, _, rfl, (by decide +kernel), .d3, by decide +kernel⟩⟩

/-! ## What every step keeps, at one state -/

def kept : State := { base with pending := [.clockAdvance, .strayByte .l0], mem := mapCells }

theorem test_meets_StepRunsFrontCommand : kept.pending = .clockAdvance :: [.strayByte .l0] ∧ State.reset.pending = [] := ⟨rfl, rfl⟩

theorem test_meets_MemoryFormKept : kept.MemoryOk ∧ ∃ t, step kept = .next t :=
  ⟨by unfold State.MemoryOk; decide +kernel, _, rfl⟩

theorem test_meets_SomeAdminKept : kept.AdminOk ∧ ∃ t, step kept = .next t := by
  refine ⟨⟨by decide +kernel, ?_, ?_⟩, _, rfl⟩
  · intro r h; cases h; decide
  · intro r y h; cases h

theorem test_meets_ClockRangesKept : (kept.ClockOk ∧ kept.PendingOk) ∧ ∃ t, step kept = .next t := by
  refine ⟨⟨⟨by decide +kernel, by decide +kernel, by decide +kernel, (by decide +kernel), by decide +kernel, by decide +kernel, by decide +kernel, ?_, ?_⟩,
    by decide +kernel, ?_⟩, _, rfl⟩
  · intro r h; cases h; decide
  · intro r y h; cases h
  · intro l; cases l <;> decide +kernel

theorem test_meets_QueuesAndAttentionKept : kept.LinesOk ∧ kept.AttentionOk ∧ ∃ t, step kept = .next t := by
  refine ⟨fun q => ?_, fun l => ?_, _, rfl⟩
  · cases q <;> decide +kernel
  · cases l <;> exact ⟨by decide +kernel, by decide +kernel⟩

theorem test_meets_TablesKept : (kept.CatHas CatMem.Ordered ∧ kept.CatHas CatMem.Fits) ∧ ∃ t, step kept = .next t := by
  refine ⟨⟨⟨?_, ?_⟩, ⟨?_, ?_⟩⟩, _, rfl⟩
  · unfold CatMem.Ordered; decide +kernel
  · intro m h; cases h
  · unfold CatMem.Fits; decide +kernel
  · intro m h; cases h

theorem test_meets_ListsOfMemoryKept : (kept.FoliosFit ∧ kept.CatHas CatMem.RecordsOrdered) ∧ ∃ t, step kept = .next t := by
  refine ⟨⟨⟨⟨?_, ?_⟩, ?_, by decide +kernel, by decide +kernel, ?_⟩, ⟨⟨by decide +kernel, ?_⟩, ?_⟩⟩, _, rfl⟩
  · unfold CatMem.FoliosOrdered; decide +kernel
  · intro m h; cases h
  · intro q; cases q <;> decide +kernel
  all_goals intro m h; cases h

theorem test_meets_LibraryMapFitsKept : kept.PlattersFit ∧ ∃ t, step kept = .next t :=
  ⟨⟨⟨by decide +kernel, fun m h => by cases h⟩, fun _ _ _ => by decide +kernel⟩, _, rfl⟩

theorem test_meets_OneOpenSideKept : (kept.OneSideOpen ∧ kept.cat.openSides = 1) ∧ ∃ t, step kept = .next t := by
  refine ⟨⟨⟨rfl, ⟨by decide +kernel, ?_⟩, ?_, ?_⟩, by decide +kernel⟩, _, rfl⟩
  · intro m h; cases h
  · intro u h; cases h
  · intro q f h hw; cases q <;> cases h <;> cases hw

theorem test_meets_LiveBlocksOwnedKept : kept.RingOwned ∧ ∃ t, step kept = .next t :=
  ⟨by unfold State.RingOwned; decide +kernel, _, rfl⟩

/-! ## Ill-formed commands are refused, one for each check -/

theorem test_wellFormed_taken : (Instr.fetch .l0 3 p62).wellFormed = true ∧ (Instr.restore .l0 0 rp).wellFormed = true ∧
    (Instr.commit .l0 0 cp).wellFormed = true ∧ (Instr.bundle .l0 0 p64).wellFormed = true ∧ (Instr.feed .l0 0 1 1 blk).wellFormed = true ∧
    (Instr.scheduleSetPending .l0 0 (some sched)).wellFormed = true ∧ (Instr.clockStep .l0 0 (-2147483648)).wellFormed = true := by
  decide +kernel

theorem test_illFormed_bytes : (Instr.lodge .l0 256).wellFormed = false ∧ (Instr.feed .l0 0 256 0 blk).wellFormed = false ∧
    (Instr.badFrame .l0 ⟨some 256, 0⟩).wellFormed = false ∧ (Instr.badFrame .l0 ⟨none, 256⟩).wellFormed = false ∧
    (Instr.closeTargetSet .l0 0 0 256 0).wellFormed = false ∧ (Instr.settingsSet .l0 0 1 ⟨0, 0, 256, 0⟩).wellFormed = false ∧
    (Instr.rightsSet .l0 0 0 256).wellFormed = false ∧ (Instr.pendingList .l0 0 ⟨256, 0⟩).wellFormed = false := by decide +kernel

theorem test_illFormed_halves : (Instr.lookup .l0 0 ⟨65536, 1⟩).wellFormed = false ∧ (Instr.withdraw .l0 0 ⟨1, 65536⟩).wellFormed = false ∧
    (Instr.clockLoad .l0 0 ⟨0, 65536⟩).wellFormed = false ∧ (Instr.exportPlatter .l0 0 65536).wellFormed = false ∧
    (Instr.accountRead .l0 0 ⟨1, 65536⟩).wellFormed = false ∧ (Instr.eventsAck .l0 0 65536).wellFormed = false ∧
    (Instr.pickerLabelReport (.label 65536)).wellFormed = false := by decide +kernel

theorem test_illFormed_words : (Instr.clockLoad .l0 0 ⟨4294967296, 0⟩).wellFormed = false ∧
    (Instr.folioSearch .l0 0 4294967296 ⟨0, 0⟩ 1).wellFormed = false ∧ (Instr.openFiling .l0 0 ⟨1, 4294967296⟩).wellFormed = false ∧
    (Instr.clockStep .l0 0 2147483648).wellFormed = false ∧ (Instr.clockTrimBase .l0 0 (-32769)).wellFormed = false := by decide +kernel

theorem test_illFormed_blocks : (Instr.feed .l0 0 1 0 [0#8]).wellFormed = false ∧ (Instr.driveBlockReport .d1 (.data [0#8])).wellFormed = false := by
  decide +kernel

theorem test_illFormed_lists : (Instr.restore .l0 0 { rp with folios := [] }).wellFormed = false ∧ (Instr.restore .l0 0 long).wellFormed = false ∧
    (Instr.commit .l0 0 { cp with words := [] }).wellFormed = false ∧ (Instr.bundle .l0 0 { p64 with items := [] }).wellFormed = false ∧
    (Instr.bundle .l0 0 { p64 with items := [ip ⟨1, 1⟩ 256] }).wellFormed = false ∧
    (Instr.powerFail (.complete (.restore long))).wellFormed = false ∧ (Instr.powerFail (.complete (.accrue .l0 4))).wellFormed = false := by
  decide +kernel

theorem test_illFormed_records : (Instr.fetch .l0 0 { p62 with account := 65536 }).wellFormed = false ∧
    (Instr.scheduleSetPending .l0 0 (some { sched with t := 256 })).wellFormed = false ∧
    (Instr.accountSetCreate .l0 0 ⟨65536, 1, 0⟩).wellFormed = false := by decide +kernel

theorem test_illFormed_forms : (Instr.clockTrimEnd .l0 0 1).wellFormed = false ∧ (Instr.clockTrimEnd .l0 0 2).wellFormed = false ∧
    (Instr.scheduleSetShow .l0 0 3 none).wellFormed = false ∧ (Instr.accountSetDelete .l0 0 3 (ap 1 1 0)).wellFormed = false := by
  decide +kernel

/-! ## Words, codes and frames -/

theorem test_no_word_spells_a_command (n w : Nat) (s : State) : decodeTableWord n w = none ∧ s.withFetchWord n w = s := ⟨rfl, rfl⟩

theorem test_status_codes : Status.code .done = 0 ∧ Status.code .lastAdmin = 58 := by decide +kernel

/-- 10, Table 10-1: length, tag, code, parameters, and the frame check of a LODGE, which has no parameters. -/
theorem test_lodge_frame_read : readFrame (Request.lodge.frame 2) = .request 2 .lodge := by decide +kernel

/-! ## The machine right after reset -/

/-- Reset is what a power-on makes of a machine whose memories hold nothing (R23, R30, R36, R157, R159), but for the counter of the free
values. -/
theorem test_reset_is_power_on_of_fresh_machine : ∃ t,
    exec (.powerOn { settings := .kept, batteryLost := false, memory := .kept, doorOpen := false, gripperHolds := false, drives := Six.const .noPlatter })
      { State.reset with power := .off, startEvents := [] } = .next t ∧ { t with freeCtr := 0 } = State.reset :=
  ⟨_, rfl, rfl⟩

theorem test_step_takes_front : step { base with pending := [.strayByte .l0, .linksStart] } = exec (.strayByte .l0) { base with pending := [.linksStart] } :=
  rfl

/-! ## Hypotheses met: settings writes, whole records, and a return-home whose drive is FAULT -/

def blank : State := { oneAdmin with settings := { base.settings with stored := none } }
def silent : State := { oneAdmin with settings := { base.settings with answered := false } }
def waitsFor (c : SettingsChange) (s : State) : State := { s with
  settings := { s.settings with writing := writing.settings.writing, waiting := [⟨c, ⟨.l1, 3, 4, 0x70⟩⟩, ⟨.inForce, ⟨.l2, 1, 4, 0x24⟩⟩] } }

/-- The hypotheses of the clauses of RightsSetKeepsAnAdmin and of CLOCK_TRIM's BASE on the record written are met: a record stored, a blank
memory, one that did not answer, and a write that runs. -/
theorem test_meets_settingsRecords :
    (oneAdmin.settings.answered = true ∧ oneAdmin.settings.stored.isSome = true ∧ oneAdmin.Takes .l0 0 (.clockTrim (.base (-200)))) ∧
    (blank.Takes .l0 0 (.rightsSet 2 0) ∧ blank.Takes .l0 0 (.clockTrim (.base 7)) ∧ blank.settings.writing = none ∧ blank.settings.waiting = [] ∧
      blank.settings.stored = none) ∧
    (silent.Takes .l0 0 (.rightsSet 2 0) ∧ silent.Takes .l0 0 (.clockTrim (.base 7)) ∧ silent.settings.writing = none ∧ silent.settings.waiting = [] ∧
      silent.settings.answered = false ∧ silent.settings.stored.isSome = true) ∧
    (writing.Takes .l0 0 (.clockTrim (.base 200)) ∧ writing.Takes .l0 0 (.settingsSet 1 ⟨0, 1, 0, 1⟩) ∧ writing.settings.writing ≠ none) := by
  decide +kernel

/-- The hypotheses of the clauses of SettingsRecordWritten on waiting writes are met, with the write's end good and bad, a memory that answered
and one that did not, a change of each kind, and a link reset since. -/
theorem test_meets_settingsWaits :
    (writing.agenda = [] ∧ (waitsFor .inForce base).settings.waiting = ⟨.inForce, ⟨.l1, 3, 4, 0x70⟩⟩ :: (waitsFor .inForce base).settings.waiting.tail ∧
      (waitsFor .inForce base).settings.answered = true) ∧
    ((waitsFor (.install 6 ⟨true, false, true, false⟩) base).settings.waiting.map (·.change) = [.install 6 ⟨true, false, true, false⟩, .inForce]) ∧
    ((waitsFor .inForce silent).settings.answered = false ∧ (waitsFor .inForce silent).settings.waiting.length = 2) ∧
    ((waitsFor .inForce blank).settings.stored = none ∧ (waitsFor .inForce blank).agenda = []) ∧
    (base.settings.writing = none ∧ base.agenda = []) ∧
    ((writing.modLink .l0 (fun k => { k with resetCount := 5 })).links.get .l0).resetCount ≠ 4 := by
  decide +kernel

/-- The hypotheses of RecordHoldsWholeChange are met (its last clause: `test_meets_LastBlockEndsFetch`). -/
theorem test_meets_RecordHoldsWholeChange :
    (base.agenda = [] ∧ base.power ≠ .off) ∧ base.Takes .l0 0 .lodge ∧ base.Takes .l0 0 (.restore rp) ∧ bothDeliver.power ≠ .off ∧
    viewDelivers.power ≠ .off := by decide +kernel

def returnFault : State := { returnHomeDone1 with
  lib.drives.a5 := ⟨.fault, none, none, none, false, false, [], some .eject, 0, 9, some ⟨.l0, 2, 4, 0x53⟩, false⟩ }
def labelFault : State := { jamEndsWork9 with
  lib.drives.a2 := ⟨.fault, some ⟨none, .s1⟩, none, none, false, false, [], some .eject, 0, 9, some ⟨.l0, 2, 4, 0x53⟩, false⟩ }

/-- The hypotheses of the clauses of ReturnHomeDone and JamEndsWork on a drive that is FAULT again are met. -/
theorem test_meets_returnOfFaultDrive :
    (let s := returnFault; s.Quiet ∧ s.lib.picker.piece = some (.homeMove .d5) ∧ s.lib.picker.state = .moving ∧ s.lib.picker.since = some 42 ∧
      (s.lib.drives.get .d5).state = .fault ∧ (∀ y ∈ (s.lib.drives.get .d5).reset, (s.links.get y.link).resetCount = y.gen) ∧ s.NothingNext ∧
      s.HeadHasMedia ∧ 42 + 25000 ≤ s.ref ∧ s.lib.sweepDue = false ∧ s.MediaCurrent ∧ s.lib.demands = [] ∧ s.lib.picker.held = some 4127) ∧
    (let s := labelFault; s.Quiet ∧ s.lib.picker.piece = some (.homeLabel .d2) ∧ s.lib.picker.state = .moving ∧ s.lib.picker.since = some 77 ∧
      (s.lib.drives.get .d2).state = .fault ∧ (s.lib.drives.get .d2).reset.isSome = true ∧ 77 + 25000 ≤ s.ref ∧ s.lib.sweepDue = false ∧
      s.MediaCurrent ∧ s.lib.demands = []) := by
  decide +kernel

def fullMail : State := { exportOfMountedOrQueued2 with lib.mail := .incoming }

/-- The hypotheses of MAIL_SLOT_FULL of a platter in a drive are met, as `test_meets_ExportOfMountedOrQueued` has them, with the slot not EMPTY. -/
theorem test_meets_exportMailFull : fullMail.lib.mail ≠ .empty ∧ fullMail.lib.drives = exportOfMountedOrQueued2.lib.drives ∧
    fullMail.cat = exportOfMountedOrQueued2.cat := by decide +kernel

/-- R128: the end of a return-home leaves the DRIVE_RESET of a drive that is FAULT again to its EJECT. -/
theorem test_return_leaves_reset : ∃ t, exec .pickerMoveDone returnFault = .next t ∧ t.lib.drives = returnFault.lib.drives ∧
    (t.links.get .l0).responses = (returnFault.links.get .l0).responses := ⟨_, rfl, by decide +kernel⟩

/-- R156, R157: the FAULT reports of start-up stand before the silent drives' TIMEOUTs, drives above the installed count being left out. -/
theorem test_start_faults : base.startFaults 4 ⟨.silent, .noPlatter, .silent, .fault, .fault, .silent⟩ =
    [.driveFault .d4 (base.drive .d4).platter false, .driveFault .d1 none true, .driveFault .d3 none true] := by decide +kernel

/-- R22, R45: a press on a line that is disabled, or whose queue is full, leaves no create in the update record. -/
theorem test_no_create_recorded :
    (base.modLine .q1 (fun l => { l with enabled := false })).imageOf (.createFor (some .q1) .l0) = base.cat ∧
    (base.modLine .q1 (fun l => { l with queue := List.replicate 4 ⟨.q1, ⟨11205, 1⟩, ⟨0, 0⟩⟩ })).imageOf (.createFor (some .q1) .l0) = base.cat ∧
    (base.imageOf (.createFor (some .q1) .l0)).table.length = base.cat.table.length + 1 := by decide +kernel

/-! ## Worked examples of the spec -/

/-- 11.1: the press of line 1, the clock reading 08:30:02.114, gets number 11205/0001 at that reading, and is offered. -/
theorem test_first_press : ∃ t, exec (.press .q1) base = .next t ∧ (t.lines.get .q1).queue = [⟨.q1, ⟨11205, 1⟩, tod 8 30 2 114⟩] ∧
    (t.lines.get .q1).offered = true ∧ t.cat.lastNumber = some ⟨11205, 1⟩ := ⟨_, rfl, by decide +kernel⟩

/-- 11.1: the press of line 2 at the same reading gets the next number, 1 ms later. -/
theorem test_second_press : { base with cat := { base.cat with lastStamp := tod 8 30 2 114, lastNumber := some ⟨11205, 1⟩ } }.issueTest =
    .ok (⟨11205, 2⟩, tod 8 30 2 115) := by decide +kernel

/-- 11.4 to 11.6: the quotes 700, 1,600, and after hours 2,000. -/
theorem test_quotes : (computeQuote sched ⟨9, 1⟩ 10 10 false false 36900).fee = 700 ∧
    computeQuote sched ⟨9, 1⟩ 1 10 false false 61170 = ⟨1600, 9, 1, false, false⟩ ∧
    computeQuote sched ⟨9, 1⟩ 1 10 false false 61200 = ⟨2000, 9, 1, false, true⟩ := by decide +kernel

/-- R165: the selections of an instrument of 14 small pages and 2 plan sheets. -/
theorem test_page_counts :
    ([(1, 16), (3, 16), (15, 16), (1, 2), (14, 15)].map fun r =>
      let q := computeQuote sched ⟨14, 2⟩ r.1 r.2 false false 36900; (q.ns, q.np)) = [(14, 2), (12, 2), (0, 2), (2, 0), (1, 1)] := by
  decide +kernel

/-- 11.4: 11100/0077 resolves to 11180/0139 after one link, and 11012/0410 after two. -/
theorem test_resolve : base.resolve (itm ⟨11100, 77⟩) = some (a180, 1) ∧ base.resolve (itm a12) = some (a180, 2) := by decide +kernel

/-- R27: a trim of +100 with the accumulator at 999,900 moves the clock by 2 ms and leaves 0. -/
theorem test_trim_overflow : (spills 100).clock.advance.now = ⟨day0, 999⟩ ∧ (spills 100).clock.advance.acc = 0 := by decide +kernel

/-- R29: the clock holds at its top. -/
theorem test_clock_top : Stamp.plusMs ⟨4294967295, 999⟩ 1 = ⟨4294967295, 999⟩ ∧ Stamp.plusMs ⟨7, 999⟩ 1 = ⟨8, 0⟩ := by decide

/-- R185: the stray byte count holds at 65,535. -/
theorem test_stray_count_holds : ∃ t, exec (.strayByte .l0) (base.modLink .l0 fun k => { k with strays := 65535 }) = .next t ∧
    (t.links.get .l0).strays = 65535 := ⟨_, rfl, by decide +kernel⟩

end Sys2Proof.Tests
end

section
/-!
PROOFS. The books: catalogue memory with the folio reservations and the update record, and the changes that a running controller makes to
them. Every step but those of the supply is a chain of these changes, so a property that each of them keeps is kept by every step.
-/
namespace Sys2Proof.Machine
set_option Elab.async false

/-- Catalogue memory, the folio reservations of the filing slots, and the update record. -/
structure Books where
  cat : CatMem
  reserved : Four (List Nat)
  update : UpdateRecord

/-- The books of a state. -/
def State.books (s : State) : Books := ⟨s.cat, s.reserved, s.update⟩

@[simp] theorem State.books_cat (s : State) : s.books.cat = s.cat := (rfl)
@[simp] theorem State.books_reserved (s : State) : s.books.reserved = s.reserved := (rfl)
@[simp] theorem State.books_update (s : State) : s.books.update = s.update := (rfl)

/-- Every state is one with its own books, so that an update of any other field is seen to leave them alone. -/
@[simp] theorem State.books_mk
    pending power ref cat update absentMode reserved clock lines settings rights links startEvents filings commitQueue lastFiling filUse
    mapReads ops mem ring ringNext segments spaceFifo driveChans inChans outChans lib agenda freeCtr :
    State.books (.mk pending power ref cat update absentMode reserved clock lines settings rights links startEvents filings commitQueue lastFiling filUse
        mapReads ops mem ring ringNext segments spaceFifo driveChans inChans outChans lib agenda freeCtr) =
      ⟨cat, reserved, update⟩ := (rfl)

@[simp] theorem Books.eta (s : State) : Books.mk s.cat s.reserved s.update = s.books := (rfl)

namespace Books

/-- All reserved folio numbers, slot by slot (R14). -/
def reservedAll (r : Four (List Nat)) : List Nat := r.a1 ++ r.a2 ++ r.a3 ++ r.a4

/-- How many distinct folios of a list have no record (R14). -/
def unrecorded (c : CatMem) (fs : List Nat) : Nat := ((distinct fs).filter (fun f => (c.folio? f).isNone)).length

/-- There is index room for these distinct folios beside those reserved (R14). -/
def Room (c : CatMem) (r : Four (List Nat)) (fs : List Nat) : Prop :=
  c.folioLinks + (reservedAll r).length + fs.length ≤ Config.maxFolioLinks ∧
    c.folios.length + unrecorded c (reservedAll r) +
      (fs.filter (fun f => (c.folio? f).isNone && !(reservedAll r).contains f)).length ≤ Config.maxFolios

/-- One change a running controller makes to its books, with the test that guards it. -/
inductive Change : Books → Books → Prop
  /-- Entries changed in place, each keeping its number. -/
  | entries (c r u) (f : Entry → Entry) (hf : ∀ e, (f e).num = e.num) : Change ⟨c, r, u⟩ ⟨{ c with table := c.table.map f }, r, u⟩
  /-- A stamp issue, of a table that is not full (R42, R43). -/
  | issued (c r u n t src) (free : c.table.length < Config.maxEntries) : Change ⟨c, r, u⟩ ⟨c.addLodged n t src, r, u⟩
  /-- The record change of a commit, its reservation used up (R10, R15, R73). -/
  | recorded (c r u n loc pg res) (q : FSlot) : Change ⟨c, r, u⟩ ⟨c.recordEntry n loc pg res (r.get q), r.set q [], u⟩
  /-- A RESTORE that has passed its checks (R19, R20). -/
  | restored (c r u p v) (free : c.table.length < Config.maxEntries) (room : Room c r (distinct p.folios)) :
      Change ⟨c, r, u⟩ ⟨c.restored p v, r, u⟩
  /-- A commit's folios reserved, where there is room for them (R14, R58). -/
  | reserved (c r u) (q : FSlot) (fs : List Nat) (room : Room c r (distinct fs)) : Change ⟨c, r, u⟩ ⟨c, r.set q (distinct fs), u⟩
  /-- A slot's reservation dropped (R9, R15). -/
  | unreserved (c r u) (q : FSlot) : Change ⟨c, r, u⟩ ⟨c, r.set q [], u⟩
  /-- Platter records changed in place, each keeping its id. -/
  | platters (c r u) (f : Platter → Platter) (hf : ∀ p, (f p).id = p.id) :
      Change ⟨c, r, u⟩ ⟨{ c with platters := c.platters.map f }, r, u⟩
  /-- A platter record inserted (R119). -/
  | platterAdded (c r u) (p : Platter) : Change ⟨c, r, u⟩ ⟨{ c with platters := insertKeyed Platter.id p c.platters }, r, u⟩
  /-- A slot record inserted or replaced (R122). -/
  | slotSet (c r u) (x : SlotRec) : Change ⟨c, r, u⟩ ⟨{ c with slots := insertKeyed SlotRec.slot x c.slots }, r, u⟩
  /-- Slot records removed (R122). -/
  | slotsFreed (c r u) (p : SlotRec → Bool) : Change ⟨c, r, u⟩ ⟨{ c with slots := c.slots.filter p }, r, u⟩
  /-- A substitution pair recorded, where the table has room (R145). -/
  | substAdded (c r u) (x : Subst) (free : c.substs.length < Config.maxSubst) :
      Change ⟨c, r, u⟩ ⟨{ c with substs := c.substs ++ [x] }, r, u⟩
  /-- Account records changed in place, each keeping its code. -/
  | accounts (c r u) (f : Account → Account) (hf : ∀ a, (f a).code = a.code) :
      Change ⟨c, r, u⟩ ⟨{ c with accounts := c.accounts.map f }, r, u⟩
  /-- An account created, where the table has room (R170). -/
  | accountAdded (c r u) (a : Account) (free : c.accounts.length < Config.maxAccounts) :
      Change ⟨c, r, u⟩ ⟨{ c with accounts := insertKeyed Account.code a c.accounts }, r, u⟩
  /-- Accounts deleted (R171). -/
  | accountsRemoved (c r u) (p : Account → Bool) : Change ⟨c, r, u⟩ ⟨{ c with accounts := c.accounts.filter p }, r, u⟩
  /-- Snapshot records changed in place, each keeping its code. -/
  | snapRecords (c r u) (f : SnapRec → SnapRec) (hf : ∀ x, (f x).code = x.code) :
      Change ⟨c, r, u⟩ ⟨c.modSnapRecs (List.map f), r, u⟩
  /-- Snapshot records removed (R171). -/
  | snapRecordsRemoved (c r u) (p : SnapRec → Bool) : Change ⟨c, r, u⟩ ⟨c.modSnapRecs (List.filter p), r, u⟩
  /-- The snapshot released (R182). -/
  | snapCleared (c r u) : Change ⟨c, r, u⟩ ⟨{ c with snapshot := none }, r, u⟩
  /-- A period close (R178 to R180). -/
  | closed (c r u sec) : Change ⟨c, r, u⟩ ⟨c.close sec, r, u⟩
  /-- What stands beside the tables: marker and count, last-issued values, schedules, period, grand total, close target. -/
  | figures (c r u) (m : Marker) (k : Nat) (t : Stamp) (n : Option InstrNum) (a : Schedule) (p : Option Schedule) (d g : Nat)
      (w : CloseTarget) :
      Change ⟨c, r, u⟩ ⟨{ c with
        marker := m
        storedCount := k
        lastStamp := t
        lastNumber := n
        active := a
        pendingSched := p
        period := d
        grand := g
        target := w }, r, u⟩
  /-- The clearing of catalogue memory, with nothing reserved (R23). -/
  | cleared (c r u) : Change ⟨c, r, u⟩ ⟨CatMem.cleared, Four.const [], u⟩

/-- A chain of such changes. -/
def Leads : Books → Books → Prop := Relation.ReflTransGen Change

/-- No change is a chain. -/
@[simp] theorem Leads.refl (x : Books) : Leads x x := Relation.ReflTransGen.refl

/-- A chain goes on with one more change. -/
theorem Leads.then {x y z : Books} (h : Leads x y) (hc : Change y z) : Leads x z := Relation.ReflTransGen.tail h hc

/-- Nothing a running controller does touches the update record. -/
theorem Leads.update_eq {x y : Books} (h : Leads x y) : y.update = x.update := by
  induction h with
  | refl => rfl
  | tail _ hc ih => rw [← ih]; cases hc <;> rfl

/-- What each change keeps, a chain of them keeps. -/
theorem Leads.keeps {I : CatMem → Four (List Nat) → Prop} (hI : ∀ x y, Change x y → I x.cat x.reserved → I y.cat y.reserved)
    {x y : Books} (h : Leads x y) (hx : I x.cat x.reserved) : I y.cat y.reserved := by
  induction h with
  | refl => exact hx
  | tail _ hc ih => exact hI _ _ hc ih

end Books

/-- The index room CAT tests for is the room of its books (R14). -/
theorem State.folioRoom_iff (s : State) (fs : List Nat) : s.folioRoom fs = true ↔ Books.Room s.cat s.reserved fs := by
  simp only [State.folioRoom, Bool.and_eq_true, decide_eq_true_eq]
  exact Iff.rfl

end Sys2Proof.Machine
end

section
/-!
PROOFS. Lists in key order, lists without repetitions, and the folio index: what a folio's links come to, and how many links and records they add
(R13 to R15).
-/
namespace Sys2Proof.Machine
set_option Elab.async false

/-! ## Lists in key order -/

section
variable {α : Type} (key : α → Nat)

theorem mem_insertKeyed {a x : α} {l : List α} (h : x ∈ insertKeyed key a l) : x = a ∨ x ∈ l := by
  induction l with
  | nil => exact .inl (by simpa [insertKeyed] using h)
  | cons b l ih =>
    simp only [insertKeyed] at h
    split at h
    · simpa using h
    · split at h
      · exact (List.mem_cons.1 h).imp_right (List.mem_cons_of_mem _)
      · rcases List.mem_cons.1 h with rfl | h
        · exact .inr (List.mem_cons_self ..)
        · exact (ih h).imp_right (List.mem_cons_of_mem _)

/-- A record inserted under another key is not the one found. -/
theorem findKeyed_insertKeyed_ne (k : Nat) (a : α) (l : List α) (h : k ≠ key a) :
    findKeyed key k (insertKeyed key a l) = findKeyed key k l := by
  have ha : (key a == k) = false := by simpa using h.symm
  induction l with
  | nil => simp [findKeyed, insertKeyed, ha]
  | cons b l ih =>
    simp only [insertKeyed]
    split
    · simp [findKeyed, ha]
    · split
      · rename_i hab
        simp [findKeyed, ha, ← hab]
      · simp only [findKeyed, List.find?_cons] at ih ⊢
        rw [ih]

/-- Beyond the first key of a list in key order, a smaller key is not found. -/
theorem findKeyed_of_lt (k : Nat) (l : List α) (h : ∀ b ∈ l, k < key b) : findKeyed key k l = none :=
  List.find?_eq_none.mpr (fun b hb => by have := h b hb; simp; omega)

/-- In a list in key order, the change of the record with a key is its insertion. -/
theorem updateKeyed_eq_insertKeyed (k : Nat) (f : α → α) (hf : ∀ a, key (f a) = key a) (l : List α) (h : risingKeys key l = true) (r : α)
    (hr : findKeyed key k l = some r) : updateKeyed key k f l = insertKeyed key (f r) l := by
  induction l with
  | nil => cases hr
  | cons b l ih =>
    obtain ⟨hb, hl⟩ := List.pairwise_cons.1 ((risingKeys_iff key _).1 h)
    obtain ⟨hm, rfl⟩ := findKeyed_some key k _ r hr
    by_cases hk : key b = key r
    · have hrb : r = b := by simpa [findKeyed, hk] using hr.symm
      subst hrb
      have hrest : l.map (fun a => if key a = key r then f a else a) = l :=
        (List.map_congr_left fun a ha => if_neg (Nat.ne_of_gt (hb a ha))).trans (List.map_id _)
      simp [updateKeyed, insertKeyed, hf, hrest]
    · have hrl : r ∈ l := (List.mem_cons.1 hm).resolve_left (fun h => hk (h ▸ rfl))
      have hlt : ¬ key r < key b := by have := hb r hrl; omega
      have hne : ¬ key r = key b := fun h => hk h.symm
      have hi := ih ((risingKeys_iff key _).2 hl) (by simpa [findKeyed, hk] using hr)
      simp only [insertKeyed, hf, hlt, hne, if_false, ← hi]
      simp [updateKeyed, hk]

/-- Of a list in key order, an insertion adds the weight of what is inserted and takes away that of the record it replaces. -/
theorem sum_insertKeyed (w : α → Nat) (a : α) (l : List α) (h : risingKeys key l = true) :
    ((insertKeyed key a l).map w).sum + ((findKeyed key (key a) l).elim 0 w) = (l.map w).sum + w a := by
  induction l with
  | nil => simp [insertKeyed, findKeyed]
  | cons b l ih =>
    obtain ⟨hb, hl⟩ := List.pairwise_cons.1 ((risingKeys_iff key _).1 h)
    simp only [insertKeyed]
    split
    · rename_i hlt
      have hn : findKeyed key (key a) (b :: l) = none := by
        refine findKeyed_of_lt key _ _ (fun x hx => ?_)
        rcases List.mem_cons.1 hx with rfl | hx
        · exact hlt
        · exact hlt.trans (hb x hx)
      simp [hn]; omega
    · split
      · rename_i heq
        have hn : findKeyed key (key a) (b :: l) = some b := by simp [findKeyed, heq]
        simp [hn]; omega
      · rename_i hne
        have hn : findKeyed key (key a) (b :: l) = findKeyed key (key a) l := by
          simp [findKeyed, show (key b == key a) = false from by simpa using fun h => hne h.symm]
        have := ih ((risingKeys_iff key _).2 hl)
        simp only [hn, List.map_cons, List.sum_cons]; omega

end

/-! ## Lists without repetitions -/

section
variable {α : Type} [DecidableEq α]

@[simp] theorem mem_distinct {x : α} {l : List α} : x ∈ distinct l ↔ x ∈ l := by
  induction l with
  | nil => simp [distinct]
  | cons a l ih => by_cases h : x = a <;> simp [distinct, ih, h]

theorem nodup_distinct (l : List α) : (distinct l).Nodup := by
  induction l with
  | nil => simp [distinct]
  | cons a l ih => simp [distinct, ih.filter]

theorem distinct_of_nodup {l : List α} (h : l.Nodup) : distinct l = l := by
  induction l with
  | nil => rfl
  | cons a l ih =>
    obtain ⟨ha, hl⟩ := List.nodup_cons.1 h
    rw [distinct, ih hl, List.filter_eq_self.2 (fun b hb => by simpa using fun (e : b = a) => ha (e ▸ hb))]

end

/-- Two lists without repetitions and with the same members are of the same length. -/
theorem length_eq_of_nodup {α : Type} {l m : List α} (hl : l.Nodup) (hm : m.Nodup) (h : ∀ x, x ∈ l ↔ x ∈ m) : l.length = m.length :=
  ((List.perm_ext_iff_of_nodup hl hm).2 h).length_eq

/-! ## The folio index -/

/-- Distinct folios in ascending order, as their links are made (R15, R20). -/
def ascendingFolios (fs : List Nat) : List Nat := (distinct fs).foldl (fun l f => insertKeyed id f l) []

theorem CatMem.addLinks_eq (c : CatMem) (n : InstrNum) (fs : List Nat) :
    c.addLinks n fs = { c with folios := (ascendingFolios fs).foldl (CatMem.addLink n) c.folios } := rfl

theorem rising_insertAll (fs l : List Nat) (h : risingKeys id l = true) : risingKeys id (fs.foldl (fun l f => insertKeyed id f l) l) = true := by
  induction fs generalizing l with
  | nil => exact h
  | cons f fs ih => exact ih _ (risingKeys_insertKeyed id f l h)

theorem mem_insertKeyed_id {x f : Nat} {l : List Nat} : x ∈ insertKeyed id f l ↔ x = f ∨ x ∈ l := by
  induction l with
  | nil => simp [insertKeyed]
  | cons b l ih => grind [insertKeyed]

theorem mem_insertAll (fs l : List Nat) (x : Nat) : x ∈ fs.foldl (fun l f => insertKeyed id f l) l ↔ x ∈ fs ∨ x ∈ l := by
  induction fs generalizing l with
  | nil => simp
  | cons f fs ih => exact (ih (insertKeyed id f l)).trans (by rw [mem_insertKeyed_id, List.mem_cons]; tauto)

@[simp] theorem mem_ascendingFolios {x : Nat} {fs : List Nat} : x ∈ ascendingFolios fs ↔ x ∈ fs := by
  simp [ascendingFolios, mem_insertAll]

theorem nodup_ascendingFolios (fs : List Nat) : (ascendingFolios fs).Nodup := by
  have h := (risingKeys_iff id _).1 (rising_insertAll (distinct fs) [] rfl)
  exact h.imp (fun hab => Nat.ne_of_lt hab)

theorem length_ascendingFolios (fs : List Nat) : (ascendingFolios fs).length = (distinct fs).length :=
  length_eq_of_nodup (nodup_ascendingFolios fs) (nodup_distinct fs) (by simp)

/-- The list of a folio, empty where the folio has no record. -/
def listIn (l : List FolioRec) (f : Nat) : List InstrNum := match findKeyed FolioRec.folio f l with | some r => r.list | none => []

/-- The links that a list of folio records holds. -/
def linksIn (l : List FolioRec) : Nat := (l.map (fun r => r.list.length)).sum

theorem listIn_of_some {l : List FolioRec} {f : Nat} {r : FolioRec} (h : findKeyed FolioRec.folio f l = some r) : listIn l f = r.list := by
  simp only [listIn, h]

theorem listIn_of_none {l : List FolioRec} {f : Nat} (h : findKeyed FolioRec.folio f l = none) : listIn l f = [] := by
  simp only [listIn, h]

/-- A link is made by inserting the folio's record with the number in its list. -/
theorem addLink_eq (n : InstrNum) (l : List FolioRec) (f : Nat) (h : risingKeys FolioRec.folio l = true) :
    CatMem.addLink n l f = insertKeyed FolioRec.folio ⟨f, insertKeyed InstrNum.key n (listIn l f)⟩ l := by
  cases hf : findKeyed FolioRec.folio f l with
  | none => simp only [CatMem.addLink, hf, listIn_of_none hf, insertKeyed]
  | some r =>
    simp only [CatMem.addLink, hf, listIn_of_some hf]
    rw [updateKeyed_eq_insertKeyed FolioRec.folio f (fun r => { r with list := insertKeyed InstrNum.key n r.list }) (fun _ => rfl) l h r hf,
      (findKeyed_some _ _ _ _ hf).2]

theorem rising_addLink (n : InstrNum) (l : List FolioRec) (f : Nat) (h : risingKeys FolioRec.folio l = true) :
    risingKeys FolioRec.folio (CatMem.addLink n l f) = true := by
  rw [addLink_eq n l f h]; exact risingKeys_insertKeyed _ _ _ h

theorem rising_addLink_lists (n : InstrNum) (l : List FolioRec) (f : Nat) (h : risingKeys FolioRec.folio l = true)
    (hl : ∀ r ∈ l, risingKeys InstrNum.key r.list = true) : ∀ r ∈ CatMem.addLink n l f, risingKeys InstrNum.key r.list = true := by
  intro r hr
  rw [addLink_eq n l f h] at hr
  rcases mem_insertKeyed _ hr with rfl | hr
  · refine risingKeys_insertKeyed _ _ _ ?_
    cases hf : findKeyed FolioRec.folio f l with
    | none => rw [listIn_of_none hf]; rfl
    | some r => rw [listIn_of_some hf]; exact hl r (findKeyed_some _ _ _ _ hf).1
  · exact hl r hr

theorem findKeyed_addLink (n : InstrNum) (l : List FolioRec) (f g : Nat) (h : risingKeys FolioRec.folio l = true) :
    findKeyed FolioRec.folio g (CatMem.addLink n l f) =
      if g = f then some ⟨f, insertKeyed InstrNum.key n (listIn l f)⟩ else findKeyed FolioRec.folio g l := by
  rw [addLink_eq n l f h]
  split
  · rename_i hg
    subst hg
    exact findKeyed_insertKeyed FolioRec.folio ⟨g, insertKeyed InstrNum.key n (listIn l g)⟩ l
  · rename_i hg
    exact findKeyed_insertKeyed_ne _ _ _ _ hg

/-- One link more, at most. -/
theorem linksIn_addLink (n : InstrNum) (l : List FolioRec) (f : Nat) (h : risingKeys FolioRec.folio l = true) :
    linksIn (CatMem.addLink n l f) ≤ linksIn l + 1 := by
  rw [addLink_eq n l f h]
  have hs := sum_insertKeyed FolioRec.folio (fun r => r.list.length) ⟨f, insertKeyed InstrNum.key n (listIn l f)⟩ l h
  have hlen := length_insertKeyed InstrNum.key n (listIn l f)
  simp only at hs
  unfold linksIn
  cases hf : findKeyed FolioRec.folio f l with
  | none => rw [listIn_of_none hf] at hs hlen ⊢; simp only [hf, Option.elim, List.length_nil] at hs hlen; omega
  | some r => rw [listIn_of_some hf] at hs hlen ⊢; simp only [hf, Option.elim] at hs; omega

/-- One record more where the folio had none. -/
theorem length_addLink (n : InstrNum) (l : List FolioRec) (f : Nat) (h : risingKeys FolioRec.folio l = true) :
    (CatMem.addLink n l f).length = l.length + if (findKeyed FolioRec.folio f l).isNone then 1 else 0 := by
  rw [addLink_eq n l f h]
  have hs := sum_insertKeyed FolioRec.folio (fun _ => 1) ⟨f, insertKeyed InstrNum.key n (listIn l f)⟩ l h
  cases hf : findKeyed FolioRec.folio f l <;> simp [hf] at hs ⊢ <;> omega

/-- An instrument's links: what they leave of the index, folio by folio (R15). -/
theorem findKeyed_addLinks (n : InstrNum) (gs : List Nat) (l : List FolioRec) (h : risingKeys FolioRec.folio l = true) (hd : gs.Nodup) (g : Nat) :
    findKeyed FolioRec.folio g (gs.foldl (CatMem.addLink n) l) =
      if g ∈ gs then some ⟨g, insertKeyed InstrNum.key n (listIn l g)⟩ else findKeyed FolioRec.folio g l := by
  induction gs generalizing l with
  | nil => simp
  | cons f gs ih =>
    obtain ⟨hf, hgs⟩ := List.nodup_cons.1 hd
    have hat := findKeyed_addLink n l f
    rw [List.foldl_cons, ih _ (rising_addLink n l f h) hgs]
    by_cases hgf : g = f
    · subst hgf; simp [hf, hat g h]
    · have hl : listIn (CatMem.addLink n l f) g = listIn l g := by simp [listIn, hat g h, hgf]
      simp [hgf, hl, hat g h]

theorem rising_addLinks (n : InstrNum) (gs : List Nat) (l : List FolioRec) (h : risingKeys FolioRec.folio l = true) :
    risingKeys FolioRec.folio (gs.foldl (CatMem.addLink n) l) = true := by
  induction gs generalizing l with
  | nil => exact h
  | cons f gs ih => exact ih _ (rising_addLink n l f h)

theorem rising_addLinks_lists (n : InstrNum) (gs : List Nat) (l : List FolioRec) (h : risingKeys FolioRec.folio l = true)
    (hl : ∀ r ∈ l, risingKeys InstrNum.key r.list = true) : ∀ r ∈ gs.foldl (CatMem.addLink n) l, risingKeys InstrNum.key r.list = true := by
  induction gs generalizing l with
  | nil => exact hl
  | cons f gs ih => exact ih _ (rising_addLink n l f h) (rising_addLink_lists n l f h hl)

theorem linksIn_addLinks (n : InstrNum) (gs : List Nat) (l : List FolioRec) (h : risingKeys FolioRec.folio l = true) :
    linksIn (gs.foldl (CatMem.addLink n) l) ≤ linksIn l + gs.length := by
  induction gs generalizing l with
  | nil => simp
  | cons f gs ih =>
    have h1 := ih _ (rising_addLink n l f h)
    have h2 := linksIn_addLink n l f h
    simp only [List.foldl_cons, List.length_cons]; omega

theorem length_addLinks (n : InstrNum) (gs : List Nat) (l : List FolioRec) (h : risingKeys FolioRec.folio l = true) (hd : gs.Nodup) :
    (gs.foldl (CatMem.addLink n) l).length = l.length + (gs.filter (fun g => (findKeyed FolioRec.folio g l).isNone)).length := by
  induction gs generalizing l with
  | nil => simp
  | cons f gs ih =>
    obtain ⟨hf, hgs⟩ := List.nodup_cons.1 hd
    have hsame : gs.filter (fun g => (findKeyed FolioRec.folio g (CatMem.addLink n l f)).isNone) =
        gs.filter (fun g => (findKeyed FolioRec.folio g l).isNone) :=
      List.filter_congr (fun g hg => by rw [findKeyed_addLink n l f g h, if_neg (fun (e : g = f) => hf (e ▸ hg))])
    rw [List.foldl_cons, ih _ (rising_addLink n l f h) hgs, length_addLink n l f h, hsame, List.filter_cons]
    split
    · simp only [List.length_cons]; omega
    · simp

/-- The folio records after an instrument's links: its number has joined the list of each folio named, and no other list is changed (R15, R20). -/
theorem CatMem.folio?_addLinks (c : CatMem) (n : InstrNum) (fs : List Nat) (f : Nat) (h : risingKeys FolioRec.folio c.folios = true) :
    (c.addLinks n fs).folio? f =
      if f ∈ fs then some ⟨f, insertKeyed InstrNum.key n (listIn c.folios f)⟩ else c.folio? f := by
  simpa [CatMem.addLinks_eq, CatMem.folio?] using findKeyed_addLinks n (ascendingFolios fs) c.folios h (nodup_ascendingFolios fs) f

end Sys2Proof.Machine
end

section
/-!
PROOFS. What every change of the books keeps: the tables in order and within their capacities, the folio index within its own with the
reservations, and the accounts and the snapshot in order of their codes.
-/
namespace Sys2Proof.Machine
set_option Elab.async false

/-! ## The changes that touch several tables -/

/-- The record change changes entries in place, each keeping its number, and makes the folio links (R10, R15). -/
theorem CatMem.recordEntry_eq (c : CatMem) (n : InstrNum) (loc : Location) (pg : Pages) (res : Bool) (fs : List Nat) :
    ∃ f : Entry → Entry, (∀ e, (f e).num = e.num) ∧ c.recordEntry n loc pg res fs =
      { c with table := c.table.map f, folios := (ascendingFolios fs).foldl (CatMem.addLink n) c.folios } := by
  refine ⟨fun e =>
    let e := if e.num = n then { e with state := .recorded loc pg, restricted := res } else e
    if e.claim = some n then { e with claim := none, successor := some n } else e, fun e => ?_, ?_⟩
  · dsimp only; split <;> split <;> rfl
  · simp only [CatMem.recordEntry, CatMem.addLinks_eq, CatMem.modEntry, List.map_map]; rfl

/-- What a RESTORE inserts (R20). -/
theorem CatMem.restored_eq (c : CatMem) (p : RestoreParams) (v : Source × Location × Bool × Option InstrNum) :
    ∃ (e : Entry) (f : Platter → Platter), (∀ q, (f q).id = q.id) ∧ c.restored p v =
      { c with
        table := insertKeyed Entry.key e c.table
        storedCount := c.storedCount + 1
        folios := (ascendingFolios p.folios).foldl (CatMem.addLink p.inst) c.folios
        platters := updateKeyed Platter.id (c.canonId p.platter) f c.platters } :=
  ⟨_, _, fun q => by unfold Platter.modSide; split <;> rfl, rfl⟩

theorem mergeSnap_rising (l : List SnapRec) (a : Account) (h : risingKeys SnapRec.code l = true) :
    risingKeys SnapRec.code (mergeSnap l a) = true := by
  unfold mergeSnap
  split
  · exact risingKeys_updateKeyed _ _ _ (fun _ => by rfl) _ h
  · exact risingKeys_insertKeyed _ _ _ h

/-- Merging accounts one after another keeps the snapshot in order (R180). -/
theorem mergeSnaps_rising (as : List Account) (l : List SnapRec) (h : risingKeys SnapRec.code l = true) :
    risingKeys SnapRec.code (as.foldl mergeSnap l) = true := by
  induction as generalizing l with
  | nil => exact h
  | cons a as ih => exact ih _ (mergeSnap_rising l a h)

/-- The records of a first snapshot stand as the accounts do (R179). -/
theorem snapOfs_rising (as : List Account) (h : risingKeys Account.code as = true) : risingKeys SnapRec.code (as.map snapOf) = true := by
  rw [risingKeys_iff] at h ⊢
  exact List.pairwise_map.2 h

theorem CatMem.RecordsOrdered.closeSnapshot {c : CatMem} (h : c.RecordsOrdered) : risingKeys SnapRec.code c.closeSnapshot.records = true := by
  unfold CatMem.closeSnapshot
  split
  · exact snapOfs_rising _ h.1
  · rename_i n hn
    exact mergeSnaps_rising _ _ (h.2 n hn)

/-- A change of the snapshot's records that keeps their order keeps accounts and snapshot in order. -/
theorem CatMem.RecordsOrdered.modSnapRecs {c : CatMem} (h : c.RecordsOrdered) (f : List SnapRec → List SnapRec)
    (hf : ∀ l, risingKeys SnapRec.code l = true → risingKeys SnapRec.code (f l) = true) : (c.modSnapRecs f).RecordsOrdered := by
  refine ⟨h.1, fun n hn => ?_⟩
  obtain ⟨m, hm, rfl⟩ := Option.map_eq_some_iff.1 hn
  exact hf _ (h.2 m hm)

/-! ## Tables in order, and within their capacities -/

namespace Books

/-- Every change keeps the tables in order (R4, R13, R119, R122, R169). -/
theorem Change.ordered {x y : Books} (hc : Change x y) (h : x.cat.Ordered) : y.cat.Ordered := by
  obtain ⟨hent, hfol, hpla, hslo, hacc⟩ := h
  cases hc with
  | entries c r u f hf => exact ⟨risingKeys_map _ f (fun e => congrArg InstrNum.key (hf e)) _ hent, hfol, hpla, hslo, hacc⟩
  | issued => exact ⟨risingKeys_insertKeyed _ _ _ hent, hfol, hpla, hslo, hacc⟩
  | recorded c r u n loc pg res q =>
    obtain ⟨f, hf, e⟩ := c.recordEntry_eq n loc pg res (r.get q)
    simp only [e]
    exact ⟨risingKeys_map _ f (fun e => congrArg InstrNum.key (hf e)) _ hent, rising_addLinks _ _ _ hfol, hpla, hslo, hacc⟩
  | restored c r u p v =>
    obtain ⟨e, f, hf, eq⟩ := c.restored_eq p v
    simp only [eq]
    exact ⟨risingKeys_insertKeyed _ _ _ hent, rising_addLinks _ _ _ hfol, risingKeys_updateKeyed _ _ _ hf _ hpla, hslo, hacc⟩
  | platters c r u f hf => exact ⟨hent, hfol, risingKeys_map _ f hf _ hpla, hslo, hacc⟩
  | platterAdded => exact ⟨hent, hfol, risingKeys_insertKeyed _ _ _ hpla, hslo, hacc⟩
  | slotSet => exact ⟨hent, hfol, hpla, risingKeys_insertKeyed _ _ _ hslo, hacc⟩
  | slotsFreed => exact ⟨hent, hfol, hpla, risingKeys_filter _ _ _ hslo, hacc⟩
  | accounts c r u f hf => exact ⟨hent, hfol, hpla, hslo, risingKeys_map _ f hf _ hacc⟩
  | accountAdded => exact ⟨hent, hfol, hpla, hslo, risingKeys_insertKeyed _ _ _ hacc⟩
  | accountsRemoved => exact ⟨hent, hfol, hpla, hslo, risingKeys_filter _ _ _ hacc⟩
  | closed => exact ⟨hent, hfol, hpla, hslo, risingKeys_map _ _ (fun _ => by rfl) _ hacc⟩
  | cleared => exact ⟨rfl, rfl, rfl, rfl, rfl⟩
  | reserved | unreserved | substAdded | snapRecords | snapRecordsRemoved | snapCleared | figures => exact ⟨hent, hfol, hpla, hslo, hacc⟩

/-- Every change keeps the tables within their capacities (R4, R145, R169). -/
theorem Change.fits {x y : Books} (hc : Change x y) (h : x.cat.Fits) : y.cat.Fits := by
  obtain ⟨hent, hsub, hacc⟩ := h
  cases hc with
  | entries => exact ⟨(List.length_map ..).trans_le hent, hsub, hacc⟩
  | issued c r u n t src free => exact ⟨(length_insertKeyed _ _ _).trans free, hsub, hacc⟩
  | recorded c r u n loc pg res q =>
    obtain ⟨f, hf, e⟩ := c.recordEntry_eq n loc pg res (r.get q)
    simp only [e]
    exact ⟨(List.length_map ..).trans_le hent, hsub, hacc⟩
  | restored c r u p v free => exact ⟨(length_insertKeyed _ _ _).trans free, hsub, hacc⟩
  | substAdded c r u x free => exact ⟨hent, (List.length_append ..).trans_le free, hacc⟩
  | accounts => exact ⟨hent, hsub, (List.length_map ..).trans_le hacc⟩
  | accountAdded c r u a free => exact ⟨hent, hsub, (length_insertKeyed _ _ _).trans free⟩
  | accountsRemoved => exact ⟨hent, hsub, (List.length_filter_le ..).trans hacc⟩
  | closed => exact ⟨hent, hsub, (List.length_map ..).trans_le hacc⟩
  | cleared => exact ⟨Nat.zero_le _, Nat.zero_le _, show 1 ≤ Config.maxAccounts by decide⟩
  | reserved | unreserved | platters | platterAdded | slotSet | slotsFreed | snapRecords | snapRecordsRemoved | snapCleared | figures =>
    exact ⟨hent, hsub, hacc⟩

/-- Every change keeps the accounts and the snapshot's records in order of their codes (R169, R179, R180). -/
theorem Change.recordsOrdered {x y : Books} (hc : Change x y) (h : x.cat.RecordsOrdered) : y.cat.RecordsOrdered := by
  cases hc with
  | accounts c r u f hf => exact ⟨risingKeys_map _ f hf _ h.1, h.2⟩
  | accountAdded => exact ⟨risingKeys_insertKeyed _ _ _ h.1, h.2⟩
  | accountsRemoved => exact ⟨risingKeys_filter _ _ _ h.1, h.2⟩
  | snapRecords c r u f hf => exact h.modSnapRecs _ (fun l => risingKeys_map _ f hf l)
  | snapRecordsRemoved c r u p => exact h.modSnapRecs _ (fun l => risingKeys_filter _ p l)
  | snapCleared => exact ⟨h.1, fun n hn => by cases hn⟩
  | closed c r u sec => exact ⟨risingKeys_map _ _ (fun _ => by rfl) _ h.1, fun n hn => Option.some.inj hn ▸ h.closeSnapshot⟩
  | cleared => exact ⟨rfl, fun n hn => by cases hn⟩
  | entries | issued | recorded | restored | reserved | unreserved | platters | platterAdded | slotSet | slotsFreed | substAdded | figures =>
    exact h

/-! ## The folio index and its reservations -/

/-- The folio index is in order, and its links and records stay with the reservations within the capacities (R13, R14). -/
def IndexFits (c : CatMem) (r : Four (List Nat)) : Prop :=
  c.FoliosOrdered ∧ (∀ q : FSlot, (r.get q).Nodup) ∧ c.folioLinks + (reservedAll r).length ≤ Config.maxFolioLinks ∧
    c.folios.length + unrecorded c (reservedAll r) ≤ Config.maxFolios

theorem mem_reservedAll {r : Four (List Nat)} {f : Nat} : f ∈ reservedAll r ↔ ∃ q, f ∈ r.get q := by
  constructor
  · simp only [reservedAll, List.mem_append]
    rintro (((h | h) | h) | h)
    exacts [⟨.q1, h⟩, ⟨.q2, h⟩, ⟨.q3, h⟩, ⟨.q4, h⟩]
  · rintro ⟨q, h⟩
    cases q <;> simp_all [reservedAll, Four.get]

theorem length_reservedAll_set (r : Four (List Nat)) (q : FSlot) (fs : List Nat) :
    (reservedAll (r.set q fs)).length + (r.get q).length = (reservedAll r).length + fs.length := by
  cases q <;> simp [reservedAll, Four.set, Four.get] <;> omega

/-- What is reserved after a slot's reservation is replaced is of the new one or was reserved before. -/
theorem mem_reservedAll_set {r : Four (List Nat)} {q : FSlot} {fs : List Nat} {f : Nat} (h : f ∈ reservedAll (r.set q fs)) :
    f ∈ fs ∨ f ∈ reservedAll r := by
  obtain ⟨k, hk⟩ := mem_reservedAll.1 h
  by_cases e : k = q
  · subst e; exact .inl (by simpa using hk)
  · exact .inr (mem_reservedAll.2 ⟨k, by rwa [Four.get_set_ne _ _ _ _ e] at hk⟩)

theorem nodup_set {r : Four (List Nat)} (h : ∀ q : FSlot, (r.get q).Nodup) (k : FSlot) {fs : List Nat} (hf : fs.Nodup) (q : FSlot) :
    ((r.set k fs).get q).Nodup := by
  by_cases e : q = k
  · subst e; simpa using hf
  · rw [Four.get_set_ne _ _ _ _ e]; exact h q

/-- A list of folios without repetitions whose unrecorded ones are among another's has no more of them. -/
theorem unrecorded_le {c d : CatMem} {fs gs : List Nat} (h : ∀ f ∈ fs, c.folio? f = none → f ∈ gs ∧ d.folio? f = none) :
    unrecorded c fs ≤ unrecorded d gs := by
  refine (List.Nodup.subperm ((nodup_distinct fs).filter _) (fun f hf => ?_)).length_le
  simp only [List.mem_filter, mem_distinct, Option.isNone_iff_eq_none] at hf ⊢
  exact h f hf.1 hf.2

/-- Links made are index room used up: records made, with the reserved folios left without one, are no more than those folios were
before, with the folios named that were neither recorded nor reserved. -/
theorem records_addLinks (c : CatMem) (n : InstrNum) (fs rs ss : List Nat) (h : risingKeys FolioRec.folio c.folios = true)
    (hs : ∀ f ∈ ss, f ∈ rs) :
    (c.addLinks n fs).folios.length + unrecorded (c.addLinks n fs) ss ≤
      c.folios.length + unrecorded c rs + ((distinct fs).filter (fun f => (c.folio? f).isNone && !rs.contains f)).length := by
  have hlen := length_addLinks n (ascendingFolios fs) c.folios h (nodup_ascendingFolios fs)
  have hleft : ∀ f, (c.addLinks n fs).folio? f = none ↔ f ∉ fs ∧ c.folio? f = none := by
    intro f; rw [c.folio?_addLinks n fs f h]; split <;> simp_all
  have hcount : ((ascendingFolios fs).filter (fun f => (c.folio? f).isNone) ++
      (distinct ss).filter (fun f => ((c.addLinks n fs).folio? f).isNone)).length ≤
      ((distinct rs).filter (fun f => (c.folio? f).isNone) ++
        (distinct fs).filter (fun f => (c.folio? f).isNone && !rs.contains f)).length := by
    refine (List.Nodup.subperm ?_ (fun f hf => ?_)).length_le
    · refine List.Nodup.append ((nodup_ascendingFolios fs).filter _) ((nodup_distinct ss).filter _) (fun f hf hg => ?_)
      simp only [List.mem_filter, mem_ascendingFolios, mem_distinct, Option.isNone_iff_eq_none, hleft] at hf hg
      exact hg.2.1 hf.1
    · have := hs f
      simp only [List.mem_append, List.mem_filter, mem_ascendingFolios, mem_distinct, Option.isNone_iff_eq_none, hleft, Bool.and_eq_true,
        Bool.not_eq_true', List.contains_eq_mem, decide_eq_false_iff_not] at hf ⊢
      tauto
  simp only [List.length_append] at hcount
  simp only [CatMem.addLinks_eq] at hleft hcount ⊢
  simp only [unrecorded, CatMem.folio?] at hcount ⊢
  omega

/-- The links of distinct folios are no more than the folios. -/
theorem folioLinks_addLinks (c : CatMem) (n : InstrNum) (fs : List Nat) (h : risingKeys FolioRec.folio c.folios = true) :
    (c.addLinks n fs).folioLinks ≤ c.folioLinks + (distinct fs).length := by
  rw [← length_ascendingFolios]; exact linksIn_addLinks n (ascendingFolios fs) c.folios h

theorem foliosOrdered_addLinks (c : CatMem) (n : InstrNum) (fs : List Nat) (h : c.FoliosOrdered) : (c.addLinks n fs).FoliosOrdered :=
  ⟨rising_addLinks n _ _ h.1, rising_addLinks_lists n _ _ h.1 h.2⟩

/-- Only the folio index of the books matters. -/
theorem IndexFits.congr {c d : CatMem} {r : Four (List Nat)} (e : d.folios = c.folios) (h : IndexFits c r) : IndexFits d r := by
  simp only [IndexFits, CatMem.FoliosOrdered, CatMem.folioLinks, unrecorded, CatMem.folio?, e] at h ⊢; exact h

/-- A RESTORE's links fit, by its room (R19 check 6, R20). -/
theorem IndexFits.addLinks {c : CatMem} {r : Four (List Nat)} (h : IndexFits c r) (n : InstrNum) (fs : List Nat)
    (room : Room c r (distinct fs)) : IndexFits (c.addLinks n fs) r := by
  obtain ⟨hord, hnod, -, -⟩ := h
  obtain ⟨hlinks, hrecs⟩ := room
  have h1 := folioLinks_addLinks c n fs hord.1
  have h2 := records_addLinks c n fs (reservedAll r) (reservedAll r) hord.1 (fun _ h => h)
  exact ⟨foliosOrdered_addLinks c n fs hord, hnod, by omega, by omega⟩

/-- A record change's links fit, by the reservation they use up (R14, R15). -/
theorem IndexFits.useReserved {c : CatMem} {r : Four (List Nat)} (h : IndexFits c r) (n : InstrNum) (q : FSlot) :
    IndexFits (c.addLinks n (r.get q)) (r.set q []) := by
  obtain ⟨hord, hnod, hlinks, hrecs⟩ := h
  have h1 := folioLinks_addLinks c n (r.get q) hord.1
  rw [distinct_of_nodup (hnod q)] at h1
  have h2 := length_reservedAll_set r q []
  have h3 := records_addLinks c n (r.get q) (reservedAll r) (reservedAll (r.set q [])) hord.1
    (fun f hf => (mem_reservedAll_set hf).resolve_left (by simp))
  have h4 : (distinct (r.get q)).filter (fun f => (c.folio? f).isNone && !(reservedAll r).contains f) = [] :=
    List.filter_eq_nil_iff.2 (fun f hf => by simp [mem_reservedAll.2 ⟨q, mem_distinct.1 hf⟩])
  simp only [List.length_nil, h4] at h2 h3
  exact ⟨foliosOrdered_addLinks c n _ hord, nodup_set hnod q List.nodup_nil, by omega, by omega⟩

/-- A reservation fits, by its room (R14). -/
theorem IndexFits.reserve {c : CatMem} {r : Four (List Nat)} (h : IndexFits c r) (q : FSlot) (fs : List Nat) (hf : fs.Nodup)
    (room : Room c r fs) : IndexFits c (r.set q fs) := by
  obtain ⟨hord, hnod, -, -⟩ := h
  obtain ⟨hlinks, hrecs⟩ := room
  have h1 := length_reservedAll_set r q fs
  have h2 : unrecorded c (reservedAll (r.set q fs)) ≤
      (fs.filter (fun f => (c.folio? f).isNone && !(reservedAll r).contains f) ++
        (distinct (reservedAll r)).filter (fun f => (c.folio? f).isNone)).length := by
    refine (List.Nodup.subperm ((nodup_distinct _).filter _) (fun f hf => ?_)).length_le
    have := @mem_reservedAll_set r q fs f
    simp only [List.mem_append, List.mem_filter, mem_distinct, Option.isNone_iff_eq_none, Bool.and_eq_true,
      Bool.not_eq_true', List.contains_eq_mem, decide_eq_false_iff_not] at hf ⊢
    tauto
  rw [List.length_append] at h2
  exact ⟨hord, nodup_set hnod q hf, by omega, by simp only [unrecorded] at h2 hrecs ⊢; omega⟩

/-- A reservation dropped leaves more room. -/
theorem IndexFits.unreserve {c : CatMem} {r : Four (List Nat)} (h : IndexFits c r) (q : FSlot) : IndexFits c (r.set q []) := by
  obtain ⟨hord, hnod, hlinks, hrecs⟩ := h
  have h1 := length_reservedAll_set r q []
  have h2 : unrecorded c (reservedAll (r.set q [])) ≤ unrecorded c (reservedAll r) :=
    unrecorded_le (fun f hf hn => ⟨(mem_reservedAll_set hf).resolve_left (by simp), hn⟩)
  rw [List.length_nil] at h1
  exact ⟨hord, nodup_set hnod q List.nodup_nil, by omega, by omega⟩

/-- The empty index, with nothing reserved, fits. -/
theorem IndexFits.clear : IndexFits CatMem.cleared (Four.const []) :=
  ⟨⟨rfl, fun _ h => by cases h⟩, fun q => by simp, by decide, by decide⟩

/-- Every change keeps the folio index in order and within its capacities with the reservations (R13 to R15). -/
theorem Change.indexFits {x y : Books} (hc : Change x y) (h : IndexFits x.cat x.reserved) : IndexFits y.cat y.reserved := by
  cases hc with
  | recorded c r u n loc pg res q =>
    obtain ⟨f, hf, e⟩ := c.recordEntry_eq n loc pg res (r.get q)
    exact (h.useReserved n q).congr (by rw [e, CatMem.addLinks_eq])
  | restored c r u p v free room =>
    obtain ⟨e, f, hf, eq⟩ := c.restored_eq p v
    exact (h.addLinks p.inst p.folios room).congr (by rw [eq, CatMem.addLinks_eq])
  | reserved c r u q fs room => exact h.reserve q _ (nodup_distinct fs) room
  | unreserved c r u q => exact h.unreserve q
  | cleared => exact IndexFits.clear
  | entries | issued | platters | platterAdded | slotSet | slotsFreed | substAdded | accounts | accountAdded | accountsRemoved | snapRecords |
      snapRecordsRemoved | snapCleared | closed | figures => exact h.congr rfl

end Books

end Sys2Proof.Machine
end

section
/-!
PROOFS. The operations that leave the books alone, unit by unit: one lemma for each.
-/
namespace Sys2Proof.Machine
set_option Elab.async false

variable (s : State)

/-- A chain of changes that leave the books alone leaves them alone. -/
theorem State.foldl_books {α : Type} (f : State → α → State) (hf : ∀ s a, (f s a).books = s.books) (l : List α) (s : State) :
    (l.foldl f s).books = s.books := by
  induction l generalizing s with
  | nil => rfl
  | cons a l ih => exact (ih _).trans (hf s a)

/-! ## Responses, events and records of single units -/

@[simp] theorem State.later_books (ts : List Task) : (s.later ts).books = s.books := (rfl)
@[simp] theorem State.modLink_books (l : Link) (f : LinkRec → LinkRec) : (s.modLink l f).books = s.books := (rfl)
@[simp] theorem State.modLine_books (q : LineNo) (f : Line → Line) : (s.modLine q f).books = s.books := (rfl)
@[simp] theorem State.setFiling_books (q : FSlot) (f : Option Filing) : (s.setFiling q f).books = s.books := (rfl)
@[simp] theorem State.modFiling_books (q : FSlot) (f : Filing → Filing) : (s.modFiling q f).books = s.books := (rfl)
@[simp] theorem State.modCommit_books (q : FSlot) (f : Commit → Commit) : (s.modCommit q f).books = s.books := (rfl)
@[simp] theorem State.modLib_books (f : Library → Library) : (s.modLib f).books = s.books := (rfl)
@[simp] theorem State.modDrive_books (d : DriveNo) (f : Drive → Drive) : (s.modDrive d f).books = s.books := (rfl)
@[simp] theorem State.modPicker_books (f : Picker → Picker) : (s.modPicker f).books = s.books := (rfl)
@[simp] theorem State.modDriveChan_books (d : DriveNo) (f : DriveChan → DriveChan) : (s.modDriveChan d f).books = s.books := (rfl)
@[simp] theorem State.setInChan_books (l : Link) (c : InChan) : (s.setInChan l c).books = s.books := (rfl)
@[simp] theorem State.modOutChan_books (l : Link) (f : OutChan → OutChan) : (s.modOutChan l f).books = s.books := (rfl)
@[simp] theorem State.modOp_books (l : Link) (t : Nat) (f : Op → Op) : (s.modOp l t f).books = s.books := (rfl)
@[simp] theorem State.modItem_books (r : ItemRef) (f : Item → Item) : (s.modItem r f).books = s.books := (rfl)
@[simp] theorem State.setPhase_books (r : ItemRef) (p : Phase) : (s.setPhase r p).books = s.books := (rfl)
@[simp] theorem State.modSegment_books (n : InstrNum) (f : Segment → Segment) : (s.modSegment n f).books = s.books := (rfl)
@[simp] theorem State.useFree_books : s.useFree.books = s.books := (rfl)
@[simp] theorem State.post_books (e : Event) : (s.post e).books = s.books := by
  simp only [State.post]; (repeat' split) <;> simp
@[simp] theorem State.respond_books (r : Reply) (st : Status) (b : Body) : (s.respond r st b).books = s.books := by
  simp only [State.respond]; (repeat' split) <;> simp
@[simp] theorem State.answer_books (r : Reply) (st : Status) : (s.answer r st).books = s.books := s.respond_books r st .none
@[simp] theorem State.postLow_books : s.postLow.books = s.books := by
  simp only [State.postLow]; (repeat' split) <;> simp

/-! ## Requests that only read -/

@[simp] theorem handleLookup_books (r : Reply) (n : InstrNum) : (handleLookup s r n).books = s.books := by
  simp only [handleLookup]; (repeat' split) <;> simp
@[simp] theorem handlePendingList_books (r : Reply) (after : OptField) : (handlePendingList s r after).books = s.books := by
  simp only [handlePendingList]; (repeat' split) <;> simp
@[simp] theorem handleFolioSearch_books (r : Reply) (folio : Nat) (after : OptField) (mode : Nat) :
    (handleFolioSearch s r folio after mode).books = s.books := by
  simp only [handleFolioSearch]; (repeat' split) <;> simp
@[simp] theorem handleClockRead_books (r : Reply) : (handleClockRead s r).books = s.books := by simp [handleClockRead]
@[simp] theorem State.answerSchedules_books (r : Reply) : (s.answerSchedules r).books = s.books := by simp [State.answerSchedules]
@[simp] theorem State.answerAccount_books (r : Reply) (code : Nat) : (s.answerAccount r code).books = s.books := by
  simp only [State.answerAccount]; (repeat' split) <;> simp
@[simp] theorem handleAccountRead_books (r : Reply) (after : OptField) : (handleAccountRead s r after).books = s.books := by
  simp only [handleAccountRead]; (repeat' split) <;> simp
@[simp] theorem handlePeriodTake_books (r : Reply) (after : OptField) : (handlePeriodTake s r after).books = s.books := by
  simp only [handlePeriodTake]; (repeat' split) <;> simp
@[simp] theorem handleStatus_books (r : Reply) (o : OptField) : (handleStatus s r o).books = s.books := by
  simp only [handleStatus]; (repeat' split) <;> simp
@[simp] theorem handleEventsRead_books (r : Reply) : (handleEventsRead s r).books = s.books := by simp [handleEventsRead]
@[simp] theorem handleEventsAck_books (r : Reply) (set : Nat) : (handleEventsAck s r set).books = s.books := by
  simp only [handleEventsAck]; (repeat' split) <;> simp
@[simp] theorem handleEventsEnable_books (r : Reply) (set : Nat) : (handleEventsEnable s r set).books = s.books := by
  simp only [handleEventsEnable]; (repeat' split) <;> simp

/-! ## Settings memory -/

@[simp] theorem State.beginWrite_books : s.beginWrite.books = s.books := by
  simp only [State.beginWrite]; (repeat' split) <;> simp
@[simp] theorem State.askWrite_books (c : SettingsChange) (r : Reply) : (s.askWrite c r).books = s.books := by simp [State.askWrite]
@[simp] theorem State.endWrite_books (ok : Bool) : (s.endWrite ok).books = s.books := by
  simp only [State.endWrite]; (repeat' split) <;> simp
@[simp] theorem handleSettingsSet_books (r : Reply) (count : Nat) (enables : Four Nat) : (handleSettingsSet s r count enables).books = s.books := by
  simp only [handleSettingsSet]; (repeat' split) <;> simp
@[simp] theorem handleClockTrim_books (r : Reply) (f : TrimForm) : (handleClockTrim s r f).books = s.books := by
  simp only [handleClockTrim]; (repeat' split) <;> simp
@[simp] theorem handleRightsSet_books (r : Reply) (target rights : Nat) : (handleRightsSet s r target rights).books = s.books := by
  simp only [handleRightsSet]; (repeat' split) <;> simp
@[simp] theorem State.refusePress_books (q : LineNo) (why : RefuseReason) : (s.refusePress q why).books = s.books := by
  simp [State.refusePress, State.modLine]
@[simp] theorem State.pressRelease_books (q : LineNo) : (s.pressRelease q).books = s.books := (rfl)
@[simp] theorem State.printerAccept_books (q : LineNo) : (s.printerAccept q).books = s.books := (rfl)
@[simp] theorem State.printerRelease_books (q : LineNo) : (s.printerRelease q).books = s.books := (rfl)

/-! ## The ring, staging and the library -/

@[simp] theorem State.appendRing_books (q : FSlot) (ext : Nat) : (s.appendRing q ext).books = s.books := (rfl)
@[simp] theorem State.markSlot_books (q : FSlot) (m : Mark) : (s.markSlot q m).books = s.books := (rfl)
@[simp] theorem State.touchSegment_books (n : InstrNum) : (s.touchSegment n).books = s.books := by
  simp only [State.touchSegment]; (repeat' split) <;> simp
@[simp] theorem State.joinSegment_books (r : ItemRef) (n : InstrNum) : (s.joinSegment r n).books = s.books := by simp [State.joinSegment]
@[simp] theorem State.createSegment_books (r : ItemRef) (n : InstrNum) (first len : Nat) :
    (s.createSegment r n first len).books = s.books := by
  have hjoin := fun (l : List ItemRef) (s : State) => State.foldl_books (fun s o => s.joinSegment o n) (fun s o => by simp) l s
  simp only [State.createSegment]; split <;> simp [hjoin]
@[simp] theorem State.dropSegment_books (n : InstrNum) : (s.dropSegment n).books = s.books := (rfl)
@[simp] theorem State.idleOut_books (l : Link) : (s.idleOut l).books = s.books := (rfl)
@[simp] theorem State.leaveSegment_books (r : ItemRef) (g : Segment) : (s.leaveSegment r g).books = s.books := by
  simp only [State.leaveSegment]; (repeat' split) <;> simp
@[simp] theorem State.command_books (d : DriveNo) (c : DriveCmd) : (s.command d c).books = s.books := (rfl)
@[simp] theorem State.endCmd_books (d : DriveNo) : (s.endCmd d).books = s.books := (rfl)
@[simp] theorem State.idleChan_books (d : DriveNo) : (s.idleChan d).books = s.books := (rfl)
@[simp] theorem State.appendUse_books (d : DriveNo) (u : Use) : (s.appendUse d u).books = s.books := (rfl)
@[simp] theorem State.removeUse_books (d : DriveNo) (u : Use) : (s.removeUse d u).books = s.books := by
  simp only [State.removeUse]; (repeat' split) <;> simp
@[simp] theorem State.handOver_books (d : DriveNo) (w : Waiter) : (s.handOver d w).books = s.books := by
  simp only [State.handOver]; (repeat' split) <;> simp
@[simp] theorem State.modDemands_books (f : List Demand → List Demand) : (s.modDemands f).books = s.books := (rfl)
@[simp] theorem State.modDemand_books (ps : PlatterSide) (f : Demand → Demand) : (s.modDemand ps f).books = s.books := (rfl)
@[simp] theorem State.dropDemand_books (ps : PlatterSide) : (s.dropDemand ps).books = s.books := (rfl)
@[simp] theorem State.joinDemand_books (q : Demand) (w : Waiter) : (s.joinDemand q w).books = s.books := by
  simp only [State.joinDemand]; (repeat' split) <;> simp
@[simp] theorem State.newDemand_books (ps : PlatterSide) (w : Waiter) : (s.newDemand ps w).books = s.books := (rfl)
@[simp] theorem State.submit_books (ps : PlatterSide) (w : Waiter) : (s.submit ps w).books = s.books := by
  simp only [State.submit]; (repeat' split) <;> simp
@[simp] theorem State.pruneDemands_books : s.pruneDemands.books = s.books := (rfl)
@[simp] theorem State.leaveDemands_books (r : ItemRef) : (s.leaveDemands r).books = s.books := (rfl)
@[simp] theorem State.leaveFiling_books : s.leaveFiling.books = s.books := (rfl)
@[simp] theorem State.meet_books (d : DriveNo) (q : Demand) : (s.meet d q).books = s.books :=
  State.foldl_books _ (fun s w => by simp) _ _
@[simp] theorem State.meetMounted_books (d : DriveNo) : (s.meetMounted d).books = s.books := by
  simp only [State.meetMounted]; (repeat' split) <;> simp
@[simp] theorem State.endFilUse_books (d : DriveNo) : (s.endFilUse d).books = s.books := by simp [State.endFilUse]
@[simp] theorem State.endDemands_books (platter : Nat) (st : Status) : (s.endDemands platter st).books = s.books :=
  (State.foldl_books _ (fun s w => by cases w <;> simp) _ _).trans (by simp)
@[simp] theorem State.givePicker_books (src : Pos) (dst : Option Pos) (flip : Bool) (p : Piece) :
    (s.givePicker src dst flip p).books = s.books := rfl
@[simp] theorem State.waitAtDrive_books (d : DriveNo) (dst : Option Pos) (flip : Bool) (p : Piece) :
    (s.waitAtDrive d dst flip p).books = s.books := rfl
@[simp] theorem State.clearMove_books : s.clearMove.books = s.books := (rfl)
@[simp] theorem State.startSweep_books : s.startSweep.books = s.books := (rfl)
@[simp] theorem State.endPiece_books : s.endPiece.books = s.books := by
  simp only [State.endPiece]; (repeat' split) <;> simp
@[simp] theorem State.queueReturn_books (d : DriveNo) : (s.queueReturn d).books = s.books := (rfl)
@[simp] theorem State.unmount_books (ps : PlatterSide) : (s.unmount ps).books = s.books := (rfl)
@[simp] theorem State.answerReset_books (d : DriveNo) (st : Status) : (s.answerReset d st).books = s.books := by
  simp only [State.answerReset]; (repeat' split) <;> simp
@[simp] theorem State.answerReturn_books (d : DriveNo) (st : Status) : (s.answerReturn d st).books = s.books := by
  simp only [State.answerReturn]; (repeat' split) <;> simp
@[simp] theorem State.importEnds_books (r : Option Reply) (st : Status) (id slot : Nat) : (s.importEnds r st id slot).books = s.books := by
  simp only [State.importEnds]; (repeat' split) <;> simp
@[simp] theorem State.askImport_books (r : Option Reply) : (s.askImport r).books = s.books := by
  simp only [State.askImport]; (repeat' split) <;> simp
@[simp] theorem State.serveMail_books : s.serveMail.books = s.books := by
  simp only [State.serveMail]; (repeat' split) <;> simp
@[simp] theorem handleImport_books (r : Reply) : (handleImport s r).books = s.books := by simp [handleImport]
@[simp] theorem handleExport_books (r : Reply) (id : Nat) : (handleExport s r id).books = s.books := by
  simp only [handleExport]; (repeat' split) <;> simp
@[simp] theorem handleDriveReset_books (r : Reply) (n : Nat) : (handleDriveReset s r n).books = s.books := by
  simp only [handleDriveReset]; (repeat' split) <;> simp

/-! ## Filing -/

@[simp] theorem State.demandSide_books (q : FSlot) (ps : PlatterSide) : (s.demandSide q ps).books = s.books := by
  simp only [State.demandSide]; (repeat' split) <;> simp
@[simp] theorem State.sideSearch_books : s.sideSearch.books = s.books := by
  simp only [State.sideSearch]; (repeat' split) <;> simp
@[simp] theorem State.mediaRetry_books : s.mediaRetry.books = s.books := by
  simp only [State.mediaRetry]; (repeat' split) <;> simp
@[simp] theorem State.freeSlot_books (q : FSlot) : (s.freeSlot q).books = s.books := (rfl)
@[simp] theorem State.dropUse_books (q : FSlot) : (s.dropUse q).books = s.books := by
  simp only [State.dropUse]; (repeat' split) <;> simp
@[simp] theorem State.pass_books (d : DriveNo) (p : Passed) : (s.pass d p).books = s.books := (rfl)
@[simp] theorem State.setChan_books (d : DriveNo) (c : Chan) : (s.setChan d c).books = s.books := (rfl)
@[simp] theorem State.stage_books (g : FilStage) : (s.stage g).books = s.books := (rfl)
@[simp] theorem State.startCheck_books (d : DriveNo) (q : FSlot) : (s.startCheck d q).books = s.books := (rfl)
@[simp] theorem State.startHeader_books (d : DriveNo) (q : FSlot) : (s.startHeader d q).books = s.books := (rfl)
@[simp] theorem State.leaveSide_books (d : DriveNo) (next : Task) : (s.leaveSide d next).books = s.books := by simp [State.leaveSide]
@[simp] theorem State.headerErased_books (d : DriveNo) (u : FilUse) : (s.headerErased d u).books = s.books := by simp [State.headerErased]
@[simp] theorem State.startWrite_books (d : DriveNo) (q : FSlot) : (s.startWrite d q).books = s.books := by simp [State.startWrite]
@[simp] theorem State.startVerify_books (d : DriveNo) (q : FSlot) : (s.startVerify d q).books = s.books := by simp [State.startVerify]
@[simp] theorem State.admitFeed_books (r : Reply) (q : FSlot) (f : Filing) (flag : Bool) (block : List Byte) :
    (s.admitFeed r q f flag block).books = s.books := by simp [State.admitFeed]
@[simp] theorem handleFeed_books (r : Reply) (slot pageStart : Nat) (block : List Byte) :
    (handleFeed s r slot pageStart block).books = s.books := by
  simp only [handleFeed]; (repeat' split) <;> simp
@[simp] theorem handleCommit_books (r : Reply) (p : CommitParams) : (handleCommit s r p).books = s.books := by
  simp only [handleCommit]; (repeat' split) <;> simp

/-! ## Retrieval -/

@[simp] theorem handleQuote_books (r : Reply) (p : FetchParams) : (handleQuote s r p).books = s.books := by
  simp only [handleQuote]; (repeat' split) <;> simp
@[simp] theorem State.cancelFill_books (n : InstrNum) : (s.cancelFill n).books = s.books := by
  unfold State.cancelFill
  exact State.foldl_books _ (fun s d => by split <;> simp) _ _
@[simp] theorem State.removeUnstarted_books (g : Segment) (r : ItemRef) : (s.removeUnstarted g r).books = s.books := by
  unfold State.removeUnstarted
  exact (State.foldl_books _ (fun s u => by dsimp only; split <;> simp) _ _).trans (by simp)
@[simp] theorem State.leaveAll_books (r : ItemRef) : (s.leaveAll r).books = s.books := by
  simp only [State.leaveAll]; (repeat' split) <;> simp
@[simp] theorem State.nextTurn_books (l : Link) (t : Nat) : (s.nextTurn l t).books = s.books := by
  simp only [State.nextTurn]; (repeat' split) <;> simp
@[simp] theorem State.granted_books (r : ItemRef) (o : Op) (v : Resolved) (first : Nat) : (s.granted r o v first).books = s.books := by
  simp [State.granted]
@[simp] theorem State.askSpace_books (r : ItemRef) (o : Op) (v : Resolved) : (s.askSpace r o v).books = s.books := by
  simp only [State.askSpace]; (repeat' split) <;> simp
@[simp] theorem State.startFill_books (d : DriveNo) (n : InstrNum) : (s.startFill d n).books = s.books := by
  simp only [State.startFill]; (repeat' split) <;> simp
@[simp] theorem State.failUsers_books (g : Segment) : (s.failUsers g).books = s.books := (rfl)
@[simp] theorem State.failFill_books (d : DriveNo) (n : InstrNum) : (s.failFill d n).books = s.books := by
  simp only [State.failFill]; (repeat' split) <;> simp
@[simp] theorem State.endFill_books (d : DriveNo) (n : InstrNum) : (s.endFill d n).books = s.books := by simp [State.endFill]
@[simp] theorem State.outTake_books (l : Link) : (s.outTake l).books = s.books := by
  simp only [State.outTake]; (repeat' split) <;> simp
@[simp] theorem State.advanceOut_books (l : Link) (g : Segment) : (s.advanceOut l g).books = s.books := (rfl)
@[simp] theorem State.reportStaged_books (g : Segment) : (s.reportStaged g).books = s.books :=
  State.foldl_books _ (fun s l => by split <;> simp) _ _
@[simp] theorem State.offerFrame_books (l : Link) : (s.offerFrame l).books = s.books := by
  simp only [State.offerFrame]; (repeat' split) <;> simp
@[simp] theorem State.stagingFault_books (l : Link) (g : Segment) : (s.stagingFault l g).books = s.books := by
  simp only [State.stagingFault]; (repeat' split) <;> simp

/-! ## Drives, picker, door and mail slot -/

@[simp] theorem State.endDemand_books (q : Demand) (st : Status) : (s.endDemand q st).books = s.books :=
  (State.foldl_books _ (fun s w => by cases w <;> simp) _ _).trans (by simp)
@[simp] theorem State.faultDemand_books (was : Drive) (q : Demand) : (s.faultDemand was q).books = s.books := by
  simp only [State.faultDemand]; (repeat' split) <;> simp
@[simp] theorem State.faultPiece_books (d : DriveNo) : (s.faultPiece d).books = s.books := by
  simp only [State.faultPiece]; (repeat' split) <;> simp
@[simp] theorem State.resetFailed_books (d : DriveNo) : (s.resetFailed d).books = s.books := by simp [State.resetFailed]
@[simp] theorem State.reissue_books (d : DriveNo) : (s.reissue d).books = s.books := by
  simp only [State.reissue]; (repeat' split) <;> simp
@[simp] theorem State.vacate_books (d : DriveNo) : (s.vacate d).books = s.books := (rfl)
@[simp] theorem State.ejected_books (d : DriveNo) : (s.ejected d).books = s.books := by
  simp only [State.ejected]; (repeat' split) <;> simp
@[simp] theorem State.countBlock_books (d : DriveNo) : (s.countBlock d).books = s.books := (rfl)
@[simp] theorem State.holdBlock_books (d : DriveNo) (b : List Byte) : (s.holdBlock d b).books = s.books := (rfl)
@[simp] theorem State.carryHeader_books (d : DriveNo) : (s.carryHeader d).books = s.books := (rfl)
@[simp] theorem State.residencyExpiry_books (d : DriveNo) : (s.residencyExpiry d).books = s.books := by
  simp only [State.residencyExpiry]; (repeat' split) <;> simp
@[simp] theorem State.fillParity_books (d : DriveNo) (n : InstrNum) : (s.fillParity d n).books = s.books := by simp [State.fillParity]
@[simp] theorem State.stageBlock_books (d : DriveNo) (n : InstrNum) : (s.stageBlock d n).books = s.books := by
  simp only [State.stageBlock]; (repeat' split) <;> simp
@[simp] theorem State.serveIn_books (l : Link) : (s.serveIn l).books = s.books := by
  simp only [State.serveIn]; (repeat' split) <;> simp
@[simp] theorem State.emptied_books (d : DriveNo) : (s.emptied d).books = s.books := by
  simp only [State.emptied]; (repeat' split) <;> simp
@[simp] theorem State.modSweep_books (f : Sweep → Sweep) : (s.modSweep f).books = s.books := (rfl)
@[simp] theorem State.jamDemands_books : s.jamDemands.books = s.books := by
  simp only [State.jamDemands, State.pruneDemands_books, State.modDemands_books]
  exact State.foldl_books _ (fun s w => by cases w <;> simp) _ _
@[simp] theorem State.jamPiece_books : s.jamPiece.books = s.books := by
  simp only [State.jamPiece]; (repeat' split) <;> simp
@[simp] theorem State.refuseMedia_books (st : Status) : (s.refuseMedia st).books = s.books :=
  (State.foldl_books _ (fun s m => by cases m <;> simp) _ _).trans (by simp)
@[simp] theorem State.doorOpens_books : s.doorOpens.books = s.books := by
  simp only [State.doorOpens]; (repeat' split) <;> simp
@[simp] theorem State.doorCloses_books : s.doorCloses.books = s.books := by
  simp only [State.doorCloses]; (repeat' split) <;> simp
@[simp] theorem State.mailFilled_books : s.mailFilled.books = s.books := by
  simp only [State.mailFilled]; (repeat' split) <;> simp

/-! ## Frames -/

@[simp] theorem State.refuseFrame_books (l : Link) (tag : Option Nat) (code : Nat) (st : Status) :
    (s.refuseFrame l tag code st).books = s.books := rfl
@[simp] theorem State.badFrame_books (l : Link) (f : BadFrame) : (s.badFrame l f).books = s.books := (rfl)
@[simp] theorem State.responseSend_books (l : Link) : (s.responseSend l).books = s.books := by
  simp only [State.responseSend]; (repeat' split) <;> simp
@[simp] theorem State.responseAccepted_books (l : Link) : (s.responseAccepted l).books = s.books := by
  simp only [State.responseAccepted]; (repeat' split) <;> simp

end Sys2Proof.Machine
end

section
/-!
PROOFS. The operations that change the books, each a chain of the changes of `Books.Change`: first those of catalogue memory alone, then those of the
state, unit by unit. Each is said of a chain from any books `x` to those the operation is given, so that one follows another.
-/
namespace Sys2Proof.Machine
set_option Elab.async false

variable {x : Books}

/-! ## Catalogue memory -/

namespace Books

section
variable {c : CatMem} {r : Four (List Nat)} {u : UpdateRecord}

@[simp] theorem Leads.modEntry (h : x.Leads ⟨c, r, u⟩) (n : InstrNum) (f : Entry → Entry) (hf : ∀ e, (f e).num = e.num) :
    x.Leads ⟨c.modEntry n f, r, u⟩ :=
  h.then (.entries c r u _ (fun e => by split <;> simp [hf]))

@[simp] theorem Leads.openEntry (h : x.Leads ⟨c, r, u⟩) (n : InstrNum) (q : FSlot) : x.Leads ⟨c.openEntry n q, r, u⟩ :=
  h.modEntry n _ (fun _ => by rfl)

@[simp] theorem Leads.withdrawEntry (h : x.Leads ⟨c, r, u⟩) (n : InstrNum) : x.Leads ⟨c.withdrawEntry n, r, u⟩ :=
  h.modEntry n _ (fun _ => by rfl)

@[simp] theorem Leads.countCopy (h : x.Leads ⟨c, r, u⟩) (n : InstrNum) : x.Leads ⟨c.countCopy n, r, u⟩ :=
  h.modEntry n _ (fun _ => by rfl)

@[simp] theorem Leads.setClaims (h : x.Leads ⟨c, r, u⟩) (n : InstrNum) (ts : List InstrNum) : x.Leads ⟨c.setClaims n ts, r, u⟩ :=
  h.then (.entries c r u _ (fun e => by split <;> rfl))

@[simp] theorem Leads.releaseEntry (h : x.Leads ⟨c, r, u⟩) (n : InstrNum) : x.Leads ⟨c.releaseEntry n, r, u⟩ := by
  unfold CatMem.releaseEntry
  split
  · exact (h.modEntry n _ (fun _ => by rfl)).then (.entries _ r u _ (fun e => by split <;> rfl))
  · exact h

@[simp] theorem Leads.modAccount (h : x.Leads ⟨c, r, u⟩) (code : Nat) (f : Account → Account) (hf : ∀ a, (f a).code = a.code) :
    x.Leads ⟨c.modAccount code f, r, u⟩ :=
  h.then (.accounts c r u _ (fun a => by split <;> simp [hf]))

@[simp] theorem Leads.raiseCopy (h : x.Leads ⟨c, r, u⟩) (code : Nat) : x.Leads ⟨c.raiseCopy code, r, u⟩ :=
  h.modAccount code _ (fun _ => by rfl)

@[simp] theorem Leads.releaseCopy (h : x.Leads ⟨c, r, u⟩) (code : Nat) : x.Leads ⟨c.releaseCopy code, r, u⟩ :=
  h.modAccount code _ (fun _ => by rfl)

/-- What stands beside the tables may be set to anything. -/
theorem Leads.figures (h : x.Leads ⟨c, r, u⟩) (m : Marker) (k : Nat) (t : Stamp) (n : Option InstrNum) (a : Schedule) (p : Option Schedule)
    (d g : Nat) (w : CloseTarget) : x.Leads ⟨{ c with
      marker := m
      storedCount := k
      lastStamp := t
      lastNumber := n
      active := a
      pendingSched := p
      period := d
      grand := g
      target := w }, r, u⟩ :=
  h.then (.figures c r u m k t n a p d g w)

@[simp] theorem Leads.ready (h : x.Leads ⟨c, r, u⟩) : x.Leads ⟨c.ready, r, u⟩ := h.figures ..

@[simp] theorem Leads.setTarget (h : x.Leads ⟨c, r, u⟩) (w : CloseTarget) : x.Leads ⟨{ c with target := w }, r, u⟩ := h.figures ..

@[simp] theorem Leads.setActive (h : x.Leads ⟨c, r, u⟩) (a : Schedule) : x.Leads ⟨{ c with active := a }, r, u⟩ := h.figures ..

@[simp] theorem Leads.setPending (h : x.Leads ⟨c, r, u⟩) (p : Option Schedule) : x.Leads ⟨{ c with pendingSched := p }, r, u⟩ := h.figures ..

@[simp] theorem Leads.clearSnapshot (h : x.Leads ⟨c, r, u⟩) : x.Leads ⟨{ c with snapshot := none }, r, u⟩ := h.then (.snapCleared c r u)

@[simp] theorem Leads.copyMade (h : x.Leads ⟨c, r, u⟩) (code : Nat) (q : Quote) (n : InstrNum) : x.Leads ⟨c.copyMade code q n, r, u⟩ := by
  have hacc := h.modAccount code (fun a => { a with tally := a.tally.accrue q, inFlight := a.inFlight - 1 }) (fun _ => rfl)
  exact (Leads.figures hacc ..).countCopy n

/-- An account created, where the table has room (R170). -/
theorem Leads.createAccount (h : x.Leads ⟨c, r, u⟩) (a : Account) (free : c.accounts.length < Config.maxAccounts) :
    x.Leads ⟨{ c with accounts := insertKeyed Account.code a c.accounts }, r, u⟩ :=
  h.then (.accountAdded c r u a free)

@[simp] theorem Leads.resetAccount (h : x.Leads ⟨c, r, u⟩) (code : Nat) : x.Leads ⟨c.resetAccount code, r, u⟩ :=
  (h.modAccount code _ (fun _ => by rfl)).then (.snapRecords _ r u (fun y => if y.code = code then { y with tally := Tally.zero } else y)
    (fun y => by split <;> rfl))

@[simp] theorem Leads.deleteAccount (h : x.Leads ⟨c, r, u⟩) (code : Nat) : x.Leads ⟨c.deleteAccount code, r, u⟩ :=
  (h.then (.accountsRemoved c r u (fun a => a.code ≠ code))).then (.snapRecordsRemoved _ r u (fun y => y.code ≠ code))

@[simp] theorem Leads.close (h : x.Leads ⟨c, r, u⟩) (sec : Nat) : x.Leads ⟨c.close sec, r, u⟩ := h.then (.closed c r u sec)

/-- A platter record changed. -/
theorem Leads.modPlatter (h : x.Leads ⟨c, r, u⟩) (id : Nat) (f : Platter → Platter) (hf : ∀ p, (f p).id = p.id) :
    x.Leads ⟨{ c with platters := updateKeyed Platter.id id f c.platters }, r, u⟩ :=
  h.then (.platters c r u _ (fun p => by split <;> simp [hf]))

@[simp] theorem Leads.setSlot (h : x.Leads ⟨c, r, u⟩) (n : Nat) (v : Option SlotUse) : x.Leads ⟨c.setSlot n v, r, u⟩ := by
  cases v with
  | none => exact h.then (.slotsFreed c r u _)
  | some v => exact h.then (.slotSet c r u ⟨n, v⟩)

@[simp] theorem Leads.addPlatter (h : x.Leads ⟨c, r, u⟩) (id n : Nat) : x.Leads ⟨c.addPlatter id n, r, u⟩ :=
  (h.then (.platterAdded c r u (Platter.new id n))).setSlot n _

@[simp] theorem Leads.giveHome (h : x.Leads ⟨c, r, u⟩) (id n : Nat) : x.Leads ⟨c.giveHome id n, r, u⟩ :=
  ((h.then (.slotsFreed c r u _)).setSlot n _).modPlatter id _ (fun _ => by rfl)

/-- A substitution, where the table has room for its pair (R145). -/
theorem Leads.substitute (h : x.Leads ⟨c, r, u⟩) (old new : Nat) (free : c.substs.length < Config.maxSubst) :
    x.Leads ⟨c.substitute old new, r, u⟩ := by
  unfold CatMem.substitute
  split
  · exact h
  · rename_i p _
    have hnew := h.modPlatter new (fun q => { q with side0 := p.side0, side1 := p.side1 }) (fun _ => rfl)
    have hold := hnew.modPlatter old (fun q => { q with
      side0 := { q.side0 with state := q.side0.state.closed }
      side1 := { q.side1 with state := q.side1.state.closed } }) (fun _ => rfl)
    exact hold.then (.substAdded _ r u ⟨old, new⟩ free)

/-- The validity check and the power-on changes of catalogue memory (R23, R25, R183). -/
theorem Leads.started (h : x.Leads ⟨c, Four.const [], u⟩) (found : MemoryFound) : x.Leads ⟨c.started found, Four.const [], u⟩ := by
  unfold CatMem.started
  split
  · have hent : x.Leads ⟨{ c with table := if c.marker = .valid then c.table.map Entry.afterPower else c.table }, Four.const [], u⟩ := by
      split
      · exact h.then (.entries c _ u _ (fun _ => rfl))
      · exact h
    exact hent.then (.accounts _ _ u _ (fun _ => by rfl))
  · exact h.then (.cleared c _ u)

/-- Every reservation dropped, one slot after another. -/
theorem Leads.unreserveAll (h : x.Leads ⟨c, r, u⟩) : x.Leads ⟨c, Four.const [], u⟩ :=
  (((h.then (.unreserved c r u .q1)).then (.unreserved c _ u .q2)).then (.unreserved c _ u .q3)).then (.unreserved c _ u .q4)

end

end Books

/-! ## The shared operations of the state -/

/-- A chain of operations, each a chain of changes. -/
theorem State.foldl_leads {α : Type} (f : State → α → State) (hf : ∀ s a, x.Leads s.books → x.Leads (f s a).books) (l : List α) (s : State)
    (h : x.Leads s.books) : x.Leads (l.foldl f s).books := by
  induction l generalizing s with
  | nil => exact h
  | cons a l ih => exact ih _ (hf s a h)

variable {s : State} (h : x.Leads s.books)

@[simp] theorem State.modCat_books (s : State) (f : CatMem → CatMem) : (s.modCat f).books = ⟨f s.cat, s.reserved, s.update⟩ := (rfl)

include h

@[simp] theorem State.modPlatter_leads (id : Nat) (f : Platter → Platter) (hf : ∀ p, (f p).id = p.id) : x.Leads (s.modPlatter id f).books :=
  Books.Leads.modPlatter h id f hf

@[simp] theorem State.setLoc_leads (id : Nat) (l : PlatterLoc) : x.Leads (s.setLoc id l).books := State.modPlatter_leads h id _ (fun _ => rfl)

@[simp] theorem State.modSide_leads (ps : PlatterSide) (f : SideRec → SideRec) : x.Leads (s.modSide ps f).books :=
  State.modPlatter_leads h _ _ (fun p => by unfold Platter.modSide; split <;> rfl)

@[simp] theorem State.setSide_leads (ps : PlatterSide) (st : SideState) : x.Leads (s.setSide ps st).books := State.modSide_leads h ps _

@[simp] theorem State.carry_leads (id : Nat) : x.Leads (s.carry id).books := State.setLoc_leads h id .picker

@[simp] theorem State.releaseInst_leads (n : InstrNum) (q : FSlot) : x.Leads (s.releaseInst n q).books := by
  unfold State.releaseInst
  split
  · exact (Books.Leads.releaseEntry h n).then (.unreserved _ _ _ q)
  · exact h

end Sys2Proof.Machine
end

section
/-!
PROOFS. The operations of the units that change the books, each a chain of the changes of `Books.Change`, up to a request handled and the work handed
over done.
-/
namespace Sys2Proof.Machine
set_option Elab.async false

/-! ## The tests that guard a change -/

/-- An issue is made of a table that is not full (R42). -/
theorem State.issueTest_free {s : State} {v : InstrNum × Stamp} (h : s.issueTest = .ok v) : s.cat.table.length < Config.maxEntries := by
  unfold State.issueTest at h
  by_contra hf
  split at h
  · cases h
  · split at h
    · cases h
    · rw [if_pos (Nat.le_of_not_lt hf)] at h; cases h

theorem State.pressTest_free {s : State} {q : LineNo} {v : InstrNum × Stamp} (h : s.pressTest q = .ok v) :
    s.cat.table.length < Config.maxEntries := by
  unfold State.pressTest at h
  split at h
  · cases h
  · split at h
    · cases h
    · rename_i hv; exact State.issueTest_free hv

/-- A RESTORE that passes its checks finds a free entry and index room (R19 checks 6 and 7). -/
theorem State.restoreTest_room {s : State} {p : RestoreParams} {v : Source × Location × Bool × Option InstrNum}
    (h : s.restoreTest p = .ok v) : s.cat.table.length < Config.maxEntries ∧ Books.Room s.cat s.reserved (distinct p.folios) := by
  unfold State.restoreTest at h
  split at h
  · cases h
  split_ifs at h with _ _ _ _ hfree hroom
  exact ⟨Nat.lt_of_not_le hfree, (s.folioRoom_iff _).1 (by simpa using hroom)⟩

/-- A commit whose tests pass finds index room for its folios (R56 test 7). -/
theorem State.admissionFault_room {s : State} {f : Filing} {map : List Byte} {p : CommitParams} {fs : List Nat} {ts : List InstrNum}
    (h : s.admissionFault f map p fs ts = none) : Books.Room s.cat s.reserved (distinct fs) := by
  unfold State.admissionFault at h
  split at h
  · cases h
  split at h
  · cases h
  split_ifs at h with hroom
  exact (s.folioRoom_iff _).1 (by simpa using hroom)

/-- A SUBSTITUTE that is not refused finds room for its pair (R145). -/
theorem State.substituteRefusal_free {s : State} {old new : Nat} (h : s.substituteRefusal old new = none) :
    s.cat.substs.length < Config.maxSubst := by
  unfold State.substituteRefusal at h
  split at h
  · dsimp only at h
    split_ifs at h with _ _ hfree
    exact Nat.lt_of_not_le hfree
  · cases h

variable {x : Books} {s : State} (h : x.Leads s.books)
include h

/-! ## Stamps, accounts and the period close -/

@[simp] theorem State.closePeriod_leads : x.Leads s.closePeriod.books := by
  simpa [State.closePeriod] using Books.Leads.close h s.clock.now.sec

@[simp] theorem State.testClose_leads : x.Leads s.testClose.books := by
  unfold State.testClose; split <;> simp [h]

@[simp] theorem State.tick_leads : x.Leads s.tick.books := by
  unfold State.tick; split <;> simp [h]

theorem State.issue_leads (n : InstrNum) (t : Stamp) (src : Source) (free : s.cat.table.length < Config.maxEntries) :
    x.Leads (s.issue n t src).books := by
  simp only [State.issue, State.postLow_books, State.post_books, State.modCat_books]
  exact h.then (.issued _ _ _ n t src free)

/-! ## Requests of the clock, the fees, the catalogue -/

@[simp] theorem handleCloseTargetSet_leads (r : Reply) (target mode value : Nat) :
    x.Leads (handleCloseTargetSet s r target mode value).books := by
  simp only [handleCloseTargetSet]; (repeat' split) <;> simp [h]

@[simp] theorem handleLodge_leads (r : Reply) : x.Leads (handleLodge s r).books := by
  unfold handleLodge
  split
  · simp [h]
  · rename_i n t hv
    simpa using State.issue_leads h n t _ (State.issueTest_free hv)

@[simp] theorem handleScheduleSet_leads (r : Reply) (f : ScheduleForm) (sched : Option Schedule) :
    x.Leads (handleScheduleSet s r f sched).books := by
  simp only [handleScheduleSet]; (repeat' split) <;> simp [h]

@[simp] theorem accountCreate_leads (r : Reply) (p : AccountParams) : x.Leads (accountCreate s r p).books := by
  simp only [accountCreate]
  repeat' split
  case isFalse.isFalse hfree => simpa using Books.Leads.createAccount h _ (Nat.lt_of_not_le hfree)
  all_goals simp [h]

@[simp] theorem accountChange_leads (r : Reply) (p : AccountParams) : x.Leads (accountChange s r p).books := by
  simp only [accountChange]; (repeat' split) <;> simp [h]

@[simp] theorem accountReset_leads (r : Reply) (p : AccountParams) : x.Leads (accountReset s r p).books := by
  simp only [accountReset]; (repeat' split) <;> simp [h]

@[simp] theorem accountDelete_leads (r : Reply) (p : AccountParams) : x.Leads (accountDelete s r p).books := by
  simp only [accountDelete]; (repeat' split) <;> simp [h]

@[simp] theorem handleAccountSet_leads (r : Reply) (act : AccountAction) (p : AccountParams) :
    x.Leads (handleAccountSet s r act p).books := by
  simp only [handleAccountSet]; (repeat' split) <;> simp [h]

@[simp] theorem handlePeriodClear_leads (r : Reply) (period : Nat) : x.Leads (handlePeriodClear s r period).books := by
  simp only [handlePeriodClear]; (repeat' split) <;> simp [h]

@[simp] theorem handleRestore_leads (r : Reply) (p : RestoreParams) : x.Leads (handleRestore s r p).books := by
  unfold handleRestore
  split
  · simp [h]
  · rename_i v hv
    obtain ⟨hfree, hroom⟩ := State.restoreTest_room hv
    simpa using h.then (.restored _ _ _ p v hfree hroom)

@[simp] theorem handleCatalogueReady_leads (r : Reply) : x.Leads (handleCatalogueReady s r).books := by
  simp only [handleCatalogueReady]; (repeat' split) <;> simp [h]

@[simp] theorem handleClockLoad_leads (r : Reply) (v : Stamp) : x.Leads (handleClockLoad s r v).books := by
  simp only [handleClockLoad]; (repeat' split) <;> simp [h]

@[simp] theorem handleClockStep_leads (r : Reply) (n : Int) : x.Leads (handleClockStep s r n).books := by
  simp only [handleClockStep]; (repeat' split) <;> simp [h]

/-! ## The library -/

@[simp] theorem State.moveHome_leads (d : DriveNo) (id n : Nat) (sd : Side) (p : Piece) : x.Leads (s.moveHome d id n sd p).books := by
  simp [State.moveHome, h]

@[simp] theorem State.mountFetch_leads (d : DriveNo) (ps : PlatterSide) : x.Leads (s.mountFetch d ps).books := by
  simp only [State.mountFetch]; (repeat' split) <;> simp [h]

@[simp] theorem State.grant_leads (q : Demand) (d : DriveNo) : x.Leads (s.grant q d).books := by
  simp only [State.grant]; (repeat' split) <;> simp [h]

@[simp] theorem State.arbiter_leads : x.Leads s.arbiter.books := by
  simp only [State.arbiter]; (repeat' split) <;> simp [h]

@[simp] theorem State.homeMove_leads (d : DriveNo) (new : Option Nat) : x.Leads (s.homeMove d new).books := by
  simp only [State.homeMove]; (repeat' split) <;> simp [h]

@[simp] theorem State.startReturn_leads (d : DriveNo) : x.Leads (s.startReturn d).books := by
  simp only [State.startReturn]; (repeat' split) <;> simp [h]

@[simp] theorem State.startMedia_leads (m : MediaReq) : x.Leads (s.startMedia m).books := by
  simp only [State.startMedia]; (repeat' split) <;> simp [h]

@[simp] theorem State.pickerNext_leads : x.Leads s.pickerNext.books := by
  simp only [State.pickerNext]; (repeat' split) <;> simp [h]

@[simp] theorem handleSubstitute_leads (r : Reply) (old new : Nat) : x.Leads (handleSubstitute s r old new).books := by
  unfold handleSubstitute
  split
  · simp [h]
  · rename_i hr
    simpa using Books.Leads.substitute h old new (State.substituteRefusal_free hr)

/-! ## Filing -/

@[simp] theorem State.headTurn_leads : x.Leads s.headTurn.books := by
  simp only [State.headTurn]; (repeat' split) <;> simp [h]

@[simp] theorem State.discardSlot_leads (q : FSlot) (n : InstrNum) : x.Leads (s.discardSlot q n).books := by simp [State.discardSlot, h]

@[simp] theorem State.abandonSlot_leads (q : FSlot) : x.Leads (s.abandonSlot q).books := by
  simp only [State.abandonSlot]; (repeat' split) <;> simp [h]

@[simp] theorem State.startErase_leads (d : DriveNo) (q : FSlot) (f : Filing) (ps : PlatterSide) (fill : Nat) :
    x.Leads (s.startErase d q f ps fill).books := by simp [State.startErase, h]

@[simp] theorem State.allocate_leads (d : DriveNo) (q : FSlot) (ps : PlatterSide) : x.Leads (s.allocate d q ps).books := by
  simp only [State.allocate]; (repeat' split) <;> simp [h]

@[simp] theorem State.fileGiven_leads (d : DriveNo) : x.Leads (s.fileGiven d).books := by
  simp only [State.fileGiven]; (repeat' split) <;> simp [h]

@[simp] theorem State.endCheck_leads (d : DriveNo) (u : FilUse) (blank : Bool) : x.Leads (s.endCheck d u blank).books := by
  simp only [State.endCheck]; (repeat' split) <;> simp [h]

@[simp] theorem State.headerWritten_leads (d : DriveNo) (u : FilUse) : x.Leads (s.headerWritten d u).books := by
  simp only [State.headerWritten]; (repeat' split) <;> simp [h]

@[simp] theorem State.eraseDone_leads (d : DriveNo) (q : FSlot) : x.Leads (s.eraseDone d q).books := by
  simp only [State.eraseDone]; (repeat' split) <;> simp [h]

@[simp] theorem State.writeDone_leads (d : DriveNo) (q : FSlot) : x.Leads (s.writeDone d q).books := by
  simp only [State.writeDone]; (repeat' split) <;> simp [h]

@[simp] theorem State.recordCommit_leads (d : DriveNo) (q : FSlot) (f : Filing) (c : Commit) (l : Location) :
    x.Leads (s.recordCommit d q f c l).books := by
  have hrec := h.then (.recorded _ _ _ f.inst l ⟨c.small, c.plan⟩ c.restricted q)
  simpa [State.recordCommit] using hrec

@[simp] theorem State.verifyDone_leads (d : DriveNo) (q : FSlot) : x.Leads (s.verifyDone d q).books := by
  simp only [State.verifyDone]; (repeat' split) <;> simp [h]

@[simp] theorem State.writeFailed_leads (d : DriveNo) (q : FSlot) (f : Filing) (c : Commit) : x.Leads (s.writeFailed d q f c).books := by
  simp [State.writeFailed, h]

@[simp] theorem State.afterFailure_leads (d : DriveNo) (q : FSlot) (ps : PlatterSide) : x.Leads (s.afterFailure d q ps).books := by
  simp only [State.afterFailure]; (repeat' split) <;> simp [h]

@[simp] theorem State.failAttempt_leads (d : DriveNo) (u : FilUse) : x.Leads (s.failAttempt d u).books := by
  simp only [State.failAttempt]; (repeat' split) <;> simp [h]

@[simp] theorem State.headerFailed_leads (d : DriveNo) (u : FilUse) : x.Leads (s.headerFailed d u).books := by
  simp only [State.headerFailed]; (repeat' split) <;> simp [h]

@[simp] theorem State.filFault_leads (d : DriveNo) (u : FilUse) : x.Leads (s.filFault d u).books := by
  simp only [State.filFault]; (repeat' split) <;> simp [h]

@[simp] theorem handleOpenFiling_leads (r : Reply) (o : OptField) : x.Leads (handleOpenFiling s r o).books := by
  simp only [handleOpenFiling]; (repeat' split) <;> simp [h]

theorem State.admitCommit_leads (r : Reply) (q : FSlot) (p : CommitParams) (res : Bool) (fs : List Nat) (ts : List InstrNum)
    (room : Books.Room s.cat s.reserved (distinct fs)) : x.Leads (s.admitCommit r q p res fs ts).books := by
  have hres := h.then (.reserved _ _ _ q fs room)
  simp only [State.admitCommit]; split <;> simpa using hres

@[simp] theorem State.serveMapRead_leads (parity : Bool) : x.Leads (s.serveMapRead parity).books := by
  unfold State.serveMapRead
  split
  · exact h
  · dsimp only
    split
    · simp [h]
    · split
      · simp [h]
      · split
        · simp [h]
        · rename_i hf
          have hroom := State.admissionFault_room hf
          exact State.admitCommit_leads (by simp [h]) _ _ _ _ _ _ hroom

@[simp] theorem handleAbandon_leads (r : Reply) (n : Nat) : x.Leads (handleAbandon s r n).books := by
  simp only [handleAbandon]; (repeat' split) <;> simp [h]

@[simp] theorem handleWithdraw_leads (r : Reply) (n : InstrNum) : x.Leads (handleWithdraw s r n).books := by
  simp only [handleWithdraw]; (repeat' split) <;> simp [h]

@[simp] theorem handleCloseSide_leads (r : Reply) : x.Leads (handleCloseSide s r).books := by
  simp only [handleCloseSide]; (repeat' split) <;> simp [h]

@[simp] theorem State.idleExpiry_leads (q : FSlot) : x.Leads (s.idleExpiry q).books := by
  simp only [State.idleExpiry]; (repeat' split) <;> simp [h]

/-! ## Retrieval -/

@[simp] theorem State.createOp_leads (r : Reply) (bundle : Bool) (pu : Purpose) (account : Nat) (cls : MountClass) (items : List Item) :
    x.Leads (s.createOp r bundle pu account cls items).books := by
  have hraise := fun (l : List Item) (s : State) => State.foldl_leads (x := x) (fun s _ => s.modCat (fun c => c.raiseCopy account))
    (fun s _ h => by simp [h]) l s
  simp [State.createOp, hraise, h]

@[simp] theorem handleFetch_leads (r : Reply) (p : FetchParams) : x.Leads (handleFetch s r p).books := by
  simp only [handleFetch]; (repeat' split) <;> simp [h]

@[simp] theorem handleBundle_leads (r : Reply) (p : BundleParams) : x.Leads (handleBundle s r p).books := by
  simp only [handleBundle]; (repeat' split) <;> simp [h]

@[simp] theorem State.endItem_leads (r : ItemRef) (st : Status) : x.Leads (s.endItem r st).books := by
  simp only [State.endItem]; (repeat' split) <;> simp [h]

@[simp] theorem State.itemDone_leads (r : ItemRef) : x.Leads (s.itemDone r).books := by
  simp only [State.itemDone]; (repeat' split) <;> simp [h]

@[simp] theorem State.abortOps_leads (l : Link) : x.Leads (s.abortOps l).books := by
  unfold State.abortOps
  simp only [State.books_mk, Books.eta]
  refine State.foldl_leads _ (fun s o h => ?_) _ _ h
  refine State.foldl_leads _ (fun s p h => ?_) _ _ h
  (repeat' split) <;> simp [h]

@[simp] theorem State.turn_leads (r : ItemRef) : x.Leads (s.turn r).books := by
  simp only [State.turn]; (repeat' split) <;> simp [h]

@[simp] theorem State.spaceTry_leads : x.Leads s.spaceTry.books := by
  simp only [State.spaceTry]; (repeat' split) <;> simp [h]

@[simp] theorem State.driveNext_leads (d : DriveNo) : x.Leads (s.driveNext d).books := by
  simp only [State.driveNext]; (repeat' split) <;> simp [h]

@[simp] theorem State.checkMap_leads (l : Link) (r : ItemRef) (g : Segment) (v : Resolved) (range : Nat × Nat) :
    x.Leads (s.checkMap l r g v range).books := by
  simp only [State.checkMap]; (repeat' split) <;> simp [h]

@[simp] theorem State.serveOut_leads (l : Link) (parity : Bool) : x.Leads (s.serveOut l parity).books := by
  simp only [State.serveOut]; (repeat' split) <;> simp [h]

@[simp] theorem State.dataAccepted_leads (l : Link) : x.Leads (s.dataAccepted l).books := by
  simp only [State.dataAccepted]; (repeat' split) <;> simp [h]

@[simp] theorem State.deliveryTimeout_leads (l : Link) : x.Leads (s.deliveryTimeout l).books := by
  simp only [State.deliveryTimeout]; (repeat' split) <;> simp [h]

/-! ## Work handed over -/

@[simp] theorem State.runTask_leads (t : Task) : x.Leads (s.runTask t).books := by
  simp only [State.runTask]; (repeat' split) <;> simp [h]

omit h in
theorem State.settleFor_leads (n : Nat) (s : State) (h : x.Leads s.books) : x.Leads (State.settleFor n s).books := by
  induction n generalizing s with
  | zero => exact h
  | succ n ih =>
    unfold State.settleFor
    split
    · exact h
    · exact ih _ (State.runTask_leads (s := { s with agenda := [] }) h _)

@[simp] theorem State.settle_leads : x.Leads s.settle.books := State.settleFor_leads _ s h

/-! ## Drives -/

@[simp] theorem State.faultUse_leads (d : DriveNo) (u : Use) : x.Leads (s.faultUse d u).books := by
  simp only [State.faultUse]; (repeat' split) <;> simp [h]

@[simp] theorem State.faultDrive_leads (d : DriveNo) (timeout : Bool) : x.Leads (s.faultDrive d timeout).books := by
  have huses := fun (l : List Use) (s : State) => State.foldl_leads (x := x) (fun s u => s.faultUse d u) (fun s u h => by simp [h]) l s
  have hdems := fun (l : List Demand) (s : State) => State.foldl_books (fun t q => t.faultDemand (s.drive d) q) (fun t q => by simp) l
  simp only [State.faultDrive]; split <;> simp [huses, hdems, h]

@[simp] theorem State.faultReport_leads (d : DriveNo) : x.Leads (s.faultReport d).books := by
  simp only [State.faultReport]; (repeat' split) <;> simp [h]

@[simp] theorem State.driveTimeout_leads (d : DriveNo) : x.Leads (s.driveTimeout d).books := by
  simp only [State.driveTimeout]; (repeat' split) <;> simp [h]

@[simp] theorem State.readyReport_leads (d : DriveNo) : x.Leads (s.readyReport d).books := by
  simp only [State.readyReport]; (repeat' split) <;> simp [h]

@[simp] theorem State.setUnloadTime_leads (d : DriveNo) : x.Leads (s.setUnloadTime d).books := by
  simp only [State.setUnloadTime]; (repeat' split) <;> simp [h]

@[simp] theorem State.mountUnloaded_leads (d : DriveNo) (ps : PlatterSide) : x.Leads (s.mountUnloaded d ps).books := by
  simp only [State.mountUnloaded]; (repeat' split) <;> simp [h]

@[simp] theorem State.exportUnloaded_leads (d : DriveNo) (r : Reply) (id : Nat) : x.Leads (s.exportUnloaded d r id).books := by
  simp only [State.exportUnloaded]; (repeat' split) <;> simp [h]

@[simp] theorem State.unloadedReport_leads (d : DriveNo) : x.Leads (s.unloadedReport d).books := by
  simp only [State.unloadedReport]; (repeat' split) <;> simp [h]

@[simp] theorem State.compare_leads (d : DriveNo) (u : FilUse) (q : FSlot) : x.Leads (s.compare d u q).books := by
  simp only [State.compare]; (repeat' split) <;> simp [h]

@[simp] theorem State.blockReport_leads (d : DriveNo) (b : BlockReport) : x.Leads (s.blockReport d b).books := by
  simp only [State.blockReport]; (repeat' split) <;> simp [h]

@[simp] theorem State.doneReport_leads (d : DriveNo) : x.Leads (s.doneReport d).books := by
  simp only [State.doneReport]; (repeat' split) <;> simp [h]

@[simp] theorem State.mediumError_leads (d : DriveNo) : x.Leads (s.mediumError d).books := by
  simp only [State.mediumError]; (repeat' split) <;> simp [h]

@[simp] theorem State.unreadable_leads (d : DriveNo) : x.Leads (s.unreadable d).books := by
  simp only [State.unreadable]; (repeat' split) <;> simp [h]

@[simp] theorem State.readRing_leads (d : DriveNo) (u : FilUse) (q : FSlot) (parity : Bool) : x.Leads (s.readRing d u q parity).books := by
  simp only [State.readRing]; (repeat' split) <;> simp [h]

@[simp] theorem State.serveDrive_leads (d : DriveNo) (parity : Bool) : x.Leads (s.serveDrive d parity).books := by
  simp only [State.serveDrive]; (repeat' split) <;> simp [h]

@[simp] theorem State.portMove_leads (parity : Bool) : x.Leads (s.portMove parity).books := by
  simp only [State.portMove]; (repeat' split) <;> simp [h]

/-! ## The picker -/

@[simp] theorem State.putInDrive_leads (d : DriveNo) (ps : PlatterSide) : x.Leads (s.putInDrive d ps).books := by
  simp only [State.putInDrive]; (repeat' split) <;> simp [h]

@[simp] theorem State.evicted_leads (d : DriveNo) (ps : PlatterSide) : x.Leads (s.evicted d ps).books := by
  simp only [State.evicted]; (repeat' split) <;> simp [h]

@[simp] theorem State.returned_leads (d : DriveNo) : x.Leads (s.returned d).books := by
  simp only [State.returned]; (repeat' split) <;> simp [h]

@[simp] theorem State.importMoved_leads (r : Option Reply) (id : Nat) : x.Leads (s.importMoved r id).books := by
  simp only [State.importMoved]; (repeat' split) <;> simp [h]

@[simp] theorem State.exportMoved_leads (r : Reply) (id : Nat) : x.Leads (s.exportMoved r id).books := by simp [State.exportMoved, h]

@[simp] theorem State.moveDone_leads : x.Leads s.moveDone.books := by
  simp only [State.moveDone]; (repeat' split) <;> simp [h]

@[simp] theorem State.homeLabelled_leads (d : DriveNo) (rep : LabelReport) : x.Leads (s.homeLabelled d rep).books := by
  simp only [State.homeLabelled]; (repeat' split) <;> simp [h]

@[simp] theorem State.importLabelled_leads (r : Option Reply) (rep : LabelReport) : x.Leads (s.importLabelled r rep).books := by
  simp only [State.importLabelled]; (repeat' split) <;> simp [h]

/-! ## The sweep, jams and the mail slot -/

@[simp] theorem State.loseHome_leads (n : Nat) (other : Option Nat) : x.Leads (s.loseHome n other).books := by
  simp only [State.loseHome]; (repeat' split) <;> simp [h]

@[simp] theorem State.sweepForeign_leads (n : Nat) : x.Leads (s.sweepForeign n).books := by simp [State.sweepForeign, h]

@[simp] theorem State.sweepFound_leads (n id : Nat) : x.Leads (s.sweepFound n id).books := by
  have hlost := State.loseHome_leads h n (some id)
  simp only [State.sweepFound]; split <;> simp [hlost]

@[simp] theorem State.sweepSlot_leads (n : Nat) (rep : LabelReport) : x.Leads (s.sweepSlot n rep).books := by
  simp only [State.sweepSlot]; (repeat' split) <;> simp [h]

@[simp] theorem State.exportComplete_leads (id : Nat) : x.Leads (s.exportComplete id).books := by
  simp only [State.exportComplete, State.later_books]
  refine State.setLoc_leads ?_ id _
  rw [State.modCat_books]
  split <;> simp [h]

@[simp] theorem State.sweepMail_leads (rep : LabelReport) : x.Leads (s.sweepMail rep).books := by
  simp only [State.sweepMail]; (repeat' split) <;> simp [h]

@[simp] theorem State.sweepEnd_leads : x.Leads s.sweepEnd.books := by
  have hgone := fun (l : List Nat) (s : State) => State.foldl_leads (x := x) (fun s id => (s.setLoc id .unknown).later [.unreachable id .offline])
    (fun s id h => by simp [h]) l s
  have hback := fun (l : List DriveNo) (s : State) => State.foldl_books (fun s d => s.queueReturn d) (fun s d => by simp) l s
  simp [State.sweepEnd, hgone, hback, h]

@[simp] theorem State.sweepReport_leads (rep : LabelReport) : x.Leads (s.sweepReport rep).books := by
  simp only [State.sweepReport]; (repeat' split) <;> simp [h]

@[simp] theorem State.labelReport_leads (rep : LabelReport) : x.Leads (s.labelReport rep).books := by
  simp only [State.labelReport]; (repeat' split) <;> simp [h]

@[simp] theorem State.jam_leads : x.Leads s.jam.books := by
  simp only [State.jam]; (repeat' split) <;> simp [h]

@[simp] theorem State.pickerTimeout_leads : x.Leads s.pickerTimeout.books := by
  simp only [State.pickerTimeout]; (repeat' split) <;> simp [h]

@[simp] theorem State.mailEmptied_leads : x.Leads s.mailEmptied.books := by
  simp only [State.mailEmptied]; (repeat' split) <;> simp [h]

/-! ## Link reset -/

@[simp] theorem State.resetEdge_leads (l : Link) : x.Leads (s.resetEdge l).books := by simp [State.resetEdge, h]

@[simp] theorem State.linkReset_leads (l : Link) : x.Leads (s.linkReset l).books := by
  simp only [State.linkReset]; (repeat' split) <;> simp [h]

end Sys2Proof.Machine
end

section
/-!
PROOFS. What a step does to the books: every command but those of the supply is a chain of the changes of `Books.Change` and leaves the update record
alone; a power failure writes in it the memory that one more such chain leaves; a power-on replays it. So a property of catalogue memory and
reservations that every change keeps is kept by every step, of memory and of the image in the update record.
-/
namespace Sys2Proof.Machine
set_option Elab.async false

/-! ## Frames -/

section
variable {x : Books} {s : State} (h : x.Leads s.books)
include h

theorem State.handle_leads (r : Reply) (q : Request) : x.Leads (s.handle r q).books := by
  cases q <;> simp [State.handle, h]

@[simp] theorem State.route_leads (r : Reply) (q : Request) : x.Leads (s.route r q).books := by
  unfold State.route
  repeat' split
  · simp [h]
  · simp [h]
  · exact State.handle_leads h r q

@[simp] theorem State.takeRequest_leads (l : Link) (tag : Nat) (q : Request) : x.Leads (s.takeRequest l tag q).books := by
  simp only [State.takeRequest]; (repeat' split) <;> simp [h]

@[simp] theorem State.takeInput_leads (l : Link) (i : LaneInput) : x.Leads (s.takeInput l i).books := by
  cases i <;> simp [State.takeInput, h]

omit h in
theorem State.drainFor_leads (n : Nat) (s : State) (l : Link) (h : x.Leads s.books) : x.Leads (State.drainFor n s l).books := by
  induction n generalizing s with
  | zero => exact h
  | succ n ih =>
    unfold State.drainFor
    split
    · exact h
    · split
      · exact ih _ (by simp [h])
      · exact h

@[simp] theorem State.drain_leads (l : Link) : x.Leads (s.drain l).books := State.drainFor_leads _ s l h

@[simp] theorem State.drainAll_leads : x.Leads s.drainAll.books :=
  State.drain_leads (State.drain_leads (State.drain_leads h .l0) .l1) .l2

@[simp] theorem State.arrive_leads (l : Link) (i : LaneInput) : x.Leads (s.arrive l i).books := by
  unfold State.arrive; (repeat' split) <;> simp [h]

@[simp] theorem State.linkRelease_leads (l : Link) : x.Leads (s.linkRelease l).books := by simp [State.linkRelease, h]

/-! ## Presses and the close target -/

@[simp] theorem State.takePress_leads (q : LineNo) : x.Leads (s.takePress q).books := by
  unfold State.takePress
  split
  · simp [h]
  · rename_i n t hv
    simpa using State.issue_leads h n t _ (State.pressTest_free hv)

@[simp] theorem State.pressInput_leads (q : LineNo) : x.Leads (s.pressInput q).books := by
  simp only [State.pressInput]; split <;> simp [h]

@[simp] theorem State.closeReached_leads : x.Leads s.closeReached.books := by
  unfold State.closeReached; (repeat' split) <;> simp [h]

@[simp] theorem State.linksStart_leads : x.Leads s.linksStart.books := by
  have hpost := fun (l : List Event) (s : State) => State.foldl_books (fun s e => s.post e) (fun s e => by simp) l s
  simp only [State.linksStart]; (repeat' split) <;> simp [hpost, h]

@[simp] theorem State.whenPowered_leads {t : State} (ht : x.Leads t.books) : x.Leads (s.whenPowered t).books := by
  unfold State.whenPowered; split
  · exact ht
  · exact h

end

/-- A command of no supply change is a chain of changes of the books. -/
theorem exec_leads {i : Instr} {s t : State} (hon : ∀ p, i ≠ .powerOn p) (hoff : ∀ c, i ≠ .powerFail c) (h : exec i s = .next t) :
    s.books.Leads t.books := by
  cases hq : requestOf i with
  | some v =>
    obtain ⟨l, g, q⟩ := v
    rw [exec_request i l g q hq s] at h
    cases h
    simp
  | none =>
    cases i <;> simp only [requestOf, reduceCtorEq] at hq
    case powerOn p => exact absurd rfl (hon p)
    case powerFail c => exact absurd rfl (hoff c)
    case bufferPortMove =>
      obtain rfl := Host.Outcome.next.inj h
      exact State.settle_leads (State.drainAll_leads (State.settle_leads (State.portMove_leads (.refl _) _)))
    all_goals
      obtain rfl := Host.Outcome.next.inj h
      refine State.settle_leads ?_
      try split
      all_goals simp

/-! ## The supply -/

section
variable (s : State)

theorem State.closeImage_leads : s.books.Leads ⟨s.closeImage, s.reserved, s.update⟩ := by
  have h : s.books.Leads ⟨s.cat, s.reserved, s.update⟩ := .refl _
  have hclose : ∀ k : Clock, s.books.Leads ⟨if s.cat.target.reached k then s.cat.close k.now.sec else s.cat, s.reserved, s.update⟩ := by
    intro k
    split
    · exact h.close _
    · exact h
  exact hclose _

/-- The image the update record gets is what one change more would leave of memory (R22). -/
theorem State.imageOf_leads (c : UpdateChange) : ∃ r, s.books.Leads ⟨s.imageOf c, r, s.update⟩ := by
  have h : s.books.Leads ⟨s.cat, s.reserved, s.update⟩ := .refl _
  cases c with
  | record q =>
    unfold State.imageOf
    dsimp only
    split
    · split
      · split
        · exact ⟨s.reserved.set q [], h.then (.recorded ..)⟩
        · exact ⟨s.reserved, h⟩
      · exact ⟨s.reserved, h⟩
    · exact ⟨s.reserved, h⟩
  | release q =>
    refine ⟨s.reserved, ?_⟩
    unfold State.imageOf
    dsimp only
    split
    · exact h.releaseEntry _
    · exact h
  | createFor q l =>
    refine ⟨s.reserved, ?_⟩
    cases q with
    | some q =>
      unfold State.imageOf
      dsimp only
      split
      · rename_i n t ht
        split
        · exact h.then (.issued _ _ _ n t _ (State.pressTest_free ht))
        · exact h
      · exact h
    | none =>
      unfold State.imageOf
      dsimp only
      split
      · rename_i n t ht
        split
        · exact h.then (.issued _ _ _ n t _ (State.issueTest_free ht))
        · exact h
      · exact h
  | restore p =>
    refine ⟨s.reserved, ?_⟩
    unfold State.imageOf
    dsimp only
    split
    · rename_i v hv
      split
      · obtain ⟨free, room⟩ := State.restoreTest_room hv
        exact h.then (.restored _ _ _ p v free room)
      · exact h
    · exact h
  | claims =>
    refine ⟨s.reserved, ?_⟩
    unfold State.imageOf
    dsimp only
    (repeat' split)
    · exact h
    · exact h.setClaims _ _
    · exact h
    · exact h
  | catalogueReady =>
    refine ⟨s.reserved, ?_⟩
    unfold State.imageOf
    dsimp only
    split
    · exact h.ready
    · exact h
  | accrue l n =>
    refine ⟨s.reserved, ?_⟩
    unfold State.imageOf
    dsimp only
    (repeat' split)
    · exact h.copyMade _ _ _
    · exact h
    · exact h
    · exact h
  | close => exact ⟨_, s.closeImage_leads⟩

theorem State.powerFail_off (c : PowerCut) (h : s.power = .off) : s.powerFail c = s := if_pos h

/-- A power failure leaves catalogue memory as it is, with nothing reserved, and writes the update record (R22, R26). -/
theorem State.powerFail_books (c : PowerCut) (h : s.power ≠ .off) : (s.powerFail c).books = ⟨s.cat, Four.const [], s.cutRecord c⟩ := by
  rw [State.powerFail, if_neg h]; rfl

theorem State.powerOn_on (p : PowerOn) (h : s.power ≠ .off) : s.powerOn p = s := if_neg h

theorem State.startMemory_books (p : PowerOn) : (s.startMemory p).books = ⟨s.replay.started p.memory, Four.const [], .clear⟩ := (rfl)

theorem State.startMechanics_leads {x : Books} (p : PowerOn) (h : x.Leads s.books) : x.Leads (s.startMechanics p).books := by
  have hplat := h.then (.platters s.cat s.reserved s.update (fun q => { q with
    loc := q.loc.afterPower (fun d => ((s.startLibrary s.cat s.settings.drives p).drives.get d).state == .fault) }) (fun _ => rfl))
  unfold State.startMechanics
  dsimp only
  (repeat' split) <;> simpa [State.drive] using hplat

/-- A power-on goes on from the replayed memory, with the update record cleared (R22, R156). -/
theorem State.powerOn_leads (p : PowerOn) (h : s.power = .off) : Books.Leads ⟨s.replay, Four.const [], .clear⟩ (s.powerOn p).books := by
  have hmem : Books.Leads ⟨s.replay, Four.const [], .clear⟩ (s.startMemory p).books := by
    rw [State.startMemory_books]
    exact Books.Leads.started (.refl _) p.memory
  rw [State.powerOn, if_pos h]
  exact State.startMechanics_leads _ p (State.testClose_leads hmem)

end

/-! ## What every step keeps -/

/-- A property of catalogue memory and reservations holds of the books, and of the image in the update record, with nothing reserved. -/
def State.Keeps (I : CatMem → Four (List Nat) → Prop) (s : State) : Prop :=
  I s.cat s.reserved ∧ ∀ m, s.update = .complete m → I m (Four.const [])

/-- Every change of the books keeps the property. -/
def Books.Stable (I : CatMem → Four (List Nat) → Prop) : Prop :=
  ∀ x y, Books.Change x y → I x.cat x.reserved → I y.cat y.reserved

section
variable {I : CatMem → Four (List Nat) → Prop} (hI : Books.Stable I) {s t : State}
include hI

theorem State.Keeps.leads (hs : s.Keeps I) (h : s.books.Leads t.books) : t.Keeps I := by
  obtain ⟨hnow, himg⟩ := hs
  refine ⟨h.keeps hI hnow, fun m hm => himg m ?_⟩
  rw [← hm]
  exact h.update_eq.symm

theorem State.Keeps.unreserved (hs : s.Keeps I) : I s.cat (Four.const []) :=
  (Books.Leads.refl s.books).unreserveAll.keeps hI hs.1

theorem State.Keeps.imageOf (hs : s.Keeps I) (c : UpdateChange) : I (s.imageOf c) (Four.const []) := by
  obtain ⟨r, hr⟩ := s.imageOf_leads c
  exact hr.unreserveAll.keeps hI hs.1

theorem State.Keeps.replay (hs : s.Keeps I) : I s.replay (Four.const []) := by
  unfold State.replay
  split
  · rename_i m hm
    exact hs.2 m hm
  · exact hs.unreserved hI

theorem State.Keeps.powerFail (hs : s.Keeps I) (c : PowerCut) : (s.powerFail c).Keeps I := by
  by_cases hoff : s.power = .off
  · rwa [s.powerFail_off c hoff]
  · have hb := s.powerFail_books c hoff
    have hcat : (s.powerFail c).cat = s.cat := congrArg Books.cat hb
    have hres : (s.powerFail c).reserved = Four.const [] := congrArg Books.reserved hb
    have hupd : (s.powerFail c).update = s.cutRecord c := congrArg Books.update hb
    refine ⟨?_, fun m hm => ?_⟩
    · rw [hcat, hres]
      exact hs.unreserved hI
    · rw [hupd] at hm
      cases c with
      | clear => cases hm
      | partly => cases hm
      | complete c =>
        cases hm
        exact hs.imageOf hI c

theorem State.Keeps.powerOn (hs : s.Keeps I) (p : PowerOn) : (s.powerOn p).Keeps I := by
  by_cases hoff : s.power = .off
  · have h := s.powerOn_leads p hoff
    refine ⟨h.keeps hI (hs.replay hI), fun m hm => ?_⟩
    have hupd : (s.powerOn p).update = .clear := h.update_eq
    simp [hupd] at hm
  · rwa [s.powerOn_on p hoff]

theorem State.Keeps.settle (hs : s.Keeps I) : s.settle.Keeps I := hs.leads hI (State.settle_leads (.refl _))

theorem exec_keeps {i : Instr} (hs : s.Keeps I) (h : exec i s = .next t) : t.Keeps I := by
  by_cases hon : ∃ p, i = .powerOn p
  · obtain ⟨p, rfl⟩ := hon
    obtain rfl := Host.Outcome.next.inj h
    exact (hs.powerOn hI p).settle hI
  by_cases hoff : ∃ c, i = .powerFail c
  · obtain ⟨c, rfl⟩ := hoff
    obtain rfl := Host.Outcome.next.inj h
    exact (hs.powerFail hI c).settle hI
  · exact hs.leads hI (exec_leads (fun p hp => hon ⟨p, hp⟩) (fun c hc => hoff ⟨c, hc⟩) h)

/-- What every change of the books keeps, every step keeps. -/
theorem step_keeps (hs : s.Keeps I) (h : step s = .next t) : t.Keeps I := by
  unfold step at h
  split at h
  · obtain rfl := Host.Outcome.next.inj h
    exact hs
  · rename_i rest _
    exact exec_keeps hI (s := { s with pending := rest }) hs h

end

/-- Settles O7: no change of the books brings a table out of order or beyond its capacity. -/
theorem tablesKept : Obligations.TablesKept :=
  ⟨fun _ _ hs h => step_keeps (I := fun c _ => c.Ordered) (fun _ _ hc => hc.ordered) hs h,
   fun _ _ hs h => step_keeps (I := fun c _ => c.Fits) (fun _ _ hc => hc.fits) hs h⟩

/-- The property of folio index and reservations of the obligation is the one the changes keep. -/
theorem State.foliosFit_iff (s : State) : s.FoliosFit ↔ s.Keeps Books.IndexFits := by
  constructor
  · rintro ⟨⟨hord, hmord⟩, hnd, hlinks, hrecs, himg⟩
    refine ⟨⟨hord, hnd, hlinks, hrecs⟩, fun m hm => ⟨hmord m hm, fun q => ?_, (himg m hm).1, (himg m hm).2⟩⟩
    cases q <;> exact List.nodup_nil
  · rintro ⟨⟨hord, hnd, hlinks, hrecs⟩, himg⟩
    refine ⟨⟨hord, fun m hm => ?_⟩, hnd, hlinks, hrecs, fun m hm => ?_⟩
    · obtain ⟨hmord, _, _, _⟩ := himg m hm
      exact hmord
    · obtain ⟨_, _, hmlinks, hmrecs⟩ := himg m hm
      exact ⟨hmlinks, hmrecs⟩

/-- Settles O8: every change that adds links or records uses a reservation or has passed the test for room. -/
theorem listsOfMemoryKept : Obligations.ListsOfMemoryKept :=
  ⟨fun s t hs h => t.foliosFit_iff.2 (step_keeps (fun _ _ hc => hc.indexFits) (s.foliosFit_iff.1 hs) h),
   fun _ _ hs h => step_keeps (I := fun c _ => c.RecordsOrdered) (fun _ _ hc => hc.recordsOrdered) hs h⟩

end Sys2Proof.Machine
end

section
/-!
PROOFS. The requests that read the catalogue: LOOKUP, PENDING_LIST and FOLIO_SEARCH (01, section 1.6).
-/
namespace Sys2Proof.Machine
set_option Elab.async false

/-! ## Optional numbers and pages -/

/-- A presence byte that is not defined makes the field invalid (R197). -/
theorem optInst?_eq_none (o : OptField) (h : 1 < o.presence) : optInst? o = none := by
  unfold optInst?
  split
  · omega
  · omega
  · rfl

/-- A start-after field with a defined presence byte, and what it leaves of a list (R16, R18). -/
theorem optInst?_after (o : OptField) (h : o.presence ≤ 1) : ∃ start, optInst? o = some start ∧
    ∀ {α : Type} (key : α → Nat) (l : List α),
      afterNum key (start.map InstrNum.key) l = l.filter (fun a => o.presence == 0 || decide (o.value < key a)) := by
  obtain h0 | h1 : o.presence = 0 ∨ o.presence = 1 := by omega
  · exact ⟨none, by simp [optInst?, h0], fun key l => by simp [afterNum, h0]⟩
  · have hkey : InstrNum.key ⟨o.value / 65536, o.value % 65536⟩ = o.value := Nat.div_add_mod' o.value 65536
    exact ⟨_, by simp only [optInst?, h1]; rfl, fun key l => by simp [afterNum, h1, hkey]⟩

/-- The continuation of a page is its last record, where more records follow. -/
theorem pageOf_listLen {α : Type} (l : List α) : pageOf Config.listLen l = (l.take 16, if 16 < l.length then l[15]? else none) := by
  show (l.take 16, if 16 < l.length then (l.take 16).getLast? else none) = _
  by_cases h : 16 < l.length
  · have hlen : (l.take 16).length = 16 := List.length_take_of_le h.le
    simp [h, List.getLast?_eq_getElem?, hlen]
  · simp [h]

theorem searchMode?_eq_none (m : Nat) (h1 : m ≠ 1) (h2 : m ≠ 2) : searchMode? m = none := by
  unfold searchMode?
  split
  · exact absurd rfl h1
  · exact absurd rfl h2
  · rfl

theorem searchMode?_eq (m : Nat) (h : m = 1 ∨ m = 2) : searchMode? m = some (m != 2) := by
  obtain rfl | rfl := h <;> rfl

/-! ## LOOKUP -/

theorem CatMem.entry?_eq_none (c : CatMem) (n : InstrNum) : c.entry? n = none ↔ ∀ e ∈ c.table, e.num ≠ n := by
  simp [CatMem.entry?]

/-- In a table with every number once, the entry of a number is found. -/
theorem CatMem.entry?_of_mem (c : CatMem) (e : Entry) (he : e ∈ c.table) (h : c.table.Pairwise (fun a b => a.num ≠ b.num)) :
    c.entry? e.num = some e := by
  unfold CatMem.entry?
  generalize c.table = table at he h
  induction table with
  | nil => cases he
  | cons a l ih =>
    obtain ⟨ha, hl⟩ := List.pairwise_cons.1 h
    rcases List.mem_cons.1 he with rfl | he
    · simp
    · rw [List.find?_cons_of_neg (by simpa using ha e he)]
      exact ih he hl

theorem lookup_absent {l : Link} {tag : Nat} {n : InstrNum} {s : State} (h : s.Takes l tag (.lookup n)) (hn : ∀ e ∈ s.cat.table, e.num ≠ n) :
    exec (.lookup l tag n) s = .next (s.answered l tag 0x10 .noSuch .none) := by
  refine request_answers s l tag _ h .noSuch .none ?_
  simp [State.handle, handleLookup, (s.cat.entry?_eq_none n).2 hn, State.answer]

theorem lookup_found {l : Link} {tag : Nat} {n : InstrNum} {s : State} (h : s.Takes l tag (.lookup n)) {e : Entry} (he : s.cat.entry? n = some e) :
    exec (.lookup l tag n) s = .next (s.answered l tag 0x10 .done (.entry e)) := by
  refine request_answers s l tag _ h .done (.entry e) ?_
  simp [State.handle, handleLookup, he]

/-! ## PENDING_LIST -/

theorem pendingList_lists {l : Link} {tag : Nat} {a : OptField} {s : State} (h : s.Takes l tag (.pendingList a)) (ha : a.presence ≤ 1)
    {nums : List InstrNum}
    (hn : nums = ((s.cat.table.filter (fun e => e.state == .lodged)).map (·.num)).filter
      (fun n => a.presence == 0 || decide (a.value < n.day * 65536 + n.seq))) :
    exec (.pendingList l tag a) s =
      .next (s.answered l tag 0x11 .done (.numbers (nums.take 16) (if 16 < nums.length then nums[15]? else none))) := by
  refine request_answers s l tag _ h .done _ ?_
  obtain ⟨start, hstart, hafter⟩ := optInst?_after a ha
  have hnums : (afterNum Entry.key (start.map InstrNum.key) s.cat.lodged).map (·.num) = nums := by
    rw [hn, hafter, List.filter_map]
    rfl
  simp only [State.handle, handlePendingList, hstart, State.tagTaken_cat, hnums, pageOf_listLen]

theorem pendingList_badField {l : Link} {tag : Nat} {a : OptField} {s : State} (h : s.Takes l tag (.pendingList a)) (ha : 1 < a.presence) :
    exec (.pendingList l tag a) s = .next (s.answered l tag 0x11 .badField .none) := by
  refine request_answers s l tag _ h .badField .none ?_
  simp [State.handle, handlePendingList, optInst?_eq_none a ha, State.answer]

/-! ## FOLIO_SEARCH -/

/-- What the search lists: of a folio's numbers, those after the start that qualify; for LIVE, those without a successor (R16). -/
def CatMem.searched (c : CatMem) (folio : Nat) (a : OptField) (mode : Nat) : List InstrNum :=
  ((listIn c.folios folio).filter (fun n => a.presence == 0 || decide (a.value < n.key))).filter
    (fun n => mode == 2 || ((c.entry? n).bind (·.successor)).isNone)

theorem CatMem.searched_eq (c : CatMem) (folio : Nat) (a : OptField) (mode : Nat) :
    c.searched folio a mode =
      ((match findKeyed FolioRec.folio folio c.folios with | some f => f.list | none => []).filter
        (fun n : InstrNum => a.presence == 0 || decide (a.value < n.day * 65536 + n.seq))).filter
        (fun n => mode == 2 || (match c.entry? n with | some e => e.successor.isNone | none => true)) := by
  have hlive : ∀ n, ((c.entry? n).bind (·.successor)).isNone = (match c.entry? n with | some e => e.successor.isNone | none => true) := by
    intro n
    cases c.entry? n <;> rfl
  unfold CatMem.searched
  simp only [hlive]
  rfl

theorem folioSearch_lists {l : Link} {tag folio mode : Nat} {a : OptField} {s : State} (h : s.Takes l tag (.folioSearch folio a mode))
    (ha : a.presence ≤ 1) (hm : mode = 1 ∨ mode = 2) (h1 : 1 ≤ folio) (h2 : folio ≤ 999999) {nums : List InstrNum}
    (hn : s.cat.searched folio a mode = nums) :
    exec (.folioSearch l tag folio a mode) s =
      .next (s.answered l tag 0x12 .done (.folioNumbers folio (nums.take 16) (if 16 < nums.length then nums[15]? else none))) := by
  refine request_answers s l tag _ h .done _ ?_
  obtain ⟨start, hstart, hafter⟩ := optInst?_after a ha
  have hrange : ¬(folio < 1 ∨ 999999 < folio) := by omega
  have hlive : (!(mode != 2)) = (mode == 2) := Bool.not_not _
  simp only [State.handle, handleFolioSearch, hstart, searchMode?_eq mode hm, State.tagTaken_cat]
  rw [if_neg hrange]
  simp only [hafter, hlive]
  change State.respond _ _ _ (.folioNumbers folio (pageOf Config.listLen (s.cat.searched folio a mode)).1
    (pageOf Config.listLen (s.cat.searched folio a mode)).2) = _
  rw [pageOf_listLen, hn]

theorem folioSearch_badField {l : Link} {tag folio mode : Nat} {a : OptField} {s : State} (h : s.Takes l tag (.folioSearch folio a mode))
    (hbad : 1 < a.presence ∨ (mode ≠ 1 ∧ mode ≠ 2) ∨ folio < 1 ∨ 999999 < folio) :
    exec (.folioSearch l tag folio a mode) s = .next (s.answered l tag 0x12 .badField .none) := by
  refine request_answers s l tag _ h .badField .none ?_
  simp only [State.handle, handleFolioSearch, State.answer]
  split
  · rename_i start live hstart hlive
    have hrange : folio < 1 ∨ 999999 < folio := by
      rcases hbad with hp | ⟨hm1, hm2⟩ | hf
      · simp [optInst?_eq_none a hp] at hstart
      · simp [searchMode?_eq_none mode hm1 hm2] at hlive
      · exact hf
    rw [if_pos hrange]
  · rfl

/-- Settles O28: each reading request, by its fields. -/
theorem catalogueReads : Obligations.CatalogueReads := by
  refine ⟨fun l tag n s h => ⟨lookup_absent h, fun e he hn hu => ?_⟩, fun l tag a s => ?_⟩
  · subst hn
    exact lookup_found h (s.cat.entry?_of_mem e he hu)
  · intro after more
    exact ⟨fun h ha => pendingList_lists h ha rfl, pendingList_badField, fun folio mode h =>
      ⟨fun ha hm h1 h2 => folioSearch_lists h ha hm h1 h2 (s.cat.searched_eq folio a mode), folioSearch_badField h⟩⟩

end Sys2Proof.Machine
end

section
/-!
PROOFS. RESTORE: its checks in order (R19), and what it inserts (R20).
-/
namespace Sys2Proof.Machine
set_option Elab.async false

/-! ## The checks, one by one -/

theorem State.isFuture_iff (s : State) (n : InstrNum) (v : Stamp) :
    s.isFuture n v = true ↔ ∀ m, s.cat.lastNumber = some m → m.key < n.key ∨ s.cat.lastStamp.toMs < v.toMs := by
  unfold State.isFuture
  cases s.cat.lastNumber <;> simp

theorem CatMem.successorOk_iff (c : CatMem) (v : Stamp) (suc : Option InstrNum) :
    c.successorOk v suc = true ↔ ∀ n, suc = some n → ∃ e, c.entry? n = some e ∧ e.loc? ≠ none ∧ v.toMs < e.stamp.toMs := by
  unfold CatMem.successorOk
  cases suc with
  | none => simp
  | some n => cases hn : c.entry? n <;> simp [hn, Option.isSome_iff_ne_none]

theorem State.mem_extents (s : State) (x : Location) :
    x ∈ s.cat.table.filterMap Entry.loc? ++ s.filingExtents ↔ x ∈ s.filingExtents ∨ ∃ e ∈ s.cat.table, e.loc? = some x := by
  rw [List.mem_append, List.mem_filterMap, or_comm]

theorem State.overlapped_iff (s : State) (loc : Location) :
    (s.cat.table.filterMap Entry.loc? ++ s.filingExtents).any (s.cat.overlaps loc) = true ↔
      ∃ x, (x ∈ s.filingExtents ∨ ∃ e ∈ s.cat.table, e.loc? = some x) ∧ s.cat.overlaps loc x = true := by
  simp only [List.any_eq_true, s.mem_extents]

/-! ## The checks in order -/

section
variable {s : State} {p : RestoreParams}

theorem State.restoreTest_badField (h : restoreFields p = none) : s.restoreTest p = .error .badField := by
  simp only [State.restoreTest, h]

variable {src : Source} {loc : Location} {res : Bool} {suc : Option InstrNum} (hv : restoreFields p = some (src, loc, res, suc))
include hv

theorem State.restoreTest_duplicate (h : s.cat.entry? p.inst ≠ none) : s.restoreTest p = .error .duplicate := by
  simp only [State.restoreTest, hv]
  rw [if_pos (Option.isSome_iff_ne_none.2 h)]

/-- With no entry of the number there already, the later checks decide. -/
theorem State.restoreTest_new (h : s.cat.entry? p.inst = none) :
    s.restoreTest p =
      if !s.absentMode && s.isFuture p.inst p.stamp then .error .futureNumber
      else if !s.cat.successorOk p.stamp suc then .error .supersedeInvalid
      else if (s.cat.table.filterMap Entry.loc? ++ s.filingExtents).any (s.cat.overlaps loc) then .error .extentOverlap
      else if Config.maxEntries ≤ s.cat.table.length then .error .catalogueFull
      else if !s.folioRoom (distinct p.folios) then .error .folioFull
      else .ok (src, loc, res, suc) := by
  simp only [State.restoreTest, hv, h]
  rfl

variable (hnew : s.cat.entry? p.inst = none)
include hnew

theorem State.restoreTest_future (hm : s.absentMode = false)
    (h : ∀ n, s.cat.lastNumber = some n → n.key < p.inst.key ∨ s.cat.lastStamp.toMs < p.stamp.toMs) :
    s.restoreTest p = .error .futureNumber := by
  rw [State.restoreTest_new hv hnew, if_pos (by simp [hm, (s.isFuture_iff p.inst p.stamp).2 h])]

variable (hpast : s.absentMode = true ∨ ∃ n, s.cat.lastNumber = some n ∧ p.inst.key ≤ n.key ∧ p.stamp.toMs ≤ s.cat.lastStamp.toMs)
include hpast

omit hv hnew in
theorem State.restore_notFuture : ¬(!s.absentMode && s.isFuture p.inst p.stamp) = true := by
  intro hf
  obtain ⟨hm, hfut⟩ : s.absentMode = false ∧ s.isFuture p.inst p.stamp = true := by simpa using hf
  obtain habs | ⟨n, hn, hkey, hstamp⟩ := hpast
  · rw [hm] at habs; cases habs
  · have := (s.isFuture_iff p.inst p.stamp).1 hfut n hn
    omega

theorem State.restoreTest_supersede
    (h : ∃ n, suc = some n ∧ ∀ e, s.cat.entry? n = some e → e.loc? = none ∨ e.stamp.toMs ≤ p.stamp.toMs) :
    s.restoreTest p = .error .supersedeInvalid := by
  have hbad : s.cat.successorOk p.stamp suc = false := by
    rw [Bool.eq_false_iff, ne_eq, CatMem.successorOk_iff]
    intro hok
    obtain ⟨n, hn, hno⟩ := h
    obtain ⟨e, he, hloc, hstamp⟩ := hok n hn
    obtain hnone | hle := hno e he
    · exact hloc hnone
    · omega
  rw [State.restoreTest_new hv hnew, if_neg (State.restore_notFuture hpast), hbad]
  rfl

variable (hsuc : ∀ n, suc = some n → ∃ e, s.cat.entry? n = some e ∧ e.loc? ≠ none ∧ p.stamp.toMs < e.stamp.toMs)
include hsuc

/-- What the last three checks decide. -/
theorem State.restoreTest_room_eq :
    s.restoreTest p =
      if (s.cat.table.filterMap Entry.loc? ++ s.filingExtents).any (s.cat.overlaps loc) then .error .extentOverlap
      else if Config.maxEntries ≤ s.cat.table.length then .error .catalogueFull
      else if !s.folioRoom (distinct p.folios) then .error .folioFull
      else .ok (src, loc, res, suc) := by
  rw [State.restoreTest_new hv hnew, if_neg (State.restore_notFuture hpast), (CatMem.successorOk_iff _ _ _).2 hsuc]
  rfl

theorem State.restoreTest_overlap
    (h : ∃ x, (x ∈ s.filingExtents ∨ ∃ e ∈ s.cat.table, e.loc? = some x) ∧ s.cat.overlaps loc x = true) :
    s.restoreTest p = .error .extentOverlap := by
  rw [State.restoreTest_room_eq hv hnew hpast hsuc, if_pos ((s.overlapped_iff loc).2 h)]

variable (hfree : ∀ x, (x ∈ s.filingExtents ∨ ∃ e ∈ s.cat.table, e.loc? = some x) → s.cat.overlaps loc x = false)
include hfree

omit hv hnew hpast hsuc in
theorem State.restore_notOverlapped : ¬(s.cat.table.filterMap Entry.loc? ++ s.filingExtents).any (s.cat.overlaps loc) = true := by
  rw [s.overlapped_iff]
  rintro ⟨x, hx, hover⟩
  rw [hfree x hx] at hover
  cases hover

theorem State.restoreTest_full (h : Config.maxEntries ≤ s.cat.table.length) : s.restoreTest p = .error .catalogueFull := by
  rw [State.restoreTest_room_eq hv hnew hpast hsuc, if_neg (State.restore_notOverlapped hfree), if_pos h]

theorem State.restoreTest_folioFull (h : s.cat.table.length < Config.maxEntries) (hroom : s.folioRoom (distinct p.folios) = false) :
    s.restoreTest p = .error .folioFull := by
  rw [State.restoreTest_room_eq hv hnew hpast hsuc, if_neg (State.restore_notOverlapped hfree), if_neg (Nat.not_le.2 h), hroom]
  rfl

end

/-! ## What it answers -/

theorem State.restoreTest_tagTaken (s : State) (l : Link) (tag : Nat) (p : RestoreParams) :
    (s.tagTaken l tag).restoreTest p = s.restoreTest p := (rfl)

theorem restore_refused {l : Link} {tag : Nat} {p : RestoreParams} {s : State} (h : s.Takes l tag (.restore p)) {st : Status}
    (ht : s.restoreTest p = .error st) : exec (.restore l tag p) s = .next (s.answered l tag 0x13 st .none) := by
  refine request_answers s l tag _ h st .none ?_
  simp only [State.handle, handleRestore, State.restoreTest_tagTaken, ht, State.answer]

/-- A request whose unit makes a change that leaves where its reply goes, and then answers it. -/
theorem request_changes_of_reply (s s' : State) (l : Link) (tag : Nat) (q : Request) (h : s.Takes l tag q) (st : Status) (b : Body)
    (hr : s'.replyTo l tag q = s.replyTo l tag q) (ha : s'.agenda = [])
    (hq : (s.tagTaken l tag).handle (s.replyTo l tag q) q = (s'.tagTaken l tag).respond (s.replyTo l tag q) st b) :
    request l tag q s = .next (s'.answered l tag q.code st b) := by
  rw [request_takes s l tag q h, hq, ← hr, State.respond_tagTaken, State.settle_nil (s'.answered l tag q.code st b) ha]

theorem State.postLow_tagTaken (s : State) (l : Link) (tag : Nat) : (s.tagTaken l tag).postLow = s.postLow.tagTaken l tag := by
  simp only [State.postLow, State.tagTaken_cat, State.post_tagTaken]
  split_ifs <;> rfl

@[simp] theorem State.postLow_agenda (s : State) : s.postLow.agenda = s.agenda := by
  simp only [State.postLow]; split <;> simp

theorem State.replyTo_postLow (s : State) (l : Link) (tag : Nat) (q : Request) : s.postLow.replyTo l tag q = s.replyTo l tag q := by
  simp only [State.postLow]
  split
  · exact s.replyTo_post _ l tag q
  · rfl

theorem restore_inserts {l : Link} {tag : Nat} {p : RestoreParams} {s : State} (h : s.Takes l tag (.restore p))
    {v : Source × Location × Bool × Option InstrNum} (ht : s.restoreTest p = .ok v) {s' : State}
    (hs' : s' = s.modCat (fun c => c.restored p v)) :
    exec (.restore l tag p) s = .next (s'.postLow.answered l tag 0x13 .done
      (.sideMarked (findKeyed Platter.id (s.cat.canonId p.platter) s.cat.platters).isSome)) := by
  subst hs'
  refine request_changes_of_reply s _ l tag _ h .done _ (State.replyTo_postLow _ l tag _) ?_ ?_
  · rw [State.postLow_agenda]
    exact h.1.1.2.1
  · rw [← State.postLow_tagTaken]
    simp only [State.handle, handleRestore, State.restoreTest_tagTaken, ht]
    rfl

/-! ## What it inserts -/

/-- The fill point a RESTORE leaves: the larger of the side's own and the extent's end, or that end. -/
theorem SideState.restoredTo_eq (x : SideState) (b : Nat) :
    x.restoredTo b = .full (match x with | .opened f => max f b | .full f => max f b | _ => b) := by
  cases x <;> simp [SideState.restoredTo, SideState.fill?]

/-- The side changed by the RESTORE, with the fill point written out. -/
theorem CatMem.restored_fields (c : CatMem) (p : RestoreParams) (src : Source) (loc : Location) (res : Bool) (suc : Option InstrNum)
    (mark : Platter → Platter)
    (hmark : ∀ r, mark r = r.modSide loc.side (fun x => { x with state := x.state.restoredTo (p.start + p.len) })) :
    c.restored p (src, loc, res, suc) =
      { c with
        table := insertKeyed Entry.key
          { num := p.inst, state := .recorded loc ⟨p.small, p.plan⟩, stamp := p.stamp, source := src, restricted := res, successor := suc,
            claim := none, copies := 0 } c.table
        storedCount := c.storedCount + 1
        folios := (c.addLinks p.inst p.folios).folios
        platters := updateKeyed Platter.id (c.canonId p.platter) mark c.platters } := by
  rw [funext hmark]
  rfl

/-- Settles O29: the checks in order, then the change, then the folio index after links. -/
theorem restoreInsertsEntry : Obligations.RestoreInsertsEntry := by
  refine ⟨fun l tag p s h => ⟨?_, ?_⟩, ?_, fun c n fs f hrise => ⟨?_, fun hf => ?_, fun hf => ?_⟩⟩
  · exact fun hv => restore_refused h (State.restoreTest_badField hv)
  · intro src loc res suc hv
    exact ⟨fun hdup => restore_refused h (State.restoreTest_duplicate hv hdup), fun hnew =>
      ⟨fun hm hfut => restore_refused h (State.restoreTest_future hv hnew hm hfut), fun hpast =>
        ⟨fun hbad => restore_refused h (State.restoreTest_supersede hv hnew hpast hbad), fun hsuc =>
          ⟨fun hover => restore_refused h (State.restoreTest_overlap hv hnew hpast hsuc hover), fun hfree =>
            ⟨fun hfull => restore_refused h (State.restoreTest_full hv hnew hpast hsuc hfree hfull), fun hlt hroom =>
              restore_refused h (State.restoreTest_folioFull hv hnew hpast hsuc hfree hlt hroom)⟩⟩⟩⟩⟩
  · intro l tag p s src loc res suc h ht e id fill mark c s' free
    have hmark : ∀ r, mark r = r.modSide loc.side (fun x => { x with state := x.state.restoredTo (p.start + p.len) }) := by
      intro r
      simp only [SideState.restoredTo_eq]
      rfl
    have hc : c = s.cat.restored p (src, loc, res, suc) := (CatMem.restored_fields s.cat p src loc res suc mark hmark).symm
    exact restore_inserts (s' := s') h ht (congrArg (fun c => { s with cat := c }) hc)
  · simpa [CatMem.addLinks_eq] using rising_addLinks n (ascendingFolios fs) c.folios hrise
  · rw [CatMem.folio?_addLinks c n fs f hrise, if_neg hf]
  · rw [CatMem.folio?_addLinks c n fs f hrise, if_pos hf]
    rfl

end Sys2Proof.Machine
end

section
/-!
PROOFS. The end of catalogue-absent mode (R21), WITHDRAW (R62) and CLOSE_SIDE (R63).
-/
namespace Sys2Proof.Machine
set_option Elab.async false

/-! ## The last-issued values -/

/-- The last-issued stamp CATALOGUE_READY finds: zero in an empty table, and the largest in any other (R21). -/
theorem CatMem.ready_lastStamp (c : CatMem) :
    (c.table = [] → c.ready.lastStamp = ⟨0, 0⟩) ∧ (∀ e ∈ c.table, e.stamp.toMs ≤ c.ready.lastStamp.toMs) ∧
      (c.table ≠ [] → ∃ e ∈ c.table, e.stamp.toMs = c.ready.lastStamp.toMs) := by
  obtain ⟨hmax, _, hmem⟩ := foldl_max_stamp c.table ⟨0, 0⟩
  refine ⟨fun h => ?_, hmax, fun h => ?_⟩
  · simp [CatMem.ready, h]
  · obtain hzero | hmem := hmem
    · obtain ⟨e, he⟩ := List.exists_mem_of_ne_nil _ h
      have hle := hmax e he
      have hz : c.ready.lastStamp.toMs = 0 := congrArg Stamp.toMs hzero
      exact ⟨e, he, by rw [hz]; exact Nat.le_zero.1 (hz ▸ hle)⟩
    · exact hmem

theorem CatMem.ready_lastNumber_nil (c : CatMem) (h : c.table = []) : c.ready.lastNumber = none := by simp [CatMem.ready, h]

/-- The last-issued number CATALOGUE_READY finds is the largest of the table (R21). -/
theorem CatMem.ready_lastNumber (c : CatMem) (h : c.table ≠ []) : ∃ e ∈ c.table, c.ready.lastNumber = some e.num ∧
    (risingKeys Entry.key c.table = true → ∀ x ∈ c.table, x.num.key ≤ e.num.key) := by
  refine ⟨c.table.getLast h, List.getLast_mem h, by simp [CatMem.ready, List.getLast?_eq_some_getLast h], fun hrise x hx => ?_⟩
  have hpair := (risingKeys_iff Entry.key c.table).1 hrise
  rw [← List.dropLast_append_getLast h, List.pairwise_append] at hpair
  rw [← List.dropLast_append_getLast h, List.mem_append, List.mem_singleton] at hx
  obtain ⟨_, _, hbefore⟩ := hpair
  obtain hx | rfl := hx
  · exact (hbefore x hx _ (List.mem_singleton_self _)).le
  · exact le_rfl

/-! ## CATALOGUE_READY -/

theorem catalogueReady_present {l : Link} {tag : Nat} {s : State} (h : s.Takes l tag .catalogueReady) (hm : s.absentMode = false) :
    exec (.catalogueReady l tag) s = .next (s.answered l tag 0x14 .cataloguePresent .none) := by
  refine request_answers s l tag _ h .cataloguePresent .none ?_
  simp [State.handle, handleCatalogueReady, hm, State.answer]

/-- With an empty commit queue, FIL has nothing to look for (R69). -/
theorem State.mediaRetry_idle (s : State) (h : s.commitQueue = []) : s.mediaRetry = s := by
  simp [State.mediaRetry, State.head?, h]

theorem catalogueReady_ends {l : Link} {tag : Nat} {s : State} (h : s.Takes l tag .catalogueReady) (hm : s.absentMode = true)
    (hq : s.commitQueue = []) :
    exec (.catalogueReady l tag) s = .next (State.answered { s with absentMode := false, cat := s.cat.ready } l tag 0x14 .done
      (.lastIssued s.cat.ready.lastStamp s.cat.ready.lastNumber)) := by
  have hagenda : s.agenda = [] := h.1.1.2.1
  have hreq := request_takes s l tag _ h
  have hhandle : (s.tagTaken l tag).handle (s.replyTo l tag .catalogueReady) .catalogueReady =
      (State.answered { s with absentMode := false, cat := s.cat.ready } l tag 0x14 .done
        (.lastIssued s.cat.ready.lastStamp s.cat.ready.lastNumber)).later [.mediaRetry] := by
    simp only [State.handle, handleCatalogueReady, State.tagTaken_absentMode, hm, Bool.not_true]
    exact congrArg (fun t => State.later t [.mediaRetry])
      (State.respond_tagTaken { s with absentMode := false, cat := s.cat.ready } l tag .catalogueReady .done
        (.lastIssued s.cat.ready.lastStamp s.cat.ready.lastNumber))
  rw [hhandle] at hreq
  refine hreq.trans (congrArg Host.Outcome.next (State.settle_later_one hagenda ?_ hagenda))
  exact State.mediaRetry_idle _ hq

/-! ## WITHDRAW -/

theorem CatMem.lodged_any (c : CatMem) (n : InstrNum) :
    c.lodged.any (fun e => e.num == n) = true ↔ ∃ e ∈ c.table, e.num = n ∧ e.state = .lodged := by
  simp only [CatMem.lodged, List.any_eq_true, List.mem_filter, beq_iff_eq]
  constructor
  · rintro ⟨e, ⟨he, hl⟩, hn⟩; exact ⟨e, he, hn, hl⟩
  · rintro ⟨e, he, hn, hl⟩; exact ⟨e, ⟨he, hl⟩, hn⟩

theorem withdraw_lodged {l : Link} {tag : Nat} {n : InstrNum} {s : State} (h : s.Takes l tag (.withdraw n))
    (hl : ∃ e ∈ s.cat.table, e.num = n ∧ e.state = .lodged) :
    exec (.withdraw l tag n) s = .next (State.answered { s with cat := s.cat.withdrawEntry n } l tag 0x34 .done .none) := by
  refine request_changes s { s with cat := s.cat.withdrawEntry n } l tag _ h .done .none rfl h.1.1.2.1 ?_
  exact if_pos ((s.cat.lodged_any n).2 hl)

theorem withdraw_other {l : Link} {tag : Nat} {n : InstrNum} {s : State} (h : s.Takes l tag (.withdraw n))
    (hl : ∀ e ∈ s.cat.table, e.num = n → e.state ≠ .lodged) :
    exec (.withdraw l tag n) s = .next (s.answered l tag 0x34 .notLodged .none) := by
  refine request_answers s l tag _ h .notLodged .none ?_
  have hnone : ¬s.cat.lodged.any (fun e => e.num == n) = true := by
    rw [s.cat.lodged_any n]
    rintro ⟨e, he, hn, hst⟩
    exact hl e he hn hst
  exact if_neg hnone

/-! ## CLOSE_SIDE -/

theorem State.openSide_tagTaken (s : State) (l : Link) (tag : Nat) : (s.tagTaken l tag).openSide = s.openSide := (rfl)

theorem closeSide_none {l : Link} {tag : Nat} {s : State} (h : s.Takes l tag .closeSide) (ho : s.openSide = none) :
    exec (.closeSide l tag) s = .next (s.answered l tag 0x35 .noOpenSide .none) := by
  refine request_answers s l tag _ h .noOpenSide .none ?_
  simp only [State.handle, handleCloseSide, State.openSide_tagTaken, ho, State.answer]

theorem closeSide_closes {l : Link} {tag : Nat} {s : State} (h : s.Takes l tag .closeSide) {ps : PlatterSide} {fill : Nat}
    (ho : s.openSide = some (ps, fill)) :
    exec (.closeSide l tag) s = .next (State.answered { s.setSide ps (.full fill) with lastFiling := some ps } l tag 0x35 .done
      (.sideClosed ps fill)) := by
  refine request_changes s { s.setSide ps (.full fill) with lastFiling := some ps } l tag _ h .done _ rfl h.1.1.2.1 ?_
  simp only [State.handle, handleCloseSide, State.openSide_tagTaken, ho]
  rfl

/-- Settles O30: the three requests, each in its own cases. -/
theorem catalogueReadyEndsAbsentMode : Obligations.CatalogueReadyEndsAbsentMode := by
  refine ⟨fun l tag s h => ⟨catalogueReady_present h, fun hm hq => ?_⟩,
    fun l tag n s h => ⟨withdraw_lodged h, withdraw_other h⟩, fun l tag s h => ⟨closeSide_none h, fun ps fill ho => ?_⟩⟩
  · obtain ⟨hempty, hmax, hmem⟩ := s.cat.ready_lastStamp
    exact ⟨_, _, ⟨fun hnil => ⟨hempty hnil, s.cat.ready_lastNumber_nil hnil⟩, hmax, fun hne => ⟨hmem hne, s.cat.ready_lastNumber hne⟩⟩,
      catalogueReady_ends h hm hq⟩
  · exact closeSide_closes h ho

end Sys2Proof.Machine
end

section
/-!
PROOFS. What stands on the links' desks: the frames that wait on the inbound lanes, and the attention sets. One lemma for each operation of the units
that leaves all of them alone.
-/
namespace Sys2Proof.Machine
set_option Elab.async false

/-- What waits on a link's inbound lane (R184), and its attention set (R191). -/
structure Desk where
  lane : List LaneInput
  attention : List Attention

/-- A link's desk. -/
def LinkRec.desk (k : LinkRec) : Desk := ⟨k.lane, k.attention⟩

@[simp] theorem LinkRec.desk_lane (k : LinkRec) : k.desk.lane = k.lane := (rfl)
@[simp] theorem LinkRec.desk_attention (k : LinkRec) : k.desk.attention = k.attention := (rfl)

/-- Only the lane and the attention set of a link's record are its desk. -/
@[simp] theorem LinkRec.desk_mk (tags responses out lane attention enable resetCount frameErrors strays resetAsserted) :
    LinkRec.desk ⟨tags, responses, out, lane, attention, enable, resetCount, frameErrors, strays, resetAsserted⟩ = ⟨lane, attention⟩ := (rfl)

@[simp] theorem Desk.eta (k : LinkRec) : Desk.mk k.lane k.attention = k.desk := (rfl)

/-- The desks of the three links. -/
def desks (t : Three LinkRec) (l : Link) : Desk := (t.get l).desk

/-- The desks of a state. -/
def State.desk (s : State) : Link → Desk := desks s.links

@[simp] theorem desks_links (s : State) : desks s.links = s.desk := (rfl)

@[simp] theorem State.desk_mk
    pending power ref cat update absentMode reserved clock lines settings rights links startEvents filings commitQueue lastFiling filUse
    mapReads ops mem ring ringNext segments spaceFifo driveChans inChans outChans lib agenda freeCtr :
    State.desk (.mk pending power ref cat update absentMode reserved clock lines settings rights links startEvents filings commitQueue lastFiling filUse
        mapReads ops mem ring ringNext segments spaceFifo driveChans inChans outChans lib agenda freeCtr) = desks links := (rfl)

/-- One link's record replaced by one with the desk `d`. -/
theorem desks_set (t : Three LinkRec) (l : Link) (m : LinkRec) : desks (t.set l m) = Function.update (desks t) l m.desk := by
  funext k
  by_cases e : k = l
  · subst e
    simp [desks]
  · simp [desks, Three.get_set_ne _ _ _ _ e, e]

/-- A link's other fields changed. -/
@[simp] theorem State.modLink_desk (s : State) (l : Link) (f : LinkRec → LinkRec) (hf : ∀ k, (f k).desk = k.desk) : (s.modLink l f).desk = s.desk := by
  rw [State.modLink, State.desk_mk, desks_set, hf]
  exact Function.update_eq_self l s.desk

variable (s : State)

/-- A chain of changes that leave the desks alone leaves them alone. -/
theorem State.foldl_desk {α : Type} (f : State → α → State) (hf : ∀ s a, (f s a).desk = s.desk) (l : List α) (s : State) :
    (l.foldl f s).desk = s.desk := by
  induction l generalizing s with
  | nil => rfl
  | cons a l ih => exact (ih _).trans (hf s a)

/-! ## Records of single units -/

@[simp] theorem State.later_desk (ts : List Task) : (s.later ts).desk = s.desk := (rfl)
@[simp] theorem State.modCat_desk (f : CatMem → CatMem) : (s.modCat f).desk = s.desk := (rfl)
@[simp] theorem State.modLine_desk (q : LineNo) (f : Line → Line) : (s.modLine q f).desk = s.desk := (rfl)
@[simp] theorem State.setFiling_desk (q : FSlot) (f : Option Filing) : (s.setFiling q f).desk = s.desk := (rfl)
@[simp] theorem State.modFiling_desk (q : FSlot) (f : Filing → Filing) : (s.modFiling q f).desk = s.desk := (rfl)
@[simp] theorem State.modCommit_desk (q : FSlot) (f : Commit → Commit) : (s.modCommit q f).desk = s.desk := (rfl)
@[simp] theorem State.modLib_desk (f : Library → Library) : (s.modLib f).desk = s.desk := (rfl)
@[simp] theorem State.modDrive_desk (d : DriveNo) (f : Drive → Drive) : (s.modDrive d f).desk = s.desk := (rfl)
@[simp] theorem State.modPicker_desk (f : Picker → Picker) : (s.modPicker f).desk = s.desk := (rfl)
@[simp] theorem State.modDriveChan_desk (d : DriveNo) (f : DriveChan → DriveChan) : (s.modDriveChan d f).desk = s.desk := (rfl)
@[simp] theorem State.setInChan_desk (l : Link) (c : InChan) : (s.setInChan l c).desk = s.desk := (rfl)
@[simp] theorem State.modOutChan_desk (l : Link) (f : OutChan → OutChan) : (s.modOutChan l f).desk = s.desk := (rfl)
@[simp] theorem State.modOp_desk (l : Link) (t : Nat) (f : Op → Op) : (s.modOp l t f).desk = s.desk := (rfl)
@[simp] theorem State.modItem_desk (r : ItemRef) (f : Item → Item) : (s.modItem r f).desk = s.desk := (rfl)
@[simp] theorem State.setPhase_desk (r : ItemRef) (p : Phase) : (s.setPhase r p).desk = s.desk := (rfl)
@[simp] theorem State.modSegment_desk (n : InstrNum) (f : Segment → Segment) : (s.modSegment n f).desk = s.desk := (rfl)
@[simp] theorem State.modPlatter_desk (id : Nat) (f : Platter → Platter) : (s.modPlatter id f).desk = s.desk := (rfl)
@[simp] theorem State.useFree_desk : s.useFree.desk = s.desk := (rfl)
@[simp] theorem State.setLoc_desk (id : Nat) (l : PlatterLoc) : (s.setLoc id l).desk = s.desk := (rfl)
@[simp] theorem State.modSide_desk (ps : PlatterSide) (f : SideRec → SideRec) : (s.modSide ps f).desk = s.desk := (rfl)
@[simp] theorem State.setSide_desk (ps : PlatterSide) (st : SideState) : (s.setSide ps st).desk = s.desk := (rfl)
@[simp] theorem State.carry_desk (id : Nat) : (s.carry id).desk = s.desk := (rfl)
@[simp] theorem State.releaseInst_desk (n : InstrNum) (q : FSlot) : (s.releaseInst n q).desk = s.desk := by
  simp only [State.releaseInst]; split <;> simp

/-! ## Responses, events and records of single units -/

@[simp] theorem State.respond_desk (r : Reply) (st : Status) (b : Body) : (s.respond r st b).desk = s.desk := by
  simp only [State.respond]; (repeat' split) <;> simp
@[simp] theorem State.answer_desk (r : Reply) (st : Status) : (s.answer r st).desk = s.desk := s.respond_desk r st .none

/-! ## Requests that only read -/

@[simp] theorem handleLookup_desk (r : Reply) (n : InstrNum) : (handleLookup s r n).desk = s.desk := by
  simp only [handleLookup]; (repeat' split) <;> simp
@[simp] theorem handlePendingList_desk (r : Reply) (after : OptField) : (handlePendingList s r after).desk = s.desk := by
  simp only [handlePendingList]; (repeat' split) <;> simp
@[simp] theorem handleFolioSearch_desk (r : Reply) (folio : Nat) (after : OptField) (mode : Nat) :
    (handleFolioSearch s r folio after mode).desk = s.desk := by
  simp only [handleFolioSearch]; (repeat' split) <;> simp
@[simp] theorem handleClockRead_desk (r : Reply) : (handleClockRead s r).desk = s.desk := by simp [handleClockRead]
@[simp] theorem State.answerSchedules_desk (r : Reply) : (s.answerSchedules r).desk = s.desk := by simp [State.answerSchedules]
@[simp] theorem State.answerAccount_desk (r : Reply) (code : Nat) : (s.answerAccount r code).desk = s.desk := by
  simp only [State.answerAccount]; (repeat' split) <;> simp
@[simp] theorem handleAccountRead_desk (r : Reply) (after : OptField) : (handleAccountRead s r after).desk = s.desk := by
  simp only [handleAccountRead]; (repeat' split) <;> simp
@[simp] theorem handlePeriodTake_desk (r : Reply) (after : OptField) : (handlePeriodTake s r after).desk = s.desk := by
  simp only [handlePeriodTake]; (repeat' split) <;> simp
@[simp] theorem handleStatus_desk (r : Reply) (o : OptField) : (handleStatus s r o).desk = s.desk := by
  simp only [handleStatus]; (repeat' split) <;> simp
@[simp] theorem handleEventsRead_desk (r : Reply) : (handleEventsRead s r).desk = s.desk := by simp [handleEventsRead]
@[simp] theorem handleEventsEnable_desk (r : Reply) (set : Nat) : (handleEventsEnable s r set).desk = s.desk := by
  simp only [handleEventsEnable]; (repeat' split) <;> simp

/-! ## Settings memory -/

@[simp] theorem State.beginWrite_desk : s.beginWrite.desk = s.desk := by
  simp only [State.beginWrite]; (repeat' split) <;> simp
@[simp] theorem State.askWrite_desk (c : SettingsChange) (r : Reply) : (s.askWrite c r).desk = s.desk := by simp [State.askWrite]
@[simp] theorem State.endWrite_desk (ok : Bool) : (s.endWrite ok).desk = s.desk := by
  simp only [State.endWrite]; (repeat' split) <;> simp
@[simp] theorem handleSettingsSet_desk (r : Reply) (count : Nat) (enables : Four Nat) : (handleSettingsSet s r count enables).desk = s.desk := by
  simp only [handleSettingsSet]; (repeat' split) <;> simp
@[simp] theorem handleClockTrim_desk (r : Reply) (f : TrimForm) : (handleClockTrim s r f).desk = s.desk := by
  simp only [handleClockTrim]; (repeat' split) <;> simp
@[simp] theorem handleRightsSet_desk (r : Reply) (target rights : Nat) : (handleRightsSet s r target rights).desk = s.desk := by
  simp only [handleRightsSet]; (repeat' split) <;> simp
@[simp] theorem State.pressRelease_desk (q : LineNo) : (s.pressRelease q).desk = s.desk := (rfl)
@[simp] theorem State.printerAccept_desk (q : LineNo) : (s.printerAccept q).desk = s.desk := (rfl)
@[simp] theorem State.printerRelease_desk (q : LineNo) : (s.printerRelease q).desk = s.desk := (rfl)

/-! ## The ring, staging and the library -/

@[simp] theorem State.appendRing_desk (q : FSlot) (ext : Nat) : (s.appendRing q ext).desk = s.desk := (rfl)
@[simp] theorem State.markSlot_desk (q : FSlot) (m : Mark) : (s.markSlot q m).desk = s.desk := (rfl)
@[simp] theorem State.touchSegment_desk (n : InstrNum) : (s.touchSegment n).desk = s.desk := by
  simp only [State.touchSegment]; (repeat' split) <;> simp
@[simp] theorem State.joinSegment_desk (r : ItemRef) (n : InstrNum) : (s.joinSegment r n).desk = s.desk := by simp [State.joinSegment]
@[simp] theorem State.createSegment_desk (r : ItemRef) (n : InstrNum) (first len : Nat) :
    (s.createSegment r n first len).desk = s.desk := by
  have hjoin := fun (l : List ItemRef) (s : State) => State.foldl_desk (fun s o => s.joinSegment o n) (fun s o => by simp) l s
  simp only [State.createSegment]; split <;> simp [hjoin]
@[simp] theorem State.dropSegment_desk (n : InstrNum) : (s.dropSegment n).desk = s.desk := (rfl)
@[simp] theorem State.idleOut_desk (l : Link) : (s.idleOut l).desk = s.desk := (rfl)
@[simp] theorem State.leaveSegment_desk (r : ItemRef) (g : Segment) : (s.leaveSegment r g).desk = s.desk := by
  simp only [State.leaveSegment]; (repeat' split) <;> simp
@[simp] theorem State.command_desk (d : DriveNo) (c : DriveCmd) : (s.command d c).desk = s.desk := (rfl)
@[simp] theorem State.endCmd_desk (d : DriveNo) : (s.endCmd d).desk = s.desk := (rfl)
@[simp] theorem State.idleChan_desk (d : DriveNo) : (s.idleChan d).desk = s.desk := (rfl)
@[simp] theorem State.appendUse_desk (d : DriveNo) (u : Use) : (s.appendUse d u).desk = s.desk := (rfl)
@[simp] theorem State.removeUse_desk (d : DriveNo) (u : Use) : (s.removeUse d u).desk = s.desk := by
  simp only [State.removeUse]; (repeat' split) <;> simp
@[simp] theorem State.handOver_desk (d : DriveNo) (w : Waiter) : (s.handOver d w).desk = s.desk := by
  simp only [State.handOver]; (repeat' split) <;> simp
@[simp] theorem State.modDemands_desk (f : List Demand → List Demand) : (s.modDemands f).desk = s.desk := (rfl)
@[simp] theorem State.modDemand_desk (ps : PlatterSide) (f : Demand → Demand) : (s.modDemand ps f).desk = s.desk := (rfl)
@[simp] theorem State.dropDemand_desk (ps : PlatterSide) : (s.dropDemand ps).desk = s.desk := (rfl)
@[simp] theorem State.joinDemand_desk (q : Demand) (w : Waiter) : (s.joinDemand q w).desk = s.desk := by
  simp only [State.joinDemand]; (repeat' split) <;> simp
@[simp] theorem State.newDemand_desk (ps : PlatterSide) (w : Waiter) : (s.newDemand ps w).desk = s.desk := (rfl)
@[simp] theorem State.submit_desk (ps : PlatterSide) (w : Waiter) : (s.submit ps w).desk = s.desk := by
  simp only [State.submit]; (repeat' split) <;> simp
@[simp] theorem State.pruneDemands_desk : s.pruneDemands.desk = s.desk := (rfl)
@[simp] theorem State.leaveDemands_desk (r : ItemRef) : (s.leaveDemands r).desk = s.desk := (rfl)
@[simp] theorem State.leaveFiling_desk : s.leaveFiling.desk = s.desk := (rfl)
@[simp] theorem State.meet_desk (d : DriveNo) (q : Demand) : (s.meet d q).desk = s.desk :=
  State.foldl_desk _ (fun s w => by simp) _ _
@[simp] theorem State.meetMounted_desk (d : DriveNo) : (s.meetMounted d).desk = s.desk := by
  simp only [State.meetMounted]; (repeat' split) <;> simp
@[simp] theorem State.endFilUse_desk (d : DriveNo) : (s.endFilUse d).desk = s.desk := by simp [State.endFilUse]
@[simp] theorem State.endDemands_desk (platter : Nat) (st : Status) : (s.endDemands platter st).desk = s.desk :=
  (State.foldl_desk _ (fun s w => by cases w <;> simp) _ _).trans (by simp)
@[simp] theorem State.givePicker_desk (src : Pos) (dst : Option Pos) (flip : Bool) (p : Piece) :
    (s.givePicker src dst flip p).desk = s.desk := (rfl)
@[simp] theorem State.waitAtDrive_desk (d : DriveNo) (dst : Option Pos) (flip : Bool) (p : Piece) :
    (s.waitAtDrive d dst flip p).desk = s.desk := (rfl)
@[simp] theorem State.clearMove_desk : s.clearMove.desk = s.desk := (rfl)
@[simp] theorem State.startSweep_desk : s.startSweep.desk = s.desk := (rfl)
@[simp] theorem State.endPiece_desk : s.endPiece.desk = s.desk := by
  simp only [State.endPiece]; (repeat' split) <;> simp
@[simp] theorem State.queueReturn_desk (d : DriveNo) : (s.queueReturn d).desk = s.desk := (rfl)
@[simp] theorem State.unmount_desk (ps : PlatterSide) : (s.unmount ps).desk = s.desk := (rfl)
@[simp] theorem State.answerReset_desk (d : DriveNo) (st : Status) : (s.answerReset d st).desk = s.desk := by
  simp only [State.answerReset]; (repeat' split) <;> simp
@[simp] theorem State.answerReturn_desk (d : DriveNo) (st : Status) : (s.answerReturn d st).desk = s.desk := by
  simp only [State.answerReturn]; (repeat' split) <;> simp
@[simp] theorem State.importEnds_desk (r : Option Reply) (st : Status) (id slot : Nat) : (s.importEnds r st id slot).desk = s.desk := by
  simp only [State.importEnds]; (repeat' split) <;> simp
@[simp] theorem State.askImport_desk (r : Option Reply) : (s.askImport r).desk = s.desk := by
  simp only [State.askImport]; (repeat' split) <;> simp
@[simp] theorem State.serveMail_desk : s.serveMail.desk = s.desk := by
  simp only [State.serveMail]; (repeat' split) <;> simp
@[simp] theorem handleImport_desk (r : Reply) : (handleImport s r).desk = s.desk := by simp [handleImport]
@[simp] theorem handleExport_desk (r : Reply) (id : Nat) : (handleExport s r id).desk = s.desk := by
  simp only [handleExport]; (repeat' split) <;> simp
@[simp] theorem handleDriveReset_desk (r : Reply) (n : Nat) : (handleDriveReset s r n).desk = s.desk := by
  simp only [handleDriveReset]; (repeat' split) <;> simp

/-! ## Filing -/

@[simp] theorem State.demandSide_desk (q : FSlot) (ps : PlatterSide) : (s.demandSide q ps).desk = s.desk := by
  simp only [State.demandSide]; (repeat' split) <;> simp
@[simp] theorem State.freeSlot_desk (q : FSlot) : (s.freeSlot q).desk = s.desk := (rfl)
@[simp] theorem State.dropUse_desk (q : FSlot) : (s.dropUse q).desk = s.desk := by
  simp only [State.dropUse]; (repeat' split) <;> simp
@[simp] theorem State.pass_desk (d : DriveNo) (p : Passed) : (s.pass d p).desk = s.desk := (rfl)
@[simp] theorem State.setChan_desk (d : DriveNo) (c : Chan) : (s.setChan d c).desk = s.desk := (rfl)
@[simp] theorem State.stage_desk (g : FilStage) : (s.stage g).desk = s.desk := (rfl)
@[simp] theorem State.startCheck_desk (d : DriveNo) (q : FSlot) : (s.startCheck d q).desk = s.desk := (rfl)
@[simp] theorem State.startHeader_desk (d : DriveNo) (q : FSlot) : (s.startHeader d q).desk = s.desk := (rfl)
@[simp] theorem State.leaveSide_desk (d : DriveNo) (next : Task) : (s.leaveSide d next).desk = s.desk := by simp [State.leaveSide]
@[simp] theorem State.headerErased_desk (d : DriveNo) (u : FilUse) : (s.headerErased d u).desk = s.desk := by simp [State.headerErased]
@[simp] theorem State.startWrite_desk (d : DriveNo) (q : FSlot) : (s.startWrite d q).desk = s.desk := by simp [State.startWrite]
@[simp] theorem State.startVerify_desk (d : DriveNo) (q : FSlot) : (s.startVerify d q).desk = s.desk := by simp [State.startVerify]
@[simp] theorem State.admitFeed_desk (r : Reply) (q : FSlot) (f : Filing) (flag : Bool) (block : List Byte) :
    (s.admitFeed r q f flag block).desk = s.desk := by simp [State.admitFeed]
@[simp] theorem handleFeed_desk (r : Reply) (slot pageStart : Nat) (block : List Byte) :
    (handleFeed s r slot pageStart block).desk = s.desk := by
  simp only [handleFeed]; (repeat' split) <;> simp
@[simp] theorem handleCommit_desk (r : Reply) (p : CommitParams) : (handleCommit s r p).desk = s.desk := by
  simp only [handleCommit]; (repeat' split) <;> simp

/-! ## Retrieval -/

@[simp] theorem handleQuote_desk (r : Reply) (p : FetchParams) : (handleQuote s r p).desk = s.desk := by
  simp only [handleQuote]; (repeat' split) <;> simp
@[simp] theorem State.cancelFill_desk (n : InstrNum) : (s.cancelFill n).desk = s.desk := by
  unfold State.cancelFill
  exact State.foldl_desk _ (fun s d => by split <;> simp) _ _
@[simp] theorem State.removeUnstarted_desk (g : Segment) (r : ItemRef) : (s.removeUnstarted g r).desk = s.desk := by
  unfold State.removeUnstarted
  exact (State.foldl_desk _ (fun s u => by dsimp only; split <;> simp) _ _).trans (by simp)
@[simp] theorem State.leaveAll_desk (r : ItemRef) : (s.leaveAll r).desk = s.desk := by
  simp only [State.leaveAll]; (repeat' split) <;> simp
@[simp] theorem State.nextTurn_desk (l : Link) (t : Nat) : (s.nextTurn l t).desk = s.desk := by
  simp only [State.nextTurn]; (repeat' split) <;> simp
@[simp] theorem State.granted_desk (r : ItemRef) (o : Op) (v : Resolved) (first : Nat) : (s.granted r o v first).desk = s.desk := by
  simp [State.granted]
@[simp] theorem State.askSpace_desk (r : ItemRef) (o : Op) (v : Resolved) : (s.askSpace r o v).desk = s.desk := by
  simp only [State.askSpace]; (repeat' split) <;> simp
@[simp] theorem State.startFill_desk (d : DriveNo) (n : InstrNum) : (s.startFill d n).desk = s.desk := by
  simp only [State.startFill]; (repeat' split) <;> simp
@[simp] theorem State.failUsers_desk (g : Segment) : (s.failUsers g).desk = s.desk := (rfl)
@[simp] theorem State.failFill_desk (d : DriveNo) (n : InstrNum) : (s.failFill d n).desk = s.desk := by
  simp only [State.failFill]; (repeat' split) <;> simp
@[simp] theorem State.endFill_desk (d : DriveNo) (n : InstrNum) : (s.endFill d n).desk = s.desk := by simp [State.endFill]
@[simp] theorem State.outTake_desk (l : Link) : (s.outTake l).desk = s.desk := by
  simp only [State.outTake]; (repeat' split) <;> simp
@[simp] theorem State.advanceOut_desk (l : Link) (g : Segment) : (s.advanceOut l g).desk = s.desk := (rfl)
@[simp] theorem State.reportStaged_desk (g : Segment) : (s.reportStaged g).desk = s.desk :=
  State.foldl_desk _ (fun s l => by split <;> simp) _ _
@[simp] theorem State.offerFrame_desk (l : Link) : (s.offerFrame l).desk = s.desk := by
  simp only [State.offerFrame]; (repeat' split) <;> simp

/-! ## Drives, picker, door and mail slot -/

@[simp] theorem State.endDemand_desk (q : Demand) (st : Status) : (s.endDemand q st).desk = s.desk :=
  (State.foldl_desk _ (fun s w => by cases w <;> simp) _ _).trans (by simp)
@[simp] theorem State.faultDemand_desk (was : Drive) (q : Demand) : (s.faultDemand was q).desk = s.desk := by
  simp only [State.faultDemand]; (repeat' split) <;> simp
@[simp] theorem State.faultPiece_desk (d : DriveNo) : (s.faultPiece d).desk = s.desk := by
  simp only [State.faultPiece]; (repeat' split) <;> simp
@[simp] theorem State.resetFailed_desk (d : DriveNo) : (s.resetFailed d).desk = s.desk := by simp [State.resetFailed]
@[simp] theorem State.reissue_desk (d : DriveNo) : (s.reissue d).desk = s.desk := by
  simp only [State.reissue]; (repeat' split) <;> simp
@[simp] theorem State.vacate_desk (d : DriveNo) : (s.vacate d).desk = s.desk := (rfl)
@[simp] theorem State.ejected_desk (d : DriveNo) : (s.ejected d).desk = s.desk := by
  simp only [State.ejected]; (repeat' split) <;> simp
@[simp] theorem State.countBlock_desk (d : DriveNo) : (s.countBlock d).desk = s.desk := (rfl)
@[simp] theorem State.holdBlock_desk (d : DriveNo) (b : List Byte) : (s.holdBlock d b).desk = s.desk := (rfl)
@[simp] theorem State.carryHeader_desk (d : DriveNo) : (s.carryHeader d).desk = s.desk := (rfl)
@[simp] theorem State.residencyExpiry_desk (d : DriveNo) : (s.residencyExpiry d).desk = s.desk := by
  simp only [State.residencyExpiry]; (repeat' split) <;> simp
@[simp] theorem State.stageBlock_desk (d : DriveNo) (n : InstrNum) : (s.stageBlock d n).desk = s.desk := by
  simp only [State.stageBlock]; (repeat' split) <;> simp
@[simp] theorem State.serveIn_desk (l : Link) : (s.serveIn l).desk = s.desk := by
  simp only [State.serveIn]; (repeat' split) <;> simp
@[simp] theorem State.emptied_desk (d : DriveNo) : (s.emptied d).desk = s.desk := by
  simp only [State.emptied]; (repeat' split) <;> simp
@[simp] theorem State.modSweep_desk (f : Sweep → Sweep) : (s.modSweep f).desk = s.desk := (rfl)
@[simp] theorem State.jamDemands_desk : s.jamDemands.desk = s.desk := by
  simp only [State.jamDemands, State.pruneDemands_desk, State.modDemands_desk]
  exact State.foldl_desk _ (fun s w => by cases w <;> simp) _ _
@[simp] theorem State.jamPiece_desk : s.jamPiece.desk = s.desk := by
  simp only [State.jamPiece]; (repeat' split) <;> simp
@[simp] theorem State.refuseMedia_desk (st : Status) : (s.refuseMedia st).desk = s.desk :=
  (State.foldl_desk _ (fun s m => by cases m <;> simp) _ _).trans (by simp)
@[simp] theorem State.mailFilled_desk : s.mailFilled.desk = s.desk := by
  simp only [State.mailFilled]; (repeat' split) <;> simp

/-! ## Frames -/

@[simp] theorem State.refuseFrame_desk (l : Link) (tag : Option Nat) (code : Nat) (st : Status) :
    (s.refuseFrame l tag code st).desk = s.desk := by simp [State.refuseFrame]
@[simp] theorem State.badFrame_desk (l : Link) (f : BadFrame) : (s.badFrame l f).desk = s.desk := by simp [State.badFrame]
@[simp] theorem State.responseSend_desk (l : Link) : (s.responseSend l).desk = s.desk := by
  simp only [State.responseSend]; (repeat' split) <;> simp
@[simp] theorem State.responseAccepted_desk (l : Link) : (s.responseAccepted l).desk = s.desk := by
  simp only [State.responseAccepted]; (repeat' split) <;> simp

/-! ## Requests of the clock, the fees, the catalogue -/

@[simp] theorem handleCloseTargetSet_desk (r : Reply) (target mode value : Nat) :
    (handleCloseTargetSet s r target mode value).desk = s.desk := by
  simp only [handleCloseTargetSet]; (repeat' split) <;> simp
@[simp] theorem handleScheduleSet_desk (r : Reply) (f : ScheduleForm) (sched : Option Schedule) :
    (handleScheduleSet s r f sched).desk = s.desk := by
  simp only [handleScheduleSet]; (repeat' split) <;> simp
@[simp] theorem accountCreate_desk (r : Reply) (p : AccountParams) : (accountCreate s r p).desk = s.desk := by
  simp only [accountCreate]; (repeat' split) <;> simp
@[simp] theorem accountChange_desk (r : Reply) (p : AccountParams) : (accountChange s r p).desk = s.desk := by
  simp only [accountChange]; (repeat' split) <;> simp
@[simp] theorem accountReset_desk (r : Reply) (p : AccountParams) : (accountReset s r p).desk = s.desk := by
  simp only [accountReset]; (repeat' split) <;> simp
@[simp] theorem accountDelete_desk (r : Reply) (p : AccountParams) : (accountDelete s r p).desk = s.desk := by
  simp only [accountDelete]; (repeat' split) <;> simp
@[simp] theorem handleAccountSet_desk (r : Reply) (act : AccountAction) (p : AccountParams) :
    (handleAccountSet s r act p).desk = s.desk := by
  simp only [handleAccountSet]; (repeat' split) <;> simp
@[simp] theorem handlePeriodClear_desk (r : Reply) (period : Nat) : (handlePeriodClear s r period).desk = s.desk := by
  simp only [handlePeriodClear]; (repeat' split) <;> simp
@[simp] theorem handleCatalogueReady_desk (r : Reply) : (handleCatalogueReady s r).desk = s.desk := by
  simp only [handleCatalogueReady]; (repeat' split) <;> simp

/-! ## The library -/

@[simp] theorem State.moveHome_desk (d : DriveNo) (id n : Nat) (sd : Side) (p : Piece) : (s.moveHome d id n sd p).desk = s.desk := by
  simp [State.moveHome]
@[simp] theorem State.mountFetch_desk (d : DriveNo) (ps : PlatterSide) : (s.mountFetch d ps).desk = s.desk := by
  simp only [State.mountFetch]; (repeat' split) <;> simp
@[simp] theorem State.grant_desk (q : Demand) (d : DriveNo) : (s.grant q d).desk = s.desk := by
  simp only [State.grant]; (repeat' split) <;> simp
@[simp] theorem State.arbiter_desk : s.arbiter.desk = s.desk := by
  simp only [State.arbiter]; (repeat' split) <;> simp
@[simp] theorem State.homeMove_desk (d : DriveNo) (new : Option Nat) : (s.homeMove d new).desk = s.desk := by
  simp only [State.homeMove]; (repeat' split) <;> simp
@[simp] theorem State.startReturn_desk (d : DriveNo) : (s.startReturn d).desk = s.desk := by
  simp only [State.startReturn]; (repeat' split) <;> simp
@[simp] theorem State.startMedia_desk (m : MediaReq) : (s.startMedia m).desk = s.desk := by
  simp only [State.startMedia]; (repeat' split) <;> simp
@[simp] theorem State.pickerNext_desk : s.pickerNext.desk = s.desk := by
  simp only [State.pickerNext]; (repeat' split) <;> simp
@[simp] theorem handleSubstitute_desk (r : Reply) (old new : Nat) : (handleSubstitute s r old new).desk = s.desk := by
  simp only [handleSubstitute]; split <;> simp

/-! ## Filing: slots, attempts and turns -/

@[simp] theorem State.headTurn_desk : s.headTurn.desk = s.desk := by
  simp only [State.headTurn]; (repeat' split) <;> simp
@[simp] theorem State.discardSlot_desk (q : FSlot) (n : InstrNum) : (s.discardSlot q n).desk = s.desk := by simp [State.discardSlot]
@[simp] theorem State.abandonSlot_desk (q : FSlot) : (s.abandonSlot q).desk = s.desk := by
  simp only [State.abandonSlot]; (repeat' split) <;> simp
@[simp] theorem State.startErase_desk (d : DriveNo) (q : FSlot) (f : Filing) (ps : PlatterSide) (fill : Nat) :
    (s.startErase d q f ps fill).desk = s.desk := by simp [State.startErase]
@[simp] theorem State.allocate_desk (d : DriveNo) (q : FSlot) (ps : PlatterSide) : (s.allocate d q ps).desk = s.desk := by
  simp only [State.allocate]; (repeat' split) <;> simp
@[simp] theorem State.fileGiven_desk (d : DriveNo) : (s.fileGiven d).desk = s.desk := by
  simp only [State.fileGiven]; (repeat' split) <;> simp
@[simp] theorem State.endCheck_desk (d : DriveNo) (u : FilUse) (blank : Bool) : (s.endCheck d u blank).desk = s.desk := by
  simp only [State.endCheck]; (repeat' split) <;> simp
@[simp] theorem State.headerWritten_desk (d : DriveNo) (u : FilUse) : (s.headerWritten d u).desk = s.desk := by
  simp only [State.headerWritten]; (repeat' split) <;> simp
@[simp] theorem State.eraseDone_desk (d : DriveNo) (q : FSlot) : (s.eraseDone d q).desk = s.desk := by
  simp only [State.eraseDone]; (repeat' split) <;> simp
@[simp] theorem State.writeDone_desk (d : DriveNo) (q : FSlot) : (s.writeDone d q).desk = s.desk := by
  simp only [State.writeDone]; (repeat' split) <;> simp
@[simp] theorem State.recordCommit_desk (d : DriveNo) (q : FSlot) (f : Filing) (c : Commit) (l : Location) :
    (s.recordCommit d q f c l).desk = s.desk := by
  simp [State.recordCommit]
@[simp] theorem State.verifyDone_desk (d : DriveNo) (q : FSlot) : (s.verifyDone d q).desk = s.desk := by
  simp only [State.verifyDone]; (repeat' split) <;> simp
@[simp] theorem handleOpenFiling_desk (r : Reply) (o : OptField) : (handleOpenFiling s r o).desk = s.desk := by
  simp only [handleOpenFiling]; (repeat' split) <;> simp
@[simp] theorem State.admitCommit_desk (r : Reply) (q : FSlot) (p : CommitParams) (res : Bool) (fs : List Nat) (ts : List InstrNum) :
    (s.admitCommit r q p res fs ts).desk = s.desk := by
  simp only [State.admitCommit]; split <;> simp
@[simp] theorem handleAbandon_desk (r : Reply) (n : Nat) : (handleAbandon s r n).desk = s.desk := by
  simp only [handleAbandon]; (repeat' split) <;> simp
@[simp] theorem handleWithdraw_desk (r : Reply) (n : InstrNum) : (handleWithdraw s r n).desk = s.desk := by
  simp only [handleWithdraw]; (repeat' split) <;> simp
@[simp] theorem handleCloseSide_desk (r : Reply) : (handleCloseSide s r).desk = s.desk := by
  simp only [handleCloseSide]; (repeat' split) <;> simp

/-! ## Retrieval: items, turns and deliveries -/

@[simp] theorem State.createOp_desk (r : Reply) (bundle : Bool) (pu : Purpose) (account : Nat) (cls : MountClass) (items : List Item) :
    (s.createOp r bundle pu account cls items).desk = s.desk := by
  have hraise := fun (l : List Item) (s : State) => State.foldl_desk (fun s _ => s.modCat (fun c => c.raiseCopy account))
    (fun s _ => by simp) l s
  simp [State.createOp, hraise]
@[simp] theorem handleFetch_desk (r : Reply) (p : FetchParams) : (handleFetch s r p).desk = s.desk := by
  simp only [handleFetch]; (repeat' split) <;> simp
@[simp] theorem handleBundle_desk (r : Reply) (p : BundleParams) : (handleBundle s r p).desk = s.desk := by
  simp only [handleBundle]; (repeat' split) <;> simp
@[simp] theorem State.endItem_desk (r : ItemRef) (st : Status) : (s.endItem r st).desk = s.desk := by
  simp only [State.endItem]; (repeat' split) <;> simp
@[simp] theorem State.itemDone_desk (r : ItemRef) : (s.itemDone r).desk = s.desk := by
  simp only [State.itemDone]; (repeat' split) <;> simp
@[simp] theorem State.abortOps_desk (l : Link) : (s.abortOps l).desk = s.desk := by
  simp only [State.abortOps, State.desk_mk, desks_links]
  refine State.foldl_desk _ (fun s o => ?_) _ _
  refine State.foldl_desk _ (fun s p => ?_) _ _
  (repeat' split) <;> simp
@[simp] theorem State.turn_desk (r : ItemRef) : (s.turn r).desk = s.desk := by
  simp only [State.turn]; (repeat' split) <;> simp
@[simp] theorem State.spaceTry_desk : s.spaceTry.desk = s.desk := by
  simp only [State.spaceTry]; (repeat' split) <;> simp
@[simp] theorem State.driveNext_desk (d : DriveNo) : (s.driveNext d).desk = s.desk := by
  simp only [State.driveNext]; (repeat' split) <;> simp
@[simp] theorem State.checkMap_desk (l : Link) (r : ItemRef) (g : Segment) (v : Resolved) (range : Nat × Nat) :
    (s.checkMap l r g v range).desk = s.desk := by
  simp only [State.checkMap]; (repeat' split) <;> simp
@[simp] theorem State.dataAccepted_desk (l : Link) : (s.dataAccepted l).desk = s.desk := by
  simp only [State.dataAccepted]; (repeat' split) <;> simp
@[simp] theorem State.deliveryTimeout_desk (l : Link) : (s.deliveryTimeout l).desk = s.desk := by
  simp only [State.deliveryTimeout]; (repeat' split) <;> simp

/-! ## Drives -/

@[simp] theorem State.readyReport_desk (d : DriveNo) : (s.readyReport d).desk = s.desk := by
  simp only [State.readyReport]; (repeat' split) <;> simp
@[simp] theorem State.setUnloadTime_desk (d : DriveNo) : (s.setUnloadTime d).desk = s.desk := by
  simp only [State.setUnloadTime]; (repeat' split) <;> simp
@[simp] theorem State.mountUnloaded_desk (d : DriveNo) (ps : PlatterSide) : (s.mountUnloaded d ps).desk = s.desk := by
  simp only [State.mountUnloaded]; (repeat' split) <;> simp
@[simp] theorem State.exportUnloaded_desk (d : DriveNo) (r : Reply) (id : Nat) : (s.exportUnloaded d r id).desk = s.desk := by
  simp only [State.exportUnloaded]; (repeat' split) <;> simp
@[simp] theorem State.unloadedReport_desk (d : DriveNo) : (s.unloadedReport d).desk = s.desk := by
  simp only [State.unloadedReport]; (repeat' split) <;> simp
@[simp] theorem State.doneReport_desk (d : DriveNo) : (s.doneReport d).desk = s.desk := by
  simp only [State.doneReport]; (repeat' split) <;> simp

/-! ## The picker -/

@[simp] theorem State.putInDrive_desk (d : DriveNo) (ps : PlatterSide) : (s.putInDrive d ps).desk = s.desk := by
  simp only [State.putInDrive]; (repeat' split) <;> simp
@[simp] theorem State.evicted_desk (d : DriveNo) (ps : PlatterSide) : (s.evicted d ps).desk = s.desk := by
  simp only [State.evicted]; (repeat' split) <;> simp
@[simp] theorem State.returned_desk (d : DriveNo) : (s.returned d).desk = s.desk := by
  simp only [State.returned]; (repeat' split) <;> simp
@[simp] theorem State.importMoved_desk (r : Option Reply) (id : Nat) : (s.importMoved r id).desk = s.desk := by
  simp only [State.importMoved]; (repeat' split) <;> simp
@[simp] theorem State.exportMoved_desk (r : Reply) (id : Nat) : (s.exportMoved r id).desk = s.desk := by simp [State.exportMoved]
@[simp] theorem State.moveDone_desk : s.moveDone.desk = s.desk := by
  simp only [State.moveDone]; (repeat' split) <;> simp
@[simp] theorem State.homeLabelled_desk (d : DriveNo) (rep : LabelReport) : (s.homeLabelled d rep).desk = s.desk := by
  simp only [State.homeLabelled]; (repeat' split) <;> simp
@[simp] theorem State.importLabelled_desk (r : Option Reply) (rep : LabelReport) : (s.importLabelled r rep).desk = s.desk := by
  simp only [State.importLabelled]; (repeat' split) <;> simp

/-! ## The sweep, jams and the mail slot -/

@[simp] theorem State.loseHome_desk (n : Nat) (other : Option Nat) : (s.loseHome n other).desk = s.desk := by
  simp only [State.loseHome]; (repeat' split) <;> simp
@[simp] theorem State.sweepForeign_desk (n : Nat) : (s.sweepForeign n).desk = s.desk := by simp [State.sweepForeign]
@[simp] theorem State.sweepFound_desk (n id : Nat) : (s.sweepFound n id).desk = s.desk := by
  simp only [State.sweepFound]; split <;> simp
@[simp] theorem State.sweepSlot_desk (n : Nat) (rep : LabelReport) : (s.sweepSlot n rep).desk = s.desk := by
  simp only [State.sweepSlot]; (repeat' split) <;> simp
@[simp] theorem State.exportComplete_desk (id : Nat) : (s.exportComplete id).desk = s.desk := (rfl)
@[simp] theorem State.sweepMail_desk (rep : LabelReport) : (s.sweepMail rep).desk = s.desk := by
  simp only [State.sweepMail]; (repeat' split) <;> simp
@[simp] theorem State.mailEmptied_desk : s.mailEmptied.desk = s.desk := by
  simp only [State.mailEmptied]; (repeat' split) <;> simp

end Sys2Proof.Machine
end

section
/-!
PROOFS. What the operations that post events, acknowledge them or reset a link do to the links' desks: the lanes stand as they did, and the attention sets
stay in order. Each is said of any desks `a` from which those the operation is given have come in this way, so that one operation follows another.
-/
namespace Sys2Proof.Machine
set_option Elab.async false

/-- A desk has become another with its lane as it was, and its attention set in order if it was so before. -/
def Desk.Orderly (d e : Desk) : Prop := e.lane = d.lane ∧ (attentionOk d.attention → attentionOk e.attention)

@[refl] theorem Desk.Orderly.refl (d : Desk) : d.Orderly d := ⟨rfl, id⟩

theorem Desk.Orderly.trans {d e f : Desk} (h : d.Orderly e) (h' : e.Orderly f) : d.Orderly f := by
  obtain ⟨hlane, hatt⟩ := h
  obtain ⟨hlane', hatt'⟩ := h'
  exact ⟨hlane'.trans hlane, fun hd => hatt' (hatt hd)⟩

/-- A posting keeps the attention set in order (R191). -/
theorem LinkRec.postTo_orderly (k : LinkRec) (e : Event) : k.desk.Orderly (State.postTo e k).desk := by
  unfold State.postTo
  split
  · rfl
  · exact ⟨rfl, attentionOk_attend e _⟩

/-- Kinds taken away leave the others in order (R192). -/
theorem LinkRec.filter_orderly (k : LinkRec) (p : Attention → Bool) :
    k.desk.Orderly (LinkRec.desk { k with attention := k.attention.filter p }) := ⟨rfl, attentionOk_filter p _⟩

/-- A reset empties the attention set (R195). -/
theorem LinkRec.resetLink_orderly (k : LinkRec) : k.desk.Orderly k.resetLink.desk := ⟨rfl, fun _ => attentionOk_nil⟩

/-- The desks of all links have become others in this way. -/
structure Orderly (a b : Link → Desk) : Prop where
  of : ∀ l, (a l).Orderly (b l)

@[simp] theorem Orderly.refl (a : Link → Desk) : Orderly a a := ⟨fun l => .refl (a l)⟩

variable {a : Link → Desk}

/-- One link's record changed in this way. -/
theorem Orderly.modLink {s : State} (h : Orderly a s.desk) (l : Link) (f : LinkRec → LinkRec)
    (hf : (s.links.get l).desk.Orderly (f (s.links.get l)).desk) : Orderly a (s.modLink l f).desk := by
  refine ⟨fun k => (h.of k).trans ?_⟩
  have hset : (s.modLink l f).desk = Function.update s.desk l (f (s.links.get l)).desk := desks_set s.links l _
  rw [hset]
  by_cases e : k = l
  · subst e
    rw [Function.update_self]
    exact hf
  · rw [Function.update_of_ne e]

/-- A chain of operations, each of which keeps the desks in order. -/
theorem State.foldl_orderly {α : Type} (f : State → α → State) (hf : ∀ s b, Orderly a s.desk → Orderly a (f s b).desk) (l : List α) (s : State)
    (h : Orderly a s.desk) : Orderly a (l.foldl f s).desk := by
  induction l generalizing s with
  | nil => exact h
  | cons b l ih => exact ih _ (hf s b h)

variable {s : State} (h : Orderly a s.desk)
include h

/-! ## Responses, events and records of single units -/

@[simp] theorem State.post_orderly (e : Event) : Orderly a (s.post e).desk := by
  unfold State.post
  split
  · refine ⟨fun l => (h.of l).trans ?_⟩
    cases l
    · exact s.links.a0.postTo_orderly e
    · exact s.links.a1.postTo_orderly e
    · exact s.links.a2.postTo_orderly e
  · exact h
  · exact h
@[simp] theorem State.postLow_orderly : Orderly a s.postLow.desk := by
  simp only [State.postLow]; (repeat' split) <;> simp [h]

/-! ## Events acknowledged -/

@[simp] theorem handleEventsAck_orderly (r : Reply) (set : Nat) : Orderly a (handleEventsAck s r set).desk := by
  unfold handleEventsAck
  split
  · simp [h]
  · rw [State.respond_desk]
    exact h.modLink _ _ (LinkRec.filter_orderly _ _)

/-! ## Presses refused -/

@[simp] theorem State.refusePress_orderly (q : LineNo) (why : RefuseReason) : Orderly a (s.refusePress q why).desk := by
  simp [State.refusePress, h]

/-! ## Filing -/

@[simp] theorem State.sideSearch_orderly : Orderly a s.sideSearch.desk := by
  simp only [State.sideSearch]; (repeat' split) <;> simp [h]
@[simp] theorem State.mediaRetry_orderly : Orderly a s.mediaRetry.desk := by
  simp only [State.mediaRetry]; (repeat' split) <;> simp [h]

/-! ## Retrieval -/

@[simp] theorem State.stagingFault_orderly (l : Link) (g : Segment) : Orderly a (s.stagingFault l g).desk := by
  simp only [State.stagingFault]; (repeat' split) <;> simp [h]

/-! ## Drives, picker, door and mail slot -/

@[simp] theorem State.fillParity_orderly (d : DriveNo) (n : InstrNum) : Orderly a (s.fillParity d n).desk := by simp [State.fillParity, h]
@[simp] theorem State.doorOpens_orderly : Orderly a s.doorOpens.desk := by
  simp only [State.doorOpens]; (repeat' split) <;> simp [h]
@[simp] theorem State.doorCloses_orderly : Orderly a s.doorCloses.desk := by
  simp only [State.doorCloses]; (repeat' split) <;> simp [h]

/-! ## Stamps, accounts and the period close -/

@[simp] theorem State.closePeriod_orderly : Orderly a s.closePeriod.desk := by
  simp [State.closePeriod, h]
@[simp] theorem State.testClose_orderly : Orderly a s.testClose.desk := by
  unfold State.testClose; split <;> simp [h]
@[simp] theorem State.tick_orderly : Orderly a s.tick.desk := by
  unfold State.tick; split <;> simp [h]
@[simp] theorem State.issue_orderly (n : InstrNum) (t : Stamp) (src : Source) : Orderly a (s.issue n t src).desk := by
  simp [State.issue, h]

/-! ## Requests of the clock, the fees, the catalogue -/

@[simp] theorem handleLodge_orderly (r : Reply) : Orderly a (handleLodge s r).desk := by
  simp only [handleLodge]; split <;> simp [h]
@[simp] theorem handleRestore_orderly (r : Reply) (p : RestoreParams) : Orderly a (handleRestore s r p).desk := by
  simp only [handleRestore]; split <;> simp [h]
@[simp] theorem handleClockLoad_orderly (r : Reply) (v : Stamp) : Orderly a (handleClockLoad s r v).desk := by
  simp only [handleClockLoad]; (repeat' split) <;> simp [h]
@[simp] theorem handleClockStep_orderly (r : Reply) (n : Int) : Orderly a (handleClockStep s r n).desk := by
  simp only [handleClockStep]; (repeat' split) <;> simp [h]

/-! ## Attempts to file -/

@[simp] theorem State.writeFailed_orderly (d : DriveNo) (q : FSlot) (f : Filing) (c : Commit) : Orderly a (s.writeFailed d q f c).desk := by
  simp [State.writeFailed, h]
@[simp] theorem State.afterFailure_orderly (d : DriveNo) (q : FSlot) (ps : PlatterSide) : Orderly a (s.afterFailure d q ps).desk := by
  simp only [State.afterFailure]; (repeat' split) <;> simp [h]
@[simp] theorem State.failAttempt_orderly (d : DriveNo) (u : FilUse) : Orderly a (s.failAttempt d u).desk := by
  simp only [State.failAttempt]; (repeat' split) <;> simp [h]
@[simp] theorem State.headerFailed_orderly (d : DriveNo) (u : FilUse) : Orderly a (s.headerFailed d u).desk := by
  simp only [State.headerFailed]; (repeat' split) <;> simp [h]
@[simp] theorem State.filFault_orderly (d : DriveNo) (u : FilUse) : Orderly a (s.filFault d u).desk := by
  simp only [State.filFault]; (repeat' split) <;> simp [h]
@[simp] theorem State.serveMapRead_orderly (parity : Bool) : Orderly a (s.serveMapRead parity).desk := by
  simp only [State.serveMapRead]; (repeat' split) <;> simp [h]
@[simp] theorem State.idleExpiry_orderly (q : FSlot) : Orderly a (s.idleExpiry q).desk := by
  simp only [State.idleExpiry]; (repeat' split) <;> simp [h]

/-! ## Outbound channels -/

@[simp] theorem State.serveOut_orderly (l : Link) (parity : Bool) : Orderly a (s.serveOut l parity).desk := by
  simp only [State.serveOut]; (repeat' split) <;> simp [h]

/-! ## Work handed over -/

@[simp] theorem State.runTask_orderly (t : Task) : Orderly a (s.runTask t).desk := by
  simp only [State.runTask]; (repeat' split) <;> simp [h]
omit h in
theorem State.settleFor_orderly (n : Nat) (s : State) (h : Orderly a s.desk) : Orderly a (State.settleFor n s).desk := by
  induction n generalizing s with
  | zero => exact h
  | succ n ih =>
    unfold State.settleFor
    split
    · exact h
    · exact ih _ (State.runTask_orderly (s := { s with agenda := [] }) h _)
@[simp] theorem State.settle_orderly : Orderly a s.settle.desk := State.settleFor_orderly _ s h

/-! ## Drives -/

@[simp] theorem State.faultUse_orderly (d : DriveNo) (u : Use) : Orderly a (s.faultUse d u).desk := by
  simp only [State.faultUse]; (repeat' split) <;> simp [h]
@[simp] theorem State.faultDrive_orderly (d : DriveNo) (timeout : Bool) : Orderly a (s.faultDrive d timeout).desk := by
  have huses := fun (l : List Use) (s : State) => State.foldl_orderly (a := a) (fun s u => s.faultUse d u) (fun s u h => by simp [h]) l s
  have hdems := fun (l : List Demand) => State.foldl_desk (fun t q => t.faultDemand (s.drive d) q) (fun t q => by simp) l
  simp only [State.faultDrive]; split <;> simp [huses, hdems, h]
@[simp] theorem State.faultReport_orderly (d : DriveNo) : Orderly a (s.faultReport d).desk := by
  simp only [State.faultReport]; (repeat' split) <;> simp [h]
@[simp] theorem State.driveTimeout_orderly (d : DriveNo) : Orderly a (s.driveTimeout d).desk := by
  simp only [State.driveTimeout]; (repeat' split) <;> simp [h]
@[simp] theorem State.compare_orderly (d : DriveNo) (u : FilUse) (q : FSlot) : Orderly a (s.compare d u q).desk := by
  simp only [State.compare]; (repeat' split) <;> simp [h]
@[simp] theorem State.blockReport_orderly (d : DriveNo) (b : BlockReport) : Orderly a (s.blockReport d b).desk := by
  simp only [State.blockReport]; (repeat' split) <;> simp [h]
@[simp] theorem State.mediumError_orderly (d : DriveNo) : Orderly a (s.mediumError d).desk := by
  simp only [State.mediumError]; (repeat' split) <;> simp [h]
@[simp] theorem State.unreadable_orderly (d : DriveNo) : Orderly a (s.unreadable d).desk := by
  simp only [State.unreadable]; (repeat' split) <;> simp [h]
@[simp] theorem State.readRing_orderly (d : DriveNo) (u : FilUse) (q : FSlot) (parity : Bool) : Orderly a (s.readRing d u q parity).desk := by
  simp only [State.readRing]; (repeat' split) <;> simp [h]
@[simp] theorem State.serveDrive_orderly (d : DriveNo) (parity : Bool) : Orderly a (s.serveDrive d parity).desk := by
  simp only [State.serveDrive]; (repeat' split) <;> simp [h]
@[simp] theorem State.portMove_orderly (parity : Bool) : Orderly a (s.portMove parity).desk := by
  simp only [State.portMove]; (repeat' split) <;> simp [h]

/-! ## The sweep, jams and the mail slot -/

@[simp] theorem State.sweepEnd_orderly : Orderly a s.sweepEnd.desk := by
  have hgone := fun (l : List Nat) (s : State) => State.foldl_desk (fun s id => (s.setLoc id .unknown).later [.unreachable id .offline])
    (fun s id => by simp) l s
  have hback := fun (l : List DriveNo) (s : State) => State.foldl_desk (fun s d => s.queueReturn d) (fun s d => by simp) l s
  simp [State.sweepEnd, hgone, hback, h]
@[simp] theorem State.sweepReport_orderly (rep : LabelReport) : Orderly a (s.sweepReport rep).desk := by
  simp only [State.sweepReport]; (repeat' split) <;> simp [h]
@[simp] theorem State.labelReport_orderly (rep : LabelReport) : Orderly a (s.labelReport rep).desk := by
  simp only [State.labelReport]; (repeat' split) <;> simp [h]
@[simp] theorem State.jam_orderly : Orderly a s.jam.desk := by
  simp only [State.jam]; (repeat' split) <;> simp [h]
@[simp] theorem State.pickerTimeout_orderly : Orderly a s.pickerTimeout.desk := by
  simp only [State.pickerTimeout]; (repeat' split) <;> simp [h]

/-! ## Link reset -/

@[simp] theorem State.resetEdge_orderly (l : Link) : Orderly a (s.resetEdge l).desk := by
  simpa [State.resetEdge] using h.modLink l LinkRec.resetLink (LinkRec.resetLink_orderly _)
@[simp] theorem State.linkReset_orderly (l : Link) : Orderly a (s.linkReset l).desk := by
  simp only [State.linkReset]; (repeat' split) <;> simp [h]

/-! ## Requests, presses and the close target -/

theorem State.handle_orderly (r : Reply) (q : Request) : Orderly a (s.handle r q).desk := by
  cases q <;> simp [State.handle, h]

@[simp] theorem State.route_orderly (r : Reply) (q : Request) : Orderly a (s.route r q).desk := by
  unfold State.route
  split
  · simp [h]
  · split
    · simp [h]
    · exact State.handle_orderly h r q

@[simp] theorem State.takeRequest_orderly (l : Link) (tag : Nat) (q : Request) : Orderly a (s.takeRequest l tag q).desk := by
  simp only [State.takeRequest]; (repeat' split) <;> simp [h]

@[simp] theorem State.takeInput_orderly (l : Link) (x : LaneInput) : Orderly a (s.takeInput l x).desk := by
  cases x <;> simp [State.takeInput, h]

@[simp] theorem State.pressInput_orderly (q : LineNo) : Orderly a (s.pressInput q).desk := by
  simp only [State.pressInput, State.takePress]; (repeat' split) <;> simp [h]

@[simp] theorem State.closeReached_orderly : Orderly a s.closeReached.desk := by
  unfold State.closeReached; (repeat' split) <;> simp [h]

@[simp] theorem State.whenPowered_orderly {t : State} (ht : Orderly a t.desk) : Orderly a (s.whenPowered t).desk := by
  unfold State.whenPowered; split
  · exact ht
  · exact h

end Sys2Proof.Machine
end

section
/-!
PROOFS. What each command does, in one of a few ways; and the parts of the state the units' work on the buffer port leaves alone.
-/
namespace Sys2Proof.Machine
set_option Elab.async false

/-! ## The front of the machine -/

/-- The queue of commands, the clock, the lodgement lines and settings memory. -/
structure Front where
  pending : List Instr
  clock : Clock
  lines : Four Line
  settings : Settings

/-- The front of a state. -/
def State.front (s : State) : Front := ⟨s.pending, s.clock, s.lines, s.settings⟩

theorem State.front_iff {s t : State} :
    s.front = t.front ↔ s.pending = t.pending ∧ s.clock = t.clock ∧ s.lines = t.lines ∧ s.settings = t.settings := by
  simp [State.front]

/-- A change that leaves the calm parts alone leaves the front alone. -/
theorem State.front_of_calm {s t : State} (h : s.calm = t.calm) : s.front = t.front := by
  obtain ⟨hpending, -, -, -, -, hclock, hlines, hsettings, -⟩ := State.calm_iff.mp h
  exact State.front_iff.mpr ⟨hpending, hclock, hlines, hsettings⟩

/-- So does one that, besides, writes to buffer memory. -/
theorem State.front_of_stored {s t : State} (m : List Host.Cell) (h : t.calm = ({ s with mem := m } : State).calm) : t.front = s.front :=
  State.front_of_calm (t := { s with mem := m }) h

theorem State.settle_front (s : State) : s.settle.front = s.front := State.front_of_calm s.settle_calm

/-! ## The buffer port -/

theorem State.stageBlock_front (s : State) (d : DriveNo) (n : InstrNum) : (s.stageBlock d n).front = s.front := by
  unfold State.stageBlock
  dsimp only
  split
  · rename_i b rest g hheld hseg
    refine State.front_of_stored (Memory.writeBlock s.mem (s.driveChans.get d).chan.next b) ?_
    (repeat' split) <;> simp
  · rfl

theorem State.serveIn_front (s : State) (l : Link) : (s.serveIn l).front = s.front := by
  unfold State.serveIn
  dsimp only
  split <;> rfl

theorem State.serveDrive_front (s : State) (d : DriveNo) (parity : Bool) : (s.serveDrive d parity).front = s.front := by
  unfold State.serveDrive
  split
  · split
    · exact State.front_of_calm (by simp)
    · exact s.stageBlock_front _ _
  · split
    · exact State.front_of_calm (by simp)
    · rfl
  · rfl

theorem State.portMove_front (s : State) (parity : Bool) : (s.portMove parity).front = s.front := by
  unfold State.portMove
  split
  · exact s.serveDrive_front _ _
  · split
    · exact s.serveIn_front _
    · split <;> exact State.front_of_calm (by simp)

/-! ## What a command does -/

/-- The ways in which a command changes the state before its work is settled. Of a `steady` change only this matters here: it leaves the calm parts
and the lanes alone, and the attention sets in order. -/
inductive Did (i : Instr) (s : State) : State → Prop
  | steady {t : State} (calm : t.calm = s.calm) (desk : Orderly s.desk t.desk) : Did i s t
  | arrived (l : Link) (x : LaneInput) (fits : i.wellFormed = true → x.fits = true) : Did i s (s.arrive l x)
  | sent (l : Link) : Did i s ((s.responseSend l).drain l)
  | moved (parity : Bool) : Did i s (((s.portMove parity).settle).drainAll)
  | released (l : Link) : Did i s (s.linkRelease l)
  | ticked : Did i s s.tick
  | pressed (q : LineNo) : Did i s (s.pressInput q)
  | unpressed (q : LineNo) : Did i s (s.pressRelease q)
  | accepted (q : LineNo) : Did i s (s.printerAccept q)
  | unaccepted (q : LineNo) : Did i s (s.printerRelease q)
  | written (ok : Bool) : Did i s (s.endWrite ok)
  | poweredOn (p : PowerOn) : Did i s (s.powerOn p)
  | poweredOff (c : PowerCut) : Did i s (s.powerFail c)
  | linksStarted : Did i s s.linksStart

theorem Did.refl (i : Instr) (s : State) : Did i s s := .steady rfl (.refl _)

/-- A change a powered controller alone makes. -/
theorem Did.whenPowered {i : Instr} {s t : State} (calm : t.calm = s.calm) (desk : Orderly s.desk t.desk) : Did i s (s.whenPowered t) := by
  unfold State.whenPowered
  split
  · exact .steady calm desk
  · exact .refl i s

/-- The close target reached is a close, a millisecond, or nothing. -/
theorem State.closeReached_did (i : Instr) (s : State) : Did i s s.closeReached := by
  unfold State.closeReached
  split
  · exact .steady (by simp) (by simp)
  · split
    · exact .ticked
    · exact .refl i s

/-- The request a command within its fields carries is within its fields. -/
theorem requestOf_fits {i : Instr} {l : Link} {t : Nat} {q : Request} (h : requestOf i = some (l, t, q)) (hw : i.wellFormed = true) :
    (LaneInput.request t q).fits = true := by
  cases i <;> simp only [requestOf, Option.some.injEq, Prod.mk.injEq, reduceCtorEq] at h
  case clockLoad =>
    obtain ⟨-, -, rfl⟩ := h
    simp only [Instr.wellFormed, Bool.and_eq_true] at hw
    exact hw.2
  all_goals
    obtain ⟨-, -, rfl⟩ := h
    rfl

/-- Every command changes the state in one of the ways, and then its work is settled. -/
theorem exec_did {i : Instr} {s t : State} (h : exec i s = .next t) : ∃ u, Did i s u ∧ t = u.settle := by
  cases hq : requestOf i with
  | some v =>
    obtain ⟨l, g, q⟩ := v
    rw [exec_request i l g q hq s] at h
    exact ⟨_, .arrived l _ (requestOf_fits hq), (Host.Outcome.next.inj h).symm⟩
  | none =>
    suffices hd : ∃ u, Did i s u ∧ exec i s = .next u.settle by
      obtain ⟨u, hu, e⟩ := hd
      exact ⟨u, hu, (Host.Outcome.next.inj (e.symm.trans h)).symm⟩
    cases i <;> simp only [requestOf, reduceCtorEq] at hq
    case powerOn p => exact ⟨_, .poweredOn p, rfl⟩
    case powerFail c => exact ⟨_, .poweredOff c, rfl⟩
    case linksStart => exact ⟨_, .linksStarted, rfl⟩
    case clockAdvance => exact ⟨_, .ticked, rfl⟩
    case trimAccumulatorOverflow =>
      refine ⟨_, ?_, rfl⟩
      split
      · exact .ticked
      · exact .refl _ s
    case temporaryTrimExpiry =>
      refine ⟨_, ?_, rfl⟩
      split
      · exact .ticked
      · exact .refl _ s
    case closeTargetReached => exact ⟨_, s.closeReached_did _, rfl⟩
    case press q => exact ⟨_, .pressed q, rfl⟩
    case pressInputInactive q => exact ⟨_, .unpressed q, rfl⟩
    case printerAccept q => exact ⟨_, .accepted q, rfl⟩
    case printerAcceptNegated q => exact ⟨_, .unaccepted q, rfl⟩
    case settingsWriteEnd ok => exact ⟨_, .written ok, rfl⟩
    case strayByte l => exact ⟨_, .arrived l .stray (fun _ => rfl), rfl⟩
    case badFrame l f => exact ⟨_, .arrived l (.bad f) (fun _ => rfl), rfl⟩
    case responseSend l => exact ⟨_, .sent l, rfl⟩
    case bufferPortMove parity => exact ⟨_, .moved parity, rfl⟩
    case linkResetRelease l => exact ⟨_, .released l, rfl⟩
    case responseAccepted | dataAccepted | deliveryTimeout | linkReset => exact ⟨_, .steady (by simp) (by simp), rfl⟩
    all_goals exact ⟨_, .whenPowered (by simp) (by simp), rfl⟩

/-! ## Lanes -/

/-- What each input taken off a lane keeps, taking all that is acknowledged keeps. -/
theorem State.drainFor_keeps {P : State → Prop}
    (h : ∀ s l x rest, P s → (s.links.get l).lane = x :: rest → P ((s.modLink l (fun k => { k with lane := rest })).takeInput l x))
    (n : Nat) (s : State) (l : Link) (hs : P s) : P (State.drainFor n s l) := by
  induction n generalizing s with
  | zero => exact hs
  | succ n ih =>
    unfold State.drainFor
    split
    · exact hs
    · rename_i x rest hx
      split
      · exact ih _ (h s l x rest hs hx)
      · exact hs

theorem State.drain_keeps {P : State → Prop}
    (h : ∀ s l x rest, P s → (s.links.get l).lane = x :: rest → P ((s.modLink l (fun k => { k with lane := rest })).takeInput l x))
    (s : State) (l : Link) (hs : P s) : P (s.drain l) := State.drainFor_keeps h _ s l hs

theorem State.drainAll_keeps {P : State → Prop}
    (h : ∀ s l x rest, P s → (s.links.get l).lane = x :: rest → P ((s.modLink l (fun k => { k with lane := rest })).takeInput l x))
    (s : State) (hs : P s) : P s.drainAll :=
  State.drain_keeps h _ _ (State.drain_keeps h _ _ (State.drain_keeps h _ _ hs))

end Sys2Proof.Machine
end

section
/-!
PROOFS. The stamp queues and the attention sets stay in order (R44, R47, R191): no command but those of the lodgement lines and of the supply touches
a line, and a posting is put in its place.
-/
namespace Sys2Proof.Machine
set_option Elab.async false

/-! ## Lodgement lines -/

theorem State.lines_of_calm {s t : State} (h : s.calm = t.calm) : s.lines = t.lines := by
  obtain ⟨-, -, -, -, -, -, hlines, -⟩ := State.calm_iff.mp h
  exact hlines

theorem State.lines_of_front {s t : State} (h : s.front = t.front) : s.lines = t.lines := by
  obtain ⟨-, -, hlines, -⟩ := State.front_iff.mp h
  exact hlines

theorem State.beginWrite_lines (s : State) : s.beginWrite.lines = s.lines := by
  unfold State.beginWrite
  split <;> rfl

theorem State.askWrite_lines (s : State) (c : SettingsChange) (r : Reply) : (s.askWrite c r).lines = s.lines := State.beginWrite_lines _

theorem State.respond_lines (s : State) (r : Reply) (st : Status) (b : Body) : (s.respond r st b).lines = s.lines :=
  State.lines_of_calm (by simp)

theorem State.answer_lines (s : State) (r : Reply) (st : Status) : (s.answer r st).lines = s.lines := State.lines_of_calm (by simp)

theorem State.post_lines (s : State) (e : Event) : (s.post e).lines = s.lines := State.lines_of_calm (by simp)

theorem State.testClose_lines (s : State) : s.testClose.lines = s.lines := State.lines_of_calm (by simp)

theorem State.settle_lines (s : State) : s.settle.lines = s.lines := State.lines_of_calm (by simp)

theorem State.endWrite_lines (s : State) (ok : Bool) : (s.endWrite ok).lines = s.lines := by
  unfold State.endWrite
  split
  · rfl
  · rw [State.beginWrite_lines]
    split
    · exact State.respond_lines _ _ _ _
    · exact State.answer_lines _ _ _

theorem State.tick_lines (s : State) : s.tick.lines = s.lines := by
  unfold State.tick
  split
  · exact State.testClose_lines _
  · rfl

/-- No request touches a line: the enables of SETTINGS_SET are in force from the next power-on (R160). -/
theorem State.handle_lines (s : State) (r : Reply) (q : Request) : (s.handle r q).lines = s.lines := by
  cases q <;> simp only [State.handle]
  case settingsSet =>
    simp only [handleSettingsSet]
    (repeat' split) <;> simp [State.answer_lines, State.askWrite_lines]
  case clockTrim f =>
    cases f <;> simp only [handleClockTrim] <;> (repeat' split) <;> simp [State.answer_lines, State.askWrite_lines]
  case clockLoad =>
    simp only [handleClockLoad]
    split <;> simp [State.answer_lines, State.respond_lines, State.testClose_lines, State.post_lines]
  case clockStep =>
    simp only [handleClockStep]
    (repeat' split) <;> simp [State.answer_lines, State.respond_lines, State.testClose_lines, State.post_lines]
  case catalogueReady =>
    simp only [handleCatalogueReady]
    split <;> simp [State.answer_lines, State.respond_lines]
  case rightsSet =>
    simp only [handleRightsSet]
    (repeat' split) <;> simp [State.answer_lines, State.askWrite_lines]
  all_goals exact State.lines_of_calm (by simp)

theorem State.route_lines (s : State) (r : Reply) (q : Request) : (s.route r q).lines = s.lines := by
  unfold State.route
  split
  · exact s.answer_lines _ _
  · split
    · exact s.answer_lines _ _
    · exact s.handle_lines r q

theorem State.takeInput_lines (s : State) (l : Link) (x : LaneInput) : (s.takeInput l x).lines = s.lines := by
  cases x <;> simp only [State.takeInput]
  case stray => rfl
  case bad f => exact State.lines_of_calm (by simp)
  case request t q =>
    rw [State.settle_lines]
    unfold State.takeRequest
    split
    · exact State.lines_of_calm (by simp)
    · split
      · rfl
      · exact State.route_lines _ _ _

theorem State.arrive_lines (s : State) (l : Link) (x : LaneInput) : (s.arrive l x).lines = s.lines := by
  unfold State.arrive
  split
  · rfl
  · split
    · exact s.takeInput_lines l x
    · rfl

/-- Taking an input off a lane touches no line. -/
theorem State.takeInput_keeps_lines (lines : Four Line) (s : State) (l : Link) (x : LaneInput) (rest : List LaneInput)
    (hs : s.lines = lines) (_ : (s.links.get l).lane = x :: rest) :
    ((s.modLink l (fun k => { k with lane := rest })).takeInput l x).lines = lines := by
  rw [State.takeInput_lines]
  exact hs

theorem State.drain_lines (s : State) (l : Link) : (s.drain l).lines = s.lines :=
  State.drain_keeps (State.takeInput_keeps_lines s.lines) s l rfl

theorem State.drainAll_lines (s : State) : s.drainAll.lines = s.lines :=
  State.drainAll_keeps (State.takeInput_keeps_lines s.lines) s rfl

theorem State.linksStart_lines (s : State) : s.linksStart.lines = s.lines := by
  unfold State.linksStart
  split
  · have hpost : ∀ t : State, (s.startEvents.foldl (fun s e => s.post e) t).lines = t.lines := fun t =>
      State.lines_of_calm (State.foldl_calm _ (fun s e => by simp) _ t)
    rw [State.drainAll_lines, State.settle_lines]
    split <;> exact hpost _
  · rfl

/-- What `LinesOk` says of one line. -/
def Line.Ok (l : Line) : Prop := l.queue.length ≤ 4 ∧ (l.offered = true → l.queue ≠ [] ∧ l.accept = false)

theorem State.linesOk_iff (s : State) : s.LinesOk ↔ ∀ q, (s.lines.get q).Ok := Iff.rfl

theorem Line.start_ok (enabled pressed accept : Bool) : (Line.start enabled pressed accept).Ok := by
  simp [Line.Ok, Line.start]

/-- An offer is made of a head record alone, with accept negated (R47). -/
theorem Line.offer_ok {l : Line} (h : l.Ok) : l.offer.Ok := by
  unfold Line.offer
  split
  · rename_i hc
    simp only [Bool.and_eq_true, Bool.not_eq_true', List.isEmpty_eq_false_iff] at hc
    exact ⟨h.1, fun _ => ⟨hc.1.2, hc.2⟩⟩
  · exact h

/-- One line changed into one that is in order. -/
theorem State.LinesOk.modLine {s : State} (h : s.LinesOk) (q : LineNo) (f : Line → Line) (hf : (s.lines.get q).Ok → (f (s.lines.get q)).Ok) :
    (s.modLine q f).LinesOk := by
  rw [State.linesOk_iff] at h ⊢
  intro k
  by_cases e : k = q
  · subst e
    simpa using hf (h k)
  · simpa [Four.get_set_ne _ _ _ _ e] using h k

theorem State.LinesOk.of_eq {s t : State} (h : s.LinesOk) (e : t.lines = s.lines) : t.LinesOk := by
  rw [State.linesOk_iff] at h ⊢
  rwa [e]

/-- A press adds a record where the queue holds fewer than four (R45). -/
theorem State.LinesOk.takePress {s : State} (h : s.LinesOk) (q : LineNo) : (s.takePress q).LinesOk := by
  by_cases hfull : 4 ≤ (s.lines.get q).queue.length
  · rw [State.takePress_full s q hfull]
    exact (h.modLine q _ id).of_eq (State.post_lines _ _)
  · have hroom : (s.lines.get q).queue.length < 4 := Nat.lt_of_not_le hfull
    cases hi : s.issueTest with
    | error st =>
      rw [State.takePress_error s q st hroom hi]
      exact (h.modLine q _ id).of_eq (State.post_lines _ _)
    | ok v =>
      rw [State.takePress_ok s q v hroom hi]
      have hissue : (s.issue v.1 v.2 (.line q)).lines = s.lines := State.lines_of_calm (by simp)
      refine (h.of_eq hissue).modLine q _ (fun hl => Line.offer_ok ?_)
      rw [hissue] at hl ⊢
      exact ⟨by simp; omega, fun ho => ⟨by simp, (hl.2 ho).2⟩⟩

theorem State.LinesOk.pressInput {s : State} (h : s.LinesOk) (q : LineNo) : (s.pressInput q).LinesOk := by
  have hlevel : (s.modLine q (fun l => { l with pressed := true })).LinesOk := h.modLine q _ id
  unfold State.pressInput
  split
  · exact hlevel.takePress q
  · exact hlevel

/-- While a record is OFFERED accept was negated, so that accept asserted takes it (R47). -/
theorem State.LinesOk.printerAccept {s : State} (h : s.LinesOk) (q : LineNo) : (s.printerAccept q).LinesOk := by
  refine h.modLine q _ (fun hl => ?_)
  obtain ⟨hlen, hoffer⟩ := hl
  split
  · exact ⟨by simp; omega, by simp⟩
  · rename_i hc
    refine ⟨hlen, fun ho => ?_⟩
    obtain ⟨-, haccept⟩ := hoffer ho
    have ho : (s.lines.get q).offered = true := ho
    simp [ho, haccept] at hc

theorem State.LinesOk.printerRelease {s : State} (h : s.LinesOk) (q : LineNo) : (s.printerRelease q).LinesOk :=
  h.modLine q _ (fun hl => Line.offer_ok ⟨hl.1, fun ho => ⟨(hl.2 ho).1, rfl⟩⟩)

/-- A controller that has just failed or come up has empty stamp queues. -/
theorem State.startMemory_linesOk (s : State) (p : PowerOn) : (s.startMemory p).LinesOk := by
  intro q
  cases q <;> exact Line.start_ok _ _ _

theorem State.startMechanics_lines (s : State) (p : PowerOn) : (s.startMechanics p).lines = s.lines := by
  unfold State.startMechanics
  dsimp only
  (repeat' split) <;> simp [State.post_lines]

theorem State.LinesOk.powerOn {s : State} (h : s.LinesOk) (p : PowerOn) : (s.powerOn p).LinesOk := by
  unfold State.powerOn
  split
  · exact ((s.startMemory_linesOk p).of_eq (State.testClose_lines _)).of_eq (State.startMechanics_lines _ _)
  · exact h

theorem State.LinesOk.powerFail {s : State} (h : s.LinesOk) (c : PowerCut) : (s.powerFail c).LinesOk := by
  unfold State.powerFail
  split
  · exact h
  · intro q
    cases q <;> exact Line.start_ok _ _ _

/-- Whatever a command does keeps the stamp queues in order. -/
theorem Did.linesOk {i : Instr} {s t : State} (d : Did i s t) (h : s.LinesOk) : t.LinesOk := by
  cases d with
  | steady calm _ => exact h.of_eq (State.lines_of_calm calm)
  | arrived l x _ => exact h.of_eq (s.arrive_lines l x)
  | sent l => exact h.of_eq ((State.drain_lines _ l).trans (State.lines_of_calm (by simp)))
  | moved parity => exact h.of_eq ((State.drainAll_lines _).trans ((State.settle_lines _).trans (State.lines_of_front (s.portMove_front parity))))
  | released l => exact h.of_eq (State.drain_lines _ l)
  | ticked => exact h.of_eq s.tick_lines
  | pressed q => exact h.pressInput q
  | unpressed q => exact h.modLine q _ id
  | accepted q => exact h.printerAccept q
  | unaccepted q => exact h.printerRelease q
  | written ok => exact h.of_eq (s.endWrite_lines ok)
  | poweredOn p => exact h.powerOn p
  | poweredOff c => exact h.powerFail c
  | linksStarted => exact h.of_eq s.linksStart_lines

/-! ## Attention sets -/

/-- Desks that have become others in order keep their attention sets in order. -/
theorem State.AttentionOk.of_orderly {s t : State} (h : s.AttentionOk) (ho : Orderly s.desk t.desk) : t.AttentionOk :=
  fun l => (ho.of l).2 (h l)

theorem State.AttentionOk.of_desk {s t : State} (h : s.AttentionOk) (e : t.desk = s.desk) : t.AttentionOk :=
  h.of_orderly (e ▸ Orderly.refl _)

/-- A lane changed changes no attention set. -/
theorem State.AttentionOk.modLane {s : State} (h : s.AttentionOk) (l : Link) (lane : List LaneInput) :
    (s.modLink l (fun k => { k with lane := lane })).AttentionOk := by
  intro k
  by_cases e : k = l
  · subst e
    simpa using h k
  · simpa [Three.get_set_ne _ _ _ _ e] using h k

theorem State.AttentionOk.takeInput {s : State} (h : s.AttentionOk) (l : Link) (x : LaneInput) : (s.takeInput l x).AttentionOk :=
  h.of_orderly (by simp)

/-- Taking an input off a lane keeps the attention sets in order. -/
theorem State.takeInput_keeps_attention (s : State) (l : Link) (x : LaneInput) (rest : List LaneInput) (hs : s.AttentionOk)
    (_ : (s.links.get l).lane = x :: rest) : ((s.modLink l (fun k => { k with lane := rest })).takeInput l x).AttentionOk :=
  (hs.modLane l rest).takeInput l x

theorem State.AttentionOk.drain {s : State} (h : s.AttentionOk) (l : Link) : (s.drain l).AttentionOk :=
  State.drain_keeps State.takeInput_keeps_attention s l h

theorem State.AttentionOk.drainAll {s : State} (h : s.AttentionOk) : s.drainAll.AttentionOk :=
  State.drainAll_keeps State.takeInput_keeps_attention s h

theorem State.AttentionOk.arrive {s : State} (h : s.AttentionOk) (l : Link) (x : LaneInput) : (s.arrive l x).AttentionOk := by
  unfold State.arrive
  split
  · exact h
  · split
    · exact h.takeInput l x
    · intro k
      by_cases e : k = l
      · subst e
        simpa using h k
      · simpa [Three.get_set_ne _ _ _ _ e] using h k

/-- The links' records as a power-on or a power failure leaves them have nothing on them. -/
theorem attentionOk_start (a b c : Bool) (l : Link) :
    attentionOk ((⟨LinkRec.start a, LinkRec.start b, LinkRec.start c⟩ : Three LinkRec).get l).attention := by
  cases l <;> exact attentionOk_nil

theorem State.startMechanics_orderly {a : Link → Desk} {s : State} (h : Orderly a s.desk) (p : PowerOn) : Orderly a (s.startMechanics p).desk := by
  unfold State.startMechanics
  dsimp only
  (repeat' split) <;> simp [h]

theorem State.AttentionOk.powerOn {s : State} (h : s.AttentionOk) (p : PowerOn) : (s.powerOn p).AttentionOk := by
  unfold State.powerOn
  split
  · have hmem : (s.startMemory p).AttentionOk := attentionOk_start _ _ _
    exact hmem.of_orderly (State.startMechanics_orderly (by simp) p)
  · exact h

theorem State.AttentionOk.powerFail {s : State} (h : s.AttentionOk) (c : PowerCut) : (s.powerFail c).AttentionOk := by
  unfold State.powerFail
  split
  · exact h
  · exact attentionOk_start _ _ _

theorem State.AttentionOk.linksStart {s : State} (h : s.AttentionOk) : s.linksStart.AttentionOk := by
  unfold State.linksStart
  split
  · have hpost : ∀ t : State, Orderly s.desk t.desk → Orderly s.desk (s.startEvents.foldl (fun s e => s.post e) t).desk := fun t =>
      State.foldl_orderly _ (fun s e ho => by simp [ho]) _ t
    refine State.AttentionOk.drainAll (h.of_orderly (State.settle_orderly ?_))
    split <;> exact hpost _ (.refl _)
  · exact h

/-- Whatever a command does keeps the attention sets in order. -/
theorem Did.attentionOk {i : Instr} {s t : State} (d : Did i s t) (h : s.AttentionOk) : t.AttentionOk := by
  cases d with
  | steady _ desk => exact h.of_orderly desk
  | arrived l x _ => exact h.arrive l x
  | sent l => exact (h.of_desk (by simp) : (s.responseSend l).AttentionOk).drain l
  | moved parity => exact (h.of_orderly (by simp) : (s.portMove parity).settle.AttentionOk).drainAll
  | released l =>
    have hnegated : (s.modLink l (fun k => { k with resetAsserted := false })).AttentionOk := h.of_desk (by simp)
    exact hnegated.drain l
  | ticked => exact h.of_orderly (by simp)
  | pressed q => exact h.of_orderly (by simp)
  | unpressed q => exact h
  | accepted q => exact h
  | unaccepted q => exact h
  | written ok => exact h.of_desk (by simp)
  | poweredOn p => exact h.powerOn p
  | poweredOff c => exact h.powerFail c
  | linksStarted => exact h.linksStart

/-! ## The statement -/

/-- Settles O6, in both parts by the way in which the command taken changes the state. -/
theorem queuesAndAttentionKept : Obligations.QueuesAndAttentionKept := by
  refine ⟨fun s t hs h => ?_, fun s t hs h => ?_⟩ <;> unfold step at h <;> split at h
  · cases h
    exact hs
  · obtain ⟨u, hu, rfl⟩ := exec_did h
    exact (hu.linesOk hs).of_eq (State.settle_lines u)
  · cases h
    exact hs
  · obtain ⟨u, hu, rfl⟩ := exec_did h
    exact (hu.attentionOk hs).of_orderly (by simp)

end Sys2Proof.Machine
end

section
/-!
PROOFS. The clock, its trims and the trims in settings memory stay in their ranges (R27, R28, R29, R159), and what waits keeps fitting its fields.
-/
namespace Sys2Proof.Machine
set_option Elab.async false

/-! ## The clock in its ranges -/

/-- What `ClockOk` says of the clock. -/
structure Clock.Ok (c : Clock) : Prop where
  sec : c.now.sec ≤ 4294967295
  ms : c.now.ms ≤ 999
  acc : c.acc < 1000000
  base : trimOk c.base = true
  temp : trimOk c.temp = true
  storeTrim : trimOk c.storeTrim = true
  tempLeft : c.tempLeft ≤ 65535

/-- What `ClockOk` says of settings memory. -/
structure Settings.Ok (x : Settings) : Prop where
  stored : ∀ r, x.stored = some r → trimOk r.trim = true
  writing : ∀ r y, x.writing = some (r, y) → trimOk r.trim = true

theorem State.clockOk_iff (s : State) : s.ClockOk ↔ s.clock.Ok ∧ s.settings.Ok := by
  constructor
  · rintro ⟨hsec, hms, hacc, hbase, htemp, hstore, hleft, hstored, hwriting⟩
    exact ⟨⟨hsec, hms, hacc, hbase, htemp, hstore, hleft⟩, ⟨hstored, hwriting⟩⟩
  · rintro ⟨⟨hsec, hms, hacc, hbase, htemp, hstore, hleft⟩, ⟨hstored, hwriting⟩⟩
    exact ⟨hsec, hms, hacc, hbase, htemp, hstore, hleft, hstored, hwriting⟩

theorem trimOk_iff (t : Int) : trimOk t = true ↔ -200 ≤ t ∧ t ≤ 200 := by simp [trimOk]

theorem Clock.Ok.effective {c : Clock} (h : c.Ok) : -200 ≤ c.effective ∧ c.effective ≤ 200 := by
  unfold Clock.effective
  split
  · exact (trimOk_iff _).mp h.temp
  · exact (trimOk_iff _).mp h.base

/-- The accumulator stays below 1,000,000: it grows by 200 at most, and is reduced where it reaches it (R27). -/
theorem Clock.Ok.accAfter {c : Clock} (h : c.Ok) : c.accAfter < 1000000 := by
  have hacc := h.acc
  obtain ⟨hlow, hhigh⟩ := h.effective
  have hunit : Config.trimUnit = 1000000 := rfl
  simp only [Clock.accAfter, Clock.overflows_eq, decide_eq_true_eq, hunit]
  split <;> omega

/-- A stamp moved on holds at the top (R29). -/
theorem Stamp.plusMs_le (t : Stamp) (n : Nat) : (Stamp.plusMs t n).sec ≤ 4294967295 ∧ (Stamp.plusMs t n).ms ≤ 999 := by
  rw [Stamp.plusMs_eq]
  constructor <;> dsimp only <;> omega

theorem Clock.advance_base (c : Clock) : c.advance.base = c.base := by simp only [Clock.advance]
theorem Clock.advance_temp (c : Clock) : c.advance.temp = c.temp := by simp only [Clock.advance]
theorem Clock.advance_storeTrim (c : Clock) : c.advance.storeTrim = c.storeTrim := by simp only [Clock.advance]
theorem Clock.advance_now (c : Clock) : c.advance.now = Stamp.plusMs c.now c.stride := by simp only [Clock.advance]
theorem Clock.advance_acc (c : Clock) : c.advance.acc = if c.expires then 0 else c.accAfter := by simp only [Clock.advance]

/-- The trims and the remaining duration stand in their ranges after a millisecond, and the reading holds at the top (R26, R29). -/
theorem Clock.Ok.advance {c : Clock} (h : c.Ok) : c.advance.Ok where
  sec := by
    rw [c.advance_now]
    exact (Stamp.plusMs_le c.now c.stride).1
  ms := by
    rw [c.advance_now]
    exact (Stamp.plusMs_le c.now c.stride).2
  acc := by
    have hafter := h.accAfter
    rw [c.advance_acc]
    split
    · exact Nat.lt_of_le_of_lt (Nat.zero_le _) hafter
    · exact hafter
  base := by
    rw [c.advance_base]
    exact h.base
  temp := by
    rw [c.advance_temp]
    exact h.temp
  storeTrim := by
    rw [c.advance_storeTrim]
    exact h.storeTrim
  tempLeft := by
    have hleft := h.tempLeft
    simp only [Clock.advance]
    split <;> omega

/-- Another reading in range. -/
theorem Clock.Ok.reads {c : Clock} (h : c.Ok) (now : Stamp) (valid continuity : Bool) (hsec : now.sec ≤ 4294967295) (hms : now.ms ≤ 999) :
    Clock.Ok { c with now := now, valid := valid, continuity := continuity } :=
  ⟨hsec, hms, h.acc, h.base, h.temp, h.storeTrim, h.tempLeft⟩

/-- A change of trims clears the accumulator or leaves it. -/
theorem Clock.Ok.retrim {c : Clock} (h : c.Ok) (old : Clock) : (Clock.retrim old c).Ok := by
  unfold Clock.retrim
  split
  · exact h
  · exact ⟨h.sec, h.ms, by simp, h.base, h.temp, h.storeTrim, h.tempLeft⟩

theorem Clock.Ok.setBase {c : Clock} (h : c.Ok) (t : Int) (ht : trimOk t = true) : (c.setBase t).Ok :=
  Clock.Ok.retrim (c := { c with base := t, storeTrim := t }) ⟨h.sec, h.ms, h.acc, ht, h.temp, ht, h.tempLeft⟩ c

theorem Clock.Ok.setTemp {c : Clock} (h : c.Ok) (t : Int) (d : Nat) (ht : trimOk t = true) (hd : d ≤ 65535) : (c.setTemp t d).Ok :=
  Clock.Ok.retrim (c := { c with temp := t, tempLeft := d }) ⟨h.sec, h.ms, h.acc, h.base, ht, h.storeTrim, hd⟩ c

theorem Clock.Ok.endTemp {c : Clock} (h : c.Ok) : c.endTemp.Ok :=
  Clock.Ok.retrim (c := { c with tempLeft := 0 }) ⟨h.sec, h.ms, h.acc, h.base, h.temp, h.storeTrim, Nat.zero_le _⟩ c

/-- A step is limited to 0 seconds and the top (R34). -/
theorem Clock.Ok.stepped {c : Clock} (h : c.Ok) (n : Int) : (c.stepped n).1.sec ≤ 4294967295 ∧ (c.stepped n).1.ms ≤ 999 := by
  have hms := h.ms
  have htop : Config.topSec = 4294967295 := rfl
  unfold Clock.stepped
  dsimp only
  split
  · exact ⟨Nat.zero_le _, hms⟩
  · split
    · exact ⟨Nat.le_refl _, Nat.le_refl _⟩
    · exact ⟨by dsimp only; omega, hms⟩

/-- Power-on keeps a reading in range or sets it to 0 (R36). -/
theorem Clock.Ok.started {c : Clock} (h : c.Ok) (lost : Bool) (before : Stamp) (base : Int) (hb : lost = false → before = c.now)
    (ht : trimOk base = true) : (c.started lost before base).Ok where
  sec := by
    simp only [Clock.started]
    split
    · rename_i hkept
      rw [hb (by simp_all)]
      exact h.sec
    · exact Nat.zero_le _
  ms := by
    simp only [Clock.started]
    split
    · rename_i hkept
      rw [hb (by simp_all)]
      exact h.ms
    · exact Nat.zero_le _
  acc := by simp [Clock.started]
  base := ht
  temp := by simp [Clock.started, trimOk]
  storeTrim := by
    simp only [Clock.started]
    split
    · simp [trimOk]
    · exact h.storeTrim
  tempLeft := by simp [Clock.started]

/-! ## Settings memory -/

theorem State.settingsRecord_trim (s : State) (c : SettingsChange) : (s.settingsRecord c).trim = s.clock.base := by
  cases c <;> rfl

theorem State.ClockOk.of_eq {s t : State} (h : s.ClockOk) (hclock : t.clock = s.clock) (hsettings : t.settings = s.settings) : t.ClockOk := by
  rw [State.clockOk_iff] at h ⊢
  rwa [hclock, hsettings]

theorem State.ClockOk.of_front {s t : State} (h : s.ClockOk) (e : t.front = s.front) : t.ClockOk := by
  obtain ⟨-, hclock, -, hsettings⟩ := State.front_iff.mp e
  exact h.of_eq hclock hsettings

theorem State.ClockOk.of_calm {s t : State} (h : s.ClockOk) (e : t.calm = s.calm) : t.ClockOk := h.of_front (State.front_of_calm e)

/-- Another clock in its ranges. -/
theorem State.ClockOk.clock {s : State} (h : s.ClockOk) (c : Clock) (hc : c.Ok) : ({ s with clock := c } : State).ClockOk :=
  (State.clockOk_iff _).mpr ⟨hc, ((State.clockOk_iff s).mp h).2⟩

/-- A write that begins carries the base trim in force (R159). -/
theorem State.ClockOk.beginWrite {s : State} (h : s.ClockOk) : s.beginWrite.ClockOk := by
  obtain ⟨hclock, hsettings⟩ := (State.clockOk_iff s).mp h
  unfold State.beginWrite
  split
  · rename_i w rest hnone hwait
    refine (State.clockOk_iff _).mpr ⟨hclock, hsettings.stored, fun r y hr => ?_⟩
    obtain ⟨rfl, -⟩ := Prod.mk.inj (Option.some.inj hr)
    rw [State.settingsRecord_trim]
    exact hclock.base
  · exact h

theorem State.ClockOk.askWrite {s : State} (h : s.ClockOk) (c : SettingsChange) (r : Reply) : (s.askWrite c r).ClockOk := by
  have hwaits : State.ClockOk { s with settings := { s.settings with waiting := s.settings.waiting ++ [{ change := c, reply := r }] } } := h
  exact hwaits.beginWrite

/-- The record written becomes the stored one, or the stored one stays (R35). -/
theorem State.ClockOk.endWrite {s : State} (h : s.ClockOk) (ok : Bool) : (s.endWrite ok).ClockOk := by
  obtain ⟨hclock, hsettings⟩ := (State.clockOk_iff s).mp h
  unfold State.endWrite
  split
  · exact h
  · rename_i rec reply hw
    have hended : ∀ stored : Option SettingsRec, (∀ r, stored = some r → trimOk r.trim = true) →
        State.ClockOk { s with settings := { s.settings with writing := none, stored := stored } } := fun stored hr =>
      (State.clockOk_iff _).mpr ⟨hclock, hr, fun r y hr => nomatch hr⟩
    refine State.ClockOk.beginWrite ?_
    split
    · refine (hended (some rec) fun r hr => ?_).of_calm (State.respond_calm _ _ _ _)
      obtain rfl := Option.some.inj hr
      exact hsettings.writing _ _ hw
    · exact (hended _ hsettings.stored).of_calm (State.answer_calm _ _ _)

/-! ## Requests -/

theorem State.ClockOk.clockLoad {s : State} (h : s.ClockOk) (r : Reply) (v : Stamp) (hv : v.fits = true) : (handleClockLoad s r v).ClockOk := by
  obtain ⟨hclock, -⟩ := (State.clockOk_iff s).mp h
  unfold handleClockLoad
  split
  · exact h.of_calm (by simp)
  · rename_i hms
    have hsec : v.sec ≤ 4294967295 := by
      simp only [Stamp.fits, wordOk, Bool.and_eq_true, decide_eq_true_eq] at hv
      omega
    exact (h.clock _ (hclock.reads v true true hsec (by omega))).of_calm (by simp)

theorem State.ClockOk.clockStep {s : State} (h : s.ClockOk) (r : Reply) (n : Int) : (handleClockStep s r n).ClockOk := by
  obtain ⟨hclock, -⟩ := (State.clockOk_iff s).mp h
  obtain ⟨hsec, hms⟩ := hclock.stepped n
  unfold handleClockStep
  split
  · exact h.of_calm (by simp)
  · split
    · exact h.of_calm (by simp)
    · exact (h.clock _ (hclock.reads _ s.clock.valid s.clock.continuity hsec hms)).of_calm (by simp)

theorem State.ClockOk.clockTrim {s : State} (h : s.ClockOk) (r : Reply) (f : TrimForm) : (handleClockTrim s r f).ClockOk := by
  obtain ⟨hclock, -⟩ := (State.clockOk_iff s).mp h
  cases f with
  | base t =>
    simp only [handleClockTrim]
    split
    · rename_i ht
      exact (h.clock _ (hclock.setBase t ht)).askWrite _ r
    · exact h.of_calm (by simp)
  | temporary t d =>
    simp only [handleClockTrim]
    split
    · rename_i hc
      simp only [Bool.and_eq_true, decide_eq_true_eq] at hc
      obtain ⟨⟨ht, -⟩, hd⟩ := hc
      exact (h.clock _ (hclock.setTemp t d ht hd)).of_calm (by simp)
    · exact h.of_calm (by simp)
  | stop => exact (h.clock _ hclock.endTemp).of_calm (by simp [handleClockTrim])
  | other f => exact h.of_calm (by simp [handleClockTrim])

/-- The units' work on a request keeps the ranges; CLOCK_LOAD's operand fits its fields. -/
theorem State.ClockOk.handle {s : State} (h : s.ClockOk) (r : Reply) (t : Nat) (q : Request) (hq : (LaneInput.request t q).fits = true) :
    (s.handle r q).ClockOk := by
  cases q <;> simp only [State.handle]
  case clockLoad v => exact h.clockLoad r v hq
  case clockStep n => exact h.clockStep r n
  case clockTrim f => exact h.clockTrim r f
  case settingsSet =>
    unfold handleSettingsSet
    split
    · split
      · exact h.of_calm (by simp)
      · exact h.askWrite _ r
    · exact h.of_calm (by simp)
  case rightsSet =>
    unfold handleRightsSet
    split
    · exact h.of_calm (by simp)
    · dsimp only
      split
      · exact h.of_calm (by simp)
      · exact State.ClockOk.askWrite (s := { s with rights := s.rights.set _ _ }) h _ r
  case catalogueReady =>
    unfold handleCatalogueReady
    split
    · exact h.of_calm (by simp)
    · have hready : State.ClockOk { (s.modCat CatMem.ready) with absentMode := false } := h
      exact hready.of_calm (by simp)
  all_goals exact h.of_calm (by simp)

theorem State.ClockOk.route {s : State} (h : s.ClockOk) (r : Reply) (t : Nat) (q : Request) (hq : (LaneInput.request t q).fits = true) :
    (s.route r q).ClockOk := by
  unfold State.route
  split
  · exact h.of_calm (by simp)
  · split
    · exact h.of_calm (by simp)
    · exact h.handle r t q hq

theorem State.ClockOk.takeInput {s : State} (h : s.ClockOk) (l : Link) (x : LaneInput) (hx : x.fits = true) : (s.takeInput l x).ClockOk := by
  cases x with
  | stray => exact h
  | bad f => exact h.of_calm (by simp [State.takeInput])
  | request t q =>
    refine State.ClockOk.of_calm ?_ (State.settle_calm _)
    unfold State.takeRequest
    split
    · exact h.of_calm (by simp)
    · split
      · exact h
      · exact State.ClockOk.route (s := s.modLink l _) h _ t q hx

/-! ## Lanes -/

/-- What waits on the lanes fits its fields. -/
def State.LanesFit (s : State) : Prop := ∀ l, ∀ x ∈ (s.links.get l).lane, x.fits = true

theorem State.LanesFit.of_orderly {s t : State} (h : s.LanesFit) (ho : Orderly s.desk t.desk) : t.LanesFit := by
  intro l x hx
  have hlane : (t.links.get l).lane = (s.links.get l).lane := (ho.of l).1
  exact h l x (hlane ▸ hx)

theorem State.LanesFit.of_desk {s t : State} (h : s.LanesFit) (e : t.desk = s.desk) : t.LanesFit := h.of_orderly (e ▸ Orderly.refl _)

/-- A lane replaced by one whose inputs fit. -/
theorem State.LanesFit.modLane {s : State} (h : s.LanesFit) (l : Link) (f : LinkRec → LinkRec) (hf : ∀ x ∈ (f (s.links.get l)).lane, x.fits = true) :
    (s.modLink l f).LanesFit := by
  intro k
  by_cases e : k = l
  · subst e
    simpa using hf
  · simpa [Three.get_set_ne _ _ _ _ e] using h k

/-- The clock is in its ranges, and what waits on the lanes keeps it there. -/
def State.Timely (s : State) : Prop := s.ClockOk ∧ s.LanesFit

theorem State.Timely.of_steady {s t : State} (h : s.Timely) (hc : t.front = s.front) (ho : Orderly s.desk t.desk) : t.Timely :=
  ⟨h.1.of_front hc, h.2.of_orderly ho⟩

theorem State.Timely.takeInput {s : State} (h : s.Timely) (l : Link) (x : LaneInput) (hx : x.fits = true) : (s.takeInput l x).Timely :=
  ⟨h.1.takeInput l x hx, h.2.of_orderly (by simp)⟩

theorem State.takeInput_keeps_timely (s : State) (l : Link) (x : LaneInput) (rest : List LaneInput) (h : s.Timely)
    (hl : (s.links.get l).lane = x :: rest) : ((s.modLink l (fun k => { k with lane := rest })).takeInput l x).Timely := by
  obtain ⟨hclock, hlanes⟩ := h
  have hfits : ∀ y ∈ x :: rest, y.fits = true := hl ▸ hlanes l
  have hrest : (s.modLink l (fun k => { k with lane := rest })).LanesFit := hlanes.modLane l _ (fun y hy => hfits y (List.mem_cons_of_mem x hy))
  have htimely : (s.modLink l (fun k => { k with lane := rest })).Timely := ⟨hclock, hrest⟩
  exact htimely.takeInput l x (hfits x List.mem_cons_self)

theorem State.Timely.drain {s : State} (h : s.Timely) (l : Link) : (s.drain l).Timely := State.drain_keeps State.takeInput_keeps_timely s l h

theorem State.Timely.drainAll {s : State} (h : s.Timely) : s.drainAll.Timely := State.drainAll_keeps State.takeInput_keeps_timely s h

theorem State.Timely.arrive {s : State} (h : s.Timely) (l : Link) (x : LaneInput) (hx : x.fits = true) : (s.arrive l x).Timely := by
  obtain ⟨hclock, hlanes⟩ := h
  unfold State.arrive
  split
  · exact ⟨hclock, hlanes⟩
  · split
    · exact State.Timely.takeInput ⟨hclock, hlanes⟩ l x hx
    · refine ⟨hclock, hlanes.modLane l _ (fun y hy => ?_)⟩
      rcases List.mem_append.mp hy with hy | hy
      · exact hlanes l y hy
      · rw [List.mem_singleton.mp hy]
        exact hx

/-! ## The supply -/

/-- The records of links just started have nothing on their lanes. -/
theorem lanes_start (a b c : Bool) (l : Link) (x : LaneInput)
    (hx : x ∈ ((⟨LinkRec.start a, LinkRec.start b, LinkRec.start c⟩ : Three LinkRec).get l).lane) : x.fits = true := by
  cases l <;> exact nomatch hx

/-- A settings record read at power-on is the stored one (R159). -/
theorem State.readSettings_trim {s : State} (h : s.settings.Ok) (a : SettingsAnswer) :
    trimOk ((s.readSettings a).getD SettingsRec.default).trim = true := by
  cases hr : s.readSettings a with
  | none => rfl
  | some r =>
    cases a with
    | kept => exact h.stored r hr
    | unrecognised => cases hr
    | silent => cases hr

theorem State.storedAfter_ok {s : State} (h : s.settings.Ok) (a : SettingsAnswer) : ∀ r, s.storedAfter a = some r → trimOk r.trim = true := by
  intro r hr
  cases a with
  | unrecognised => cases hr
  | kept => exact h.stored r hr
  | silent => exact h.stored r hr

theorem State.ClockOk.startMemory {s : State} (h : s.ClockOk) (p : PowerOn) : (s.startMemory p).ClockOk := by
  obtain ⟨hclock, hsettings⟩ := (State.clockOk_iff s).mp h
  have hfound : p.batteryLost = false → s.foundClock p.batteryLost = s.clock.now := fun hlost => by simp [State.foundClock, hlost]
  exact (State.clockOk_iff _).mpr ⟨hclock.started _ _ _ hfound (State.readSettings_trim hsettings _),
    ⟨State.storedAfter_ok hsettings _, fun r y hr => nomatch hr⟩⟩

theorem State.startMechanics_calm (s : State) (p : PowerOn) : (s.startMechanics p).calm = s.calm := by
  unfold State.startMechanics
  dsimp only
  (repeat' split) <;> simp

theorem State.Timely.powerOn {s : State} (h : s.Timely) (p : PowerOn) : (s.powerOn p).Timely := by
  unfold State.powerOn
  split
  · have hmem : (s.startMemory p).Timely := ⟨h.1.startMemory p, lanes_start _ _ _⟩
    refine hmem.of_steady (State.front_of_calm ?_) (State.startMechanics_orderly (by simp) p)
    rw [State.startMechanics_calm, State.testClose_calm]
  · exact h

theorem State.Timely.powerFail {s : State} (h : s.Timely) (c : PowerCut) : (s.powerFail c).Timely := by
  obtain ⟨hclock, hsettings⟩ := (State.clockOk_iff s).mp h.1
  unfold State.powerFail
  split
  · exact h
  · refine ⟨(State.clockOk_iff _).mpr ⟨?_, hsettings.stored, fun r y hr => nomatch hr⟩, lanes_start _ _ _⟩
    exact ⟨hclock.sec, hclock.ms, by simp, hclock.base, by simp [trimOk], hclock.base, by simp⟩

theorem State.ClockOk.tick {s : State} (h : s.ClockOk) : s.tick.ClockOk := by
  have hadvance := h.clock _ ((State.clockOk_iff s).mp h).1.advance
  unfold State.tick
  split
  · exact State.ClockOk.of_calm (s := { s with ref := s.ref + 1, clock := s.clock.advance }) hadvance (by simp)
  · exact hadvance

/-- A line changed is no clock. -/
theorem State.ClockOk.modLine {s : State} (h : s.ClockOk) (q : LineNo) (f : Line → Line) : (s.modLine q f).ClockOk := h

theorem State.ClockOk.takePress {s : State} (h : s.ClockOk) (q : LineNo) : (s.takePress q).ClockOk := by
  unfold State.takePress
  split
  · exact (h.modLine q (fun l => { l with lamp := true })).of_calm (State.post_calm _ _)
  · exact (h.of_calm (State.issue_calm _ _ _ _)).modLine q _

theorem State.ClockOk.pressInput {s : State} (h : s.ClockOk) (q : LineNo) : (s.pressInput q).ClockOk := by
  have hlevel := h.modLine q (fun l => { l with pressed := true })
  unfold State.pressInput
  split
  · exact hlevel.takePress q
  · exact hlevel

theorem State.Timely.linksStart {s : State} (h : s.Timely) : s.linksStart.Timely := by
  unfold State.linksStart
  split
  · have hpost : ∀ t : State, Orderly s.desk t.desk → Orderly s.desk (s.startEvents.foldl (fun s e => s.post e) t).desk := fun t =>
      State.foldl_orderly _ (fun s e ho => by simp [ho]) _ t
    have hcalm : ∀ t : State, (s.startEvents.foldl (fun s e => s.post e) t).calm = t.calm := fun t => State.foldl_calm _ (fun s e => by simp) _ t
    have hrunning : State.Timely { s with power := .running, startEvents := [] } := h
    refine State.Timely.drainAll (hrunning.of_steady ?_ (State.settle_orderly ?_))
    · refine (State.settle_front _).trans (State.front_of_calm ?_)
      split
      · rw [State.startSweep_calm]
        exact hcalm _
      · exact hcalm _
    · split <;> exact hpost _ (.refl _)
  · exact h

/-! ## The queue of commands -/

theorem State.tick_pending (s : State) : s.tick.pending = s.pending := by
  unfold State.tick
  split
  · exact (State.pending_of_calm (State.testClose_calm _)).trans rfl
  · rfl

theorem State.pressInput_pending (s : State) (q : LineNo) : (s.pressInput q).pending = s.pending := by
  unfold State.pressInput
  split
  · unfold State.takePress
    dsimp only
    split
    · exact (State.pending_of_calm (State.post_calm _ _)).trans rfl
    · exact (State.pending_of_calm (State.issue_calm _ _ _ _)).trans rfl
  · rfl

theorem State.endWrite_pending (s : State) (ok : Bool) : (s.endWrite ok).pending = s.pending := by
  unfold State.endWrite
  split
  · rfl
  · rw [State.beginWrite_pending]
    split
    · exact (State.pending_of_calm (State.respond_calm _ _ _ _)).trans rfl
    · exact (State.pending_of_calm (State.answer_calm _ _ _)).trans rfl

theorem State.powerOn_pending (s : State) (p : PowerOn) : (s.powerOn p).pending = s.pending := by
  unfold State.powerOn
  split
  · exact (State.pending_of_calm ((State.startMechanics_calm _ p).trans (State.testClose_calm _))).trans rfl
  · rfl

theorem State.powerFail_pending (s : State) (c : PowerCut) : (s.powerFail c).pending = s.pending := by
  unfold State.powerFail
  split <;> rfl

theorem State.linksStart_pending (s : State) : s.linksStart.pending = s.pending := by
  have hpost : ∀ t : State, (s.startEvents.foldl (fun s e => s.post e) t).pending = t.pending := fun t =>
    State.pending_of_calm (State.foldl_calm _ (fun s e => by simp) _ t)
  unfold State.linksStart
  split
  · rw [State.drainAll_pending, State.settle_pending]
    split <;> exact hpost _
  · rfl

/-! ## The statement -/

/-- Whatever a command within its fields does keeps the clock in its ranges, and what waits on the lanes within its fields. -/
theorem Did.timely {i : Instr} {s t : State} (d : Did i s t) (hw : i.wellFormed = true) (h : s.Timely) : t.Timely := by
  cases d with
  | steady calm desk => exact h.of_steady (State.front_of_calm calm) desk
  | arrived l x fits => exact h.arrive l x (fits hw)
  | sent l => exact State.Timely.drain (h.of_steady (State.front_of_calm (by simp)) (by simp)) l
  | moved parity =>
    exact State.Timely.drainAll (h.of_steady ((State.settle_front _).trans (s.portMove_front parity)) (by simp))
  | released l =>
    have hnegated : (s.modLink l (fun k => { k with resetAsserted := false })).Timely := h.of_steady rfl (by simp)
    exact hnegated.drain l
  | ticked => exact ⟨h.1.tick, h.2.of_orderly (by simp)⟩
  | pressed q => exact ⟨h.1.pressInput q, h.2.of_orderly (by simp)⟩
  | unpressed q => exact h
  | accepted q => exact h
  | unaccepted q => exact h
  | written ok => exact ⟨h.1.endWrite ok, h.2.of_desk (by simp)⟩
  | poweredOn p => exact h.powerOn p
  | poweredOff c => exact h.powerFail c
  | linksStarted => exact h.linksStart

/-- Whatever a command does leaves the queue of commands as it was. -/
theorem Did.pending {i : Instr} {s t : State} (d : Did i s t) : t.pending = s.pending := by
  have hdrain : ∀ (s : State) (l : Link), (s.drain l).pending = s.pending := fun s l => State.drainFor_pending _ s l
  cases d with
  | steady calm _ => exact State.pending_of_calm calm
  | arrived l x _ => exact s.arrive_pending l x
  | sent l => exact (hdrain _ l).trans (State.pending_of_calm (by simp))
  | moved parity =>
    obtain ⟨hpending, -⟩ := State.front_iff.mp (s.portMove_front parity)
    simpa using hpending
  | released l => exact hdrain _ l
  | ticked => exact s.tick_pending
  | pressed q => exact s.pressInput_pending q
  | unpressed q => rfl
  | accepted q => rfl
  | unaccepted q => rfl
  | written ok => exact s.endWrite_pending ok
  | poweredOn p => exact s.powerOn_pending p
  | poweredOff c => exact s.powerFail_pending c
  | linksStarted => exact s.linksStart_pending

/-- Settles O5, by the way in which the command taken changes the state. -/
theorem clockRangesKept : Obligations.ClockRangesKept := by
  intro s t hclock hpend h
  obtain ⟨hqueue, hlanes⟩ := hpend
  unfold step at h
  split at h
  · cases h
    exact ⟨hclock, hqueue, hlanes⟩
  · rename_i c rest hp
    obtain ⟨u, hu, rfl⟩ := exec_did h
    rw [hp] at hqueue
    have htaken : State.Timely { s with pending := rest } := ⟨hclock, hlanes⟩
    obtain ⟨hclock', hlanes'⟩ := hu.timely (hqueue c List.mem_cons_self) htaken
    have hrest : u.settle.pending = rest := u.settle_pending.trans hu.pending
    refine ⟨hclock'.of_calm u.settle_calm, ?_, hlanes'.of_orderly (by simp)⟩
    rw [hrest]
    exact fun d hd => hqueue d (List.mem_cons_of_mem c hd)

end Sys2Proof.Machine
end

section
/-!
PROOFS. The registry clock: one millisecond of it, the period close a millisecond may bring, and the clock's requests (R26 to R38, R178 to R180).
-/
namespace Sys2Proof.Machine
set_option Elab.async false

/-! ## The close target -/

theorem CloseTarget.reached_iff (t : CloseTarget) (c : Clock) :
    t.reached c = true ↔ c.valid = true ∧ t.target ≠ 0 ∧ t.target ≤ c.now.sec := by
  simp [CloseTarget.reached, and_assoc]

theorem State.powered_iff (s : State) : s.powered = true ↔ s.power ≠ .off := by simp [State.powered]

theorem State.testClose_reached (s : State) (h : s.cat.target.reached s.clock = true) : s.testClose = s.closePeriod := if_pos h

theorem State.testClose_unreached (s : State) (h : ¬s.cat.target.reached s.clock = true) : s.testClose = s := if_neg h

/-- The target reached, the command is the period close. -/
theorem exec_closeTargetReached (s : State) (hp : s.power ≠ .off) (ha : s.agenda = []) (h : s.cat.target.reached s.clock = true) :
    exec .closeTargetReached s = .next s.closePeriod := by
  have hpow : s.powered = true := s.powered_iff.mpr hp
  show done s.closeReached = _
  rw [State.closeReached, hpow, h]
  exact done_nil _ (by simpa using ha)

/-! ## One millisecond -/

/-- The state with the clock and the reference one millisecond on, before the close target is tested. -/
def State.ticked (s : State) : State := { s with ref := s.ref + 1, clock := s.clock.advance }

theorem State.tick_powered (s : State) (hp : s.power ≠ .off) : s.tick = s.ticked.testClose := if_pos (s.powered_iff.mpr hp)

/-- A millisecond that does not reach the close target is the clock's alone. -/
theorem State.tick_unreached (s : State) (hp : s.power ≠ .off) (h : ¬s.cat.target.reached s.clock.advance = true) : s.tick = s.ticked := by
  rw [s.tick_powered hp, s.ticked.testClose_unreached h]

/-- A millisecond that reaches it brings the close. -/
theorem State.tick_reached (s : State) (hp : s.power ≠ .off) (ha : s.agenda = []) (h : s.cat.target.reached s.clock.advance = true) :
    done s.tick = exec .closeTargetReached s.ticked := by
  have hagenda : s.ticked.closePeriod.agenda = [] := (State.closePeriod_agenda _).trans ha
  rw [exec_closeTargetReached s.ticked hp ha h, s.tick_powered hp, s.ticked.testClose_reached h, done_nil _ hagenda]

/-- One millisecond of the clock, written out (R26 to R29). -/
theorem Clock.advance_eq (c : Clock) :
    let eff := c.effective
    let spill := eff ≠ 0 ∧ 1000000 ≤ c.acc + eff.natAbs
    let move := if spill then (if 0 < eff then 2 else 0) else 1
    let ms := min (c.now.sec * 1000 + c.now.ms + move) 4294967295999
    let rises := c.now.sec < ms / 1000
    let acc := if spill then c.acc + eff.natAbs - 1000000 else c.acc + eff.natAbs
    c.advance = { c with
      now := ⟨ms / 1000, ms % 1000⟩
      tempLeft := if rises then c.tempLeft - 1 else c.tempLeft
      acc := if rises ∧ c.tempLeft = 1 then 0 else acc } := by
  have hunit : Config.trimUnit = 1000000 := rfl
  simp only [Clock.advance, Clock.expires, Clock.secondRises, Clock.accAfter, Clock.overflows_eq, Clock.stride_eq, Stamp.plusMs_eq, hunit,
    decide_eq_true_eq, Bool.and_eq_true, beq_iff_eq]

/-- A millisecond that does not reach the close target. -/
theorem done_tick_unreached (s : State) (hp : s.power ≠ .off) (ha : s.agenda = []) (h : ¬s.cat.target.reached s.clock.advance = true) :
    done s.tick = .next s.ticked := by
  rw [s.tick_unreached hp h]
  exact done_nil _ ha

/-- The millisecond of an accumulator that overflows short of a second (R27). -/
theorem Clock.advance_overflow (c : Clock) (he : c.effective ≠ 0) (ho : 1000000 ≤ c.acc + c.effective.natAbs) (hs : c.now.sec ≤ 4294967295)
    (hm : c.now.ms < 998) :
    c.advance = { c with
      now := ⟨c.now.sec, if 0 < c.effective then c.now.ms + 2 else c.now.ms⟩
      acc := c.acc + c.effective.natAbs - 1000000 } := by
  have hspill : c.effective ≠ 0 ∧ 1000000 ≤ c.acc + c.effective.natAbs := ⟨he, ho⟩
  have hadv := c.advance_eq
  simp only [if_pos hspill] at hadv
  rw [hadv]
  by_cases hpos : 0 < c.effective
  · have hms : min (c.now.sec * 1000 + c.now.ms + 2) 4294967295999 = c.now.sec * 1000 + c.now.ms + 2 := by omega
    have hsec : (c.now.sec * 1000 + c.now.ms + 2) / 1000 = c.now.sec := by omega
    have hmod : (c.now.sec * 1000 + c.now.ms + 2) % 1000 = c.now.ms + 2 := by omega
    simp only [if_pos hpos, hms, hsec, hmod, Nat.lt_irrefl, false_and, if_false]
  · have hms : min (c.now.sec * 1000 + c.now.ms + 0) 4294967295999 = c.now.sec * 1000 + c.now.ms := by omega
    have hsec : (c.now.sec * 1000 + c.now.ms) / 1000 = c.now.sec := by omega
    have hmod : (c.now.sec * 1000 + c.now.ms) % 1000 = c.now.ms := by omega
    simp only [if_neg hpos, hms, hsec, hmod, Nat.lt_irrefl, false_and, if_false]

/-- The millisecond that ends the temporary trim, with no overflow of the accumulator (R28). -/
theorem Clock.advance_expiry (c : Clock) (hl : c.tempLeft = 1) (ha : c.acc + c.temp.natAbs < 1000000) (hm : c.now.ms = 999)
    (hs : c.now.sec < 4294967295) :
    c.advance = { c with
      now := ⟨c.now.sec + 1, 0⟩
      tempLeft := 0
      acc := 0 } ∧ c.expires = true := by
  have heff : c.effective = c.temp := by simp [Clock.effective, hl]
  have hspill : ¬(c.temp ≠ 0 ∧ 1000000 ≤ c.acc + c.temp.natAbs) := by omega
  have hms : min (c.now.sec * 1000 + c.now.ms + 1) 4294967295999 = c.now.sec * 1000 + 1000 := by omega
  have hsec : (c.now.sec * 1000 + 1000) / 1000 = c.now.sec + 1 := by omega
  have hmod : (c.now.sec * 1000 + 1000) % 1000 = 0 := by omega
  have hrises : c.secondRises = true := by
    simp only [Clock.secondRises, Clock.stride_eq, Stamp.plusMs_eq, heff, if_neg hspill, hms, hsec, decide_eq_true_eq]
    omega
  have hexpires : c.expires = true := by simp [Clock.expires, hrises, hl]
  refine ⟨?_, hexpires⟩
  simp only [Clock.advance, hexpires, hrises, Clock.stride_eq, Stamp.plusMs_eq, heff, if_neg hspill, hms, hsec, hmod, hl, if_true]

/-- The close target is not reached, in the words of R38. -/
theorem CloseTarget.unreached_of (t : CloseTarget) (c : Clock) (h : t.target = 0 ∨ c.now.sec < t.target ∨ c.valid = false) :
    ¬t.reached c = true := by
  rw [t.reached_iff]
  rintro ⟨hvalid, hset, hsec⟩
  rcases h with h | h | h
  · exact hset h
  · omega
  · rw [h] at hvalid
    cases hvalid

/-- Settles O21, from one millisecond of the clock, with and without the close target reached by it. -/
theorem clockAdvances : Obligations.ClockAdvances := by
  refine ⟨fun s hp ha => ?_, fun s hp ha => ?_, fun s hp ha => ?_, fun s hp ha => ?_⟩
  · have hadv := s.clock.advance_eq
    have htarget := s.cat.target.reached_iff s.clock.advance
    intro eff spill move ms rises acc t reached
    have ht : s.ticked = t := congrArg (fun c => { s with ref := s.ref + 1, clock := c }) hadv
    rw [hadv] at htarget
    refine ⟨fun hn => ?_, fun hr => ?_⟩
    · have hnot : ¬s.cat.target.reached s.clock.advance = true := fun h => hn (by rw [hadv] at h; exact htarget.mp h)
      exact (done_tick_unreached s hp ha hnot).trans (congrArg _ ht)
    · have hyes : s.cat.target.reached s.clock.advance = true := by
        rw [hadv]
        exact htarget.mpr hr
      exact (s.tick_reached hp ha hyes).trans (congrArg _ ht)
  · refine ⟨fun he ho hs hm ht => ?_, fun hn => ?_⟩
    · have hover : s.clock.overflows = true := by
        rw [Clock.overflows_eq]
        exact decide_eq_true ⟨he, ho⟩
      have hadv := s.clock.advance_overflow he ho hs hm
      have hnot : ¬s.cat.target.reached s.clock.advance = true := by
        rw [hadv]
        exact s.cat.target.unreached_of _ ht
      show done (if s.clock.overflows then s.tick else s) = _
      rw [if_pos hover, done_tick_unreached s hp ha hnot, State.ticked, hadv]
      rfl
    · have hover : ¬s.clock.overflows = true := by
        rw [Clock.overflows_eq, decide_eq_true_eq]
        rintro ⟨he, ho⟩
        rcases hn with hn | hn
        · exact he hn
        · exact absurd hn (Nat.not_lt.mpr ho)
      show done (if s.clock.overflows then s.tick else s) = _
      rw [if_neg hover, done_nil s ha]
  · refine ⟨fun hl hacc hm hs ht => ?_, fun hl => ?_⟩
    · obtain ⟨hadv, hexpires⟩ := s.clock.advance_expiry hl hacc hm hs
      have hnot : ¬s.cat.target.reached s.clock.advance = true := by
        rw [hadv]
        exact s.cat.target.unreached_of _ ht
      refine ⟨?_, rfl⟩
      show done (if s.clock.expires then s.tick else s) = _
      rw [if_pos hexpires, done_tick_unreached s hp ha hnot, State.ticked, hadv]
    · have hexpires : ¬s.clock.expires = true := by simp [Clock.expires, hl]
      show done (if s.clock.expires then s.tick else s) = _
      rw [if_neg hexpires, done_nil s ha]
  · have hadv := s.clock.advance_eq
    have htarget := s.cat.target.reached_iff s.clock.advance
    rw [hadv] at htarget
    intro eff move sec reached hnow
    have hnot : ¬s.cat.target.reached s.clock = true := fun h => hnow ((s.cat.target.reached_iff _).mp h)
    have hpow : s.powered = true := s.powered_iff.mpr hp
    have hexec : exec .closeTargetReached s = done (if s.cat.target.reached s.clock.advance then s.tick else s) := by
      show done s.closeReached = _
      rw [State.closeReached, State.closeComes, hpow, Bool.true_and, if_neg hnot, Bool.true_and]
    rw [hexec, hadv]
    refine ⟨fun hr => ?_, fun hn => ?_⟩
    · rw [if_pos (htarget.mpr hr)]
      rfl
    · rw [if_neg (fun h => hn (htarget.mp h)), done_nil s ha]

end Sys2Proof.Machine
end

section
/-!
PROOFS. The period close, and the requests that read and set the registry clock (R32 to R34, R38, R178 to R180).
-/
namespace Sys2Proof.Machine
set_option Elab.async false

/-! ## The period close -/

/-- Two tallies merged, each count holding at its top (R180). -/
theorem Tally.merge_eq (t u : Tally) :
    t.merge u = {
      fees := min (t.fees + u.fees) 99999999
      copies := min (t.copies + u.copies) 999999
      small := min (t.small + u.small) 9999999
      plan := min (t.plan + u.plan) 9999999
      saturated := t.saturated || u.saturated || decide (99999999 < t.fees + u.fees) || decide (999999 < t.copies + u.copies) ||
        decide (9999999 < t.small + u.small) || decide (9999999 < t.plan + u.plan) } := by
  unfold Tally.merge
  rw [satAdd_eq_min, satAdd_eq_min, satAdd_eq_min, satAdd_eq_min]
  rfl

/-- The record of an account merged: its tally added, or a record gained (R180). -/
theorem findKeyed_mergeSnap (l : List SnapRec) (a : Account) :
    findKeyed SnapRec.code a.code (mergeSnap l a) = some { code := a.code, tally := match findKeyed SnapRec.code a.code l with
      | none => a.tally
      | some r => r.tally.merge a.tally } := by
  unfold mergeSnap
  cases hf : findKeyed SnapRec.code a.code l with
  | none => exact findKeyed_insertKeyed SnapRec.code (snapOf a) l
  | some r =>
    obtain ⟨-, hcode⟩ := findKeyed_some SnapRec.code _ _ _ hf
    dsimp only
    rw [findKeyed_updateKeyed SnapRec.code _ _ (fun r => { r with tally := r.tally.merge a.tally }) (fun _ => rfl), hf]
    simp [hcode]

/-- The records of other accounts stand as they did. -/
theorem findKeyed_mergeSnap_ne (l : List SnapRec) (a : Account) (c : Nat) (h : c ≠ a.code) :
    findKeyed SnapRec.code c (mergeSnap l a) = findKeyed SnapRec.code c l := by
  unfold mergeSnap
  split
  · rw [findKeyed_updateKeyed SnapRec.code _ _ (fun r => { r with tally := r.tally.merge a.tally }) (fun _ => rfl)]
    cases hf : findKeyed SnapRec.code c l with
    | none => rfl
    | some r =>
      obtain ⟨-, hcode⟩ := findKeyed_some SnapRec.code _ _ _ hf
      simp [hcode, h]
  · exact findKeyed_insertKeyed_ne SnapRec.code c (snapOf a) l h

/-- The snapshot a close leaves, written out (R179, R180). -/
theorem CatMem.closeSnapshot_eq (c : CatMem) :
    c.closeSnapshot = match c.snapshot with
      | none => { first := c.period, last := c.period, spanned := 1, grand := c.grand,
                  records := c.accounts.map (fun a => { code := a.code, tally := a.tally }) }
      | some n => { first := n.first, last := c.period, spanned := min (n.spanned + 1) 255, grand := min (n.grand + c.grand) 999999999,
                    records := c.accounts.foldl mergeSnap n.records } := by
  unfold CatMem.closeSnapshot
  cases c.snapshot with
  | none => rfl
  | some n =>
    dsimp only
    rw [satAdd_eq_min, satAdd_eq_min]
    rfl

/-- The target a close leaves, written out (R38). -/
theorem CloseTarget.moved_eq (t : CloseTarget) (sec : Nat) :
    t.moved sec = { t with target := match t.mode with
      | .add =>
        let n := t.target + t.value * ((sec - t.target) / t.value + 1)
        if n ≤ 4294967295 then n else 0
      | .reload => if sec < t.value then t.value else 0 } := by
  obtain ⟨target, mode, value⟩ := t
  cases mode <;> rfl

/-- Settles O22: the close by what it makes of the snapshot and of the target; a merge by the record it looks for. -/
theorem periodCloseMovesTallies : Obligations.PeriodCloseMovesTallies := by
  refine ⟨fun s hq hv ht hr => ?_, fun l a hl => ⟨mergeSnap_rising l a hl, fun c hc => findKeyed_mergeSnap_ne l a c hc, ?_⟩⟩
  · obtain ⟨hrunning, hagenda⟩ := hq
    have hp : s.power ≠ .off := by
      rw [hrunning]
      exact nofun
    intro c next snap target
    rw [exec_closeTargetReached s hp hagenda ((s.cat.target.reached_iff _).mpr ⟨hv, ht, hr⟩)]
    have hsnap : c.closeSnapshot = snap := c.closeSnapshot_eq
    have htarget : c.target.moved s.clock.now.sec = { c.target with target := target } := c.target.moved_eq _
    have hnext : nextPeriod c.period = next := rfl
    unfold State.closePeriod
    have hevent : s.cat.closeEvent = .periodClosed c.period next snap.first snap.last snap.spanned c.pendingSched.isSome := by
      rw [← hsnap]
      rfl
    have hclose : s.cat.close s.clock.now.sec = { c with
        snapshot := some snap
        accounts := c.accounts.map (fun a => { a with tally := ⟨0, 0, 0, 0, false⟩ })
        grand := 0
        period := next
        active := c.pendingSched.getD c.active
        pendingSched := none
        target := { c.target with target := target } } := by
      rw [← hsnap, ← htarget]
      rfl
    rw [hevent, State.modCat, hclose]
  · rw [findKeyed_mergeSnap]
    cases findKeyed SnapRec.code a.code l with
    | none => rfl
    | some r => simp only [Tally.merge_eq]

/-! ## Reading the clock -/

/-- Settles O23: the clock unit answers with the clock's view. -/
theorem clockReadReturnsClock : Obligations.ClockReadReturnsClock :=
  fun l t s h => request_answers s l t .clockRead h _ _ rfl

/-! ## Setting the clock -/

/-- The reading set by CLOCK_LOAD or CLOCK_STEP, and CLOCK_CHANGED posted. -/
def State.clockSet (s : State) (c : Clock) (e : Event) : State := State.post { s with clock := c } e

theorem State.clockSet_tagTaken (s : State) (l : Link) (t : Nat) (c : Clock) (e : Event) :
    (s.tagTaken l t).clockSet c e = (s.clockSet c e).tagTaken l t := State.post_tagTaken { s with clock := c } l t e

theorem State.clockSet_target (s : State) (c : Clock) (e : Event) : (s.clockSet c e).cat.target = s.cat.target := by
  rw [State.clockSet, State.post_cat]

theorem State.post_clock (s : State) (e : Event) : (s.post e).clock = s.clock := by
  unfold State.post
  split <;> rfl

theorem State.post_power (s : State) (e : Event) : (s.post e).power = s.power := by
  unfold State.post
  split <;> rfl

theorem State.clockSet_clock (s : State) (c : Clock) (e : Event) : (s.clockSet c e).clock = c := State.post_clock { s with clock := c } e

theorem State.clockSet_reached (s : State) (c : Clock) (e : Event) :
    (s.clockSet c e).cat.target.reached (s.clockSet c e).clock = s.cat.target.reached c := by
  rw [s.clockSet_target, s.clockSet_clock]

/-- The clock set leaves where the reply of a request goes. -/
theorem State.replyTo_clockSet (s : State) (c : Clock) (e : Event) (l : Link) (t : Nat) (q : Request) :
    (s.clockSet c e).replyTo l t q = s.replyTo l t q := State.replyTo_post { s with clock := c } e l t q

/-- A request that sets the clock, tests the close target, and answers DONE. -/
theorem request_setsClock (s : State) (l : Link) (t : Nat) (q : Request) (h : s.Takes l t q) (c : Clock) (e : Event) (b : Body)
    (hq : (s.tagTaken l t).handle (s.replyTo l t q) q =
      ((s.tagTaken l t).clockSet c e).testClose.respond (s.replyTo l t q) .done b) :
    (¬s.cat.target.reached c = true → request l t q s = .next ((s.clockSet c e).answered l t q.code .done b)) ∧
    (s.cat.target.reached c = true → ∃ w, exec .closeTargetReached (s.clockSet c e) = .next w ∧
      request l t q s = .next (w.answered l t q.code .done b)) := by
  have hagenda : (s.clockSet c e).agenda = [] := (State.post_agenda _ _).trans h.1.1.2.1
  have hreached : ((s.clockSet c e).tagTaken l t).cat.target.reached ((s.clockSet c e).tagTaken l t).clock = s.cat.target.reached c :=
    s.clockSet_reached c e
  refine ⟨fun hn => ?_, fun hr => ⟨(s.clockSet c e).closePeriod, ?_, ?_⟩⟩
  · refine request_changes_of_reply s (s.clockSet c e) l t q h .done b (s.replyTo_clockSet c e l t q) hagenda ?_
    rw [hq, State.clockSet_tagTaken, State.testClose_unreached _ (by rwa [hreached])]
  · have hp : (s.clockSet c e).power ≠ .off := by
      rw [State.clockSet, State.post_power]
      show s.power ≠ .off
      rw [h.1.1.1]
      exact nofun
    exact exec_closeTargetReached _ hp hagenda (by rwa [s.clockSet_reached c e])
  · refine request_changes_of_reply s (s.clockSet c e).closePeriod l t q h .done b
      ((State.replyTo_closePeriod _ l t q).trans (s.replyTo_clockSet c e l t q)) ((State.closePeriod_agenda _).trans hagenda) ?_
    rw [hq, State.clockSet_tagTaken, State.testClose_reached _ (by rwa [hreached]), State.closePeriod_tagTaken]

/-- The target is reached by a VALID clock at or past it. -/
theorem CloseTarget.reached_valid (t : CloseTarget) (c : Clock) (hv : c.valid = true) :
    ((t.target = 0 ∨ c.now.sec < t.target) → ¬t.reached c = true) ∧ (t.target ≠ 0 → t.target ≤ c.now.sec → t.reached c = true) :=
  ⟨fun h => t.unreached_of c (h.imp_right .inl), fun hset hsec => (t.reached_iff c).mpr ⟨hv, hset, hsec⟩⟩

/-- A stepped reading, written out (R34). -/
theorem Clock.stepped_eq (c : Clock) (n : Int) :
    let sum : Int := c.now.sec + n
    c.stepped n =
      (if sum < 0 then ⟨0, c.now.ms⟩ else if 4294967295 < sum then ⟨4294967295, 999⟩ else ⟨sum.toNat, c.now.ms⟩,
        decide (sum < 0 ∨ 4294967295 < sum)) := by
  intro sum
  have htop : topStamp = ⟨4294967295, 999⟩ := rfl
  have hsec : ((Config.topSec : Nat) : Int) = 4294967295 := rfl
  simp only [Clock.stepped, hsec, htop]
  by_cases hlow : sum < 0
  · simp [sum, hlow]
  · by_cases hhigh : 4294967295 < sum
    · simp [sum, show ¬(c.now.sec : Int) + n < 0 from hlow, show (4294967295 : Int) < c.now.sec + n from hhigh]
    · simp [sum, show ¬(c.now.sec : Int) + n < 0 from hlow, show ¬(4294967295 : Int) < c.now.sec + n from hhigh]

/-- Settles O24: each request is refused, or sets the clock, tests the target and answers. -/
theorem clockLoadAndStepSetClock : Obligations.ClockLoadAndStepSetClock := by
  intro l t s hp
  refine ⟨fun v h => ⟨fun hms => ?_, fun hms => ?_⟩, fun n h => ⟨fun hout => ?_, fun hlow hhigh hv => ?_, fun hlow hhigh hv => ?_⟩⟩
  · exact request_answers s l t (.clockLoad v) h .badField .none (if_pos hms)
  · intro u
    have hset := request_setsClock s l t (.clockLoad v) h { s.clock with now := v, valid := true, continuity := true }
      (.clockChanged .load s.clock.now v) (.clockLoaded s.clock.now v) (if_neg (Nat.not_lt.mpr hms))
    have htarget := s.cat.target.reached_valid { s.clock with now := v, valid := true, continuity := true } rfl
    exact ⟨fun hn => hset.1 (htarget.1 hn), fun hset' hsec => hset.2 (htarget.2 hset' hsec)⟩
  · exact request_answers s l t (.clockStep n) h .badField .none (if_pos hout)
  · have hin : ¬(n < -86400 ∨ 86400 < n) := by omega
    have hinvalid : (!(s.tagTaken l t).clock.valid) = true := by simp [hv]
    exact request_answers s l t (.clockStep n) h .clockInvalid .none ((if_neg hin).trans (if_pos hinvalid))
  · intro sum v clamped u
    have hin : ¬(n < -86400 ∨ 86400 < n) := by omega
    have hvalid : ¬(!(s.tagTaken l t).clock.valid) = true := by simp [hv]
    have hstepped : s.clock.stepped n = (v, clamped) := s.clock.stepped_eq n
    have hhandle : (s.tagTaken l t).handle (s.replyTo l t (.clockStep n)) (.clockStep n) =
        ((s.tagTaken l t).clockSet { s.clock with now := v } (.clockChanged .step s.clock.now v)).testClose.respond
          (s.replyTo l t (.clockStep n)) .done (.clockStepped v clamped) := by
      refine ((if_neg hin).trans (if_neg hvalid)).trans ?_
      rw [State.tagTaken_clock, hstepped]
      rfl
    have hset := request_setsClock s l t (.clockStep n) h { s.clock with now := v } (.clockChanged .step s.clock.now v) (.clockStepped v clamped) hhandle
    have htarget := s.cat.target.reached_valid { s.clock with now := v } hv
    exact ⟨fun hn => hset.1 (htarget.1 hn), fun hset' hsec => hset.2 (htarget.2 hset' hsec)⟩

end Sys2Proof.Machine
end

section
/-!
PROOFS. The trims of the clock and the settings write of a base trim (R27, R28, R35, R159), and the close target set (R37).
-/
namespace Sys2Proof.Machine
set_option Elab.async false

/-! ## CLOCK_TRIM -/

/-- What the controller knows of the settings record: the stored one, where the memory answered at power-on. -/
theorem Settings.known_stored (x : Settings) (r : SettingsRec) (ha : x.answered = true) (hr : x.stored = some r) : x.known = some r :=
  (if_pos ha).trans hr

/-- Of a blank memory, or one that did not answer, the controller knows no record. -/
theorem Settings.known_none (x : Settings) (h : x.answered = false ∨ x.stored = none) : x.known = none := by
  unfold Settings.known
  rcases h with h | h
  · simp [h]
  · simp [h]

/-- The record of a change in force already, where a stored record is known. -/
theorem State.settingsRecord_known (s : State) (r : SettingsRec) (h : s.settings.known = some r) :
    s.settingsRecord .inForce = { rights := s.rights, enables := r.enables, drives := r.drives, trim := s.clock.base } := by
  simp [State.settingsRecord, h]

/-- The record of a change in force already, where none is known. -/
theorem State.settingsRecord_unknown (s : State) (h : s.settings.known = none) :
    s.settingsRecord .inForce =
      { rights := s.rights, enables := ⟨s.lines.a1.enabled, s.lines.a2.enabled, s.lines.a3.enabled, s.lines.a4.enabled⟩,
        drives := s.settings.drives, trim := s.clock.base } := by
  simp [State.settingsRecord, h]

theorem State.askWrite_agenda (s : State) (c : SettingsChange) (r : Reply) : (s.askWrite c r).agenda = s.agenda := by
  unfold State.askWrite State.beginWrite
  split <;> rfl

theorem Clock.setBase_base (c : Clock) (n : Int) : (c.setBase n).base = n := by
  unfold Clock.setBase Clock.retrim
  split <;> rfl

/-- A base trim taken: it is in force, and its request's tag is in use (R35). -/
def State.baseTrimmed (s : State) (l : Link) (t : Nat) (n : Int) : State := { s.tagTaken l t with clock := s.clock.setBase n }

/-- The record of the write it asks for, where a stored record is known (R159). -/
theorem State.baseTrimmed_record_known (s : State) (l : Link) (t : Nat) (n : Int) (r : SettingsRec) (h : s.settings.known = some r) :
    (s.baseTrimmed l t n).settingsRecord .inForce = { rights := s.rights, enables := r.enables, drives := r.drives, trim := n } := by
  rw [State.settingsRecord_known (s.baseTrimmed l t n) r h]
  exact congrArg (SettingsRec.mk s.rights r.enables r.drives) (s.clock.setBase_base n)

/-- The record of the write it asks for, where none is known (R159). -/
theorem State.baseTrimmed_record_unknown (s : State) (l : Link) (t : Nat) (n : Int) (h : s.settings.known = none) :
    (s.baseTrimmed l t n).settingsRecord .inForce =
      { rights := s.rights, enables := ⟨s.lines.a1.enabled, s.lines.a2.enabled, s.lines.a3.enabled, s.lines.a4.enabled⟩,
        drives := s.settings.drives, trim := n } := by
  rw [State.settingsRecord_unknown (s.baseTrimmed l t n) h]
  exact congrArg (SettingsRec.mk s.rights _ s.settings.drives) (s.clock.setBase_base n)

/-- A base trim in range: a settings write is asked for (R35). -/
theorem request_base (s : State) (l : Link) (t : Nat) (n : Int) (h : s.Takes l t (.clockTrim (.base n))) (hn : trimOk n = true) :
    exec (.clockTrimBase l t n) s =
      .next ((s.baseTrimmed l t n).askWrite .inForce (s.replyTo l t (.clockTrim (.base n)))) := by
  have hhandle : (s.tagTaken l t).handle (s.replyTo l t (.clockTrim (.base n))) (.clockTrim (.base n)) =
      (s.baseTrimmed l t n).askWrite .inForce (s.replyTo l t (.clockTrim (.base n))) := if_pos hn
  show request l t _ s = _
  rw [request_takes s l t _ h, hhandle]
  exact done_nil _ ((State.askWrite_agenda _ _ _).trans h.1.1.2.1)

/-- A trim request that changes the clock alone, and answers DONE. -/
theorem request_trims (s : State) (l : Link) (t : Nat) (f : TrimForm) (h : s.Takes l t (.clockTrim f)) (c : Clock)
    (hq : handleClockTrim (s.tagTaken l t) (s.replyTo l t (.clockTrim f)) f =
      State.answer { s.tagTaken l t with clock := c } (s.replyTo l t (.clockTrim f)) .done) :
    request l t (.clockTrim f) s = .next (State.answered { s with clock := c } l t 0x24 .done .none) :=
  request_changes s { s with clock := c } l t (.clockTrim f) h .done .none rfl h.1.1.2.1 hq

/-- A trim request refused. -/
theorem request_trim_bad (s : State) (l : Link) (t : Nat) (f : TrimForm) (h : s.Takes l t (.clockTrim f))
    (hq : handleClockTrim (s.tagTaken l t) (s.replyTo l t (.clockTrim f)) f = (s.tagTaken l t).answer (s.replyTo l t (.clockTrim f)) .badField) :
    request l t (.clockTrim f) s = .next (s.answered l t 0x24 .badField .none) :=
  request_answers s l t (.clockTrim f) h .badField .none hq

theorem trimOk_of (n : Int) (hlow : -200 ≤ n) (hhigh : n ≤ 200) : trimOk n = true := (trimOk_iff n).mpr ⟨hlow, hhigh⟩

theorem not_trimOk (n : Int) (h : n < -200 ∨ 200 < n) : ¬trimOk n = true := by
  rw [trimOk_iff]
  omega

/-- A form byte that names no form (R35, R197). -/
theorem trimForm_other (f : Nat) (h : f ≠ 3) : trimForm f = .other f := if_neg h

/-! ## CLOSE_TARGET_SET -/

/-- A close target's mode, value and target are refused together, in the words of R37. -/
theorem State.closeTargetBad_iff (s : State) (g : Nat) (m : CloseMode) (v : Nat) :
    s.closeTargetBad g m v = true ↔
      (m = .add ∧ (v < 1 ∨ 604800 < v)) ∨ (s.clock.valid = true ∧ g ≠ 0 ∧ g ≤ s.clock.now.sec) := by
  simp [State.closeTargetBad, and_assoc]

/-- CLOSE_TARGET_SET of a mode that is none (R37). -/
theorem handleCloseTargetSet_undefined (s : State) (r : Reply) (g m v : Nat) (h : m ≠ 1 ∧ m ≠ 2) :
    handleCloseTargetSet s r g m v = s.answer r .badField := by
  have hm : closeMode? m = none := by
    obtain ⟨hadd, hreload⟩ := h
    unfold closeMode?
    split
    · exact absurd rfl hadd
    · exact absurd rfl hreload
    · rfl
  simp only [handleCloseTargetSet, hm]

/-- CLOSE_TARGET_SET of a mode (R37). -/
theorem handleCloseTargetSet_mode (s : State) (r : Reply) (g m v : Nat) (mode : CloseMode) (h : closeMode? m = some mode) :
    handleCloseTargetSet s r g m v =
      if s.closeTargetBad g mode v then s.answer r .badField
      else State.answer { s with cat := { s.cat with target := { target := g, mode := mode, value := v } } } r .done := by
  simp only [handleCloseTargetSet, h]
  rfl

/-- CLOSE_TARGET_SET of a mode, on a free lane: refused, or the target stored. -/
theorem request_closeTargetSet (s : State) (l : Link) (t g m v : Nat) (h : s.Takes l t (.closeTargetSet g m v)) (mode : CloseMode)
    (hm : closeMode? m = some mode) :
    (s.closeTargetBad g mode v = true → request l t (.closeTargetSet g m v) s = .next (s.answered l t 0x25 .badField .none)) ∧
    (¬s.closeTargetBad g mode v = true → request l t (.closeTargetSet g m v) s =
      .next (State.answered { s with cat := { s.cat with target := { target := g, mode := mode, value := v } } } l t 0x25 .done .none)) := by
  have hhandle := handleCloseTargetSet_mode (s.tagTaken l t) (s.replyTo l t (.closeTargetSet g m v)) g m v mode hm
  refine ⟨fun hbad => ?_, fun hgood => ?_⟩
  · exact request_answers s l t (.closeTargetSet g m v) h .badField .none (hhandle.trans (if_pos hbad))
  · exact request_changes s _ l t (.closeTargetSet g m v) h .done .none rfl h.1.1.2.1 (hhandle.trans (if_neg hgood))

/-- Settles O25. A base trim by what is known of the settings memory and whether a write runs; the other forms and the close target by the tests of
their operands. -/
theorem trimAndCloseTargetSet : Obligations.TrimAndCloseTargetSet := by
  refine ⟨fun l t s => ?_, fun l t g m v s h => ?_⟩
  · intro eff cleared
    refine ⟨fun n h => ⟨fun hlow hhigh => ?_, fun hout => ?_⟩, fun n d h => ⟨fun hlow hhigh hd hd' => ?_, fun hout => ?_⟩, fun h => ?_,
      fun f h hf => ?_⟩
    · have hexec := request_base s l t n h (trimOk_of n hlow hhigh)
      intro reply answers
      refine ⟨fun hidle hwait => ?_, fun hbusy => ?_⟩
      · have hbegins := State.askWrite_begins (s.baseTrimmed l t n) .inForce reply hidle hwait
        intro writes
        refine ⟨fun r ha hr => ?_, fun hblank => ?_⟩
        · rw [s.baseTrimmed_record_known l t n r (s.settings.known_stored r ha hr)] at hbegins
          exact hexec.trans (congrArg _ hbegins)
        · rw [s.baseTrimmed_record_unknown l t n (s.settings.known_none hblank)] at hbegins
          exact hexec.trans (congrArg _ hbegins)
      · exact hexec.trans (congrArg _ (State.askWrite_waits (s.baseTrimmed l t n) .inForce reply hbusy))
    · exact request_trim_bad s l t (.base n) h (if_neg (not_trimOk n hout))
    · have hok : (trimOk n && decide (1 ≤ d) && decide (d ≤ 65535)) = true := by simp [trimOk_of n hlow hhigh, hd, hd']
      exact request_trims s l t (.temporary n d) h (s.clock.setTemp n d) (if_pos hok)
    · have hbad : ¬(trimOk n && decide (1 ≤ d) && decide (d ≤ 65535)) = true := by
        simp only [Bool.and_eq_true, decide_eq_true_eq]
        rintro ⟨⟨hn, hd⟩, -⟩
        rw [trimOk_iff] at hn
        omega
      exact request_trim_bad s l t (.temporary n d) h (if_neg hbad)
    · exact request_trims s l t .stop h s.clock.endTemp rfl
    · show request l t (.clockTrim (trimForm f)) s = _
      rw [trimForm_other f hf]
      exact request_trim_bad s l t (.other f) h rfl
  · intro bad
    by_cases hundef : m ≠ 1 ∧ m ≠ 2
    · have hbad : bad := .inl hundef
      exact ⟨fun _ => request_answers s l t (.closeTargetSet g m v) h .badField .none (handleCloseTargetSet_undefined _ _ g m v hundef),
        fun hgood => absurd hbad hgood⟩
    · have hmode : m = 1 ∨ m = 2 := by omega
      rcases hmode with rfl | rfl
      · obtain ⟨hrefused, hstored⟩ := request_closeTargetSet s l t g 1 v h .add rfl
        have hbad : bad ↔ s.closeTargetBad g .add v = true := by simp [bad, State.closeTargetBad_iff]
        rw [hbad]
        exact ⟨hrefused, hstored⟩
      · obtain ⟨hrefused, hstored⟩ := request_closeTargetSet s l t g 2 v h .reload rfl
        have hbad : bad ↔ s.closeTargetBad g .reload v = true := by simp [bad, State.closeTargetBad_iff]
        rw [hbad]
        exact ⟨hrefused, hstored⟩

end Sys2Proof.Machine
end

section
/-!
PROOFS. Stamp issue, LODGE, and the lodgement lines (R40 to R49).
-/
namespace Sys2Proof.Machine
set_option Elab.async false

/-! ## The tests of an issue -/

/-- The stamp an issue would carry: the later of the clock reading and the last stamp plus 1 ms, where there is one (R40). -/
theorem State.formStamp_eq (s : State) (hm : s.clock.now.ms ≤ 999) :
    let last := s.cat.lastStamp.sec * 1000 + s.cat.lastStamp.ms
    let ms := max (s.clock.now.sec * 1000 + s.clock.now.ms) (last + 1)
    (4294967295999 ≤ last → s.formStamp = none) ∧
    (last < 4294967295999 → s.formStamp = some ⟨ms / 1000, ms % 1000⟩) := by
  intro last ms
  have htop : topStamp.toMs = 4294967295999 := rfl
  have hlast : s.cat.lastStamp.toMs = last := rfl
  refine ⟨fun hfull => if_pos (by rw [htop, hlast]; exact hfull), fun hroom => ?_⟩
  have hnow : s.clock.now.toMs = s.clock.now.sec * 1000 + s.clock.now.ms := rfl
  have hnext : Stamp.plusMs s.cat.lastStamp 1 = ⟨(last + 1) / 1000, (last + 1) % 1000⟩ := by
    rw [Stamp.plusMs_eq]
    have hmin : min (s.cat.lastStamp.sec * 1000 + s.cat.lastStamp.ms + 1) 4294967295999 = last + 1 := by omega
    rw [hmin]
  have hnextMs : Stamp.toMs ⟨(last + 1) / 1000, (last + 1) % 1000⟩ = last + 1 := by
    show (last + 1) / 1000 * 1000 + (last + 1) % 1000 = last + 1
    omega
  unfold State.formStamp
  rw [if_neg (by rw [htop, hlast]; omega), hnext]
  dsimp only
  rw [hnextMs, hnow]
  by_cases hlate : last + 1 ≤ s.clock.now.sec * 1000 + s.clock.now.ms
  · have hms : ms = s.clock.now.sec * 1000 + s.clock.now.ms := Nat.max_eq_left hlate
    have hsec : ms / 1000 = s.clock.now.sec := by omega
    have hmod : ms % 1000 = s.clock.now.ms := by omega
    rw [if_pos hlate, hsec, hmod]
  · have hms : ms = last + 1 := Nat.max_eq_right (by omega)
    rw [if_neg hlate, hms]

/-- The number that goes with a stamp (R41). -/
theorem State.formNumber_eq (s : State) (t : Stamp) :
    s.formNumber t = ⟨t.sec / 86400, match s.cat.lastNumber with | some n => if n.day = t.sec / 86400 then n.seq + 1 else 1 | none => 1⟩ := by
  have hday : Config.secondsPerDay = 86400 := rfl
  unfold State.formNumber
  rw [hday]
  cases s.cat.lastNumber with
  | none => rfl
  | some n =>
    by_cases h : n.day = t.sec / 86400
    · simp [h]
    · simp [h]

/-- Where no later stamp exists, the day is full (R42). -/
theorem State.issueTest_none {s : State} (hv : s.clock.valid = true) (ha : s.absentMode = false) (hr : s.cat.table.length < 131072)
    (hf : s.formStamp = none) : s.issueTest = .error .dayFull := by
  have hroom : ¬Config.maxEntries ≤ s.cat.table.length := Nat.not_le.mpr hr
  simp [State.issueTest, hv, ha, hroom, hf]

/-- Where a later stamp exists, its number decides (R42). -/
theorem State.issueTest_some {s : State} {t : Stamp} (hv : s.clock.valid = true) (ha : s.absentMode = false) (hr : s.cat.table.length < 131072)
    (hf : s.formStamp = some t) :
    s.issueTest = if 9999 < (s.formNumber t).seq then .error .dayFull else .ok (s.formNumber t, t) := by
  have hroom : ¬Config.maxEntries ≤ s.cat.table.length := Nat.not_le.mpr hr
  have hseq : Config.maxSeq = 9999 := rfl
  simp [State.issueTest, hv, ha, hroom, hf, hseq]

/-- The tests of an issue in order, and the number and stamp of one that passes (R40 to R42). -/
theorem State.issueTest_eq (s : State) (hm : s.clock.now.ms ≤ 999) (hv : s.clock.valid = true) (ha : s.absentMode = false)
    (hr : s.cat.table.length < 131072) :
    let last := s.cat.lastStamp.sec * 1000 + s.cat.lastStamp.ms
    let ms := max (s.clock.now.sec * 1000 + s.clock.now.ms) (last + 1)
    let day := ms / 1000 / 86400
    let seq := match s.cat.lastNumber with | some n => if n.day = day then n.seq + 1 else 1 | none => 1
    (4294967295999 ≤ last → s.issueTest = .error .dayFull) ∧
    (last < 4294967295999 → 9999 < seq → s.issueTest = .error .dayFull) ∧
    (last < 4294967295999 → seq ≤ 9999 → s.issueTest = .ok (⟨day, seq⟩, ⟨ms / 1000, ms % 1000⟩)) := by
  intro last ms day seq
  obtain ⟨hnone, hsome⟩ := s.formStamp_eq hm
  have hnumber : s.formNumber ⟨ms / 1000, ms % 1000⟩ = ⟨day, seq⟩ := s.formNumber_eq _
  refine ⟨fun hfull => State.issueTest_none hv ha hr (hnone hfull), fun hroom hseq => ?_, fun hroom hseq => ?_⟩
  · rw [State.issueTest_some hv ha hr (hsome hroom), hnumber]
    exact if_pos hseq
  · rw [State.issueTest_some hv ha hr (hsome hroom), hnumber]
    exact if_neg (Nat.not_lt.mpr hseq)

/-! ## What an issue changes -/

/-- An issue posts CATALOGUE_LOW where few entries are free (R6). -/
theorem State.postLow_eq (s : State) :
    s.postLow = if 131072 - s.cat.table.length ≤ 4096 then s.post (.catalogueLow (131072 - s.cat.table.length)) else s := rfl

theorem State.issue_eq (s : State) (n : InstrNum) (t : Stamp) (src : Source) :
    let e : Entry := { num := n, state := .lodged, stamp := t, source := src, restricted := false, successor := none, claim := none, copies := 0 }
    let table := insertKeyed Entry.key e s.cat.table
    let s' := State.post { s with cat := { s.cat with table := table, storedCount := s.cat.storedCount + 1, lastStamp := t, lastNumber := some n } }
      (.stampIssued n t src)
    s.issue n t src = if 131072 - table.length ≤ 4096 then s'.post (.catalogueLow (131072 - table.length)) else s' := by
  intro e table s'
  have htable : s'.cat.table = table := by
    rw [State.post_cat]
  have hissue : s.issue n t src = s'.postLow := rfl
  rw [hissue, State.postLow_eq, htable]

/-! ## LODGE -/

/-- A stamp issue and taking a tag do not meet. -/
theorem State.issue_tagTaken (s : State) (l : Link) (t : Nat) (n : InstrNum) (v : Stamp) (src : Source) :
    (s.tagTaken l t).issue n v src = (s.issue n v src).tagTaken l t := by
  have hpost : (((s.tagTaken l t).modCat (fun c => c.addLodged n v src)).post (.stampIssued n v src)) =
      ((s.modCat (fun c => c.addLodged n v src)).post (.stampIssued n v src)).tagTaken l t :=
    State.post_tagTaken (s.modCat (fun c => c.addLodged n v src)) l t _
  unfold State.issue
  rw [hpost, State.postLow_tagTaken]

theorem State.replyTo_issue (s : State) (n : InstrNum) (v : Stamp) (src : Source) (l : Link) (t : Nat) (q : Request) :
    (s.issue n v src).replyTo l t q = s.replyTo l t q :=
  (State.replyTo_postLow _ l t q).trans (State.replyTo_post (s.modCat (fun c => c.addLodged n v src)) _ l t q)

theorem handleLodge_error (s : State) (r : Reply) (st : Status) (h : s.issueTest = .error st) : handleLodge s r = s.answer r st := by
  simp only [handleLodge, h]

theorem handleLodge_ok (s : State) (r : Reply) (n : InstrNum) (v : Stamp) (h : s.issueTest = .ok (n, v)) :
    handleLodge s r = (s.issue n v (.link r.link)).respond r .done (.stamped n v) := by
  simp only [handleLodge, h]

/-- Settles O26: the tests by the stamp they form, the change written out, and LODGE by what the tests answer. -/
theorem lodgementIssuesStamp : Obligations.LodgementIssuesStamp := by
  refine ⟨fun s hm hlm => ⟨fun hv => ?_, fun hv ha => ?_, fun hv ha hf => ?_, fun hv ha hr => s.issueTest_eq hm hv ha hr⟩, State.issue_eq,
    fun l t s h => ?_⟩
  · simp [State.issueTest, hv]
  · simp [State.issueTest, hv, ha]
  · have hfull : Config.maxEntries ≤ s.cat.table.length := hf
    simp [State.issueTest, hv, ha, hfull]
  · have htest : (s.tagTaken l t).issueTest = s.issueTest := s.issueTest_congr _ rfl rfl rfl
    refine ⟨fun st hst => ?_, fun n v hok => ?_⟩
    · exact request_answers s l t .lodge h st .none (handleLodge_error _ _ st (htest.trans hst))
    · refine request_changes_of_reply s (s.issue n v (.link l)) l t .lodge h .done (.stamped n v) (s.replyTo_issue ..)
        ((s.issue_agenda ..).trans h.1.1.2.1) ?_
      rw [← State.issue_tagTaken]
      exact handleLodge_ok _ _ n v (htest.trans hok)

/-! ## Presses -/

/-- Presses hand no work over. -/
theorem State.takePress_agenda (s : State) (q : LineNo) : (s.takePress q).agenda = s.agenda := by
  unfold State.takePress
  split
  · exact State.post_agenda _ _
  · exact s.issue_agenda _ _ _

theorem State.pressInput_agenda (s : State) (q : LineNo) : (s.pressInput q).agenda = s.agenda := by
  unfold State.pressInput
  split
  · exact State.takePress_agenda _ q
  · rfl

theorem State.modLine_modLine (s : State) (q : LineNo) (f g : Line → Line) : (s.modLine q f).modLine q g = s.modLine q (fun k => g (f k)) := by
  cases q <;> rfl

theorem State.modLine_congr (s : State) (q : LineNo) (f g : Line → Line) (h : f (s.lines.get q) = g (s.lines.get q)) :
    s.modLine q f = s.modLine q g := by
  simp [State.modLine, h]

/-- A press refused, with the input now active (R45, R46). -/
theorem State.refusePress_active (s : State) (q : LineNo) (why : RefuseReason) :
    (s.modLine q (fun r => { r with pressed := true })).refusePress q why =
      (s.modLine q (fun r => { r with pressed := true, lamp := true })).post (.stampRefused q why) := by
  unfold State.refusePress
  rw [State.modLine_modLine]

/-- With a record joining the queue, a line is offered its head where accept is negated (R47). -/
theorem Line.offer_joined (k : Line) (r : PrintRec) :
    Line.offer { k with queue := k.queue ++ [r], lamp := false } =
      { k with queue := k.queue ++ [r], lamp := false, offered := k.offered || !k.accept } := by
  obtain ⟨enabled, queue, lamp, offered, pressed, accept⟩ := k
  cases offered <;> cases accept <;> simp [Line.offer]

/-- With accept negated, a line that holds a record is offered its head (R47). -/
theorem Line.offer_negated (k : Line) :
    Line.offer { k with accept := false } = { k with accept := false, offered := k.offered || !k.queue.isEmpty } := by
  obtain ⟨enabled, queue, lamp, offered, pressed, accept⟩ := k
  cases offered <;> cases queue <;> simp [Line.offer]

/-- A command of the lodgement lines that changes its line alone. -/
theorem done_modLine (s : State) (q : LineNo) (f : Line → Line) (ha : s.agenda = []) : done (s.modLine q f) = .next (s.modLine q f) :=
  done_nil _ ha

/-- Settles O27: a press by its edge, the queue and the tests of an issue; the printer by what its line holds. -/
theorem pressAsksForStamp : Obligations.PressAsksForStamp := by
  refine ⟨fun q s ha => ?_, fun q s ha => done_modLine s q _ ha, fun q s ha => ?_⟩
  · have hexec : exec (.press q) s = .next (s.pressInput q) := done_nil _ ((s.pressInput_agenda q).trans ha)
    intro k hold
    refine ⟨fun hnone => ?_, fun hlevel henabled hrunning => ?_⟩
    · have hedge : ¬s.pressEdge q = true := by
        simp only [State.pressEdge, Bool.and_eq_true, Bool.not_eq_true', beq_iff_eq]
        rintro ⟨⟨hlevel, henabled⟩, hrunning⟩
        rcases hnone with h | h | h
        · exact absurd (h.symm.trans hlevel) nofun
        · exact absurd (h.symm.trans henabled) nofun
        · exact h hrunning
      refine hexec.trans (congrArg _ ?_)
      exact if_neg hedge
    · have hedge : s.pressEdge q = true := by
        simp only [State.pressEdge, Bool.and_eq_true, Bool.not_eq_true', beq_iff_eq]
        exact ⟨⟨hlevel, henabled⟩, hrunning⟩
      have htake : exec (.press q) s = .next ((s.modLine q (fun r => { r with pressed := true })).takePress q) :=
        hexec.trans (congrArg _ (if_pos hedge))
      have hqueue : ((s.modLine q (fun r => { r with pressed := true })).lines.get q).queue = k.queue := by simp [k]
      have htest : (s.modLine q (fun r => { r with pressed := true })).issueTest = s.issueTest := s.issueTest_congr _ rfl rfl rfl
      refine ⟨fun hfull => ?_, fun hroom => ⟨fun st hst => ?_, fun n v hok => ?_⟩⟩
      · rw [htake, State.takePress_full _ q (hqueue ▸ hfull), State.refusePress_active]
      · rw [htake, State.takePress_error _ q st (hqueue ▸ hroom) (htest.trans hst), State.refusePress_active]
      · rw [htake, State.takePress_ok _ q (n, v) (hqueue ▸ hroom) (htest.trans hok)]
        exact congrArg _ (State.modLine_congr _ q _ _ (Line.offer_joined _ _))
  · intro k
    refine ⟨fun ho hacc => ?_, fun hn => ?_, ?_⟩
    · refine (done_modLine s q _ ha).trans (congrArg _ (s.modLine_congr q _ _ ?_))
      have htakes : ((s.lines.get q).offered && !(s.lines.get q).accept) = true := by
        rw [show (s.lines.get q).offered = true from ho, show (s.lines.get q).accept = false from hacc]
        rfl
      exact if_pos htakes
    · refine (done_modLine s q _ ha).trans (congrArg _ (s.modLine_congr q _ _ ?_))
      have hignored : ¬((s.lines.get q).offered && !(s.lines.get q).accept) = true := by
        simp only [Bool.and_eq_true, Bool.not_eq_true']
        rintro ⟨ho, hacc⟩
        rcases hn with h | h
        · exact absurd (h.symm.trans ho) nofun
        · exact absurd (h.symm.trans hacc) nofun
      exact if_neg hignored
    · exact (done_modLine s q _ ha).trans (congrArg _ (s.modLine_congr q _ _ (Line.offer_negated _)))

end Sys2Proof.Machine
end

section
/-!
PROOFS. A power failure, and what the update record holds of the change it struck (R20, R22, R25, R26, R45, R49, R99, R174).
-/
namespace Sys2Proof.Machine
set_option Elab.async false

/-! ## The failure -/

theorem State.powerFail_powered (s : State) (c : PowerCut) (h : s.power ≠ .off) : (s.powerFail c).agenda = [] ∧ (s.powerFail c).update = s.cutRecord c := by
  rw [State.powerFail, if_neg h]
  exact ⟨rfl, rfl⟩

/-- A powered controller is stopped, whatever work it had. -/
theorem exec_powerFail (s : State) (c : PowerCut) (h : s.power ≠ .off) : exec (.powerFail c) s = .next (s.powerFail c) :=
  done_nil _ (s.powerFail_powered c h).1

/-- The record of a change holds catalogue memory as the command that makes the change leaves it. -/
theorem records_of {s : State} {change : UpdateChange} {i : Instr} {u : State} (h : s.power ≠ .off) (hexec : exec i s = .next u)
    (hcat : s.imageOf change = u.cat) :
    ∃ t u, exec (.powerFail (.complete change)) s = .next t ∧ exec i s = .next u ∧ t.update = .complete u.cat :=
  ⟨_, u, exec_powerFail s _ h, hexec, by rw [(s.powerFail_powered _ h).2, State.cutRecord, hcat]⟩

/-! ## Stamps and restored records -/

theorem State.cat_of_books {s t : State} (h : s.books = t.books) : s.cat = t.cat := congrArg Books.cat h

theorem State.issue_cat (s : State) (n : InstrNum) (v : Stamp) (src : Source) : (s.issue n v src).cat = s.cat.addLodged n v src := by
  have h : (s.issue n v src).books = (s.modCat (fun c => c.addLodged n v src)).books := by simp [State.issue]
  exact State.cat_of_books h

theorem State.takePress_cat_error {s : State} {q : LineNo} {why : RefuseReason} (h : s.pressTest q = .error why) : (s.takePress q).cat = s.cat := by
  have hbooks : (s.takePress q).books = s.books := by simp [State.takePress, h, State.refusePress]
  exact State.cat_of_books hbooks

theorem State.takePress_cat_ok {s : State} {q : LineNo} {v : InstrNum × Stamp} (h : s.pressTest q = .ok v) :
    (s.takePress q).cat = s.cat.addLodged v.1 v.2 (.line q) := by
  have hcat : (s.takePress q).cat = (s.issue v.1 v.2 (.line q)).cat := by
    simp only [State.takePress, h]
    rfl
  exact hcat.trans (s.issue_cat v.1 v.2 (.line q))

/-- A press leaves catalogue memory with the entry of the stamp it is given, or as it is (R45). -/
theorem State.pressInput_cat (s : State) (q : LineNo) (l : Link) : s.imageOf (.createFor (some q) l) = (s.pressInput q).cat := by
  have htest : (s.modLine q (fun k => { k with pressed := true })).pressTest q = s.pressTest q := by
    have hissue : (s.modLine q (fun k => { k with pressed := true })).issueTest = s.issueTest := s.issueTest_congr _ rfl rfl rfl
    simp [State.pressTest, hissue]
  unfold State.pressInput
  by_cases hedge : s.pressEdge q = true
  · rw [if_pos hedge]
    cases hp : s.pressTest q with
    | error why =>
      rw [State.takePress_cat_error (htest.trans hp)]
      simp only [State.imageOf, hp]
      rfl
    | ok v =>
      rw [State.takePress_cat_ok (htest.trans hp)]
      simp only [State.imageOf, hp, hedge, if_true]
      rfl
  · rw [if_neg hedge]
    simp only [State.imageOf, hedge]
    cases s.pressTest q <;> rfl

theorem exec_press (s : State) (q : LineNo) (ha : s.agenda = []) : exec (.press q) s = .next (s.pressInput q) :=
  done_nil _ ((s.pressInput_agenda q).trans ha)

/-- A request that comes to its unit finds the controller powered. -/
theorem State.Takes.powered {s : State} {l : Link} {t : Nat} {q : Request} (h : s.Takes l t q) : s.power ≠ .off := by
  obtain ⟨⟨⟨hrunning, -⟩, -⟩, -⟩ := h
  rw [hrunning]
  exact nofun

/-- LODGE's record: the stamp is issued where the tests pass (R49). -/
theorem records_lodge (s : State) (l : Link) (t : Nat) (h : s.Takes l t .lodge) :
    ∃ w u, exec (.powerFail (.complete (.createFor none l))) s = .next w ∧ exec (.lodge l t) s = .next u ∧ w.update = .complete u.cat := by
  obtain ⟨-, -, hlodge⟩ := lodgementIssuesStamp
  obtain ⟨hrefused, hissued⟩ := hlodge l t s h
  cases hi : s.issueTest with
  | error st =>
    refine records_of h.powered (hrefused st hi) ?_
    simp only [State.imageOf, hi]
    rfl
  | ok v =>
    refine records_of h.powered (hissued v.1 v.2 hi) ?_
    simp only [State.imageOf, hi, h.couldAsk, if_true]
    exact (State.issue_cat s v.1 v.2 (.link l)).symm

/-- RESTORE's record: the entry is restored where the checks pass (R20). -/
theorem records_restore (s : State) (l : Link) (t : Nat) (p : RestoreParams) (h : s.Takes l t (.restore p)) :
    ∃ w u, exec (.powerFail (.complete (.restore p))) s = .next w ∧ exec (.restore l t p) s = .next u ∧ w.update = .complete u.cat := by
  have hany : Link.all.any (fun k => s.couldAsk k (.restore p)) = true := List.any_eq_true.mpr ⟨l, by cases l <;> simp [Link.all], h.couldAsk⟩
  cases hr : s.restoreTest p with
  | error st =>
    refine records_of h.powered (restore_refused h hr) ?_
    simp only [State.imageOf, hr]
    rfl
  | ok v =>
    refine records_of h.powered (restore_inserts h hr rfl) ?_
    simp only [State.imageOf, hr, hany, if_true]
    exact (State.cat_of_books (State.postLow_books (s.modCat (fun c => c.restored p v)))).symm

/-! ## The last block of a FETCH -/

/-- The operation of a tag has come to its last item, if it is there. -/
def State.AtEnd (s : State) (l : Link) (t : Nat) : Prop := ∀ o, s.op? l t = some o → o.items.length ≤ o.current

/-- Nothing stands behind its last item, so that its operation's next turn hands nothing over. -/
theorem State.nextTurn_agenda {s : State} {l : Link} {t : Nat} (h : s.AtEnd l t) : (s.nextTurn l t).agenda = s.agenda := by
  unfold State.nextTurn
  split
  · rfl
  · rename_i o ho
    have hrest : o.items.length - o.current = 0 := Nat.sub_eq_zero_of_le (h o ho)
    have hrespond : ∀ (s : State) (y : Reply) (st : Status) (b : Body), (s.respond y st b).agenda = s.agenda := by
      intro s y st b
      unfold State.respond
      split <;> rfl
    simp only [hrest, List.range'_zero, List.find?_nil]
    (repeat' split) <;> simp only [hrespond]

theorem State.outTake_agenda (s : State) (l : Link) : (s.outTake l).agenda = s.agenda := by
  unfold State.outTake
  (repeat' split) <;> rfl

/-- A change of an item is no change of how far its operation has come. -/
theorem State.AtEnd.modItem {s : State} {l : Link} {t : Nat} (h : s.AtEnd l t) (r : ItemRef) (f : Item → Item) : (s.modItem r f).AtEnd l t := by
  intro o ho
  have hkey : ∀ p : Op, (if p.reply.link = r.link ∧ p.reply.tag = r.tag then { p with items := p.items.modify (r.pos - 1) f } else p).reply = p.reply := by
    intro p
    split <;> rfl
  simp only [State.modItem, State.modOp, State.op?, List.find?_map, Function.comp_def, hkey] at ho
  obtain ⟨p, hp, rfl⟩ := Option.map_eq_some_iff.mp ho
  have hlen := h p hp
  split
  · simpa using hlen
  · exact hlen

theorem State.AtEnd.outTake {s : State} {l : Link} {t : Nat} (h : s.AtEnd l t) (k : Link) : (s.outTake k).AtEnd l t := by
  unfold State.outTake
  split
  · exact h
  · split
    · exact h
    · split
      · exact h
      · exact State.AtEnd.modItem (s := { s with outChans := _ }) h _ _

theorem State.spaceTry_nil (s : State) (h : s.spaceFifo = []) : s.spaceTry = s := by
  simp [State.spaceTry, h]

/-- The work the last item of an operation hands over when it ends leaves catalogue memory alone. -/
theorem State.settle_ended_cat {s : State} {l : Link} {t : Nat} (ha : s.agenda = []) (hend : s.AtEnd l t) (n : Nat) :
    (State.settleFor (n + 3) (s.later [.outTake l, .nextTurn l t])).cat = s.cat := by
  have hout : (s.outTake l).agenda = [] := (s.outTake_agenda l).trans ha
  have hnext : ((s.outTake l).nextTurn l t).agenda = [] := (State.nextTurn_agenda (hend.outTake l)).trans hout
  have hrunOut : State.runTask s (.outTake l) = s.outTake l := rfl
  have hrunNext : State.runTask (s.outTake l) (.nextTurn l t) = (s.outTake l).nextTurn l t := rfl
  rw [State.settleFor_later _ _ _ _ ha, hrunOut, State.settleFor_later _ _ _ _ hout, hrunNext, State.later_nil, State.settleFor_nil _ _ hnext]
  exact State.cat_of_books (by simp)

/-- The same where the staging-waiter FIFO, with nothing in it, is tried first. -/
theorem State.settle_ended_space_cat {s : State} {l : Link} {t : Nat} (ha : s.agenda = []) (hf : s.spaceFifo = []) (hend : s.AtEnd l t) (n : Nat) :
    (State.settleFor (n + 4) (s.later [.spaceTry, .outTake l, .nextTurn l t])).cat = s.cat := by
  have hrun : State.runTask s .spaceTry = s := s.spaceTry_nil hf
  rw [State.settleFor_later _ _ _ _ ha, hrun]
  exact State.settle_ended_cat ha hend n

/-- An item that leaves a segment whose fill has started, with no staging waiter (R101). -/
theorem State.leaveAll_started {s : State} {r : ItemRef} {g : Segment} (hf : s.spaceFifo = []) (hg : s.segmentOf r = some g) (hs : g.started = true) :
    ∃ t : State, s.leaveAll r = t.leaveSegment r g ∧ t.agenda = s.agenda ∧ t.spaceFifo = [] ∧ t.ops = s.ops := by
  have hnone : s.spaceFifo.any (fun w => w.item == r) = false := by simp [hf]
  have hstarted : ¬(g.filler = some r ∧ (!g.started) = true) := by simp [hs]
  refine ⟨if (s.leaveDemands r).serves r then (s.leaveDemands r).idleOut r.link else s.leaveDemands r, ?_, ?_, ?_, ?_⟩
  · have hseg : (if (s.leaveDemands r).serves r then (s.leaveDemands r).idleOut r.link else s.leaveDemands r).segments.find?
        (fun g => g.users.contains r) = some g := by
      split <;> exact hg
    unfold State.leaveAll
    simp only [hnone, Bool.false_eq_true, if_false, hseg, if_neg hstarted]
  · split <;> rfl
  · split <;> exact hf
  · split <;> rfl

/-- What is left when an item leaves a segment: perhaps the staging-waiter FIFO to be tried (R109). -/
theorem State.leaveSegment_eq (s : State) (r : ItemRef) (g : Segment) :
    ∃ t : State, (s.leaveSegment r g = t ∨ s.leaveSegment r g = t.later [.spaceTry]) ∧ t.agenda = s.agenda ∧ t.spaceFifo = s.spaceFifo ∧ t.ops = s.ops := by
  have htouch : ∀ (s : State) (n : InstrNum), (s.touchSegment n).agenda = s.agenda ∧ (s.touchSegment n).spaceFifo = s.spaceFifo ∧
      (s.touchSegment n).ops = s.ops := by
    intro s n
    unfold State.touchSegment
    split <;> exact ⟨rfl, rfl, rfl⟩
  refine ⟨(s.modSegment g.inst (fun h => { h with users := g.users.filter (fun u => u ≠ r) })).touchSegment g.inst, ?_, htouch _ _⟩
  unfold State.leaveSegment
  dsimp only
  split
  · exact .inr rfl
  · exact .inl rfl

/-- Catalogue memory as the end of a delivered item leaves it: a copy accrued and counted (R99, R174). -/
def CatMem.delivered (c : CatMem) (account : Nat) (i : Item) : CatMem :=
  match i.copyDone with
  | some (q, n) => c.copyMade account q n
  | none => c

/-- The end of a delivered item whose segment's fill has started: catalogue memory is as the item's end leaves it, whatever work is settled after. -/
theorem State.settle_itemDone_cat {s : State} {r : ItemRef} {o : Op} {i : Item} {g : Segment} (ha : s.agenda = []) (hi : s.item? r = some (o, i))
    (hend : s.AtEnd r.link r.tag) (hf : s.spaceFifo = []) (hg : s.segmentOf r = some g) (hs : g.started = true) :
    (s.itemDone r).settle.cat = s.cat.delivered o.account i := by
  have key : ∀ v : State, v.agenda = [] → v.AtEnd r.link r.tag → v.spaceFifo = [] → v.segmentOf r = some g →
      (((v.leaveAll r).setPhase r (.ended .done)).later [.outTake r.link, .nextTurn r.link r.tag]).settle.cat = v.cat := by
    intro v hva hvend hvf hvg
    obtain ⟨w, hleave, hwa, hwf, hwo⟩ := State.leaveAll_started hvf hvg hs
    obtain ⟨x, hx, hxa, hxf, hxo⟩ := w.leaveSegment_eq r g
    have hcat : (v.leaveAll r).cat = v.cat := State.cat_of_books (v.leaveAll_books r)
    have hxend : (x.setPhase r (.ended .done)).AtEnd r.link r.tag := by
      refine State.AtEnd.modItem (fun o ho => hvend o ?_) _ _
      rw [State.op?, hxo.trans hwo] at ho
      exact ho
    have hxagenda : (x.setPhase r (.ended .done)).agenda = [] := hxa.trans (hwa.trans hva)
    have hxfifo : (x.setPhase r (.ended .done)).spaceFifo = [] := hxf.trans hwf
    rcases hx with hx | hx
    · rw [hleave, hx] at hcat ⊢
      exact (State.settle_ended_cat hxagenda hxend 4093).trans hcat
    · rw [hleave, hx] at hcat ⊢
      have hlater : ((x.later [.spaceTry]).setPhase r (.ended .done)).later [.outTake r.link, .nextTurn r.link r.tag] =
          (x.setPhase r (.ended .done)).later [.spaceTry, .outTake r.link, .nextTurn r.link r.tag] := State.later_later (x.setPhase r (.ended .done)) _ _
      rw [hlater]
      exact (State.settle_ended_space_cat hxagenda hxfifo hxend 4092).trans hcat
  unfold State.itemDone CatMem.delivered
  rw [hi]
  dsimp only
  cases i.copyDone with
  | none => exact key s ha hend hf hg
  | some c =>
    obtain ⟨q, n⟩ := c
    exact key _ ha (State.AtEnd.modItem (s := s.modCat (fun c => c.copyMade o.account q n)) hend _ _) hf hg

/-- A link's only operation is the one found under its tag. -/
theorem State.op?_sole {s : State} {o : Op} (ho : o ∈ s.ops) (hsole : ∀ p ∈ s.ops, p.reply.link = o.reply.link → p = o) :
    s.op? o.reply.link o.reply.tag = some o := by
  cases hf : s.op? o.reply.link o.reply.tag with
  | none =>
    have hno := List.find?_eq_none.mp hf o ho
    simp at hno
  | some p =>
    have hp : p.reply.link = o.reply.link := by
      have hkey := List.find?_some hf
      simp only [Bool.and_eq_true, beq_iff_eq] at hkey
      exact hkey.1
    rw [hsole p (List.mem_of_find?_eq_some hf) hp]

/-- One block more delivered of an operation's item. -/
theorem State.op?_modItem (s : State) (l : Link) (t n : Nat) (f : Item → Item) :
    (s.modItem ⟨l, t, n⟩ f).op? l t = (s.op? l t).map (fun o => { o with items := o.items.modify (n - 1) f }) := by
  have hkey : ∀ p : Op, (if p.reply.link = l ∧ p.reply.tag = t then { p with items := p.items.modify (n - 1) f } else p).reply = p.reply := by
    intro p
    split <;> rfl
  simp only [State.modItem, State.modOp, State.op?, List.find?_map, Function.comp_def, hkey]
  cases hf : s.ops.find? (fun o => o.reply.link == l && o.reply.tag == t) with
  | none => rfl
  | some o =>
    have hfound := List.find?_some hf
    simp only [Bool.and_eq_true, beq_iff_eq] at hfound
    exact congrArg some (if_pos hfound)

/-- The acceptance of an item's last block is the item's end, with one more block delivered. -/
theorem State.dataAccepted_last {s : State} {l : Link} {f : DataFrame} {r : ItemRef} (hout : (s.links.get l).out = some (.data f))
    (hstate : (s.outChans.get l).chan.state = .paused) (hop : (s.outChans.get l).chan.op = .item r) (hrem : (s.outChans.get l).chan.remaining = 1) :
    ∃ u : State, s.dataAccepted l = (u.modItem r (fun i => { i with delivered := i.delivered + 1 })).itemDone r ∧ u.agenda = s.agenda ∧
      u.cat = s.cat ∧ u.ops = s.ops ∧ u.segments = s.segments ∧ u.spaceFifo = s.spaceFifo := by
  refine ⟨(s.modLink l (fun k => { k with out := none })).modOutChan l (fun c => { c with
    chan := { c.chan with next := c.chan.next + 1, remaining := c.chan.remaining - 1 }, frame := none }), ?_, rfl, rfl, rfl, rfl, rfl⟩
  have hlast : (s.outChans.get l).chan.remaining ≤ 1 := Nat.le_of_eq hrem
  unfold State.dataAccepted
  simp only [hout, hstate, hop, if_pos hlast]
  rfl

/-- The last block of a FETCH accepted: catalogue memory has the copy accrued and counted (R97, R99). -/
theorem dataAccepted_last_cat {s : State} {f : DataFrame} {o : Op} {i : Item} {g : Segment} (ha : s.agenda = [])
    (hout : (s.links.get o.reply.link).out = some (.data f)) (ho : s.op? o.reply.link o.reply.tag = some o) (hitems : o.items = [i])
    (hcur : o.current = 1) (hstate : (s.outChans.get o.reply.link).chan.state = .paused)
    (hop : (s.outChans.get o.reply.link).chan.op = .item ⟨o.reply.link, o.reply.tag, 1⟩)
    (hrem : (s.outChans.get o.reply.link).chan.remaining = 1) (hg : s.segmentOf ⟨o.reply.link, o.reply.tag, 1⟩ = some g)
    (hs : g.started = true) (hf : s.spaceFifo = []) :
    (s.dataAccepted o.reply.link).settle.cat = s.cat.delivered o.account i := by
  obtain ⟨u, hu, hua, huc, huo, husegs, huf⟩ := State.dataAccepted_last hout hstate hop hrem
  have huop : u.op? o.reply.link o.reply.tag = some o := by rw [State.op?, huo]; exact ho
  have hmod := u.op?_modItem o.reply.link o.reply.tag 1 (fun i => { i with delivered := i.delivered + 1 })
  rw [huop] at hmod
  have hitem : (u.modItem ⟨o.reply.link, o.reply.tag, 1⟩ (fun i => { i with delivered := i.delivered + 1 })).item? ⟨o.reply.link, o.reply.tag, 1⟩ =
      some ({ o with items := [{ i with delivered := i.delivered + 1 }] }, { i with delivered := i.delivered + 1 }) := by
    simp only [State.item?, hmod, Option.map_some, hitems]
    rfl
  have hend : u.AtEnd o.reply.link o.reply.tag := by
    intro p hp
    obtain rfl := Option.some.inj (huop.symm.trans hp)
    simp [hitems, hcur]
  have hseg : u.segmentOf ⟨o.reply.link, o.reply.tag, 1⟩ = some g := by rw [State.segmentOf, husegs]; exact hg
  have hdone := State.settle_itemDone_cat (s := u.modItem _ _) (hua.trans ha) hitem (hend.modItem _ _) (huf.trans hf) hseg hs
  rw [hu, hdone]
  show u.cat.delivered o.account i = _
  rw [huc]

/-- The record of that acceptance. -/
theorem State.imageOf_accrue {s : State} {o : Op} {i : Item} (ho : s.op? o.reply.link o.reply.tag = some o) (hitems : o.items = [i])
    (hcur : o.current = 1) (hstate : (s.outChans.get o.reply.link).chan.state = .paused)
    (hop : (s.outChans.get o.reply.link).chan.op = .item ⟨o.reply.link, o.reply.tag, 1⟩)
    (hrem : (s.outChans.get o.reply.link).chan.remaining = 1) :
    s.imageOf (.accrue o.reply.link o.reply.tag) = s.cat.delivered o.account i := by
  have hlast : s.atLastBlock ⟨o.reply.link, o.reply.tag, 1⟩ = true := by simp [State.atLastBlock, State.serves, hop, hstate, hrem]
  have hitem : o.items[1 - 1]? = some i := by simp [hitems]
  cases hc : i.copyDone with
  | none => simp only [CatMem.delivered, State.imageOf, ho, hcur, hitem, Option.bind_some, hc]
  | some c => simp only [CatMem.delivered, State.imageOf, ho, hcur, hitem, Option.bind_some, hc, hlast, if_true]

end Sys2Proof.Machine
end

section
/-!
PROOFS. Power-on: what its first phase makes of the memories and finds of the mechanics, and the start of the links (R23, R25, R36, R156, R157).
-/
namespace Sys2Proof.Machine
set_option Elab.async false

/-! ## The mechanics (R157) -/

/-- The drive record of each drive is the one its answer decides. -/
theorem State.startLibrary_drive (s : State) (c : CatMem) (count : Nat) (p : PowerOn) (d : DriveNo) :
    (s.startLibrary c count p).drives.get d = s.startDrive c (decide (d.toNat ≤ count)) d (p.drives.get d) := by
  cases d <;> rfl

/-- An event of the first phase waits for the links, behind those that wait (R156). -/
theorem State.postIf_starting (s : State) (b : Bool) (e : Event) (h : s.power = .starting) :
    (if b then s.post e else s) = { s with startEvents := s.startEvents ++ if b then [e] else [] } := by
  cases b with
  | false => simp
  | true => simp [State.post, h]

/-- Step 6 of Table 7-1, its events after those that wait. -/
theorem State.startMechanics_eq (s : State) (p : PowerOn) (h : s.power = .starting) :
    ∃ last, s.startMechanics p = { s with
      lib := s.startLibrary s.cat s.settings.drives p
      cat := { s.cat with platters := s.cat.platters.map (fun q => { q with
        loc := q.loc.afterPower (fun d => ((s.startLibrary s.cat s.settings.drives p).drives.get d).state == .fault) }) }
      lastFiling := last
      startEvents := s.startEvents ++ (if p.doorOpen then [.door true] else []) ++ (if p.gripperHolds then [.pickerJammed none none] else []) ++
        State.startFaults { s with lib := s.startLibrary s.cat s.settings.drives p } s.settings.drives p.drives } := by
  unfold State.startMechanics
  dsimp only
  rw [State.postIf_starting _ p.doorOpen, State.postIf_starting _ p.gripperHolds]
  · exact ⟨_, rfl⟩
  · exact h
  · exact h

/-! ## The memories (R156) -/

/-- A catalogue found recognised, whose count and order agree, is kept, with the changes of every power-on (R25, R183). -/
theorem CatMem.started_kept (c : CatMem) (hm : c.marker = .valid) (ha : c.agrees = true) :
    c.started .kept = { c with
      table := c.table.map (fun e => { e with state := match e.state with | .filing _ => .lodged | st => st, claim := none })
      accounts := c.accounts.map (fun a => { a with inFlight := 0 }) } := by
  have hkept : MemoryFound.kept = .kept ∧ c.marker ≠ .unrecognised ∧ c.agrees = true := ⟨rfl, by rw [hm]; exact nofun, ha⟩
  unfold CatMem.started
  rw [if_pos hkept, if_pos hm]
  rfl

/-- Any other is cleared (R23). -/
theorem CatMem.started_cleared (c : CatMem) (found : MemoryFound) (h : found ≠ .kept ∨ c.marker = .unrecognised ∨ c.agrees = false) :
    c.started found = CatMem.cleared := by
  refine if_neg ?_
  rintro ⟨hfound, hmarker, hagrees⟩
  rcases h with h | h | h
  · exact h hfound
  · exact hmarker h
  · exact absurd (h.symm.trans hagrees) nofun

/-- The clock of a store whose battery and continuity mark stand (R36). -/
theorem Clock.started_kept (c : Clock) (base : Int) (h : c.continuity = true) :
    c.started false c.now base = { c with base := base, temp := 0, tempLeft := 0, acc := 0 } := by
  simp [Clock.started, h]

/-- The memories as a power-on leaves them that does not close the period. -/
theorem exec_powerOn (s : State) (p : PowerOn) (h : s.power = .off)
    (ht : (s.replay.started p.memory).target.target = 0 ∨
      (s.clock.started p.batteryLost (s.foundClock p.batteryLost) ((s.readSettings p.settings).getD SettingsRec.default).trim).now.sec <
        (s.replay.started p.memory).target.target) :
    exec (.powerOn p) s = .next ((s.startMemory p).startMechanics p) := by
  have hunreached : ¬(s.startMemory p).cat.target.reached (s.startMemory p).clock = true :=
    CloseTarget.unreached_of _ _ (ht.imp_right .inl)
  have hon : s.powerOn p = (s.startMemory p).startMechanics p := by
    rw [State.powerOn, if_pos h, State.testClose_unreached _ hunreached]
  obtain ⟨last, hmech⟩ := (s.startMemory p).startMechanics_eq p rfl
  show done (s.powerOn p) = _
  rw [hon]
  refine done_nil _ ?_
  rw [hmech]
  rfl

/-! ## Power-on of kept memories -/

/-- What the memories and the clock store are found to hold when all is kept: the settings record `r`, and the catalogue `m` after the update record
has been examined. -/
structure State.KeptBy (s : State) (p : PowerOn) (r : SettingsRec) (m : CatMem) : Prop where
  off : s.power = .off
  settings : p.settings = .kept
  battery : p.batteryLost = false
  memory : p.memory = .kept
  stored : s.settings.stored = some r
  continuity : s.clock.continuity = true
  replay : s.replay = m
  marker : m.marker = .valid
  agrees : m.agrees = true
  target : m.target.target = 0 ∨ s.clock.now.sec < m.target.target

/-- A kept catalogue with the changes of every power-on (R25, R183). -/
def CatMem.restarted (m : CatMem) : CatMem :=
  { m with
    table := m.table.map (fun e => { e with state := match e.state with | .filing _ => .lodged | st => st, claim := none })
    accounts := m.accounts.map (fun a => { a with inFlight := 0 }) }

variable {s : State} {p : PowerOn} {r : SettingsRec} {m : CatMem}

theorem State.KeptBy.read (h : s.KeptBy p r m) : (s.readSettings p.settings).getD SettingsRec.default = r := by
  rw [h.settings]
  show s.settings.stored.getD SettingsRec.default = r
  rw [h.stored]
  rfl

theorem State.KeptBy.cat (h : s.KeptBy p r m) : (s.startMemory p).cat = m.restarted := by
  show s.replay.started p.memory = _
  rw [h.replay, h.memory]
  exact m.started_kept h.marker h.agrees

theorem State.KeptBy.clock (h : s.KeptBy p r m) : (s.startMemory p).clock = { s.clock with base := r.trim, temp := 0, tempLeft := 0, acc := 0 } := by
  show s.clock.started p.batteryLost (s.foundClock p.batteryLost) ((s.readSettings p.settings).getD SettingsRec.default).trim = _
  rw [h.read, h.battery]
  exact s.clock.started_kept r.trim h.continuity

theorem State.KeptBy.absentMode (h : s.KeptBy p r m) : (s.startMemory p).absentMode = false := by
  have hmarker : (s.startMemory p).cat.marker = .valid := by
    rw [h.cat]
    exact h.marker
  exact decide_eq_false (not_not_intro hmarker)

theorem State.KeptBy.rights (h : s.KeptBy p r m) : (s.startMemory p).rights = r.rights := congrArg SettingsRec.rights h.read

theorem State.KeptBy.drives (h : s.KeptBy p r m) : (s.startMemory p).settings.drives = r.drives := congrArg SettingsRec.drives h.read

theorem State.KeptBy.storedAfter (h : s.KeptBy p r m) : (s.startMemory p).settings.stored = some r := by
  show s.storedAfter p.settings = _
  rw [h.settings]
  exact h.stored

theorem State.KeptBy.lines (h : s.KeptBy p r m) (q : LineNo) :
    ((s.startMemory p).lines.get q).enabled = r.enables.get q ∧ ((s.startMemory p).lines.get q).queue = [] := by
  rw [← h.read]
  cases q <;> exact ⟨rfl, rfl⟩

/-- No clock is found lost, so that only a change that power-on completes has an event (R156). -/
theorem State.KeptBy.events (h : s.KeptBy p r m) : (s.startMemory p).startEvents = s.replayEvents := by
  have hcontinuity : (s.startMemory p).clock.continuity = true := by
    rw [h.clock]
    exact h.continuity
  have hevents : (s.startMemory p).startEvents = s.replayEvents ++
      (if (s.startMemory p).clock.continuity then [] else [.clockChanged .powerOn (s.foundClock p.batteryLost) ⟨0, 0⟩]) := rfl
  rw [hevents, if_pos hcontinuity, List.append_nil]

/-- The Library Unit as a power-on leaves it (R157). -/
def State.startedLib (s : State) (p : PowerOn) : Library :=
  (s.startMemory p).startLibrary (s.startMemory p).cat (s.startMemory p).settings.drives p

/-- The state a power-on leaves that closes no period: the memories, and the mechanics (R156, R157). -/
theorem State.startMemory_mechanics (s : State) (p : PowerOn) :
    ∃ last, (s.startMemory p).startMechanics p = { s.startMemory p with
      lib := s.startedLib p
      cat := { (s.startMemory p).cat with platters := (s.startMemory p).cat.platters.map (fun q => { q with
        loc := q.loc.afterPower (fun d => ((s.startedLib p).drives.get d).state == .fault) }) }
      lastFiling := last
      startEvents := (s.startMemory p).startEvents ++ (if p.doorOpen then [.door true] else []) ++
        (if p.gripperHolds then [.pickerJammed none none] else []) ++
        State.startFaults { s.startMemory p with lib := s.startedLib p } (s.startMemory p).settings.drives p.drives } :=
  (s.startMemory p).startMechanics_eq p rfl

/-- The drives of the count in force, each as its answer decides. -/
theorem State.KeptBy.drive (h : s.KeptBy p r m) (d : DriveNo) :
    (s.startedLib p).drives.get d =
      (s.startMemory p).startDrive (s.startMemory p).cat (decide (d.toNat ≤ r.drives)) d (p.drives.get d) := by
  rw [State.startedLib, State.startLibrary_drive, h.drives]

theorem State.KeptBy.exec (h : s.KeptBy p r m) : exec (.powerOn p) s = .next ((s.startMemory p).startMechanics p) := by
  refine exec_powerOn s p h.off ?_
  have hcat : s.replay.started p.memory = m.restarted := h.cat
  have hclock : s.clock.started p.batteryLost (s.foundClock p.batteryLost) ((s.readSettings p.settings).getD SettingsRec.default).trim =
    { s.clock with base := r.trim, temp := 0, tempLeft := 0, acc := 0 } := h.clock
  rw [hcat, hclock]
  exact h.target

/-! ## Drives by their answers -/

/-- The drive is FAULT where it is installed and answers FAULT. -/
theorem State.startDrive_fault (s : State) (c : CatMem) (fitted : Bool) (d : DriveNo) (a : DriveAnswer) :
    ((s.startDrive c fitted d a).state == .fault) = (fitted && a == .fault) := by
  cases fitted <;> cases a <;> rfl

/-- It is UNLOADING where it is installed and has ejected a platter. -/
theorem State.startDrive_unloading (s : State) (c : CatMem) (fitted : Bool) (d : DriveNo) (a : DriveAnswer) :
    ((s.startDrive c fitted d a).state == .unloading) = (fitted && match a with | .ejected _ => true | _ => false) := by
  cases fitted <;> cases a <;> rfl

/-- With every drive empty, no drive has an event (R157). -/
theorem State.startFaults_empty (s : State) (count : Nat) : s.startFaults count (Six.const .noPlatter) = [] := by
  simp [State.startFaults, DriveNo.all, Six.const, Six.get]

/-- Without a FAULT, every platter recorded in a drive or the picker is UNKNOWN. -/
theorem platters_unfaulty (l : List Platter) (faulty : DriveNo → Bool) (h : ∀ d, faulty d = false) :
    l.map (fun q => { q with loc := q.loc.afterPower faulty }) =
      l.map (fun q => { q with loc := match q.loc with | .picker => .unknown | .drive _ => .unknown | x => x }) := by
  have hfaulty : faulty = fun _ => false := funext h
  subst hfaulty
  refine List.map_congr_left (fun q _ => ?_)
  cases hq : q.loc <;> simp [PlatterLoc.afterPower]

/-! ## The mechanics at rest -/

/-- A power-on that finds every memory kept, the door closed, the gripper empty, and no platter in a drive. -/
def restfulPowerOn : PowerOn :=
  { settings := .kept, batteryLost := false, memory := .kept, doorOpen := false, gripperHolds := false, drives := Six.const .noPlatter }

/-- Every installed drive is EMPTY, and the others ABSENT (R157). -/
theorem State.KeptBy.restful_drive (h : s.KeptBy restfulPowerOn r m) (d : DriveNo) :
    (s.startedLib restfulPowerOn).drives.get d = Drive.vacant (if d.toNat ≤ r.drives then .empty else .absent) := by
  have hanswer : restfulPowerOn.drives.get d = .noPlatter := Six.get_const _ d
  rw [h.drive d, hanswer]
  by_cases hd : d.toNat ≤ r.drives <;> simp [State.startDrive, hd]

/-- The mechanics at rest bring no event, and leave no platter in a drive or the picker (R157). -/
theorem State.KeptBy.restful (h : s.KeptBy restfulPowerOn r m) :
    ∃ last, (s.startMemory restfulPowerOn).startMechanics restfulPowerOn = { s.startMemory restfulPowerOn with
      lib := s.startedLib restfulPowerOn
      cat := { m.restarted with
        platters := m.platters.map (fun q => { q with loc := match q.loc with | .picker => .unknown | .drive _ => .unknown | x => x }) }
      lastFiling := last
      startEvents := s.replayEvents } := by
  obtain ⟨last, hmech⟩ := s.startMemory_mechanics restfulPowerOn
  refine ⟨last, hmech.trans ?_⟩
  have hunfaulty : ∀ d, (((s.startedLib restfulPowerOn).drives.get d).state == .fault) = false := by
    intro d
    rw [h.restful_drive d]
    split <;> rfl
  have hplatters := platters_unfaulty (s.startMemory restfulPowerOn).cat.platters _ hunfaulty
  have hfaults : ∀ (u : State) (count : Nat), u.startFaults count restfulPowerOn.drives = [] := State.startFaults_empty
  rw [hplatters, hfaults, h.events, h.cat]
  simp only [restfulPowerOn, Bool.false_eq_true, if_false, List.append_nil]
  rfl

/-- The whole change that power-on completes, or the one partly written, as `R22` has it. -/
theorem State.replayEvents_eq (s : State) (m : CatMem) (h : s.update = .complete m ∨ (s.update = .partly ∧ m = s.cat)) :
    s.replay = m ∧ s.replayEvents =
      (if m.period = s.cat.period then [] else [s.cat.closeEvent]) ++
        (if s.cat.table.length < m.table.length ∧ 131072 - m.table.length ≤ 4096 then [.catalogueLow (131072 - m.table.length)] else []) := by
  rcases h with h | ⟨h, rfl⟩
  · have hreplay : s.replay = m := by simp only [State.replay, h]
    refine ⟨hreplay, ?_⟩
    simp only [State.replayEvents, h]
    rfl
  · have hreplay : s.replay = s.cat := by simp only [State.replay, h]
    refine ⟨hreplay, ?_⟩
    simp only [State.replayEvents, h, if_true, Nat.lt_irrefl, false_and, if_false, List.append_nil]

theorem State.replay_clear (s : State) (h : s.update = .clear) : s.replay = s.cat ∧ s.replayEvents = [] := by
  constructor
  · simp only [State.replay, h]
  · simp only [State.replayEvents, h]

/-- A powered controller takes no power-on. -/
theorem exec_powerOn_powered (s : State) (p : PowerOn) (h : s.power ≠ .off) (ha : s.agenda = []) : exec (.powerOn p) s = .next s := by
  show done (s.powerOn p) = _
  rw [s.powerOn_on p h]
  exact done_nil s ha

/-- The links start with the first sweep (R156, R157). -/
theorem exec_linksStart (s : State) (ha : s.agenda = []) (hp : s.power = .starting) (he : s.startEvents = []) (hd : s.lib.doorOpen = false)
    (hi : s.lib.picker.state = .idle) (hl : ∀ l, (s.links.get l).lane = []) :
    exec .linksStart s = .next (State.startSweep { s with power := .running }) := by
  have hsweep : (!s.lib.doorOpen && (s.lib.picker.state == .idle || s.lib.sweepDue)) = true := by simp [hd, hi]
  have hagenda : (State.startSweep { s with power := .running }).agenda = [] := ha
  have hevents : ({ s with power := .running, startEvents := [] } : State) = { s with power := .running } :=
    congrArg (fun e => { s with power := .running, startEvents := e }) he.symm
  have hlinks : s.linksStart = State.startSweep { s with power := .running } := by
    have hposted : s.linksStart = State.drainAll (State.settle (if !s.lib.doorOpen && (s.lib.picker.state == .idle || s.lib.sweepDue) then
        State.startSweep { s with power := .running, startEvents := [] } else { s with power := .running, startEvents := [] })) := by
      rw [State.linksStart, if_pos hp, he]
      rfl
    rw [hposted, if_pos hsweep, hevents, State.settle_nil _ hagenda]
    exact State.drainAll_nil _ hl
  show done s.linksStart = _
  rw [hlinks]
  exact done_nil _ hagenda

/-! ## The mechanics found -/

/-- A drive is answered for, in the count in force, or it is ABSENT (R157). -/
theorem State.startDrive_cases (s : State) (c : CatMem) (fitted : Prop) [Decidable fitted] (d : DriveNo) (a : DriveAnswer) :
    let k := s.startDrive c (decide fitted) d a
    (¬fitted → k.state = .absent ∧ k.platter = none) ∧
    (fitted →
      (a = .noPlatter → k.state = .empty ∧ k.platter = none) ∧
      (∀ sd, a = .ejected sd → k.state = .unloading ∧ k.platter = some ⟨none, sd⟩) ∧
      (a = .silent → k.state = .absent ∧ k.platter = none) ∧
      (a = .fault → k.state = .fault ∧ k.platter.map (fun q => q.id) = (c.platters.find? (fun q => q.loc == .drive d)).map (fun q => some q.id))) := by
  intro k
  refine ⟨fun hout => ?_, fun hin => ?_⟩
  · have hk : k = Drive.vacant .absent := by simp [k, State.startDrive, hout]
    rw [hk]
    exact ⟨rfl, rfl⟩
  · have hk : k = s.startDrive c true d a := by simp [k, hin]
    rw [hk]
    refine ⟨?_, ?_, ?_, ?_⟩
    · rintro rfl
      exact ⟨rfl, rfl⟩
    · rintro sd rfl
      exact ⟨rfl, rfl⟩
    · rintro rfl
      exact ⟨rfl, rfl⟩
    · rintro rfl
      refine ⟨rfl, ?_⟩
      simp [State.startDrive, Option.map_map, Function.comp_def]

/-- The return-home pieces of the drives that have ejected a platter, in drive order (R157). -/
theorem State.KeptBy.returns (h : s.KeptBy p r m) :
    (s.startedLib p).returns =
      DriveNo.all.filter (fun d => decide (d.toNat ≤ r.drives) && (match p.drives.get d with | .ejected _ => true | _ => false)) := by
  have hreturns : (s.startedLib p).returns = DriveNo.all.filter (fun d => ((s.startedLib p).drives.get d).state == .unloading) := rfl
  rw [hreturns]
  refine List.filter_congr (fun d _ => ?_)
  rw [h.drive d]
  exact State.startDrive_unloading _ _ _ d _

/-- The platters recorded in the drives, and in the picker (R157). -/
theorem State.KeptBy.platters (h : s.KeptBy p r m) :
    m.platters.map (fun q => { q with loc := q.loc.afterPower (fun d => ((s.startedLib p).drives.get d).state == DriveState.fault) }) =
      m.platters.map (fun q => { q with loc := match q.loc with
        | .picker => .unknown
        | .drive d => if d.toNat ≤ r.drives ∧ p.drives.get d = DriveAnswer.fault then .drive d else .unknown
        | x => x }) := by
  refine List.map_congr_left (fun q _ => ?_)
  cases hq : q.loc with
  | drive d =>
    have hfault : (((s.startedLib p).drives.get d).state == .fault) = decide (d.toNat ≤ r.drives ∧ p.drives.get d = .fault) := by
      rw [h.drive d, State.startDrive_fault]
      rw [Bool.decide_and, beq_eq_decide]
    simp only [PlatterLoc.afterPower, hfault, decide_eq_true_eq]
  | _ => rfl

/-- Settles O60. A failure by what it leaves, and by the command whose change its record holds; a power-on by the memories it finds, and then by the
mechanics. -/
theorem powerCycle : Obligations.PowerCycle := by
  refine ⟨fun s c => ⟨fun hp => ?_, fun hp ha => ?_⟩, ⟨?_, ?_, ?_, ?_⟩, ?_, ?_, ?_, ?_, ?_⟩
  · refine ⟨s.powerFail c, exec_powerFail s c hp, ?_⟩
    rw [State.powerFail, if_neg hp]
    refine ⟨rfl, rfl, rfl, rfl, rfl, rfl, rfl, rfl, rfl, rfl, rfl, rfl, rfl, rfl, rfl, fun q => ?_, fun l => ?_, ?_, ?_⟩
    · cases q <;> exact ⟨rfl, rfl, rfl⟩
    · cases l <;> exact ⟨rfl, rfl, rfl⟩
    · rintro rfl
      rfl
    · rintro rfl
      rfl
  · show done (s.powerFail c) = _
    rw [s.powerFail_off c hp]
    exact done_nil s ha
  · exact fun q l s ha hp => records_of hp (exec_press s q ha) (s.pressInput_cat q l)
  · exact fun l t s h => records_lodge s l t h
  · exact fun l t p s h => records_restore s l t p h
  · intro l s f o i v g ha hp hout ho hsole hl _ _ hitems hcur _ _ r c hstate hop hrem hg _ hs hf _
    subst hl
    have hfound := State.op?_sole ho hsole
    refine records_of hp rfl ?_
    rw [State.imageOf_accrue hfound hitems hcur hstate hop hrem]
    exact (dataAccepted_last_cat ha hout hfound hitems hcur hstate hop hrem hg hs hf).symm
  · intro s r hp hu hr hc hm hagree ht found
    obtain ⟨hreplay, hnone⟩ := s.replay_clear hu
    have h : s.KeptBy restfulPowerOn r s.cat := ⟨hp, rfl, rfl, rfl, hr, hc, hreplay, hm, hagree, ht⟩
    obtain ⟨last, hmech⟩ := h.restful
    have hclock := h.clock
    refine ⟨_, h.exec.trans (congrArg _ hmech), rfl, h.absentMode, h.rights, h.lines, h.drives, h.storedAfter, ?_⟩
    dsimp only
    rw [hclock, hnone]
    refine ⟨rfl, rfl, rfl, rfl, rfl, rfl, rfl, rfl, rfl, rfl, rfl, rfl, rfl, rfl, rfl, fun d => ?_, rfl, rfl, ?_⟩
    · rw [h.restful_drive d]
      rfl
    · exact exec_powerOn_powered _ _ nofun rfl
  · intro s r m hp hu hr hc hm hagree ht found closed low
    obtain ⟨hreplay, hevents⟩ := s.replayEvents_eq m hu
    have h : s.KeptBy restfulPowerOn r m := ⟨hp, rfl, rfl, rfl, hr, hc, hreplay, hm, hagree, ht⟩
    obtain ⟨last, hmech⟩ := h.restful
    exact ⟨_, h.exec.trans (congrArg _ hmech), rfl, h.absentMode, hevents, rfl⟩
  · intro s found hp hu hbad
    obtain ⟨hreplay, -⟩ := s.replay_clear hu
    have hcat : s.replay.started found.memory = CatMem.cleared := by
      rw [hreplay]
      exact s.cat.started_cleared found.memory hbad
    obtain ⟨last, hmech⟩ := s.startMemory_mechanics found
    have hexec : exec (.powerOn found) s = .next ((s.startMemory found).startMechanics found) :=
      exec_powerOn s found hp (.inl (congrArg (fun c => c.target.target) hcat))
    refine ⟨_, hexec.trans (congrArg _ hmech), ?_, ?_⟩
    · have habsent : (s.startMemory found).absentMode = decide ((s.replay.started found.memory).marker ≠ .valid) := rfl
      exact habsent.trans (by rw [hcat]; rfl)
    · have hmem : (s.startMemory found).cat = CatMem.cleared := hcat
      dsimp only
      rw [hmem]
      rfl
  · intro s r p hp hu hr hset hbat hmemory hc hm hagree ht fitted
    obtain ⟨hreplay, hnone⟩ := s.replay_clear hu
    have h : s.KeptBy p r s.cat := ⟨hp, hset, hbat, hmemory, hr, hc, hreplay, hm, hagree, ht⟩
    obtain ⟨last, hmech⟩ := s.startMemory_mechanics p
    have hdrives := h.drives
    refine ⟨_, h.exec.trans (congrArg _ hmech), rfl, rfl, ?_, fun d => ?_, ?_, ?_⟩
    · exact h.returns
    · have hcases := State.startDrive_cases (s.startMemory p) (s.startMemory p).cat (d.toNat ≤ r.drives) d (p.drives.get d)
      rw [← h.drive d, h.cat] at hcases
      exact hcases
    · dsimp only
      rw [h.events, hnone, hdrives]
      simp only [State.startFaults, List.nil_append, List.append_assoc]
      rfl
    · have hplatters := h.platters
      have hmem : (s.startMemory p).cat.platters = s.cat.platters := (congrArg CatMem.platters h.cat).trans rfl
      dsimp only
      rw [hmem]
      exact hplatters
  · refine fun s ha => ⟨fun hp he hd hi hl => exec_linksStart s ha hp he hd hi hl, fun hp => ?_⟩
    show done s.linksStart = _
    rw [State.linksStart, if_neg hp]
    exact done_nil s ha

end Sys2Proof.Machine
end

section
/-!
PROOFS. The requests that begin a filing: OPEN_FILING (R52), FEED (R53, R54) and the tests of COMMIT before its page map is read (R56).
-/
namespace Sys2Proof.Machine
set_option Elab.async false

/-! ## OPEN_FILING -/

/-- An optional number with a defined presence byte (R197). -/
theorem optInst?_eq (o : OptField) (h : o.presence ≤ 1) :
    optInst? o = some (if o.presence = 0 then none else some (instOfWord o.value)) := by
  obtain h0 | h1 : o.presence = 0 ∨ o.presence = 1 := by omega
  · simp [optInst?, h0]
  · simp only [optInst?, h1]
    rfl

/-- The instrument named is taken where it is LODGED. -/
theorem State.openTarget_named (s : State) (n : InstrNum) :
    s.openTarget (some n) = if ∃ e ∈ s.cat.lodged, e.num = n then some n else none := by
  simp [State.openTarget]

theorem State.openTarget_tagTaken (s : State) (l : Link) (tag : Nat) (n : Option InstrNum) :
    (s.tagTaken l tag).openTarget n = s.openTarget n := (rfl)

theorem State.freeFiling_tagTaken (s : State) (l : Link) (tag : Nat) : (s.tagTaken l tag).freeFiling = s.freeFiling := (rfl)

section
variable {l : Link} {tag : Nat} {o : OptField} {s : State} (h : s.Takes l tag (.openFiling o))
include h

theorem openFiling_badField (ho : 1 < o.presence) : exec (.openFiling l tag o) s = .next (s.answered l tag 0x30 .badField .none) := by
  refine request_answers s l tag _ h .badField .none ?_
  simp only [State.handle, handleOpenFiling, optInst?_eq_none o ho, State.answer]

variable {named : Option InstrNum} (ho : optInst? o = some named)
include ho

theorem openFiling_notLodged (ht : s.openTarget named = none) :
    exec (.openFiling l tag o) s = .next (s.answered l tag 0x30 .notLodged .none) := by
  refine request_answers s l tag _ h .notLodged .none ?_
  simp only [State.handle, handleOpenFiling, ho, State.openTarget_tagTaken, ht, State.answer]

variable {n : InstrNum} (ht : s.openTarget named = some n)
include ht

theorem openFiling_full (hfull : s.freeFiling = none) :
    exec (.openFiling l tag o) s = .next (s.answered l tag 0x30 .filingFull .none) := by
  refine request_answers s l tag _ h .filingFull .none ?_
  simp only [State.handle, handleOpenFiling, ho, State.openTarget_tagTaken, ht, State.freeFiling_tagTaken, hfull, State.answer]

theorem openFiling_opens {q : FSlot} (hq : s.freeFiling = some q) :
    exec (.openFiling l tag o) s = .next (State.answered { s with
      cat := s.cat.openEntry n q
      filings := s.filings.set q (some (Filing.fresh n l s.ref)) } l tag 0x30 .done (.opened q n)) := by
  refine request_changes s { s with cat := _, filings := _ } l tag _ h .done _ rfl h.1.1.2.1 ?_
  simp only [State.handle, handleOpenFiling, ho, State.openTarget_tagTaken, ht, State.freeFiling_tagTaken, hq]
  rfl

end

/-- Settles O31: by the presence byte, the instrument taken, and the free slots. -/
theorem openFilingOccupiesSlot : Obligations.OpenFilingOccupiesSlot := by
  intro l tag o s h lodged named target
  have htarget : ∀ {v}, o.presence ≤ 1 → target = v →
      s.openTarget (if o.presence = 0 then none else some (instOfWord o.value)) = v := by
    rintro v hp rfl
    by_cases h0 : o.presence = 0
    · simp only [h0, if_true, target]
      rfl
    · simp only [h0, if_false, target, State.openTarget_named]
      rfl
  exact ⟨openFiling_badField h, fun hp ht => openFiling_notLodged h (optInst?_eq o hp) (htarget hp ht), fun n hp ht =>
    ⟨fun hfull => openFiling_full h (optInst?_eq o hp) (htarget hp ht) (s.freeFiling_none hfull),
      fun q hq hlow => openFiling_opens h (optInst?_eq o hp) (htarget hp ht) (s.freeFiling_lowest q hq hlow)⟩⟩

/-! ## The slot a request names -/

theorem flag?_eq_none (n : Nat) (h : 1 < n) : flag? n = none := by
  unfold flag?
  split
  · omega
  · omega
  · rfl

theorem flag?_eq (n : Nat) (h : n ≤ 1) : flag? n = some (decide (n = 1)) := by
  obtain rfl | rfl : n = 0 ∨ n = 1 := by omega
  · rfl
  · rfl

theorem State.ownSlot_tagTaken (s : State) (l : Link) (tag n : Nat) (k : Link) : (s.tagTaken l tag).ownSlot n k = s.ownSlot n k := (rfl)

theorem State.ownSlot_free (s : State) (n : Nat) (l : Link) (h : ∀ q : FSlot, q.toNat = n → s.filings.get q = none) :
    s.ownSlot n l = .error .noFiling := by
  simp only [State.ownSlot, s.slotOf_none n h]

section
variable {s : State} {n : Nat} {l : Link} {q : FSlot} {f : Filing} (hq : q.toNat = n) (hf : s.filings.get q = some f)
include hq hf

theorem State.ownSlot_notOwner (h : f.owner ≠ l) : s.ownSlot n l = .error .notOwner := by
  simp only [State.ownSlot, s.slotOf_some n q f hq hf]
  exact if_pos h

theorem State.ownSlot_notReceiving (h : f.owner = l) (hs : f.state ≠ .receiving) : s.ownSlot n l = .error .notReceiving := by
  simp only [State.ownSlot, s.slotOf_some n q f hq hf]
  rw [if_neg (not_not.2 h), if_pos hs]

theorem State.ownSlot_own (h : f.owner = l) (hs : f.state = .receiving) : s.ownSlot n l = .ok (q, f) := by
  simp only [State.ownSlot, s.slotOf_some n q f hq hf]
  rw [if_neg (not_not.2 h), if_neg (not_not.2 hs)]

end

/-! ## FEED -/

/-- The slot after a fed block: the block counted, the idle timer restarted, and a page start other than block 0 noted (R53, R54). -/
theorem Filing.fed_eq (f : Filing) (flag now : Nat) (page : Prop) [Decidable page] (hpage : page ↔ flag = 1 ∧ f.blocks ≠ 0) :
    f.fed (decide (flag = 1)) now = { f with
      blocks := f.blocks + 1
      idleSince := now
      starts := if page ∧ f.starts.length < 255 then f.starts ++ [f.blocks] else f.starts
      overflow := f.overflow || decide (page ∧ 255 ≤ f.starts.length) } := by
  by_cases hp : page
  · obtain ⟨hflag, hblocks⟩ := hpage.1 hp
    by_cases hlen : 255 ≤ f.starts.length
    · simp [Filing.fed, Filing.startPage, Config.maxPageStarts, hflag, hblocks, hp, hlen]
    · simp [Filing.fed, Filing.startPage, Config.maxPageStarts, hflag, hblocks, hp, hlen]
  · by_cases hflag : flag = 1
    · have hblocks : f.blocks = 0 := by_contra fun h => hp (hpage.2 ⟨hflag, h⟩)
      simp [Filing.fed, Filing.startPage, hflag, hblocks, hp]
    · simp [Filing.fed, hflag, hp]

section
variable {l : Link} {tag n flag : Nat} {b : List Byte} {s : State} (h : s.Takes l tag (.feed n flag b))
include h

theorem feed_badField (hflag : 1 < flag) : exec (.feed l tag n flag b) s = .next (s.answered l tag 0x31 .badField .none) := by
  refine request_answers s l tag _ h .badField .none ?_
  simp only [State.handle, handleFeed, flag?_eq_none flag hflag, State.answer]

variable (hflag : flag ≤ 1)
include hflag

theorem feed_notOwn {st : Status} (ho : s.ownSlot n l = .error st) :
    exec (.feed l tag n flag b) s = .next (s.answered l tag 0x31 st .none) := by
  refine request_answers s l tag _ h st .none ?_
  simp only [State.handle, handleFeed, flag?_eq flag hflag, State.ownSlot_tagTaken, State.replyTo, ho, State.answer]

variable {q : FSlot} {f : Filing} (hf : s.filings.get q = some f) (ho : s.ownSlot n l = .ok (q, f))
include hf ho

omit h in
/-- The tests after the slot's own, each of which restarts the idle timer where it fails (R53). -/
theorem feed_own : (s.tagTaken l tag).handle (s.replyTo l tag (.feed n flag b)) (.feed n flag b) =
    if 4095 ≤ f.blocks then
      (State.tagTaken { s with filings := s.filings.set q (some { f with idleSince := s.ref }) } l tag).answer
        (s.replyTo l tag (.feed n flag b)) .tooLong
    else if 4096 - s.ring.length = 0 then
      (State.tagTaken { s with filings := s.filings.set q (some { f with idleSince := s.ref }) } l tag).answer
        (s.replyTo l tag (.feed n flag b)) .ringFull
    else (s.tagTaken l tag).admitFeed (s.replyTo l tag (.feed n flag b)) q f (decide (flag = 1)) b := by
  have hrestarted : (s.tagTaken l tag).modFiling q (fun f => { f with idleSince := (s.tagTaken l tag).ref }) =
      State.tagTaken { s with filings := s.filings.set q (some { f with idleSince := s.ref }) } l tag := by
    simp only [State.modFiling, State.setFiling, State.tagTaken_filings, hf]
    rfl
  have hown : s.ownSlot n (s.replyTo l tag (.feed n flag b)).link = .ok (q, f) := ho
  simp only [State.handle, handleFeed, flag?_eq flag hflag, State.ownSlot_tagTaken, hown, hrestarted]
  rfl

theorem feed_tooLong (hlong : 4095 ≤ f.blocks) :
    exec (.feed l tag n flag b) s =
      .next (State.answered { s with filings := s.filings.set q (some { f with idleSince := s.ref }) } l tag 0x31 .tooLong .none) := by
  refine request_changes s { s with filings := _ } l tag _ h .tooLong .none rfl h.1.1.2.1 ?_
  rw [feed_own hflag hf ho, if_pos hlong]
  rfl

variable (hshort : f.blocks < 4095)
include hshort

theorem feed_ringFull (hring : 4096 ≤ s.ring.length) :
    exec (.feed l tag n flag b) s =
      .next (State.answered { s with filings := s.filings.set q (some { f with idleSince := s.ref }) } l tag 0x31 .ringFull .none) := by
  refine request_changes s { s with filings := _ } l tag _ h .ringFull .none rfl h.1.1.2.1 ?_
  rw [feed_own hflag hf ho, if_neg (Nat.not_le.2 hshort), if_pos (Nat.sub_eq_zero_of_le hring)]
  rfl

theorem feed_appends (hring : s.ring.length < 4096) :
    exec (.feed l tag n flag b) s = .next (State.answered { s with
      ring := s.ring ++ [{ pos := s.ringNext, slot := q, ext := f.blocks, mark := .live }]
      ringNext := (s.ringNext + 1) % 4096
      filings := s.filings.set q (some (f.fed (decide (flag = 1)) s.ref))
      inChans := s.inChans.set l { chan := { state := .running, op := .slot q, mode := some .lane, next := s.ringNext, remaining := 1, action := .none }, store := some b } }
      l tag 0x31 .done (.fed (f.blocks + 1))) := by
  refine request_changes s { s with ring := _, ringNext := _, filings := _, inChans := _ } l tag _ h .done _ rfl h.1.1.2.1 ?_
  rw [feed_own hflag hf ho, if_neg (Nat.not_le.2 hshort), if_neg (by omega)]
  have hfed : ((s.tagTaken l tag).appendRing q f.blocks).modFiling q (fun f => f.fed (decide (flag = 1)) (s.tagTaken l tag).ref) =
      ((s.tagTaken l tag).appendRing q f.blocks).setFiling q (some (f.fed (decide (flag = 1)) s.ref)) := by
    simp only [State.modFiling, State.appendRing, State.tagTaken_filings, hf]
    rfl
  simp only [State.admitFeed, hfed]
  rfl

end

/-- Settles O32: the tests in order, then the block. -/
theorem feedAppendsBlock : Obligations.FeedAppendsBlock := by
  intro l tag n flag b s h refused
  refine ⟨feed_badField h, fun hflag => ⟨fun hfree => feed_notOwn h hflag (s.ownSlot_free n l hfree), fun q f hq hf =>
    ⟨fun ho => feed_notOwn h hflag (State.ownSlot_notOwner hq hf ho), fun ho hs => feed_notOwn h hflag (State.ownSlot_notReceiving hq hf ho hs),
      fun ho hs => ?_⟩⟩⟩
  have hown := State.ownSlot_own hq hf ho hs
  refine ⟨feed_tooLong h hflag hf hown, feed_ringFull h hflag hf hown, fun hshort hring => ?_⟩
  intro page g
  have hg : f.fed (decide (flag = 1)) s.ref = g := f.fed_eq flag s.ref page Iff.rfl
  exact hg ▸ feed_appends h hflag hf hown hshort hring

/-! ## COMMIT until its page map is read -/

section
variable {l : Link} {tag : Nat} {p : CommitParams} {s : State} (h : s.Takes l tag (.commit p))
include h

/-- A COMMIT that fails one of its tests 1 to 4 (R56). -/
theorem commit_refused {st : Status} (ht : s.commitTests l p = .error st) :
    exec (.commit l tag p) s = .next (s.answered l tag 0x32 st .none) := by
  refine request_answers s l tag _ h st .none ?_
  have ht' : (s.tagTaken l tag).commitTests (s.replyTo l tag (.commit p)).link p = .error st := ht
  simp only [State.handle, handleCommit, ht', State.answer]

variable {q : FSlot} {f : Filing} {v : Bool × List Nat × List InstrNum} (ht : s.commitTests l p = .ok (q, f, v))
include ht

theorem commit_noMap (hb : f.blocks = 0) : exec (.commit l tag p) s = .next (s.answered l tag 0x32 .badMap .none) := by
  refine request_answers s l tag _ h .badMap .none ?_
  have ht' : (s.tagTaken l tag).commitTests (s.replyTo l tag (.commit p)).link p = .ok (q, f, v) := ht
  simp only [State.handle, handleCommit, ht', hb, if_true, State.answer]

theorem commit_waits (hb : f.blocks ≠ 0) :
    exec (.commit l tag p) s = .next { s.tagTaken l tag with
      mapReads := s.mapReads ++ [{ reply := { link := l, tag := tag, gen := (s.links.get l).resetCount, code := 0x32 }, p := p }] } := by
  have ht' : (s.tagTaken l tag).commitTests (s.replyTo l tag (.commit p)).link p = .ok (q, f, v) := ht
  refine (request_takes s l tag _ h).trans ?_
  simp only [State.handle, handleCommit, ht', if_neg hb]
  exact congrArg Host.Outcome.next (State.settle_nil _ h.1.1.2.1)

end

/-- The tests of the slot fail (R56 tests 1 to 3). -/
theorem State.commitTests_notOwn (s : State) (l : Link) (p : CommitParams) {st : Status} (h : s.ownSlot p.slot l = .error st) :
    s.commitTests l p = .error st := by
  simp only [State.commitTests, h]

/-- The tests of the slot pass, and a field is out of its range (R56 test 4). -/
theorem State.commitTests_badField (s : State) (l : Link) (p : CommitParams) {q : FSlot} {f : Filing} (h : s.ownSlot p.slot l = .ok (q, f))
    (hv : commitFields p = none) : s.commitTests l p = .error .badField := by
  simp only [State.commitTests, h, hv]

theorem State.commitTests_ok (s : State) (l : Link) (p : CommitParams) {q : FSlot} {f : Filing} (h : s.ownSlot p.slot l = .ok (q, f))
    {v : Bool × List Nat × List InstrNum} (hv : commitFields p = some v) : s.commitTests l p = .ok (q, f, v) := by
  simp only [State.commitTests, h, hv]

/-- Settles O34: the tests in order, then the wait. -/
theorem commitWaitsForMap : Obligations.CommitWaitsForMap := by
  intro l tag p s h refused
  have hrefused : ∀ {st}, s.ownSlot p.slot l = .error st → refused st := fun ho => commit_refused h (s.commitTests_notOwn l p ho)
  refine ⟨fun hfree => hrefused (s.ownSlot_free _ l hfree), fun q f hq hf =>
    ⟨fun ho => hrefused (State.ownSlot_notOwner hq hf ho), fun ho hs => hrefused (State.ownSlot_notReceiving hq hf ho hs), fun ho hs => ?_⟩⟩
  have hown := State.ownSlot_own hq hf ho hs
  refine ⟨fun hv => commit_refused h (s.commitTests_badField l p hown hv), fun hv hb => ?_, fun hv hb => ?_⟩
  · obtain ⟨v, hv⟩ := Option.ne_none_iff_exists'.1 hv
    exact commit_noMap h (s.commitTests_ok l p hown hv) hb
  · obtain ⟨v, hv⟩ := Option.ne_none_iff_exists'.1 hv
    exact commit_waits h (s.commitTests_ok l p hown hv) hb

end Sys2Proof.Machine
end

section
/-!
PROOFS. When the work handed over brings nothing: the head's turn and a drive that is not READY; and the ends of a filing by ABANDON
(R59 to R61) and by the idle timer (R55).
-/
namespace Sys2Proof.Machine
set_option Elab.async false

/-! ## Work handed over, piece by piece -/

/-- The pieces of work `ts`, handed over in `s`, lead to `t` when `n` pieces in all have been done, each with what it hands over done before the rest. -/
inductive State.Works : State → List Task → State → Nat → Prop where
  | nothing {s : State} (ha : s.agenda = []) : Works s [] s 0
  | piece {s s' t : State} {w : Task} {us ts : List Task} {n : Nat} (ha : s.agenda = []) (hrun : s.runTask w = s'.later us)
      (hrest : Works s' (us ++ ts) t n) : Works s (w :: ts) t (n + 1)

/-- A piece of work that changes nothing. -/
theorem State.Works.rests {s t : State} {w : Task} {ts : List Task} {n : Nat} (ha : s.agenda = []) (hrun : s.runTask w = s)
    (hrest : State.Works s ts t n) : State.Works s (w :: ts) t (n + 1) :=
  .piece (us := []) ha (hrun.trans s.later_nil.symm) hrest

/-- A piece of work that hands nothing over. -/
theorem State.Works.brings {s s' t : State} {w : Task} {ts : List Task} {n : Nat} (ha : s.agenda = []) (hrun : s.runTask w = s')
    (hrest : State.Works s' ts t n) : State.Works s (w :: ts) t (n + 1) :=
  .piece (us := []) ha (hrun.trans s'.later_nil.symm) hrest

theorem State.Works.settleFor {s t : State} {ts : List Task} {n : Nat} (h : State.Works s ts t n) (m : Nat) :
    State.settleFor (m + n) (s.later ts) = t := by
  induction h with
  | nothing ha => rw [State.later_nil, State.settleFor_nil _ _ ha]
  | piece ha hrun _ ih => rw [← Nat.add_assoc, State.settleFor_later _ _ _ _ ha, hrun, State.later_later, ih]

/-- Work within the fuel is done whole. -/
theorem State.Works.settle {s t : State} {ts : List Task} {n : Nat} (h : State.Works s ts t n) (hn : n ≤ 4096) : (s.later ts).settle = t := by
  have hfuel : Config.agendaFuel = (4096 - n) + n := by rw [Nat.sub_add_cancel hn]; rfl
  rw [State.settle, hfuel, h.settleFor]

/-! ## Work that brings nothing -/

/-- The head of the commit queue has no turn to start: FIL is at work, or there is no head QUEUED (R65). -/
def State.HeadRests (s : State) : Prop := s.filUse ≠ none ∨ ∀ q f, s.head? = some (q, f) → f.state ≠ .queued

theorem State.headTurn_rests {s : State} (h : s.HeadRests) : s.headTurn = s := by
  unfold State.headTurn
  split
  · rename_i q f hu hh
    obtain hfil | hstate := h
    · exact absurd hu hfil
    · exact if_pos (hstate q f hh)
  · rfl

theorem State.head?_nil {s : State} (h : s.commitQueue = []) : s.head? = none := by
  simp only [State.head?, h]

theorem State.head?_cons {s : State} {q : FSlot} {rest : List FSlot} (h : s.commitQueue = q :: rest) :
    s.head? = (s.filings.get q).map (fun f => (q, f)) := by
  simp only [State.head?, h]

theorem State.HeadRests.of_nil {s : State} (h : s.commitQueue = []) : s.HeadRests :=
  .inr fun q f hh => by rw [State.head?_nil h] at hh; cases hh

theorem State.driveNext_notReady {s : State} {d : DriveNo} (h : (s.lib.drives.get d).state ≠ .ready) : s.driveNext d = s := if_neg h

/-! ## Responses -/

/-- A response changes the links alone. -/
theorem State.answerOpt_frame (s : State) (y : Option Reply) (st : Status) (b : Body) : ∃ k, s.answerOpt y st b = { s with links := k } := by
  cases y with
  | none => exact ⟨s.links, rfl⟩
  | some y =>
    simp only [State.answerOpt, State.respond]
    split
    · exact ⟨_, rfl⟩
    · exact ⟨s.links, rfl⟩

theorem State.answerOpt_later (s : State) (y : Option Reply) (st : Status) (b : Body) (ts : List Task) :
    (s.later ts).answerOpt y st b = (s.answerOpt y st b).later ts := by
  cases y with
  | none => rfl
  | some y => exact s.respond_later y st b ts

/-- Handing over another response and taking a tag do not meet. -/
theorem State.answerOpt_tagTaken (s : State) (l : Link) (tag : Nat) (y : Option Reply) (st : Status) (b : Body) :
    (s.tagTaken l tag).answerOpt y st b = (s.answerOpt y st b).tagTaken l tag := by
  cases y with
  | none => rfl
  | some y =>
    have hreset : ((s.tagTaken l tag).links.get y.link).resetCount = (s.links.get y.link).resetCount := by
      by_cases hl : y.link = l
      · simp [State.tagTaken, hl]
      · simp [State.tagTaken, Three.get_set_ne _ _ _ _ hl]
    simp only [State.answerOpt, State.respond, hreset]
    split
    · generalize y.link = k
      cases k <;> cases l <;> rfl
    · rfl

theorem State.answerOpt_resetCount (s : State) (y : Option Reply) (st : Status) (b : Body) (l : Link) :
    ((s.answerOpt y st b).links.get l).resetCount = (s.links.get l).resetCount := by
  cases y with
  | none => rfl
  | some y =>
    simp only [State.answerOpt, State.respond]
    split
    · by_cases hl : l = y.link
      · simp [hl]
      · simp [Three.get_set_ne _ _ _ _ hl]
    · rfl

theorem State.replyTo_answerOpt (s : State) (y : Option Reply) (st : Status) (b : Body) (l : Link) (tag : Nat) (q : Request) :
    (s.answerOpt y st b).replyTo l tag q = s.replyTo l tag q := by
  simp only [State.replyTo, State.answerOpt_resetCount]

/-! ## What FIL gives up with a slot -/

section
variable {s : State} {q : FSlot}

theorem State.dropUse_none (h : s.filUse = none) : s.dropUse q = s := by
  simp only [State.dropUse, h]

variable {u : FilUse} (hu : s.filUse = some u)
include hu

theorem State.dropUse_other (h : u.slot ≠ some q) : s.dropUse q = s := by
  simp only [State.dropUse, hu]
  exact if_pos h

variable (hq : u.slot = some q)
include hq

theorem State.dropUse_demanded (hg : u.stage = .demanded) : s.dropUse q = { s.leaveFiling with filUse := none } := by
  simp only [State.dropUse, hu, hq, hg, ne_eq, not_true_eq_false, if_false]

theorem State.dropUse_listed {d : DriveNo} (hg : u.stage = .listed d) : s.dropUse q = { s.removeUse d .filing with filUse := none } := by
  simp only [State.dropUse, hu, hq, hg, ne_eq, not_true_eq_false, if_false]

theorem State.dropUse_header {d : DriveNo} (hg : u.stage = .check d ∨ u.stage = .headErase d ∨ u.stage = .headWrite d) :
    s.dropUse q = { s with filUse := some { u with slot := none } } := by
  obtain hg | hg | hg := hg <;> simp only [State.dropUse, hu, hq, hg, ne_eq, not_true_eq_false, if_false]

end

/-- The filing waiter leaves its demand, and a WAITING demand without waiters is removed (R60, R135). -/
theorem State.leaveFiling_eq (s : State) : s.leaveFiling = { s with lib := { s.lib with
    demands := (s.lib.demands.map (fun h => { h with waiters := h.waiters.filter (fun w => w.item?.isSome) })).filter
      (fun h => h.mounting.isSome || !h.waiters.isEmpty) } } := by
  have hwaiter : (fun w : Waiter => match w with | .item _ _ _ => true | .filing _ => false) = fun w => w.item?.isSome := by
    funext w
    cases w <;> rfl
  rw [← hwaiter]
  rfl

/-- A use taken off a work list on which others stay. -/
theorem State.removeUse_more {s : State} {d : DriveNo} {u : Use} (h : (s.lib.drives.get d).work.erase u ≠ []) :
    s.removeUse d u = (s.modDrive d (fun r => { r with work := r.work.erase u })).later [.driveNext d] := by
  have hwork : ((s.modDrive d (fun r => { r with work := r.work.erase u })).drive d).work.isEmpty = false := by
    simpa [State.drive, State.modDrive] using h
  simp only [State.removeUse, hwork, Bool.false_eq_true, if_false]

/-! ## ABANDON -/

/-- A slot abandoned at once: what FIL did with it is given up, the slot is free, and a deferred COMMIT response is ABORTED (R60). -/
theorem State.abandonSlot_eq {s : State} {q : FSlot} {f : Filing} (hf : s.filings.get q = some f) (hi : (s.dropUse q).cat.isFiling f.inst = true) :
    s.abandonSlot q = (((s.dropUse q).slotFreed q f.inst).answerOpt (f.commit.map (·.reply)) .aborted .none).later [.headTurn] := by
  simp only [State.abandonSlot, hf, State.discardSlot_eq_slotFreed _ q f.inst hi]
  cases f.commit <;> rfl

section
variable {l : Link} {tag n : Nat} {s : State} (h : s.Takes l tag (.abandon n))
include h

theorem abandon_noFiling (hfree : ∀ q : FSlot, q.toNat = n → s.filings.get q = none) :
    exec (.abandon l tag n) s = .next (s.answered l tag 0x33 .noFiling .none) := by
  refine request_answers s l tag _ h .noFiling .none ?_
  have hslot : (s.tagTaken l tag).slotOf n = none := s.slotOf_none n hfree
  simp only [State.handle, handleAbandon, hslot, State.answer]

variable {q : FSlot} {f : Filing} (hq : q.toNat = n) (hf : s.filings.get q = some f)
include hq hf

theorem abandon_notOwner (ho : f.owner ≠ l) (hr : s.rights.get l &&& 0x80#8 = 0#8) :
    exec (.abandon l tag n) s = .next (s.answered l tag 0x33 .notOwner .none) := by
  refine request_answers s l tag _ h .notOwner .none ?_
  have hslot : (s.tagTaken l tag).slotOf n = some (q, f) := s.slotOf_some n q f hq hf
  have hno : f.owner ≠ (s.replyTo l tag (.abandon n)).link ∧
      (!holds ((s.tagTaken l tag).rights.get (s.replyTo l tag (.abandon n)).link) rAdmin) = true := by
    refine ⟨ho, ?_⟩
    simp [State.replyTo, holds, rAdmin, hr]
  simp only [State.handle, handleAbandon, hslot, if_pos hno, State.answer]

variable (ho : f.owner = l ∨ s.rights.get l &&& 0x80#8 ≠ 0#8)
include ho

omit h in
/-- The ABANDON of its owner or of an ADMIN link: pending during a pass, and at once otherwise (R59 to R61). -/
theorem abandon_mayEnd : (s.tagTaken l tag).handle (s.replyTo l tag (.abandon n)) (.abandon n) =
    if f.state = .writing ∨ f.state = .verifying then
      ((s.tagTaken l tag).modCommit q (fun c => { c with abandonPending := true })).respond (s.replyTo l tag (.abandon n)) .done
        (.abandoned f.inst true)
    else ((s.tagTaken l tag).abandonSlot q).respond (s.replyTo l tag (.abandon n)) .done (.abandoned f.inst false) := by
  have hslot : (s.tagTaken l tag).slotOf n = some (q, f) := s.slotOf_some n q f hq hf
  have hmay : ¬(f.owner ≠ (s.replyTo l tag (.abandon n)).link ∧
      (!holds ((s.tagTaken l tag).rights.get (s.replyTo l tag (.abandon n)).link) rAdmin) = true) := by
    rintro ⟨hne, hr⟩
    obtain ho | ho := ho
    · exact hne ho
    · simp [State.replyTo, holds, rAdmin] at hr
      exact ho hr
  simp only [State.handle, handleAbandon, hslot, if_neg hmay]

theorem abandon_pending (hs : f.state = .writing ∨ f.state = .verifying) :
    exec (.abandon l tag n) s = .next (State.answered { s with
      filings := s.filings.set q (some { f with commit := f.commit.map (fun c => { c with abandonPending := true }) }) }
      l tag 0x33 .done (.abandoned f.inst true)) := by
  refine request_changes s { s with filings := _ } l tag _ h .done _ rfl h.1.1.2.1 ?_
  rw [abandon_mayEnd hq hf ho, if_pos hs]
  simp only [State.modCommit, State.modFiling, State.setFiling, State.tagTaken_filings, hf]
  rfl

/-- An ABANDON taken at once: FIL's use of a side and the Library Unit as they are after what FIL gives up, and the work it hands over bringing
nothing (R60). -/
theorem abandon_ends (hs : ¬(f.state = .writing ∨ f.state = .verifying)) (hi : s.cat.isFiling f.inst = true) {use : Option FilUse} {lib : Library}
    {ts : List Task} (hdrop : (s.tagTaken l tag).dropUse q = (State.tagTaken { s with filUse := use, lib := lib } l tag).later ts)
    (hsettle : ∀ k, ∃ m ≤ 4096, State.Works { s.slotFreed q f.inst with filUse := use, lib := lib, links := k } (ts ++ [.headTurn])
      { s.slotFreed q f.inst with filUse := use, lib := lib, links := k } m) :
    exec (.abandon l tag n) s = .next ((State.answerOpt { s.slotFreed q f.inst with filUse := use, lib := lib } (f.commit.map (·.reply)) .aborted
      .none).answered l tag 0x33 .done (.abandoned f.inst false)) := by
  refine (request_takes s l tag _ h).trans (congrArg Host.Outcome.next ?_)
  have hi' : ((s.tagTaken l tag).dropUse q).cat.isFiling f.inst = true := by rw [hdrop]; exact hi
  have hfree : ((State.tagTaken { s with filUse := use, lib := lib } l tag).later ts).slotFreed q f.inst =
      (State.tagTaken { s.slotFreed q f.inst with filUse := use, lib := lib } l tag).later ts := rfl
  have hreply : s.replyTo l tag (.abandon n) = State.replyTo { s.slotFreed q f.inst with filUse := use, lib := lib } l tag (.abandon n) := rfl
  rw [abandon_mayEnd hq hf ho, if_neg hs, State.abandonSlot_eq (s := s.tagTaken l tag) hf hi', hdrop, hfree, hreply]
  generalize hw : ({ s.slotFreed q f.inst with filUse := use, lib := lib } : State) = w
  rw [State.answerOpt_later, State.later_later, State.respond_later, State.answerOpt_tagTaken,
    ← w.replyTo_answerOpt (f.commit.map (·.reply)) .aborted .none, State.respond_tagTaken]
  obtain ⟨k, hk⟩ := w.answerOpt_frame (f.commit.map (·.reply)) .aborted .none
  subst hw
  rw [hk]
  obtain ⟨m, hm, hworks⟩ := hsettle ((k.set l { k.get l with
    tags := setTag (k.get l).tags tag true
    responses := (k.get l).responses ++ [{ tag := some tag, code := 0x33, status := .done, body := .abandoned f.inst false }] }))
  exact hworks.settle hm

end

/-! ## The idle timer -/

theorem State.whenPowered_running {s t : State} (h : s.power = .running) : s.whenPowered t = t := by
  simp [State.whenPowered, State.powered, h]

theorem State.idleExpired_iff (s : State) (f : Filing) : s.idleExpired f = true ↔ f.state = .receiving ∧ f.idleSince + 600000 ≤ s.ref := by
  rw [State.idleExpired, Bool.and_eq_true, beq_iff_eq]
  exact and_congr_right fun _ => decide_eq_true_iff

theorem exec_filingIdleTimeout (q : FSlot) (s : State) (hs : s.Quiet) : exec (.filingIdleTimeout q) s = .next (s.idleExpiry q).settle := by
  show done (s.whenPowered (s.idleExpiry q)) = _
  rw [State.whenPowered_running hs.1]
  rfl

/-- Freeing a slot whose instrument claims nothing. -/
theorem State.slotFreed_unclaiming (s : State) (q : FSlot) (n : InstrNum) (hi : s.cat.isFiling n = true) (hc : ∀ e ∈ s.cat.table, e.claim ≠ some n)
    {rest : List FSlot} (hq : s.commitQueue.erase q = rest) :
    s.slotFreed q n =
      { s with
        ring := (s.ring.map (fun b => if b.slot = q then { b with mark := .discarded } else b)).dropWhile (fun b => b.mark ≠ .live)
        cat := { s.cat with table := s.cat.table.map (fun e => if e.num = n then { e with state := .lodged } else e) }
        reserved := s.reserved.set q []
        filings := s.filings.set q none
        commitQueue := rest } :=
  hq ▸ (s.discardSlot_eq_slotFreed q n hi).symm.trans (s.discardSlot_eq q n hi hc)

theorem filingIdleTimeout_expires {q : FSlot} {f : Filing} {s : State} (hs : s.Quiet) (hf : s.filings.get q = some f)
    (hr : f.state = .receiving) (ht : f.idleSince + 600000 ≤ s.ref) (hi : s.cat.isFiling f.inst = true) :
    exec (.filingIdleTimeout q) s = .next ((s.slotFreed q f.inst).post (.filingTimeout q f.inst f.owner f.blocks)) := by
  rw [exec_filingIdleTimeout q s hs]
  have hexp : s.idleExpiry q = (s.slotFreed q f.inst).post (.filingTimeout q f.inst f.owner f.blocks) := by
    simp only [State.idleExpiry, hf, if_pos ((s.idleExpired_iff f).2 ⟨hr, ht⟩), s.discardSlot_eq_slotFreed q f.inst hi]
  rw [hexp, State.settle_nil]
  exact (State.post_agenda _ _).trans hs.2

theorem filingIdleTimeout_early {q : FSlot} {f : Filing} {s : State} (hs : s.Quiet) (hf : s.filings.get q = some f)
    (h : f.state ≠ .receiving ∨ s.ref < f.idleSince + 600000) : exec (.filingIdleTimeout q) s = .next s := by
  rw [exec_filingIdleTimeout q s hs]
  have hno : ¬s.idleExpired f = true := by
    rw [s.idleExpired_iff f]
    rintro ⟨hr, ht⟩
    obtain h | h := h
    · exact h hr
    · omega
  have hexp : s.idleExpiry q = s := by simp only [State.idleExpiry, hf, if_neg hno]
  rw [hexp, State.settle_nil s hs.2]

/-! ## The statement -/

section
variable {l : Link} {tag n : Nat} {q : FSlot} {f : Filing} {s : State} (h : s.Takes l tag (.abandon n)) (hq : q.toNat = n)
  (hf : s.filings.get q = some f) (ho : f.owner = l ∨ s.rights.get l &&& 0x80#8 ≠ 0#8) (hs : ¬(f.state = .writing ∨ f.state = .verifying))
  (hi : s.cat.isFiling f.inst = true)
include h hq hf ho hs hi

/-- ABANDON of a slot FIL does nothing with, where the head of the commit queue left has no turn to start. -/
theorem abandon_leavesUse (hu : ∀ u, s.filUse = some u → u.slot ≠ some q) (hrest : (s.slotFreed q f.inst).HeadRests) :
    exec (.abandon l tag n) s = .next (((s.slotFreed q f.inst).answerOpt (f.commit.map (·.reply)) .aborted .none).answered l tag 0x33 .done
      (.abandoned f.inst false)) := by
  have hdrop : (s.tagTaken l tag).dropUse q = (s.tagTaken l tag).later [] := by
    rw [State.later_nil]
    cases hfil : s.filUse with
    | none => exact State.dropUse_none hfil
    | some u => exact State.dropUse_other hfil (hu u hfil)
  exact abandon_ends h hq hf ho hs hi hdrop fun k => ⟨1, by decide, .rests h.1.1.2.1 (State.headTurn_rests hrest) (.nothing h.1.1.2.1)⟩

variable (hqueue : s.commitQueue = [q])
include hqueue

omit h hq hf ho hs hi in
/-- With its one slot free the commit queue is empty. -/
theorem State.slotFreed_only (n : InstrNum) : (s.slotFreed q n).commitQueue = [] := by simp [State.slotFreed, hqueue]

/-- ABANDON of a slot FIL was at work for, the one in the commit queue. -/
theorem abandon_givesUp {use : Option FilUse} {lib : Library}
    (hdrop : (s.tagTaken l tag).dropUse q = State.tagTaken { s with filUse := use, lib := lib } l tag) :
    exec (.abandon l tag n) s = .next ((State.answerOpt { s.slotFreed q f.inst with filUse := use, lib := lib } (f.commit.map (·.reply)) .aborted
      .none).answered l tag 0x33 .done (.abandoned f.inst false)) := by
  have hnil := State.slotFreed_only hqueue f.inst
  exact abandon_ends h hq hf ho hs hi (hdrop.trans (State.later_nil _).symm) fun k =>
    ⟨1, by decide, .rests h.1.1.2.1 (State.headTurn_rests (.of_nil hnil)) (.nothing h.1.1.2.1)⟩

/-- ABANDON of a slot whose use stands on the work list of a drive that is not READY, with others. -/
theorem abandon_unlists {u : FilUse} (hu : s.filUse = some u) (hslot : u.slot = some q) {d : DriveNo}
    (hg : u.stage = .listed d) (hd : (s.lib.drives.get d).state ≠ .ready) (hmore : (s.lib.drives.get d).work.erase .filing ≠ []) :
    exec (.abandon l tag n) s = .next ((State.answerOpt { s.slotFreed q f.inst with
      filUse := none
      lib := { s.lib with drives := s.lib.drives.set d { s.lib.drives.get d with work := (s.lib.drives.get d).work.erase .filing } } }
      (f.commit.map (·.reply)) .aborted .none).answered l tag 0x33 .done (.abandoned f.inst false)) := by
  have hdrop : (s.tagTaken l tag).dropUse q = (State.tagTaken { s with
      filUse := none
      lib := { s.lib with drives := s.lib.drives.set d { s.lib.drives.get d with work := (s.lib.drives.get d).work.erase .filing } } } l tag).later
      [.driveNext d] := by
    rw [State.dropUse_listed (s := s.tagTaken l tag) hu hslot hg, State.removeUse_more (s := s.tagTaken l tag) hmore]
    rfl
  have hnil := State.slotFreed_only hqueue f.inst
  refine abandon_ends h hq hf ho hs hi hdrop fun k =>
    ⟨2, by decide, .rests h.1.1.2.1 (State.driveNext_notReady ?_) (.rests h.1.1.2.1 (State.headTurn_rests (.of_nil hnil)) (.nothing h.1.1.2.1))⟩
  simpa using hd

end

/-- The head of the commit queue has no turn to start once a slot behind it, or one not in the queue, is free. -/
theorem State.HeadRests.slotFreed_behind {s : State} {q h : FSlot} {g : Filing} {n : InstrNum} (hhead : s.commitQueue.head? = some h)
    (hg : s.filings.get h = some g) (hne : h ≠ q)
    (hrest : (∃ u, s.filUse = some u ∧ u.slot ≠ some q) ∨ (s.filUse = none ∧ g.state = .waitingMedia)) : (s.slotFreed q n).HeadRests := by
  obtain ⟨u, hu, -⟩ | ⟨-, hwait⟩ := hrest
  · refine .inl fun hnone => ?_
    have hnone' : s.filUse = none := hnone
    rw [hu] at hnone'
    cases hnone'
  · refine .inr fun q' f' hh => ?_
    obtain ⟨rest, hqueue⟩ := List.head?_eq_some_iff.1 hhead
    have hqueue' : (s.slotFreed q n).commitQueue = h :: rest.erase q := by
      simp [State.slotFreed, hqueue, hne]
    have hg' : (s.slotFreed q n).filings.get h = some g := (Four.get_set_ne _ _ _ _ hne).trans hg
    rw [State.head?_cons hqueue', hg'] at hh
    obtain ⟨rfl, rfl⟩ : h = q' ∧ g = f' := by simpa using hh
    simp [hwait]

/-- The ABORTED response of a slot given up, to a link not reset since. -/
theorem State.aborted_eq_queued {s w : State} {f : Filing} {c : Commit} (hc : f.commit = some c)
    (hgen : (s.links.get c.reply.link).resetCount = c.reply.gen) (hw : w.links = s.links) :
    w.answerOpt (f.commit.map (·.reply)) .aborted .none = w.queued c.reply .aborted .none := by
  rw [hc, Option.map_some, w.answerOpt_some _ _ _ (hw ▸ hgen)]

/-- Settles O36: ABANDON by the state of the slot and what FIL does for it, then the idle timer. -/
theorem filingsEndEarly : Obligations.FilingsEndEarly := by
  refine ⟨fun l tag n s h => ⟨abandon_noFiling h, fun q f hq hf => ⟨abandon_notOwner h hq hf, fun ho => ?_⟩⟩,
    fun s l tag q f hf c hc h ho hs hi hgen => ?_, fun q f s hs hf => ⟨fun hr ht hi hclaim hqueue => ?_, filingIdleTimeout_early hs hf⟩⟩
  · refine ⟨abandon_pending h hq hf ho, fun hs hi hclaim hc hu hqueue => ?_, fun c hs hi hclaim hc hu hqueue hgen => ?_⟩
    · have herase : s.commitQueue.erase q = s.commitQueue := by simp [hqueue]
      have hend := abandon_leavesUse h hq hf ho (by simp [hs]) hi hu (.of_nil (by simp [State.slotFreed, hqueue]))
      rw [hc, s.slotFreed_unclaiming q f.inst hi hclaim herase] at hend
      exact hend
    · have hend := abandon_leavesUse h hq hf ho (by rcases hs with hs | hs <;> simp [hs]) hi (by simp [hu]) (.of_nil (State.slotFreed_only hqueue _))
      rw [State.aborted_eq_queued (w := s.slotFreed q f.inst) hc hgen rfl,
        s.slotFreed_unclaiming q f.inst hi hclaim (show s.commitQueue.erase q = [] by simp [hqueue])] at hend
      exact hend
  · have hs' : ¬(f.state = .writing ∨ f.state = .verifying) := by rcases hs with hs | hs <;> simp [hs]
    intro ended
    refine ⟨fun h' hhead g hg hne hrest => ?_, fun u hu hslot hqueue => ⟨fun hg => ?_, fun d hg hd hmore => ?_, fun hg => ?_⟩⟩
    · have huse : ∀ u, s.filUse = some u → u.slot ≠ some q := by
        intro u hu
        obtain ⟨v, hv, hslot⟩ | ⟨hnone, -⟩ := hrest
        · rwa [Option.some.inj (hu.symm.trans hv)]
        · rw [hnone] at hu
          cases hu
      have hend := abandon_leavesUse h rfl hf ho hs' hi huse (.slotFreed_behind (by simpa using hhead) hg hne hrest)
      rw [State.aborted_eq_queued (w := s.slotFreed q f.inst) hc hgen rfl] at hend
      exact hend
    · have hdrop : (s.tagTaken l tag).dropUse q = State.tagTaken { s with filUse := none, lib := s.leaveFiling.lib } l tag :=
        State.dropUse_demanded (s := s.tagTaken l tag) hu hslot hg
      have hend := abandon_givesUp h rfl hf ho hs' hi hqueue hdrop
      rw [State.aborted_eq_queued hc hgen, State.leaveFiling_eq] at hend
      · exact hend
      · rfl
    · have hend := abandon_unlists h rfl hf ho hs' hi hqueue hu hslot hg hd hmore
      rw [State.aborted_eq_queued hc hgen] at hend
      · exact hend
      · rfl
    · obtain ⟨d, hg⟩ := hg
      have hdrop : (s.tagTaken l tag).dropUse q = State.tagTaken { s with filUse := some { u with slot := none }, lib := s.lib } l tag :=
        State.dropUse_header (s := s.tagTaken l tag) hu hslot hg
      have hend := abandon_givesUp h rfl hf ho hs' hi hqueue hdrop
      rw [State.aborted_eq_queued hc hgen] at hend
      · exact hend
      · rfl
  · have hend := filingIdleTimeout_expires hs hf hr ht hi
    rw [s.slotFreed_unclaiming q f.inst hi hclaim (List.erase_of_not_mem hqueue)] at hend
    exact hend

end Sys2Proof.Machine
end

section
/-!
PROOFS. What the map read of a COMMIT tests: the claim faults (R8), the index room (R14), and the page map (R57, R198); and the side search (R66).
-/
namespace Sys2Proof.Machine
set_option Elab.async false

/-! ## Claims -/

/-- A supersede target has an invalid fault (R8, Table 1-4). -/
theorem CatMem.targetInvalid_iff (c : CatMem) (x : Entry) (m : InstrNum) :
    c.targetInvalid x m = true ↔ c.entry? m = none ∨ ∃ e, c.entry? m = some e ∧
      ((∀ loc pages, e.state ≠ .recorded loc pages) ∨ e.successor ≠ none ∨ x.stamp.toMs ≤ e.stamp.toMs) := by
  unfold CatMem.targetInvalid
  cases hm : c.entry? m with
  | none => simp
  | some e =>
    simp only [Bool.or_eq_true, decide_eq_true_eq, Option.isSome_iff_ne_none, reduceCtorEq, Option.some.injEq, exists_eq_left', false_or, or_assoc]
    refine or_congr_left ?_
    cases e.state <;> simp

/-- A list that is its own distinct elements has no number twice (R8). -/
theorem distinct_eq_iff (l : List InstrNum) : distinct l = l ↔ l.Nodup :=
  ⟨fun h => h ▸ nodup_distinct l, distinct_of_nodup⟩

theorem CatMem.claimedTarget_iff (c : CatMem) (ts : List InstrNum) :
    ts.any (fun n => ((c.entry? n).bind (·.claim)).isSome) = true ↔ ∃ m ∈ ts, ∃ e, c.entry? m = some e ∧ e.claim ≠ none := by
  simp only [List.any_eq_true, Option.isSome_iff_exists, Option.bind_eq_some_iff, Option.ne_none_iff_exists']
  grind

section
variable {c : CatMem} {n : InstrNum} {x : Entry} {ts : List InstrNum} (hx : c.entry? n = some x)
include hx

theorem CatMem.claimFault_invalid (h : (∃ m ∈ ts, c.targetInvalid x m = true) ∨ ¬ts.Nodup) : c.claimFault n ts = some .supersedeInvalid := by
  have hany : (ts.any (c.targetInvalid x) || decide (distinct ts ≠ ts)) = true := by
    simpa [List.any_eq_true, distinct_eq_iff] using h
  simp only [CatMem.claimFault, hx, hany, if_true]

theorem CatMem.claimFault_valid (h : ∀ m ∈ ts, ¬c.targetInvalid x m = true) (hd : ts.Nodup) :
    c.claimFault n ts = if ts.any (fun n => ((c.entry? n).bind (·.claim)).isSome) then some .supersedeClaimed else none := by
  have hany : (ts.any (c.targetInvalid x) || decide (distinct ts ≠ ts)) = false := by
    simpa [List.any_eq_true, distinct_eq_iff, hd] using h
  simp only [CatMem.claimFault, hx, hany, Bool.false_eq_true, if_false]

end

/-! ## Index room -/

theorem CatMem.folio?_isNone (c : CatMem) (f : Nat) : (c.folio? f).isNone = !c.folios.any (fun r => r.folio == f) := by
  rw [Bool.eq_iff_iff]
  simp [CatMem.folio?, findKeyed]

/-- There is index room within 262,144 links and 32,768 records, reservations counted (R14). -/
theorem State.folioRoom_within (s : State) (fs : List Nat) :
    s.folioRoom fs = true ↔
      (s.cat.folios.map (fun r => r.list.length)).sum + s.reservedAll.length + fs.length ≤ 262144 ∧
        s.cat.folios.length + ((distinct s.reservedAll).filter (fun f => !s.cat.folios.any (fun r => r.folio == f))).length +
          (fs.filter (fun f => !s.cat.folios.any (fun r => r.folio == f) && !s.reservedAll.contains f)).length ≤ 32768 := by
  simp only [State.folioRoom, State.rNew, CatMem.folio?_isNone, Bool.and_eq_true, decide_eq_true_eq]
  exact Iff.rfl

/-! ## Page maps -/

/-- Entry `i` of a map block: entry 0 is the page count, and the others are page offsets (R198). -/
def mapEntry (b : List Byte) (i : Nat) : Nat := field2 b (2 * i)

/-- A list is what stands before its last part of zeros, and no zero stands at the end of that. -/
theorem rdropZeros_spec (l : List Nat) : ∃ tail, l = (l.reverse.dropWhile (· == 0)).reverse ++ tail ∧ (∀ x ∈ tail, x = 0) ∧
    ∀ x, (l.reverse.dropWhile (· == 0)).reverse.getLast? = some x → x ≠ 0 := by
  refine ⟨(l.reverse.takeWhile (· == 0)).reverse, ?_, ?_, ?_⟩
  · rw [← List.reverse_append, List.takeWhile_append_dropWhile, List.reverse_reverse]
  · intro x hx
    simpa using List.mem_takeWhile_imp (List.mem_reverse.1 hx)
  · intro x hx
    rw [List.getLast?_reverse] at hx
    have := List.head?_dropWhile_not (· == 0) l.reverse
    rw [hx] at this
    simpa using this

theorem mapEntries_eq (b : List Byte) : (List.range 255).map (fun i => field2 b (2 + 2 * i)) = (List.range' 1 255).map (mapEntry b) := by
  rw [List.range'_eq_map_range, List.map_map]
  refine List.map_congr_left fun i _ => ?_
  exact congrArg (field2 b) (show 2 + 2 * i = 2 * (1 + i) by omega)

/-- The offsets of a map are its entries from 1 to their number, and every later entry is 0. -/
theorem mapOffsets_eq (b : List Byte) : (mapOffsets b).length ≤ 255 ∧ mapOffsets b = (List.range' 1 (mapOffsets b).length).map (mapEntry b) ∧
    ∀ i, (mapOffsets b).length < i → i ≤ 255 → mapEntry b i = 0 := by
  obtain ⟨tail, happ, hzero, -⟩ := rdropZeros_spec ((List.range' 1 255).map (mapEntry b))
  have hoffs : mapOffsets b = (((List.range' 1 255).map (mapEntry b)).reverse.dropWhile (· == 0)).reverse := by
    rw [mapOffsets, mapEntries_eq]
  rw [← hoffs] at happ
  have hlen : (mapOffsets b).length + tail.length = 255 := by
    have := congrArg List.length happ
    simpa using this.symm
  have hget : ∀ i, i < 255 → ((mapOffsets b) ++ tail)[i]? = some (mapEntry b (1 + i)) := by
    intro i hi
    rw [← happ, List.getElem?_map, List.getElem?_range' hi]
    simp
  refine ⟨by omega, ?_, fun i h1 h2 => ?_⟩
  · refine List.ext_getElem? fun i => ?_
    by_cases hi : i < (mapOffsets b).length
    · have := hget i (by omega)
      rw [List.getElem?_append_left hi] at this
      rw [this, List.getElem?_map, List.getElem?_range' hi]
      simp
    · rw [List.getElem?_eq_none (by omega), List.getElem?_eq_none (by simp; omega)]
  · have hi := hget (i - 1) (by omega)
    rw [List.getElem?_append_right (by omega), show 1 + (i - 1) = i by omega] at hi
    exact hzero _ (List.mem_of_getElem? hi)

/-- A map whose last entry is that of a page, and not 0, has the offsets of its pages. -/
theorem mapOffsets_of_pages (b : List Byte) (pages : Nat) (h1 : 1 ≤ pages) (h2 : pages ≤ 255) (hlast : mapEntry b pages ≠ 0)
    (hzero : ∀ i, pages < i → i ≤ 255 → mapEntry b i = 0) : mapOffsets b = (List.range' 1 pages).map (mapEntry b) := by
  obtain ⟨tail, happ, htail, hend⟩ := rdropZeros_spec ((List.range' 1 255).map (mapEntry b))
  obtain ⟨hle, heq, habove⟩ := mapOffsets_eq b
  have hoffs : mapOffsets b = (((List.range' 1 255).map (mapEntry b)).reverse.dropWhile (· == 0)).reverse := by
    rw [mapOffsets, mapEntries_eq]
  have hlow : pages ≤ (mapOffsets b).length := by
    by_contra hlt
    exact hlast (habove pages (by omega) h2)
  have hhigh : (mapOffsets b).length ≤ pages := by
    by_contra hlt
    have hget : (mapOffsets b).getLast? = some (mapEntry b (mapOffsets b).length) := by
      rw [List.getLast?_eq_getElem?]
      conv_lhs => rw [heq]
      rw [List.length_map, List.length_range', List.getElem?_map, List.getElem?_range' (by omega)]
      simp
      congr 1
      omega
    rw [← hoffs] at hend
    exact hend _ hget (hzero _ (by omega) hle)
  rw [heq, Nat.le_antisymm hhigh hlow]

theorem ascending_iff (l : List Nat) : ascending l = true ↔ l.Pairwise (· < ·) := by
  induction l with
  | nil => simp [ascending]
  | cons a l ih => simp [ascending, ih, List.pairwise_cons]

/-- The entries of the pages ascend, and lie below the length, when each is below the next and the last below the length. -/
theorem ascending_entries (e : Nat → Nat) (pages len : Nat) (h1 : 1 ≤ pages) :
    (ascending ((List.range' 1 pages).map e) = true ∧ ((List.range' 1 pages).map e).all (fun o => decide (o < len)) = true) ↔
      (∀ i, 1 ≤ i → i < pages → e i < e (i + 1)) ∧ e pages < len := by
  rw [ascending_iff]
  constructor
  · rintro ⟨hasc, hall⟩
    rw [List.pairwise_map, List.pairwise_iff_getElem] at hasc
    refine ⟨fun i hi hlt => ?_, ?_⟩
    · have := hasc (i - 1) i (by simp; omega) (by simp; omega) (by omega)
      simp only [List.getElem_range'] at this
      rwa [show 1 + 1 * (i - 1) = i by omega, show 1 + 1 * i = i + 1 by omega] at this
    · simpa using List.all_eq_true.1 hall (e pages) (List.mem_map_of_mem (List.mem_range'_1.2 ⟨h1, by omega⟩))
  · rintro ⟨hstep, hlast⟩
    have hmono : ∀ i j, 1 ≤ i → i < j → j ≤ pages → e i < e j := by
      intro i j hi hij
      induction j, hij using Nat.le_induction with
      | base => exact fun hj => hstep i hi (by omega)
      | succ j hij ih => exact fun hj => (ih (by omega)).trans (hstep j (by omega) (by omega))
    refine ⟨?_, ?_⟩
    · rw [List.pairwise_map]
      refine (List.pairwise_lt_range' (s := 1) (n := pages) (step := 1)).imp_of_mem ?_
      intro i j hi hj hij
      exact hmono i j (List.mem_range'_1.1 hi).1 hij (by have := (List.mem_range'_1.1 hj).2; omega)
    · simp only [List.all_map, List.all_eq_true, List.mem_range'_1, Function.comp_apply, decide_eq_true_eq]
      intro i hi
      obtain rfl | hlt : i = pages ∨ i < pages := by omega
      · exact hlast
      · exact (hmono i pages hi.1 hlt le_rfl).trans hlast

/-- A map that agrees with a page count has the offsets of its pages. -/
theorem mapOffsets_of_mapOk {b : List Byte} {pages len : Nat} (h : mapOk b pages len = true) :
    mapOffsets b = (List.range' 1 pages).map (mapEntry b) := by
  have hlen : (mapOffsets b).length = pages := by
    simp only [mapOk, Bool.and_eq_true, beq_iff_eq] at h
    obtain ⟨⟨⟨⟨⟨⟨-, hlen⟩, -⟩, -⟩, -⟩, -⟩, -⟩ := h
    exact hlen
  obtain ⟨-, heq, -⟩ := mapOffsets_eq b
  rwa [hlen] at heq

/-- A page map agrees with a page count and an extent length (R57, R96, Table 10-4). -/
theorem mapOk_iff (b : List Byte) (pages len : Nat) :
    mapOk b pages len = true ↔ mapEntry b 0 = pages ∧ 1 ≤ pages ∧ pages ≤ 255 ∧ mapEntry b 1 = 1 ∧
      (∀ i, 1 ≤ i → i < pages → mapEntry b i < mapEntry b (i + 1)) ∧ mapEntry b pages < len ∧ ∀ i, pages < i → i ≤ 255 → mapEntry b i = 0 := by
  have hhead : ∀ n, 1 ≤ n → ((List.range' 1 n).map (mapEntry b)).head? = some (mapEntry b 1) := by
    intro n hn
    obtain ⟨m, rfl⟩ : ∃ m, n = m + 1 := ⟨n - 1, by omega⟩
    rfl
  constructor
  · intro h
    have heq := mapOffsets_of_mapOk h
    simp only [mapOk, Bool.and_eq_true, beq_iff_eq, decide_eq_true_eq] at h
    obtain ⟨⟨⟨⟨⟨⟨hcount, hlen⟩, h1⟩, h2⟩, hasc⟩, hfirst⟩, hall⟩ := h
    obtain ⟨-, -, habove⟩ := mapOffsets_eq b
    rw [hlen] at habove
    rw [heq] at hasc hfirst hall
    obtain ⟨hstep, hlast⟩ := (ascending_entries (mapEntry b) pages len h1).1 ⟨hasc, hall⟩
    rw [hhead pages h1, Option.some.injEq] at hfirst
    exact ⟨hcount, h1, h2, hfirst, hstep, hlast, habove⟩
  · rintro ⟨hcount, h1, h2, hfirst, hstep, hlast, habove⟩
    have hpos : ∀ n, 1 ≤ n → n ≤ pages → mapEntry b n ≠ 0 := by
      intro n hn
      induction n, hn using Nat.le_induction with
      | base => intro _; omega
      | succ n hn ih =>
        intro hle
        have := hstep n hn (by omega)
        omega
    have heq := mapOffsets_of_pages b pages h1 h2 (hpos pages h1 le_rfl) habove
    obtain ⟨hasc, hall⟩ := (ascending_entries (mapEntry b) pages len h1).2 ⟨hstep, hlast⟩
    simp only [mapOk, Bool.and_eq_true, beq_iff_eq, decide_eq_true_eq, heq, hhead pages h1, hfirst]
    exact ⟨⟨⟨⟨⟨⟨hcount, by simp⟩, h1⟩, h2⟩, hasc⟩, trivial⟩, hall⟩

/-- A filing's map is valid for a COMMIT (R57). -/
theorem Filing.mapValid_iff (f : Filing) (b : List Byte) (p : CommitParams) :
    f.mapValid b p = true ↔ 2 ≤ f.blocks ∧ mapOk b (p.small + p.plan) f.blocks = true ∧ f.overflow = false ∧
      f.starts = (List.range' 1 (p.small + p.plan)).map (mapEntry b) := by
  simp only [Filing.mapValid, Bool.and_eq_true, decide_eq_true_eq, Bool.not_eq_true', beq_iff_eq, and_assoc]
  refine and_congr_right fun _ => and_congr_right fun hok => ?_
  rw [mapOffsets_of_mapOk hok]

end Sys2Proof.Machine
end

section
/-!
PROOFS. The side search (R66): a side it takes, the order of its candidates, and what it finds.
-/
namespace Sys2Proof.Machine
set_option Elab.async false

/-! ## Platters by their ids -/

/-- In a map in id order, a platter is found under its id. -/
theorem State.platter?_of_mem {s : State} (h : risingKeys Platter.id s.cat.platters = true) {p : Platter} (hp : p ∈ s.cat.platters) :
    s.platter? p.id = some p := by
  have hpair := (risingKeys_iff Platter.id _).1 h
  unfold State.platter? findKeyed
  generalize s.cat.platters = l at hp hpair
  induction l with
  | nil => cases hp
  | cons a l ih =>
    obtain ⟨ha, hl⟩ := List.pairwise_cons.1 hpair
    rcases List.mem_cons.1 hp with rfl | hp
    · simp
    · rw [List.find?_cons_of_neg (by have := ha p hp; simp; omega)]
      exact ih hp hl

theorem State.platter?_some {s : State} {id : Nat} {p : Platter} (h : s.platter? id = some p) : p ∈ s.cat.platters ∧ p.id = id :=
  findKeyed_some Platter.id id _ p h

/-! ## Lists searched in order -/

/-- What a search finds stands before everything else that fits. -/
theorem find?_before {α : Type} {R : α → α → Prop} {p : α → Bool} {l : List α} {a : α} (hR : l.Pairwise R) (h : l.find? p = some a) :
    ∀ x ∈ l, p x = true → x = a ∨ R a x := by
  induction l with
  | nil => cases h
  | cons b l ih =>
    obtain ⟨hb, hl⟩ := List.pairwise_cons.1 hR
    intro x hx hpx
    cases hpb : p b with
    | true =>
      rw [List.find?_cons_of_pos hpb] at h
      obtain rfl := Option.some.inj h
      exact (List.mem_cons.1 hx).imp_right (hb x)
    | false =>
      rw [List.find?_cons_of_neg (by simp [hpb])] at h
      rcases List.mem_cons.1 hx with rfl | hx
      · rw [hpb] at hpx
        cases hpx
      · exact ih hl h x hx hpx

theorem mem_insertKeyed_of_ne {α : Type} (key : α → Nat) {a x : α} {l : List α} (hx : x = a ∨ (x ∈ l ∧ key x ≠ key a)) : x ∈ insertKeyed key a l := by
  induction l with
  | nil => simpa [insertKeyed] using hx
  | cons b l ih => grind [insertKeyed]

/-! ## The platters in order of home slot -/

/-- The key of the order of home slots. -/
def Platter.homeKey (p : Platter) : Nat := p.home.getD 0

/-- The platters with a home slot inserted in the order of their slots. -/
def insertHomes (l : List Platter) (acc : List Platter) : List Platter :=
  l.foldl (fun l p => if p.home.isSome then insertKeyed Platter.homeKey p l else l) acc

theorem State.byHome_eq (s : State) : s.byHome = insertHomes s.cat.platters [] := rfl

theorem rising_insertHomes (l acc : List Platter) (h : risingKeys Platter.homeKey acc = true) : risingKeys Platter.homeKey (insertHomes l acc) = true := by
  induction l generalizing acc with
  | nil => exact h
  | cons p l ih =>
    refine ih _ ?_
    dsimp only
    split
    · exact risingKeys_insertKeyed _ _ _ h
    · exact h

theorem mem_of_insertHomes {l acc : List Platter} {x : Platter} (h : x ∈ insertHomes l acc) : x ∈ acc ∨ (x ∈ l ∧ x.home.isSome = true) := by
  induction l generalizing acc with
  | nil => exact .inl h
  | cons p l ih =>
    obtain h | ⟨hx, hs⟩ := ih h
    · dsimp only at h
      split at h
      · rename_i hp
        rcases mem_insertKeyed _ h with rfl | h
        · exact .inr ⟨List.mem_cons_self .., hp⟩
        · exact .inl h
      · exact .inl h
    · exact .inr ⟨List.mem_cons_of_mem _ hx, hs⟩

/-- Where no two platters have one home slot, each that has one is there. -/
theorem mem_insertHomes {l acc : List Platter} {x : Platter} (hx : x ∈ acc ∨ (x ∈ l ∧ x.home.isSome = true))
    (hkey : ∀ p ∈ l, p.home.isSome = true → p.homeKey = x.homeKey → p = x) : x ∈ insertHomes l acc := by
  induction l generalizing acc with
  | nil => simpa [insertHomes] using hx
  | cons p l ih =>
    refine ih ?_ fun p hp => hkey p (List.mem_cons_of_mem _ hp)
    dsimp only
    by_cases hp : p.home.isSome = true
    · rw [if_pos hp]
      by_cases hpx : p = x
      · exact .inl (mem_insertKeyed_of_ne _ (.inl hpx.symm))
      · have hne : x.homeKey ≠ p.homeKey := fun h => hpx (hkey p (List.mem_cons_self ..) hp h.symm)
        rcases hx with hx | ⟨hx, hs⟩
        · exact .inl (mem_insertKeyed_of_ne _ (.inr ⟨hx, hne⟩))
        · exact .inr ⟨(List.mem_cons.1 hx).resolve_left (fun h => hpx h.symm), hs⟩
    · rw [if_neg hp]
      rcases hx with hx | ⟨hx, hs⟩
      · exact .inl hx
      · exact .inr ⟨(List.mem_cons.1 hx).resolve_left (fun h => hp (h ▸ hs)), hs⟩

theorem State.mem_byHome {s : State} (huniq : ∀ p ∈ s.cat.platters, ∀ r ∈ s.cat.platters, p.home ≠ none → p.home = r.home → p = r) {p : Platter} :
    p ∈ s.byHome ↔ p ∈ s.cat.platters ∧ p.home ≠ none := by
  rw [State.byHome_eq]
  constructor
  · intro h
    obtain h | ⟨hp, hs⟩ := mem_of_insertHomes h
    · cases h
    · exact ⟨hp, Option.isSome_iff_ne_none.1 hs⟩
  · rintro ⟨hp, hs⟩
    refine mem_insertHomes (.inr ⟨hp, Option.isSome_iff_ne_none.2 hs⟩) fun r hr hrs hkey => ?_
    obtain ⟨m, hm⟩ := Option.isSome_iff_exists.1 hrs
    obtain ⟨n, hn⟩ := Option.ne_none_iff_exists'.1 hs
    have hmn : m = n := by simpa [Platter.homeKey, hm, hn] using hkey
    exact huniq r hr p hp (Option.isSome_iff_ne_none.1 hrs) (by rw [hm, hn, hmn])

/-! ## The candidates -/

/-- The home slot of a side's platter. -/
def State.homeOf (s : State) (ps : PlatterSide) : Option Nat := (s.platter? ps.platter).bind (fun p => p.home)

/-- The search comes to a side before another: by home slot, and side 0 before side 1. -/
def State.Before (s : State) (a b : PlatterSide) : Prop :=
  ∃ n m, s.homeOf a = some n ∧ s.homeOf b = some m ∧ (n < m ∨ (n = m ∧ a.side = .s0 ∧ b.side = .s1))

/-- The sides of the platters with a home slot, in the order the search comes to them (R66). -/
def State.homeSides (s : State) : List PlatterSide := s.byHome.flatMap (fun p => [⟨p.id, .s0⟩, ⟨p.id, .s1⟩])

section
variable {s : State} (hids : risingKeys Platter.id s.cat.platters = true)
  (huniq : ∀ p ∈ s.cat.platters, ∀ r ∈ s.cat.platters, p.home ≠ none → p.home = r.home → p = r)
include hids huniq

theorem State.mem_homeSides {ps : PlatterSide} : ps ∈ s.homeSides ↔ ∃ n, s.homeOf ps = some n := by
  simp only [State.homeSides, List.mem_flatMap, State.mem_byHome huniq]
  constructor
  · rintro ⟨p, ⟨hp, hs⟩, hps⟩
    obtain ⟨n, hn⟩ := Option.ne_none_iff_exists'.1 hs
    have hid : ps.platter = p.id := by
      simp only [List.mem_cons, List.not_mem_nil, or_false] at hps
      rcases hps with rfl | rfl <;> rfl
    exact ⟨n, by simp only [State.homeOf, hid, State.platter?_of_mem hids hp, Option.bind_some, hn]⟩
  · rintro ⟨n, hn⟩
    obtain ⟨p, hp, hhome⟩ := Option.bind_eq_some_iff.1 hn
    obtain ⟨hmem, hid⟩ := State.platter?_some hp
    refine ⟨p, ⟨hmem, by simp [hhome]⟩, ?_⟩
    obtain ⟨id, sd⟩ := ps
    subst hid
    cases sd <;> simp

theorem State.homeSides_ordered : s.homeSides.Pairwise s.Before := by
  have hhome : ∀ p ∈ s.byHome, ∀ sd, s.homeOf ⟨p.id, sd⟩ = some p.homeKey := by
    intro p hp sd
    obtain ⟨hmem, hs⟩ := (State.mem_byHome huniq).1 hp
    obtain ⟨n, hn⟩ := Option.ne_none_iff_exists'.1 hs
    simp [State.homeOf, State.platter?_of_mem hids hmem, hn, Platter.homeKey]
  have hrise := (risingKeys_iff Platter.homeKey _).1 (rising_insertHomes s.cat.platters [] rfl)
  rw [← State.byHome_eq] at hrise
  rw [State.homeSides, List.pairwise_flatMap]
  refine ⟨fun p hp => ?_, hrise.imp_of_mem fun {p r} hp hr hlt => ?_⟩
  · simp only [List.pairwise_cons, List.mem_singleton, forall_eq, List.not_mem_nil, false_imp_iff, implies_true, List.Pairwise.nil, and_true]
    exact ⟨_, _, hhome p hp _, hhome p hp _, .inr ⟨rfl, rfl, rfl⟩⟩
  · intro a ha b hb
    simp only [List.mem_cons, List.not_mem_nil, or_false] at ha hb
    rcases ha with rfl | rfl <;> rcases hb with rfl | rfl <;> exact ⟨_, _, hhome p hp _, hhome r hr _, .inl hlt⟩

end

/-! ## What it takes -/

/-- A side the search takes for a filing (R66). -/
def State.searchTakes (s : State) (f : Filing) (ps : PlatterSide) : Bool :=
  s.reachable ps.platter && !f.failed.contains ps &&
    (match s.sideRec? ps with
     | some x => x.state == .blank || x.state == .unchecked
     | none => false)

theorem Filing.failed_contains (f : Filing) (ps : PlatterSide) : f.failed.contains ps = false ↔ ∀ c, f.commit = some c → ps ∉ c.failed := by
  cases hc : f.commit <;> simp [Filing.failed, hc]

theorem State.reachable_iff {s : State} {id : Nat} {p : Platter} (h : s.platter? id = some p) :
    s.reachable id = true ↔ p.loc = .picker ∨ (∃ n, p.loc = .slot n) ∨ ∃ d, p.loc = .drive d ∧ (s.lib.drives.get d).state ≠ .fault := by
  have hloc : s.locOf id = some p.loc := by simp only [State.locOf, h, Option.map_some]
  unfold State.reachable
  rw [hloc]
  generalize p.loc = loc
  cases loc <;> simp [State.drive]

theorem State.searchTakes_iff (s : State) (f : Filing) (ps : PlatterSide) :
    s.searchTakes f ps = true ↔ ∃ p, s.platter? ps.platter = some p ∧
      ((p.sideRec ps.side).state = .blank ∨ (p.sideRec ps.side).state = .unchecked) ∧ (∀ c, f.commit = some c → ps ∉ c.failed) ∧
      (p.loc = .picker ∨ (∃ n, p.loc = .slot n) ∨ ∃ d, p.loc = .drive d ∧ (s.lib.drives.get d).state ≠ .fault) := by
  simp only [State.searchTakes, Bool.and_eq_true, Bool.not_eq_true', Filing.failed_contains]
  cases hp : s.platter? ps.platter with
  | none => simp [State.sideRec?, hp]
  | some p =>
    simp only [State.sideRec?, hp, Option.map_some, Option.some.injEq, exists_eq_left', State.reachable_iff hp, Bool.or_eq_true, beq_iff_eq]
    tauto

/-! ## What it finds -/

/-- The other side of the last filing platter (R66). -/
def State.lastOther (s : State) : List PlatterSide := s.lastFiling.toList.map (fun x => ⟨x.platter, x.side.other⟩)

theorem State.mem_lastOther {s : State} {ps : PlatterSide} : ps ∈ s.lastOther ↔ ∃ x, s.lastFiling = some x ∧ ps = ⟨x.platter, x.side.other⟩ := by
  simp [State.lastOther, eq_comm]

theorem State.findSide_eq (s : State) (f : Filing) : s.findSide f = (s.lastOther ++ s.homeSides).find? (s.searchTakes f) := by
  unfold State.findSide State.candidates State.lastOther
  cases s.lastFiling <;> rfl

section
variable {s : State} {f : Filing} (hids : risingKeys Platter.id s.cat.platters = true)
  (huniq : ∀ p ∈ s.cat.platters, ∀ r ∈ s.cat.platters, p.home ≠ none → p.home = r.home → p = r)
include hids huniq

theorem State.findSide_some {ps : PlatterSide} (h : s.findSide f = some ps) : s.searchTakes f ps = true ∧
    (ps ∈ s.lastOther ∨ ((∀ x ∈ s.lastOther, ¬s.searchTakes f x = true) ∧ ∃ n, s.homeOf ps = some n ∧
      ∀ x m, s.searchTakes f x = true → s.homeOf x = some m → n < m ∨ (n = m ∧ (ps.side = .s0 ∨ x.side = .s1)))) := by
  rw [State.findSide_eq] at h
  refine ⟨List.find?_some h, ?_⟩
  rw [List.find?_append, Option.or_eq_some_iff] at h
  obtain h | ⟨hnone, h⟩ := h
  · exact .inl (List.mem_of_find?_eq_some h)
  · obtain ⟨n, hn⟩ := (State.mem_homeSides hids huniq).1 (List.mem_of_find?_eq_some h)
    refine .inr ⟨List.find?_eq_none.1 hnone, n, hn, fun x m hx hm => ?_⟩
    obtain rfl | ⟨n', m', hn', hm', hlt⟩ :=
      find?_before (State.homeSides_ordered hids huniq) h x ((State.mem_homeSides hids huniq).2 ⟨m, hm⟩) hx
    · refine .inr ⟨Option.some.inj (hn.symm.trans hm), ?_⟩
      cases x.side <;> simp
    · obtain rfl := Option.some.inj (hn.symm.trans hn')
      obtain rfl := Option.some.inj (hm.symm.trans hm')
      exact hlt.imp_right fun ⟨heq, hside, _⟩ => ⟨heq, .inl hside⟩

theorem State.findSide_none (h : s.findSide f = none) {ps : PlatterSide} (hps : s.searchTakes f ps = true) : ps ∉ s.lastOther ∧ s.homeOf ps = none := by
  rw [State.findSide_eq, List.find?_eq_none] at h
  refine ⟨fun hmem => h ps (List.mem_append_left _ hmem) hps, ?_⟩
  rw [← Option.not_isSome_iff_eq_none, Option.isSome_iff_exists]
  intro hn
  exact h ps (List.mem_append_right _ ((State.mem_homeSides hids huniq).2 hn)) hps

end

/-- Where no side is BLANK or UNCHECKED the search finds none. -/
theorem State.findSide_noBlank {s : State} {f : Filing} (h : ∀ ps x, s.sideRec? ps = some x → x.state ≠ .blank ∧ x.state ≠ .unchecked) :
    s.findSide f = none := by
  rw [State.findSide_eq, List.find?_eq_none]
  intro ps _ hps
  obtain ⟨p, hp, hstate, -⟩ := (s.searchTakes_iff f ps).1 hps
  obtain ⟨hblank, hunchecked⟩ := h ps (p.sideRec ps.side) (by simp [State.sideRec?, hp])
  exact hstate.elim hblank hunchecked

end Sys2Proof.Machine
end

section
/-!
PROOFS. The map read of a COMMIT, with nothing else wanting the port (R57, R58, R116, R117); and the turn of the head of the commit queue: the side
test, the side search, the demand, and the first extent (R65, R66, R68, R69, R133).
-/
namespace Sys2Proof.Machine
set_option Elab.async false

/-! ## A move of the port -/

/-- With no drive, no inbound and no outbound channel wanting the port, it reads page maps (R116). -/
theorem State.portMove_mapRead {s : State} (hd : ∀ d, s.driveWants d = false) (hi : ∀ k, (s.inChans.get k).store = none)
    (ho : ∀ k, s.outWants k = false) (parity : Bool) : s.portMove parity = s.serveMapRead parity := by
  simp only [State.portMove, s.no_drive_wants hd, s.no_store_holds hi, s.no_out_wants ho]

/-- A move of the port, with the work it hands over, while no lane has anything waiting. -/
theorem exec_portMove_settles {s u : State} {parity : Bool} (h : (s.portMove parity).settle = u) (hl : ∀ k, (u.links.get k).lane = []) :
    exec (.bufferPortMove parity) s = .next u := by
  have ha : u.agenda = [] := h ▸ State.settle_agenda _
  show Host.Outcome.next ((((s.portMove parity).settle).drainAll).settle) = _
  rw [h, State.drainAll_nil _ hl, State.settle_nil _ ha]

theorem State.post_lane (s : State) (e : Event) (k : Link) : ((s.post e).links.get k).lane = (s.links.get k).lane := by
  unfold State.post
  split
  · cases k <;> simp only [Three.get, State.postTo] <;> split <;> rfl
  · rfl
  · rfl

theorem State.queued_lane (s : State) (y : Reply) (st : Status) (b : Body) (k : Link) : ((s.queued y st b).links.get k).lane = (s.links.get k).lane := by
  by_cases hk : k = y.link
  · simp [State.queued, hk]
  · simp [State.queued, Three.get_set_ne _ _ _ _ hk]

/-! ## The map read -/

theorem State.ringPos_mapReads (s : State) (rest : List MapRead) (q : FSlot) (e : Nat) : State.ringPos { s with mapReads := rest } q e = s.ringPos q e :=
  (rfl)

theorem CatMem.setClaims_eq (c : CatMem) (n : InstrNum) (ts : List InstrNum) :
    c.setClaims n ts = { c with table := c.table.map (fun e => if e.num ∈ ts then { e with claim := some n } else e) } := by
  simp only [CatMem.setClaims, List.contains_iff_mem]

/-- A filing whose COMMIT has been admitted at a time, in a state (R58). -/
def Filing.committed (f : Filing) (m : MapRead) (res : Bool) (fs : List Nat) (ts : List InstrNum) (now : Nat) (st : FilingState) : Filing :=
  { f with
    state := st
    commit := some { small := m.p.small, plan := m.p.plan, restricted := res, folios := fs, targets := ts, reply := m.reply, attempts := 0, failed := [], abandonPending := false, admitted := now } }

/-- The state in which a COMMIT has been admitted, with its commit queue: its targets claimed and its folios reserved (R58). -/
def State.admittedAs (s : State) (rest : List MapRead) (queue : List FSlot) (q : FSlot) (g : Filing) (fs : List Nat) (ts : List InstrNum) : State :=
  { s with
    mapReads := rest
    cat := { s.cat with table := s.cat.table.map (fun e => if e.num ∈ ts then { e with claim := some g.inst } else e) }
    filings := s.filings.set q (some g)
    commitQueue := queue
    reserved := s.reserved.set q (distinct fs) }

section
variable {s : State} {m : MapRead} {rest : List MapRead} (hm : s.mapReads = m :: rest) {q : FSlot} {f : Filing} {res : Bool} {fs : List Nat}
  {ts : List InstrNum} (ht : s.commitTests m.reply.link m.p = .ok (q, f, res, fs, ts))
include hm ht

theorem State.serveMapRead_parity :
    s.serveMapRead true = (State.post { s with mapReads := rest } (.bufferParity .mapRead (s.ringPos q 0))).answer m.reply .mediaFault := by
  have ht' : State.commitTests { s with mapReads := rest } m.reply.link m.p = .ok (q, f, res, fs, ts) := ht
  simp only [State.serveMapRead, hm, ht', State.ringPos_mapReads, if_true]

theorem State.serveMapRead_refused {st : Status} (hf : s.admissionFault f (Memory.readBlock s.mem (s.ringPos q 0)) m.p fs ts = some st) :
    s.serveMapRead false = State.answer { s with mapReads := rest } m.reply st := by
  have ht' : State.commitTests { s with mapReads := rest } m.reply.link m.p = .ok (q, f, res, fs, ts) := ht
  have hf' : State.admissionFault { s with mapReads := rest } f (Memory.readBlock s.mem (s.ringPos q 0)) m.p fs ts = some st := hf
  simp only [State.serveMapRead, hm, ht', State.ringPos_mapReads, Bool.false_eq_true, if_false, hf']

theorem State.serveMapRead_admits (hget : s.filings.get q = some f)
    (hf : s.admissionFault f (Memory.readBlock s.mem (s.ringPos q 0)) m.p fs ts = none) :
    s.serveMapRead false =
      if s.commitQueue.isEmpty then (s.admittedAs rest (s.commitQueue ++ [q]) q (f.committed m res fs ts s.ref .queued) fs ts).later [.headTurn]
      else s.admittedAs rest (s.commitQueue ++ [q]) q (f.committed m res fs ts s.ref .queued) fs ts := by
  have ht' : State.commitTests { s with mapReads := rest } m.reply.link m.p = .ok (q, f, res, fs, ts) := ht
  have hf' : State.admissionFault { s with mapReads := rest } f (Memory.readBlock s.mem (s.ringPos q 0)) m.p fs ts = none := hf
  simp only [State.serveMapRead, hm, ht', State.ringPos_mapReads, Bool.false_eq_true, if_false, hf', State.admitCommit, State.modCat, State.modFiling,
    State.setFiling, CatMem.setClaims_eq, hget, Option.map_some]
  rfl

end

section
variable {s : State} {f : Filing} {map : List Byte} {p : CommitParams} {fs : List Nat} {ts : List InstrNum}

theorem State.admissionFault_badMap (h : f.mapValid map p = false) : s.admissionFault f map p fs ts = some .badMap := by
  simp only [State.admissionFault, h, Bool.not_false, if_true]

variable (h : f.mapValid map p = true)
include h

theorem State.admissionFault_claim {st : Status} (hc : s.cat.claimFault f.inst ts = some st) : s.admissionFault f map p fs ts = some st := by
  simp only [State.admissionFault, h, Bool.not_true, Bool.false_eq_true, if_false, hc]

variable (hc : s.cat.claimFault f.inst ts = none)
include hc

theorem State.admissionFault_folio (hr : s.folioRoom (distinct fs) = false) : s.admissionFault f map p fs ts = some .folioFull := by
  simp only [State.admissionFault, h, Bool.not_true, Bool.false_eq_true, if_false, hc, hr, Bool.not_false, if_true]

theorem State.admissionFault_none (hr : s.folioRoom (distinct fs) = true) : s.admissionFault f map p fs ts = none := by
  simp only [State.admissionFault, h, Bool.not_true, Bool.false_eq_true, if_false, hc, hr]

end

/-! ## The turn of the head -/

section
variable {s : State} {q : FSlot} {f : Filing} (hu : s.filUse = none) (hh : s.head? = some (q, f))
include hu hh

section
variable (hs : f.state = .queued)
include hs

/-- With no OPEN side the head searches for one (R65). -/
theorem State.headTurn_searches (ho : s.openSide = none) : s.headTurn = s.later [.sideSearch] := by
  simp only [State.headTurn, hu, hh, hs, ho, ne_eq, not_true_eq_false, if_false]

/-- An OPEN side that takes the filing is demanded (R65). -/
theorem State.headTurn_demands {ps : PlatterSide} {fill : Nat} (ho : s.openSide = some (ps, fill)) (husable : s.usable f ps fill = true) :
    s.headTurn = s.demandSide q ps := by
  simp only [State.headTurn, hu, hh, hs, ho, husable, ne_eq, not_true_eq_false, if_false, if_true]

end

/-- A search that finds no side leaves the head waiting for media (R69). -/
theorem State.sideSearch_waits (hf : s.findSide f = none) :
    s.sideSearch = (s.modFiling q (fun f => { f with state := .waitingMedia })).post (.noBlankMedia q f.inst) := by
  simp only [State.sideSearch, hu, hh, hf]

/-- The side a search finds is demanded (R66). -/
theorem State.sideSearch_demands {ps : PlatterSide} (hf : s.findSide f = some ps) :
    s.sideSearch = (s.modFiling q (fun f => { f with state := .queued })).demandSide q ps := by
  simp only [State.sideSearch, hu, hh, hf]

end

/-- The picker begins nothing when it rests (R130, R136). -/
theorem State.pickerNext_rests {s : State} (h : s.PickerRests) : s.pickerNext = s := by
  unfold State.pickerNext
  split
  · rename_i hidle
    obtain hstate | ⟨hreturns, hmedia, hdemands⟩ := h
    · exact absurd hidle.1 hstate
    · have hnone : s.lib.demands.filter (·.mounting.isNone) = [] :=
        List.filter_eq_nil_iff.2 fun q hq hnone => hdemands q hq (Option.isNone_iff_eq_none.1 hnone)
      have hchoice : s.choice = none := by
        simp only [State.choice, hnone]
        rfl
      simp only [hreturns, hmedia, State.arbiter, hchoice]
  · rfl

/-- The use FIL makes of a side it has demanded (R67). -/
def FilUse.demanding (ps : PlatterSide) (q : FSlot) : FilUse := { side := ps, stage := .demanded, slot := some q, openTime := ⟨0, 0⟩, sawWritten := false }

section
variable {s : State} {q : FSlot} {ps : PlatterSide} {c : Commit} (hc : (s.filings.get q).bind (·.commit) = some c) (hd : s.demand? ps = none)
include hc hd

/-- A side that is in no drive is asked for by a new demand (R133). -/
theorem State.demandSide_waits (hm : s.mountedIn ps = none) :
    s.demandSide q ps = State.later { s with
      filUse := some (FilUse.demanding ps q)
      lib := { s.lib with demands := s.lib.demands ++ [{ side := ps, mounting := none, waiters := [.filing c.admitted] }] } } [.pickerNext] := by
  have hd' : State.demand? { s with filUse := some (FilUse.demanding ps q) } ps = none := hd
  have hm' : State.meetIn { s with filUse := some (FilUse.demanding ps q) } ps = none := by
    have hmounted : State.mountedIn { s with filUse := some (FilUse.demanding ps q) } ps = none := hm
    simp only [State.meetIn, hmounted, Option.bind_none]
  simp only [State.demandSide, hc]
  change State.submit { s with filUse := some (FilUse.demanding ps q) } ps _ = _
  simp only [State.submit, hd', hm']
  rfl

/-- A side mounted in a drive that is not pinned is used there (R134). -/
theorem State.demandSide_mounted {d : DriveNo} (hm : s.mountedIn ps = some d) (hp : (s.lib.drives.get d).pinned = false) :
    s.demandSide q ps = State.later { s with
      filUse := some { FilUse.demanding ps q with stage := .listed d }
      lib := { s.lib with drives := s.lib.drives.set d { s.lib.drives.get d with work := (s.lib.drives.get d).work ++ [.filing] } } } [.driveNext d] := by
  have hd' : State.demand? { s with filUse := some (FilUse.demanding ps q) } ps = none := hd
  have hm' : State.meetIn { s with filUse := some (FilUse.demanding ps q) } ps = some d := by
    have hmounted : State.mountedIn { s with filUse := some (FilUse.demanding ps q) } ps = some d := hm
    simp only [State.meetIn, hmounted, Option.bind_some, State.drive, hp, Bool.false_eq_true, if_false]
  simp only [State.demandSide, hc]
  change State.submit { s with filUse := some (FilUse.demanding ps q) } ps _ = _
  simp only [State.submit, hd', hm']
  rfl

end

/-! ## The extent -/

/-- The OPEN side of a platter, side 0 before side 1, with its fill point. -/
def Platter.openOf (p : Platter) : Option (PlatterSide × Nat) :=
  match p.side0.state with
  | .opened f => some (⟨p.id, .s0⟩, f)
  | _ => match p.side1.state with
    | .opened f => some (⟨p.id, .s1⟩, f)
    | _ => none

theorem State.openSide_eq (s : State) : s.openSide = s.cat.platters.findSome? Platter.openOf := (rfl)

theorem Platter.openOf_some {p : Platter} {ps : PlatterSide} {fill : Nat} (h : p.openOf = some (ps, fill)) :
    ps.platter = p.id ∧ (p.sideRec ps.side).state = .opened fill := by
  unfold Platter.openOf at h
  split at h
  · rename_i n hn
    obtain ⟨rfl, rfl⟩ := Prod.mk.inj (Option.some.inj h)
    exact ⟨rfl, hn⟩
  · split at h
    · rename_i n hn
      obtain ⟨rfl, rfl⟩ := Prod.mk.inj (Option.some.inj h)
      exact ⟨rfl, hn⟩
    · cases h

/-- The OPEN side of a map in id order is OPEN in its platter's record (R120). -/
theorem State.openSide_opened {s : State} (hids : risingKeys Platter.id s.cat.platters = true) {ps : PlatterSide} {fill : Nat}
    (h : s.openSide = some (ps, fill)) : s.sideState? ps = some (.opened fill) := by
  rw [State.openSide_eq] at h
  obtain ⟨p, hp, hopen⟩ := List.exists_of_findSome?_eq_some h
  obtain ⟨hid, hstate⟩ := Platter.openOf_some hopen
  simp only [State.sideState?, State.sideRec?, hid, State.platter?_of_mem hids hp, Option.map_some, hstate]

/-- A drive given to FIL (R125). -/
theorem State.driveNext_filing {s : State} {d : DriveNo} {rest : List Use} (hr : (s.lib.drives.get d).state = .ready)
    (hw : (s.lib.drives.get d).work = .filing :: rest) : s.driveNext d = s.fileGiven d := by
  simp only [State.driveNext, State.drive, hr, hw, if_true]

/-- The filing side mounted, and OPEN (R68). -/
theorem State.fileGiven_opened {s : State} {d e : DriveNo} {ps : PlatterSide} {q : FSlot} {t : Stamp} {w : Bool} {fill : Nat}
    (hu : s.filUse = some ⟨ps, .listed e, some q, t, w⟩) (hside : s.sideState? ps = some (.opened fill)) : s.fileGiven d = s.allocate d q ps := by
  simp only [State.fileGiven, hu, hside]

/-- Writing one of six values leaves a field that the new value keeps. -/
theorem six_get_set_field {α β : Type} (g : α → β) (t : Six α) (i j : DriveNo) (a : α) (h : g a = g (t.get i)) : g ((t.set i a).get j) = g (t.get j) := by
  by_cases hj : j = i
  · subst hj
    rw [Six.get_set_same, h]
  · rw [Six.get_set_ne t i j a hj]

/-- What a filing may use depends on the platter map and on which drives are in FAULT. -/
theorem State.usable_congr {s v : State} (hp : v.cat.platters = s.cat.platters) (hd : ∀ e, (v.lib.drives.get e).state = (s.lib.drives.get e).state)
    (f : Filing) (ps : PlatterSide) (fill : Nat) : v.usable f ps fill = s.usable f ps fill := by
  have hloc : v.locOf ps.platter = s.locOf ps.platter := by
    unfold State.locOf State.platter?
    rw [hp]
  have hreach : v.reachable ps.platter = s.reachable ps.platter := by
    simp only [State.reachable, State.drive, hloc, hd]
  unfold State.usable State.sideTakes
  rw [hreach]

/-- An extent is allocated on a side that is still usable (R68). -/
theorem State.allocate_starts {s : State} {d : DriveNo} {q : FSlot} {f : Filing} {ps : PlatterSide} {fill : Nat} (hf : s.filings.get q = some f)
    (ho : s.openSide = some (ps, fill)) (husable : s.usable f ps fill = true) : s.allocate d q ps = s.startErase d q f ps fill := by
  simp only [State.allocate, hf, ho, husable, and_self, if_true]

/-- A drive as an erase issued for FIL leaves it: BUSY and pinned (R68, R126). -/
def Drive.erasing (k : Drive) (now start len : Nat) : Drive :=
  { k with state := .busy, cmd := some (.erase start len), reported := 0, since := now, retry := false, pinned := true }

/-- What an extent's allocation and its erase change (R68, R70). -/
theorem State.startErase_eq {s : State} (d : DriveNo) {q : FSlot} {f : Filing} {u : FilUse} (hf : s.filings.get q = some f) (hu : s.filUse = some u)
    (ps : PlatterSide) (fill : Nat) :
    s.startErase d q f ps fill = { s with
      cat := { s.cat with platters := updateKeyed Platter.id ps.platter (fun p => p.modSide ps.side (fun x => { x with state := .opened (fill + f.blocks) })) s.cat.platters }
      filings := s.filings.set q (some { f with state := .writing, extent := some ⟨ps.platter, ps.side, fill, f.blocks⟩ })
      lib := { s.lib with drives := s.lib.drives.set d ((s.lib.drives.get d).erasing s.ref fill f.blocks) }
      filUse := some { u with stage := .erase d } } := by
  simp only [State.startErase, State.setSide, State.modSide, State.modPlatter, State.modCat, State.modFiling, State.setFiling, State.modDrive,
    State.command, State.stage, Six.get_set_same, Six.set_set, hf, hu, Option.map_some]
  rfl

/-! ## The statement -/

section
variable {s : State} {y : Reply} {p : CommitParams} {rest : List MapRead} {q : FSlot} {f : Filing} {res : Bool} {fs : List Nat} {ts : List InstrNum}
  (hs : s.Quiet) (hd : ∀ d, s.driveWants d = false) (hi : ∀ k, (s.inChans.get k).store = none) (ho : ∀ k, s.outWants k = false)
  (hl : ∀ k, (s.links.get k).lane = []) (hm : s.mapReads = { reply := y, p := p } :: rest)
  (ht : s.commitTests y.link p = .ok (q, f, res, fs, ts))
include hs hd hi ho hl hm ht

/-- A map that is refused: its COMMIT is answered (R57). -/
theorem mapRead_refused (hgen : (s.links.get y.link).resetCount = y.gen) {st : Status}
    (hf : s.admissionFault f (Memory.readBlock s.mem (s.ringPos q 0)) p fs ts = some st) :
    exec (.bufferPortMove false) s = .next (State.queued { s with mapReads := rest } y st .none) := by
  refine exec_portMove s false _ ?_ hs.2 fun k => (State.queued_lane _ y st .none k).trans (hl k)
  rw [State.portMove_mapRead hd hi ho, State.serveMapRead_refused hm ht hf]
  exact State.respond_eq_queued { s with mapReads := rest } y st .none hgen

theorem mapRead_parity (hgen : (s.links.get y.link).resetCount = y.gen) :
    exec (.bufferPortMove true) s =
      .next ((State.post { s with mapReads := rest } (.bufferParity .mapRead (s.ringPos q 0))).queued y .mediaFault .none) := by
  refine exec_portMove s true _ ?_ ((State.post_agenda _ _).trans hs.2)
    fun k => (State.queued_lane _ y .mediaFault .none k).trans ((State.post_lane _ _ k).trans (hl k))
  rw [State.portMove_mapRead hd hi ho, State.serveMapRead_parity hm ht]
  exact State.respond_eq_queued _ y .mediaFault .none ((State.post_resetCount _ _ _).trans hgen)

variable (hget : s.filings.get q = some f) (hf : s.admissionFault f (Memory.readBlock s.mem (s.ringPos q 0)) p fs ts = none)
include hget hf

/-- A COMMIT admitted behind another (R58). -/
theorem mapRead_queues (hq : s.commitQueue ≠ []) :
    exec (.bufferPortMove false) s =
      .next (s.admittedAs rest (s.commitQueue ++ [q]) q (f.committed { reply := y, p := p } res fs ts s.ref .queued) fs ts) := by
  refine exec_portMove s false _ ?_ hs.2 hl
  rw [State.portMove_mapRead hd hi ho, State.serveMapRead_admits hm ht hget hf, if_neg (by simpa using hq)]

omit hs hl in
/-- A COMMIT admitted to an empty queue: the turn of its head starts (R65). -/
theorem mapRead_turns (hq : s.commitQueue = []) {t : State} {n : Nat} (hn : n ≤ 4096)
    (hw : State.Works (s.admittedAs rest [q] q (f.committed { reply := y, p := p } res fs ts s.ref .queued) fs ts) [.headTurn] t n)
    (ht' : ∀ k, (t.links.get k).lane = []) : exec (.bufferPortMove false) s = .next t := by
  refine exec_portMove_settles ?_ ht'
  rw [State.portMove_mapRead hd hi ho, State.serveMapRead_admits hm ht hget hf, hq]
  exact hw.settle hn

end

/-! ## The turn of a head just admitted -/

section
variable {s : State} {rest : List MapRead} {q : FSlot} {f g : Filing} {fs : List Nat} {ts : List InstrNum}

/-- The slot just admitted is the head. -/
theorem State.admittedAs_head : (s.admittedAs rest [q] q g fs ts).head? = some (q, g) :=
  (State.head?_cons (rest := []) rfl).trans (by rw [State.admittedAs, Four.get_set_same, Option.map_some])

theorem State.filings_admittedAs (queue : List FSlot) : (s.admittedAs rest queue q g fs ts).filings.get q = some g := Four.get_set_same _ _ _

/-- The admitted filing goes to another state. -/
theorem State.modFiling_admittedAs (queue : List FSlot) (st : FilingState) :
    (s.admittedAs rest queue q g fs ts).modFiling q (fun f => { f with state := st }) = s.admittedAs rest queue q { g with state := st } fs ts := by
  simp only [State.modFiling, State.setFiling, State.filings_admittedAs, Option.map_some]
  simp only [State.admittedAs, Four.set_set]

theorem State.findSide_congr (h : f.failed = g.failed) : s.findSide f = s.findSide g := by
  unfold State.findSide
  rw [h]

theorem State.findSide_admittedAs (queue : List FSlot) : (s.admittedAs rest queue q g fs ts).findSide f = s.findSide f := (rfl)

variable (ha : s.agenda = []) (hu : s.filUse = none) (hg : g.state = .queued)
include ha

include hu hg in
/-- With no OPEN side and none that a search finds, the head waits for media (R66, R69). -/
theorem State.works_noMedia (ho : s.openSide = none) (hnone : s.findSide g = none) :
    State.Works (s.admittedAs rest [q] q g fs ts) [.headTurn]
      ((s.admittedAs rest [q] q { g with state := .waitingMedia } fs ts).post (.noBlankMedia q g.inst)) 2 := by
  have hturn := State.headTurn_searches (s := s.admittedAs rest [q] q g fs ts) hu State.admittedAs_head hg ho
  have hsearch := State.sideSearch_waits (s := s.admittedAs rest [q] q g fs ts) hu State.admittedAs_head hnone
  rw [State.modFiling_admittedAs] at hsearch
  exact .piece ha hturn (.brings ha hsearch (.nothing ((State.post_agenda _ _).trans ha)))

variable {c : Commit} (hc : g.commit = some c) {ps : PlatterSide} (hd : s.demand? ps = none)
include hc hd

/-- The demand of a side in no drive, made for the head, waits while the picker is not free (R133). -/
theorem State.works_waits (hm : s.mountedIn ps = none) (hp : s.lib.picker.state ≠ .idle) {w : Task}
    (hrun : (s.admittedAs rest [q] q g fs ts).runTask w = (s.admittedAs rest [q] q g fs ts).demandSide q ps) :
    State.Works (s.admittedAs rest [q] q g fs ts) [w] { s.admittedAs rest [q] q g fs ts with
      filUse := some (FilUse.demanding ps q)
      lib := { s.lib with demands := s.lib.demands ++ [{ side := ps, mounting := none, waiters := [.filing c.admitted] }] } } 2 := by
  have hcommit : ((s.admittedAs rest [q] q g fs ts).filings.get q).bind (·.commit) = some c := by
    rw [State.filings_admittedAs, Option.bind_some, hc]
  have hdemand := State.demandSide_waits (s := s.admittedAs rest [q] q g fs ts) hcommit hd hm
  exact .piece ha (hrun.trans hdemand) (.rests ha (State.pickerNext_rests (.inl hp)) (.nothing ha))

include hu hg in
/-- With no OPEN side the side found is demanded, and waits. -/
theorem State.works_findsSide (ho : s.openSide = none) (hfound : s.findSide g = some ps) (hm : s.mountedIn ps = none)
    (hp : s.lib.picker.state ≠ .idle) :
    State.Works (s.admittedAs rest [q] q g fs ts) [.headTurn] { s.admittedAs rest [q] q g fs ts with
      filUse := some (FilUse.demanding ps q)
      lib := { s.lib with demands := s.lib.demands ++ [{ side := ps, mounting := none, waiters := [.filing c.admitted] }] } } 3 := by
  have hturn := State.headTurn_searches (s := s.admittedAs rest [q] q g fs ts) hu State.admittedAs_head hg ho
  have hsearch := State.sideSearch_demands (s := s.admittedAs rest [q] q g fs ts) hu State.admittedAs_head hfound
  have hsame : ({ g with state := .queued } : Filing) = g := by rw [← hg]
  rw [State.modFiling_admittedAs, hsame] at hsearch
  exact .piece ha hturn (State.works_waits ha hc hd hm hp hsearch)

/-- A side that is OPEN with room and mounted in an idle drive that is not pinned is used at once: its extent's erase begins (R68). -/
theorem State.works_erases (hids : risingKeys Platter.id s.cat.platters = true) {fill : Nat} (ho : s.openSide = some (ps, fill)) {d : DriveNo}
    (hm : s.mountedIn ps = some d) (hr : (s.lib.drives.get d).state = .ready) (hpin : (s.lib.drives.get d).pinned = false)
    (hwork : (s.lib.drives.get d).work = []) (husable : s.usable g ps fill = true)
    (hrun : (s.admittedAs rest [q] q g fs ts).headTurn = (s.admittedAs rest [q] q g fs ts).demandSide q ps) :
    State.Works (s.admittedAs rest [q] q g fs ts) [.headTurn]
      { s.admittedAs rest [q] q { g with state := .writing, extent := some ⟨ps.platter, ps.side, fill, g.blocks⟩ } fs ts with
        cat := { (s.admittedAs rest [q] q g fs ts).cat with
          platters := updateKeyed Platter.id ps.platter (fun p => p.modSide ps.side (fun x => { x with state := .opened (fill + g.blocks) })) s.cat.platters }
        lib := { s.lib with drives := s.lib.drives.set d ({ s.lib.drives.get d with work := [.filing] }.erasing s.ref fill g.blocks) }
        filUse := some { FilUse.demanding ps q with stage := .erase d } } 2 := by
  have hcommit : ((s.admittedAs rest [q] q g fs ts).filings.get q).bind (·.commit) = some c := by
    rw [State.filings_admittedAs, Option.bind_some, hc]
  have hdemand := State.demandSide_mounted (s := s.admittedAs rest [q] q g fs ts) hcommit hd hm hpin
  refine .piece ha (hrun.trans hdemand) (.brings ha ?_ (.nothing ha))
  obtain ⟨v, hv⟩ : ∃ v, v = ({ s.admittedAs rest [q] q g fs ts with
    filUse := some { FilUse.demanding ps q with stage := .listed d }
    lib := { s.lib with drives := s.lib.drives.set d { s.lib.drives.get d with work := (s.lib.drives.get d).work ++ [.filing] } } } : State) := ⟨_, rfl⟩
  have hdrive : v.lib.drives.get d = { s.lib.drives.get d with work := [.filing] } := by
    rw [hv]
    simp only [Six.get_set_same, hwork, List.nil_append]
  have hstates : ∀ e, (v.lib.drives.get e).state = (s.lib.drives.get e).state := by
    intro e
    rw [hv]
    exact six_get_set_field Drive.state _ _ _ _ rfl
  have hfiling : v.filings.get q = some g := by
    rw [hv]
    exact State.filings_admittedAs (rest := rest) (fs := fs) (ts := ts) [q]
  have huse : v.filUse = some ⟨ps, .listed d, some q, ⟨0, 0⟩, false⟩ := by rw [hv]; rfl
  have hplatters : v.cat.platters = s.cat.platters := by rw [hv]; rfl
  have hopen : v.openSide = some (ps, fill) := by rw [State.openSide_eq, hplatters, ← State.openSide_eq, ho]
  have hids' : risingKeys Platter.id v.cat.platters = true := by rw [hplatters]; exact hids
  have hgiven : v.driveNext d = v.startErase d q g ps fill := by
    rw [State.driveNext_filing (hdrive ▸ hr) (congrArg Drive.work hdrive), State.fileGiven_opened huse (State.openSide_opened hids' hopen),
      State.allocate_starts hfiling hopen ((State.usable_congr hplatters hstates g ps fill).trans husable)]
  rw [State.startErase_eq d hfiling huse, hdrive] at hgiven
  subst hv
  refine hgiven.trans ?_
  simp only [State.admittedAs, Four.set_set, Six.set_set]
  rfl

end

/-! ## The claim faults -/

/-- The faults of the supersede targets (R8). -/
theorem CatMem.claimFault_cases {c : CatMem} {n : InstrNum} {x : Entry} (ts : List InstrNum) (hx : c.entry? n = some x) {invalid : InstrNum → Prop}
    (hinv : ∀ m, c.targetInvalid x m = true ↔ invalid m) {claimed : Prop}
    (hcl : ts.any (fun n => ((c.entry? n).bind (·.claim)).isSome) = true ↔ claimed) :
    (((∃ m ∈ ts, invalid m) ∨ ¬ts.Nodup) → c.claimFault n ts = some .supersedeInvalid) ∧
      ((∀ m ∈ ts, ¬invalid m) → ts.Nodup → (claimed → c.claimFault n ts = some .supersedeClaimed) ∧ (¬claimed → c.claimFault n ts = none)) := by
  simp only [← hinv, ← hcl]
  refine ⟨CatMem.claimFault_invalid hx, fun hvalid hd => ?_⟩
  rw [CatMem.claimFault_valid hx hvalid hd]
  exact ⟨fun h => if_pos h, fun h => if_neg h⟩

/-- A side a filing can use: reachable, with room, and with no failed attempt of the filing. -/
theorem State.usable_of {s : State} {f : Filing} {ps : PlatterSide} {fill : Nat} (hr : s.reachable ps.platter = true) (hb : f.blocks ≤ 307200 - fill)
    (hf : f.failed = []) : s.usable f ps fill = true := by
  have hroom : f.blocks ≤ Config.sideBlocks - fill := hb
  simp only [State.usable, State.sideTakes, hr, hf, hroom, List.contains_nil, decide_true, Bool.not_false, Bool.and_self]

/-- Settles O35: the tests of the map read in order, the side search, and the turn of the head. -/
theorem commitAdmitted : Obligations.CommitAdmitted := by
  refine ⟨fun c n x ts hx => CatMem.claimFault_cases ts hx (c.targetInvalid_iff x) (c.claimedTarget_iff ts),
    fun s fs _ => s.folioRoom_within fs, fun s q e => ⟨s.ringPos_of_held q e, fun h => s.ringPos_of_none q e fun b hb h1 h2 h3 => h b ⟨hb, h1, h2, h3⟩⟩,
    ⟨mapOk_iff, Filing.mapValid_iff⟩, ?_, ?_, ?_⟩
  · intro s y p rest q f res fs ts parity hs hd hi ho hl hgen hm hq hf hown hrec hfields s' answer block map out
    have ht := s.commitTests_ok y.link p (State.ownSlot_own hq hf hown hrec) hfields
    have hrefused : ∀ {st}, s.admissionFault f map p fs ts = some st → exec (.bufferPortMove false) s = .next (answer s' st) :=
      fun hfault => mapRead_refused hs hd hi ho hl hm ht hgen hfault
    refine ⟨?_, ?_⟩
    · rintro rfl
      exact mapRead_parity hs hd hi ho hl hm ht hgen
    · rintro rfl
      refine ⟨fun hmap => hrefused (State.admissionFault_badMap hmap), fun hmap => ⟨fun st hc => hrefused (State.admissionFault_claim hmap hc), fun hc =>
        ⟨fun hr => hrefused (State.admissionFault_folio hmap hc hr), fun hr hqueue => ?_⟩⟩⟩
      exact mapRead_queues hs hd hi ho hl hm ht hf (State.admissionFault_none hmap hc hr) hqueue
  · intro s f hids huniq fit home other
    have hfit : ∀ ps, s.searchTakes f ps = true ↔ fit ps := s.searchTakes_iff f
    have hother : ∀ ps, ps ∈ s.lastOther ↔ other ps := fun ps => State.mem_lastOther
    simp only [← hfit, ← hother]
    exact ⟨fun ps => State.findSide_some hids huniq, fun hnone ps => State.findSide_none hids huniq hnone⟩
  · intro s y p rest q f res fs ts hs hd hi ho hl hm hq hf hown hrec hfields hmap hc hr hqueue hu t
    have ht := s.commitTests_ok y.link p (State.ownSlot_own hq hf hown hrec) hfields
    have hadmit := State.admissionFault_none hmap hc hr
    have hturn := fun {u} n => @mapRead_turns s y p rest q f res fs ts hd hi ho hm ht hf hadmit hqueue u n
    obtain ⟨g, hg⟩ : ∃ g, g = f.committed { reply := y, p := p } res fs ts s.ref .queued := ⟨_, rfl⟩
    have hqueued : g.state = .queued := by rw [hg]; rfl
    have hfailed : g.failed = [] := by rw [hg]; rfl
    have hblocks : g.blocks = f.blocks := by rw [hg]; rfl
    obtain ⟨c, hc, hage⟩ : ∃ c, g.commit = some c ∧ c.admitted = s.ref := by rw [hg]; exact ⟨_, rfl, rfl⟩
    have hdemands := fun ps fill =>
      State.headTurn_demands (s := s.admittedAs rest [q] q g fs ts) (ps := ps) (fill := fill) hu State.admittedAs_head hqueued
    rw [← hg] at hturn
    refine ⟨fun hopen hblank => ?_, fun ps fill hopen hreach hroom hmount hdemand hpicker => ?_, fun ps hopen hfind hmount hdemand hpicker => ?_,
      fun ps fill d pl hids hopen hmount hdemand hplatter hloc hready hpin hwork hroom => ?_⟩
    · have hw := State.works_noMedia (rest := rest) (q := q) (fs := fs) (ts := ts) hs.2 hu hqueued hopen (State.findSide_noBlank hblank)
      refine (hturn 2 (by decide) hw fun k => (State.post_lane _ _ k).trans (hl k)).trans ?_
      rw [hg]
      rfl
    · have husable := State.usable_of hreach (hblocks ▸ hroom) hfailed
      have hw := State.works_waits (rest := rest) (q := q) (fs := fs) (ts := ts) (w := .headTurn) hs.2 hc hdemand hmount hpicker (hdemands ps fill hopen husable)
      refine (hturn 2 (by decide) hw hl).trans ?_
      rw [hage, hg]
      rfl
    · have hfind' : s.findSide g = some ps := (State.findSide_congr (by rw [hfailed]; rfl)).trans hfind
      have hw := State.works_findsSide (rest := rest) (q := q) (fs := fs) (ts := ts) hs.2 hu hqueued hc hdemand hopen hfind' hmount hpicker
      refine (hturn 3 (by decide) hw hl).trans ?_
      rw [hage, hg]
      rfl
    · have hreach : s.reachable ps.platter = true :=
        (State.reachable_iff hplatter).2 (.inr (.inr ⟨d, hloc, by rw [hready]; decide⟩))
      have husable := State.usable_of hreach (hblocks ▸ hroom) hfailed
      have hw := State.works_erases (rest := rest) (q := q) (fs := fs) (ts := ts) hs.2 hc hdemand hids hopen hmount hready hpin hwork husable
        (hdemands ps fill hopen husable)
      refine (hturn 2 (by decide) hw hl).trans ?_
      rw [hg]
      simp only [t, Four.get_set_same, Four.set_set, Option.map_some]
      rfl

end Sys2Proof.Machine
end

section
/-!
PROOFS. The sides of the platter map while FIL changes one of them (R65, R66, R120).
-/
namespace Sys2Proof.Machine
set_option Elab.async false

/-! ## A side's record changed -/

theorem Platter.modSide_id (p : Platter) (sd : Side) (f : SideRec → SideRec) : (p.modSide sd f).id = p.id := by cases sd <;> rfl

theorem Platter.modSide_loc (p : Platter) (sd : Side) (f : SideRec → SideRec) : (p.modSide sd f).loc = p.loc := by cases sd <;> rfl

theorem Platter.sideRec_modSide (p : Platter) (sd : Side) (f : SideRec → SideRec) : (p.modSide sd f).sideRec sd = f (p.sideRec sd) := by cases sd <;> rfl

theorem Platter.sideRec_modSide_ne (p : Platter) {sd x : Side} (f : SideRec → SideRec) (h : x ≠ sd) : (p.modSide sd f).sideRec x = p.sideRec x := by
  cases sd <;> cases x
  · exact absurd rfl h
  · rfl
  · rfl
  · exact absurd rfl h

theorem Platter.modSide_modSide (p : Platter) (sd : Side) (f g : SideRec → SideRec) : (p.modSide sd f).modSide sd g = p.modSide sd (fun x => g (f x)) := by
  cases sd <;> rfl

theorem Platter.modSide_congr {p : Platter} {sd : Side} {f g : SideRec → SideRec} (h : f (p.sideRec sd) = g (p.sideRec sd)) :
    p.modSide sd f = p.modSide sd g := by
  cases sd
  · exact congrArg (fun x => { p with side0 := x }) h
  · exact congrArg (fun x => { p with side1 := x }) h

theorem State.modSide_eq (s : State) (ps : PlatterSide) (f : SideRec → SideRec) : s.modSide ps f =
    { s with cat := { s.cat with platters := updateKeyed Platter.id ps.platter (fun p => p.modSide ps.side f) s.cat.platters } } := (rfl)

/-- A side of one platter changed twice. -/
theorem updateKeyed_modSide_twice (l : List Platter) (id : Nat) (sd : Side) (f g : SideRec → SideRec) :
    updateKeyed Platter.id id (fun p => p.modSide sd g) (updateKeyed Platter.id id (fun p => p.modSide sd f) l) =
      updateKeyed Platter.id id (fun p => p.modSide sd (fun x => g (f x))) l := by
  simp only [updateKeyed, List.map_map]
  refine List.map_congr_left fun p _ => ?_
  by_cases hp : p.id = id
  · simp only [Function.comp, if_pos hp, Platter.modSide_id, Platter.modSide_modSide]
  · simp only [Function.comp, if_neg hp]

theorem State.platter?_modSide (s : State) (ps : PlatterSide) (f : SideRec → SideRec) (id : Nat) :
    (s.modSide ps f).platter? id = (s.platter? id).map (fun p => if p.id = ps.platter then p.modSide ps.side f else p) :=
  findKeyed_updateKeyed Platter.id ps.platter id _ (fun p => Platter.modSide_id p _ _) _

section
variable {s : State} {ps : PlatterSide} {p : Platter} (hp : s.platter? ps.platter = some p) (f : SideRec → SideRec)
include hp

theorem State.platter?_modSide_same : (s.modSide ps f).platter? ps.platter = some (p.modSide ps.side f) := by
  rw [State.platter?_modSide, hp, Option.map_some, if_pos (State.platter?_some hp).2]

theorem State.sideState?_modSide : (s.modSide ps f).sideState? ps = some (f (p.sideRec ps.side)).state := by
  simp only [State.sideState?, State.sideRec?, State.platter?_modSide_same hp, Option.map_some, Platter.sideRec_modSide]

theorem State.sideState?_eq : s.sideState? ps = some (p.sideRec ps.side).state := by
  simp only [State.sideState?, State.sideRec?, hp, Option.map_some]

/-- A change of the one platter of an id is known by what it makes of it. -/
theorem State.updateKeyed_only {g h : Platter → Platter} (huniq : ∀ r ∈ s.cat.platters, r.id = p.id → r = p) (heq : g p = h p) :
    updateKeyed Platter.id ps.platter g s.cat.platters = updateKeyed Platter.id ps.platter h s.cat.platters := by
  refine List.map_congr_left fun r hr => ?_
  by_cases hid : r.id = ps.platter
  · obtain rfl := huniq r hr (hid.trans (State.platter?_some hp).2.symm)
    rw [if_pos hid, if_pos hid, heq]
  · rw [if_neg hid, if_neg hid]

theorem State.modSide_congr {g : SideRec → SideRec} (huniq : ∀ r ∈ s.cat.platters, r.id = p.id → r = p)
    (h : f (p.sideRec ps.side) = g (p.sideRec ps.side)) : s.modSide ps f = s.modSide ps g := by
  rw [State.modSide_eq, State.modSide_eq, State.updateKeyed_only hp (g := fun p => p.modSide ps.side f) (h := fun p => p.modSide ps.side g) huniq
    (Platter.modSide_congr h)]

end

/-! ## The OPEN side -/

theorem Platter.openOf_modSide {p : Platter} {sd : Side} {f : SideRec → SideRec} (h : (f (p.sideRec sd)).state = (p.sideRec sd).state) :
    (p.modSide sd f).openOf = p.openOf := by
  cases sd
  · have h0 : (f p.side0).state = p.side0.state := h
    simp only [Platter.openOf, Platter.modSide, h0]
  · have h1 : (f p.side1).state = p.side1.state := h
    simp only [Platter.openOf, Platter.modSide, h1]

theorem Platter.openOf_ne_none {p : Platter} {sd : Side} {fill : Nat} (h : (p.sideRec sd).state = .opened fill) : p.openOf ≠ none := by
  unfold Platter.openOf
  cases sd
  · have h0 : p.side0.state = .opened fill := h
    simp [h0]
  · have h1 : p.side1.state = .opened fill := h
    split <;> simp [h1]

/-- A change that leaves the OPEN side's state leaves it the OPEN side. -/
theorem State.openSide_modSide {s : State} {ps : PlatterSide} {fill : Nat} {p : Platter} {f : SideRec → SideRec}
    (hp : s.platter? ps.platter = some p) (hopen : (p.sideRec ps.side).state = .opened fill) (ho : s.openSide = some (ps, fill))
    (hf : (f (p.sideRec ps.side)).state = (p.sideRec ps.side).state) : (s.modSide ps f).openSide = some (ps, fill) := by
  have key : ∀ l : List Platter, findKeyed Platter.id ps.platter l = some p → l.findSome? Platter.openOf = some (ps, fill) →
      (updateKeyed Platter.id ps.platter (fun p => p.modSide ps.side f) l).findSome? Platter.openOf = some (ps, fill) := by
    intro l
    induction l with
    | nil => intro h; cases h
    | cons a l ih =>
      intro hfind hsome
      by_cases ha : a.id = ps.platter
      · obtain rfl : a = p := by simpa [findKeyed, ha] using hfind
        cases hopenOf : a.openOf with
        | none => exact absurd hopenOf (Platter.openOf_ne_none hopen)
        | some v =>
          rw [List.findSome?_cons, hopenOf] at hsome
          simp only [updateKeyed, List.map_cons, if_pos ha, List.findSome?_cons, Platter.openOf_modSide hf, hopenOf]
          exact hsome
      · have hfind' : findKeyed Platter.id ps.platter l = some p := by simpa [findKeyed, ha] using hfind
        rw [List.findSome?_cons] at hsome
        simp only [updateKeyed, List.map_cons, if_neg ha, List.findSome?_cons]
        cases hopenOf : a.openOf with
        | none => exact ih hfind' (by simpa [hopenOf] using hsome)
        | some v => simpa [hopenOf] using hsome
  exact key _ hp ho

/-! ## Where every other side is closed -/

/-- A platter-side stands in one record of the map, in a state. -/
def State.Stands (s : State) (ps : PlatterSide) (st : SideState) : Prop :=
  ∃ p ∈ s.cat.platters, p.id = ps.platter ∧ (p.sideRec ps.side).state = st ∧ ∀ r ∈ s.cat.platters, r.id = p.id → r = p

theorem State.OthersShut.modSide {s : State} {ps : PlatterSide} (h : s.OthersShut ps) (f : SideRec → SideRec) : (s.modSide ps f).OthersShut ps := by
  intro r hr
  obtain ⟨p, hp, rfl⟩ := List.mem_map.1 hr
  obtain ⟨h0, h1⟩ := h p hp
  by_cases hid : p.id = ps.platter
  · rw [if_pos hid, Platter.modSide_id]
    refine ⟨fun hne => ?_, fun hne => ?_⟩
    · have hside : Side.s0 ≠ ps.side := fun heq => hne (by rw [hid, heq])
      exact (congrArg (fun x : SideRec => x.state.shut) (Platter.sideRec_modSide_ne p f hside)).trans (h0 hne)
    · have hside : Side.s1 ≠ ps.side := fun heq => hne (by rw [hid, heq])
      exact (congrArg (fun x : SideRec => x.state.shut) (Platter.sideRec_modSide_ne p f hside)).trans (h1 hne)
  · rw [if_neg hid]
    exact ⟨h0, h1⟩

theorem State.stands_modSide {s : State} {ps : PlatterSide} {p : Platter} (hp : s.platter? ps.platter = some p)
    (huniq : ∀ r ∈ s.cat.platters, r.id = p.id → r = p) (f : SideRec → SideRec) : (s.modSide ps f).Stands ps (f (p.sideRec ps.side)).state := by
  obtain ⟨hmem, hid⟩ := State.platter?_some hp
  refine ⟨p.modSide ps.side f, List.mem_map.2 ⟨p, hmem, if_pos hid⟩, (Platter.modSide_id ..).trans hid, by rw [Platter.sideRec_modSide], ?_⟩
  intro r hr hrid
  obtain ⟨r', hr', rfl⟩ := List.mem_map.1 hr
  by_cases hid' : r'.id = ps.platter
  · obtain rfl := huniq r' hr' (hid'.trans hid.symm)
    exact if_pos hid'
  · rw [if_neg hid', Platter.modSide_id] at hrid
    exact absurd (hrid.trans hid) hid'

section
variable {s : State} {ps : PlatterSide} {st : SideState} (hothers : s.OthersShut ps) (hst : s.Stands ps st)
include hothers hst

/-- The state of a side of the map. -/
theorem State.side_shut_or {r : Platter} (hr : r ∈ s.cat.platters) (sd : Side) :
    (r.sideRec sd).state.shut = true ∨ (⟨r.id, sd⟩ = ps ∧ (r.sideRec sd).state = st) := by
  obtain ⟨p, -, hid, hstate, huniq⟩ := hst
  by_cases hps : (⟨r.id, sd⟩ : PlatterSide) = ps
  · subst hps
    obtain rfl := huniq r hr hid.symm
    exact .inr ⟨rfl, hstate⟩
  · cases sd
    · exact .inl ((hothers r hr).1 hps)
    · exact .inl ((hothers r hr).2 hps)

theorem State.openSide_only {fill : Nat} (h : st = .opened fill) : s.openSide = some (ps, fill) := by
  rw [State.openSide_eq]
  cases hfind : s.cat.platters.findSome? Platter.openOf with
  | none =>
    obtain ⟨p, hp, -, hstate, -⟩ := hst
    exact absurd (List.findSome?_eq_none_iff.1 hfind p hp) (Platter.openOf_ne_none (hstate.trans h))
  | some v =>
    obtain ⟨r, hr, hopen⟩ := List.exists_of_findSome?_eq_some hfind
    obtain ⟨hid, hstate⟩ := Platter.openOf_some (ps := v.1) (fill := v.2) hopen
    obtain hshut | ⟨hps, hst'⟩ := State.side_shut_or hothers hst hr v.1.side
    · rw [hstate] at hshut
      cases hshut
    · obtain rfl : v.2 = fill := by simpa [hstate, h] using hst'
      rw [← hps, ← hid]

variable (h : st.shut = true)
include h

theorem State.all_shut {r : Platter} (hr : r ∈ s.cat.platters) (sd : Side) : (r.sideRec sd).state.shut = true := by
  obtain hshut | ⟨-, heq⟩ := State.side_shut_or hothers hst hr sd
  · exact hshut
  · rw [heq, h]

/-- With every side closed none is OPEN. -/
theorem State.openSide_shut : s.openSide = none := by
  rw [State.openSide_eq, List.findSome?_eq_none_iff]
  intro r hr
  by_contra hne
  obtain ⟨v, hv⟩ := Option.ne_none_iff_exists'.1 hne
  obtain ⟨-, hstate⟩ := Platter.openOf_some (ps := v.1) (fill := v.2) hv
  have hshut := State.all_shut hothers hst h hr v.1.side
  rw [hstate] at hshut
  cases hshut

/-- With every side closed a search finds none. -/
theorem State.findSide_shut (f : Filing) : s.findSide f = none := by
  refine State.findSide_noBlank fun x y hx => ?_
  obtain ⟨r, hr, rfl⟩ := Option.map_eq_some_iff.1 hx
  have hshut := State.all_shut hothers hst h (State.platter?_some hr).1 x.side
  refine ⟨fun hb => ?_, fun hb => ?_⟩
  all_goals
    rw [hb] at hshut
    cases hshut

end

end Sys2Proof.Machine
end

section
/-!
PROOFS. What a drive reports to FIL: whose the report is, the end of FIL's use of a drive, and the header steps (R67, R68, R112, R125).
-/
namespace Sys2Proof.Machine
set_option Elab.async false

/-! ## Reports of a drive -/

section
variable {s t : State} (hs : s.Quiet)
include hs

theorem exec_driveBlockReport (d : DriveNo) (b : BlockReport) : exec (.driveBlockReport d b) s = .next (s.blockReport d b).settle := by
  show done (s.whenPowered (s.blockReport d b)) = _
  rw [State.whenPowered_running hs.1]
  rfl

theorem exec_driveDoneReport (d : DriveNo) : exec (.driveDoneReport d) s = .next (s.doneReport d).settle := by
  show done (s.whenPowered (s.doneReport d)) = _
  rw [State.whenPowered_running hs.1]
  rfl

theorem exec_driveMediumError (d : DriveNo) : exec (.driveMediumError d) s = .next (s.mediumError d).settle := by
  show done (s.whenPowered (s.mediumError d)) = _
  rw [State.whenPowered_running hs.1]
  rfl

theorem exec_driveUnreadable (d : DriveNo) : exec (.driveUnreadable d) s = .next (s.unreadable d).settle := by
  show done (s.whenPowered (s.unreadable d)) = _
  rw [State.whenPowered_running hs.1]
  rfl

end

/-- The head of a work list is FIL's use (R112). -/
theorem State.role_fil {s : State} {d : DriveNo} {u : FilUse} {rest : List Use} (hw : (s.lib.drives.get d).work = .filing :: rest)
    (hu : s.filUse = some u) : s.role d = .fil u := by
  simp only [State.role, State.drive, hw, hu]

section
variable {s : State} {d : DriveNo} {u : FilUse} (hr : s.role d = .fil u)
include hr

section
variable {a n : Nat}

/-- A block of a header check (R67). -/
theorem State.blockReport_check (hc : (s.lib.drives.get d).cmd = some (.read a n)) (hn : (s.lib.drives.get d).reported < n) {e : DriveNo}
    (hg : u.stage = .check e) (w : Bool) : s.blockReport d (.header w) =
      { s.carryHeader d with filUse := s.filUse.map (fun u => { u with sawWritten := u.sawWritten || w }) } := by
  obtain ⟨ps, g, q, t, w'⟩ := u
  subst hg
  simp only [State.blockReport, State.drive, hc, hr, DriveCmd.len, if_neg (Nat.not_le.2 hn)]
  rfl

/-- A block of a header write (R67). -/
theorem State.blockReport_headWrite (hc : (s.lib.drives.get d).cmd = some (.write a n)) (hn : (s.lib.drives.get d).reported < n) {e : DriveNo}
    (hg : u.stage = .headWrite e) : s.blockReport d .passed = s.carryHeader d := by
  obtain ⟨ps, g, q, t, w'⟩ := u
  subst hg
  simp only [State.blockReport, State.drive, hc, hr, DriveCmd.len, if_neg (Nat.not_le.2 hn)]

variable {q : FSlot} (hq : u.slot = some q)
include hq

/-- A block of a write pass, of those the port has read (R70). -/
theorem State.blockReport_write (hc : (s.lib.drives.get d).cmd = some (.write a n)) (hn : (s.lib.drives.get d).reported < n - (s.driveChans.get d).chan.remaining)
    {e : DriveNo} (hg : u.stage = .write e) : s.blockReport d .passed = s.countBlock d := by
  obtain ⟨ps, g, q', t, w'⟩ := u
  subst hg hq
  have hlen : ¬n ≤ (s.lib.drives.get d).reported := by omega
  simp only [State.blockReport, State.drive, hc, hr, DriveCmd.len, if_neg hlen]
  exact if_pos hn

/-- A block of a verify pass (R71). -/
theorem State.blockReport_verify (hc : (s.lib.drives.get d).cmd = some (.read a n)) (hn : (s.lib.drives.get d).reported < n) {e : DriveNo}
    (hg : u.stage = .verify e) (b : List Byte) : s.blockReport d (.data b) = (s.holdBlock d b).compare d u q := by
  obtain ⟨ps, g, q', t, w'⟩ := u
  subst hg hq
  simp only [State.blockReport, State.drive, hc, hr, DriveCmd.len, if_neg (Nat.not_le.2 hn)]

end

section
variable (hst : (s.lib.drives.get d).staleDone = false) {a n : Nat}
include hst

theorem State.doneReport_check (hc : (s.lib.drives.get d).cmd = some (.read a n)) (hn : n ≤ (s.lib.drives.get d).reported) {e : DriveNo}
    (hg : u.stage = .check e) {blank : Bool} (hsaw : u.sawWritten = !blank) : s.doneReport d = s.endCheck d u blank := by
  simp only [State.doneReport, State.drive, hst, hr, hc, hg, hsaw, if_neg (Nat.not_lt.2 hn), Bool.false_eq_true, if_false, Bool.not_not]

theorem State.doneReport_headErase (hc : (s.lib.drives.get d).cmd = some (.erase a n)) {e : DriveNo} (hg : u.stage = .headErase e) :
    s.doneReport d = s.headerErased d u := by
  simp only [State.doneReport, State.drive, hst, hr, hc, hg, Bool.false_eq_true, if_false]

theorem State.doneReport_headWrite (hc : (s.lib.drives.get d).cmd = some (.write a n)) {e : DriveNo} (hg : u.stage = .headWrite e) :
    s.doneReport d = s.headerWritten d u := by
  simp only [State.doneReport, State.drive, hst, hr, hc, hg, Bool.false_eq_true, if_false]

theorem State.doneReport_write (hc : (s.lib.drives.get d).cmd = some (.write a n)) {e : DriveNo} (hg : u.stage = .write e) {q : FSlot}
    (hq : u.slot = some q) (hn : (s.driveChans.get d).chan.remaining = 0) : s.doneReport d = s.writeDone d q := by
  simp only [State.doneReport, State.drive, hst, hr, hc, hg, hq, hn, Bool.false_eq_true, if_false, if_true]

end

theorem State.unreadable_check {a n : Nat} (hc : (s.lib.drives.get d).cmd = some (.read a n)) {e : DriveNo} (hg : u.stage = .check e) :
    s.unreadable d = s.endCheck d u false := by
  simp only [State.unreadable, State.drive, hr, hc, hg]

/-- A medium error of an erase pass or a write pass (R74). -/
theorem State.mediumError_pass {a n : Nat} (hc : (s.lib.drives.get d).cmd = some (.erase a n) ∨ (s.lib.drives.get d).cmd = some (.write a n)) {e : DriveNo}
    (hg : u.stage = .erase e ∨ u.stage = .write e) : s.mediumError d = s.failAttempt d u := by
  obtain hc | hc := hc <;> obtain hg | hg := hg <;> simp only [State.mediumError, State.drive, hr, hc, hg]

end

/-! ## The end of FIL's use of a drive -/

/-- A drive that FIL leaves with nothing else on its work list. -/
def Drive.left (k : Drive) : Drive := { k with pinned := false, work := [] }

/-- FIL's use of a drive has ended, and nothing else stands on its work list (R125). -/
def State.filLeft (s : State) (d : DriveNo) : State :=
  { s with filUse := none, lib := { s.lib with drives := s.lib.drives.set d (s.lib.drives.get d).left } }

/-- FIL leaves a drive it alone used, for whose side there is no demand: the picker is asked twice for its next piece (R125, R134, R136). -/
theorem State.endFilUse_eq {s : State} {d : DriveNo} {ps : PlatterSide} (hw : (s.lib.drives.get d).work = [.filing])
    (hp : (s.lib.drives.get d).platter = some ⟨some ps.platter, ps.side⟩) (hd : s.demand? ps = none) :
    s.endFilUse d = (s.filLeft d).later [.pickerNext, .pickerNext] := by
  have herase : [Use.filing].erase .filing = [] := by decide
  have hremove : State.removeUse { s.modDrive d (fun r => { r with pinned := false }) with filUse := none } d .filing =
      (s.filLeft d).later [.pickerNext] := by
    simp only [State.removeUse, State.modDrive, State.drive, Six.get_set_same, Six.set_set, hw, herase, List.isEmpty_nil, if_true]
    rfl
  have hplatter : (((s.filLeft d).later [.pickerNext]).lib.drives.get d).platter = some ⟨some ps.platter, ps.side⟩ := by
    simp only [State.later, State.filLeft, Six.get_set_same, Drive.left, hp]
  have hmeet : ((s.filLeft d).later [.pickerNext]).meetMounted d = (s.filLeft d).later [.pickerNext] := by
    have hdemand : ((s.filLeft d).later [.pickerNext]).demand? ⟨ps.platter, ps.side⟩ = none := hd
    simp only [State.meetMounted, State.drive, hplatter, hdemand]
  simp only [State.endFilUse, hremove, hmeet, State.later_later, List.cons_append, List.nil_append]

section
variable {s t : State} {d : DriveNo} {ps : PlatterSide} {ts : List Task} {n : Nat}

/-- The work handed over as FIL leaves a drive: the picker rests, and then what follows. -/
theorem State.Works.filLeft (ha : s.agenda = []) (hp : s.PickerRests) (h : State.Works (s.filLeft d) ts t n) :
    State.Works (s.filLeft d) ([.pickerNext, .pickerNext] ++ ts) t (n + 1 + 1) := by
  have hrests : (s.filLeft d).pickerNext = s.filLeft d := State.pickerNext_rests hp
  exact .rests ha hrests (.rests ha hrests h)

/-- FIL leaves a drive, and goes on. -/
theorem State.leaveSide_settle (ha : s.agenda = []) (hw : (s.lib.drives.get d).work = [.filing])
    (hplatter : (s.lib.drives.get d).platter = some ⟨some ps.platter, ps.side⟩) (hd : s.demand? ps = none) (hp : s.PickerRests) {w : Task}
    (h : State.Works (s.filLeft d) [w] t n) (hn : n + 1 + 1 ≤ 4096) : (s.leaveSide d w).settle = t := by
  rw [State.leaveSide, State.endFilUse_eq hw hplatter hd, State.later_later]
  exact (h.filLeft ha hp).settle hn

end

/-! ## The end of a command -/

/-- A drive whose command has ended with a report (R124, R126). -/
def Drive.ended (k : Drive) : Drive :=
  { k with cmd := none, reported := 0, retry := false, state := if k.state = .busy then .ready else k.state }

/-- The command of a drive has ended, and its channel is IDLE. -/
def State.cmdEnded (s : State) (d : DriveNo) : State :=
  { s with lib := { s.lib with drives := s.lib.drives.set d (s.lib.drives.get d).ended }, driveChans := s.driveChans.set d DriveChan.idle }

theorem State.endCmd_idleChan (s : State) (d : DriveNo) : (s.endCmd d).idleChan d = s.cmdEnded d := (rfl)

theorem State.cmdEnded_drive (s : State) (d : DriveNo) : (s.cmdEnded d).lib.drives.get d = (s.lib.drives.get d).ended := Six.get_set_same _ _ _

/-- A side a filing can use: reachable, with room, and not among the sides its commit has failed on (R65). -/
theorem State.usable_of_room {s : State} {f : Filing} {ps : PlatterSide} {fill : Nat} (hr : s.reachable ps.platter = true)
    (hb : f.blocks ≤ 307200 - fill) (hf : ∀ c ∈ f.commit, ps ∉ c.failed) : s.usable f ps fill = true := by
  have hroom : f.blocks ≤ Config.sideBlocks - fill := hb
  have hfailed : f.failed.contains ps = false := (f.failed_contains ps).2 hf
  simp only [State.usable, State.sideTakes, hr, hfailed, hroom, decide_true, Bool.not_false, Bool.and_self]

/-- An extent allocated in a state whose side has just been changed. -/
theorem State.startErase_modSide {s : State} (d : DriveNo) {q : FSlot} {f : Filing} {u : FilUse} {ps : PlatterSide} {fill : Nat}
    (hf : s.filings.get q = some f) (hu : s.filUse = some u) : s.startErase d q f ps fill = { s.modSide ps (fun x => { x with state := .opened (fill + f.blocks) }) with
      filings := s.filings.set q (some { f with state := .writing, extent := some ⟨ps.platter, ps.side, fill, f.blocks⟩ })
      lib := { s.lib with drives := s.lib.drives.set d ((s.lib.drives.get d).erasing s.ref fill f.blocks) }
      filUse := some { u with stage := .erase d } } := State.startErase_eq d hf hu ps fill

/-! ## The header steps -/

/-- A drive that has reported one more block (R126). -/
def Drive.counted (k : Drive) (now : Nat) : Drive := { k with reported := k.reported + 1, since := now }

theorem State.countBlock_eq (s : State) (d : DriveNo) :
    s.countBlock d = { s with lib := { s.lib with drives := s.lib.drives.set d ((s.lib.drives.get d).counted s.ref) } } := (rfl)

/-- The header blocks erased, the header record goes to the drive (R67, R112). -/
theorem State.headerErased_eq {s : State} {u : FilUse} (d : DriveNo) {q : FSlot} (hu : s.filUse = some u) (hq : u.slot = some q)
    (hbusy : (s.lib.drives.get d).state = .busy) : s.headerErased d u = { s with
      lib := { s.lib with drives := s.lib.drives.set d { s.lib.drives.get d with
        cmd := some (.write 0 16), reported := 0, since := s.ref, retry := false } }
      driveChans := s.driveChans.set d { DriveChan.idle with chan := Chan.header (.slot q), passed := some (.header u.header) }
      filUse := some { u with stage := .headWrite d } } := by
  obtain ⟨ps, g, slot, t, w⟩ := u
  subst hq
  simp only [State.headerErased, State.command, State.setChan, State.stage, State.modDrive, State.endCmd, State.pass, State.modDriveChan, filOp,
    Six.set_set, Six.get_set_same, hu, Option.map_some]
  rw [← hbusy]
  rfl

theorem State.head?_of {s : State} {q : FSlot} {f : Filing} (hq : s.commitQueue.head? = some q) (hf : s.filings.get q = some f) :
    s.head? = some (q, f) := by
  obtain ⟨rest, hqueue⟩ := List.head?_eq_some_iff.1 hq
  rw [State.head?_cons hqueue, hf, Option.map_some]

section
variable {s : State} {d : DriveNo} {u : FilUse} {q : FSlot} (hq : u.slot = some q) (hstate : s.sideState? u.side = some .unchecked)
include hq hstate

/-- Every header block blank: the side is BLANK, and its header blocks are erased (R67). -/
theorem State.endCheck_blank (hu : s.filUse = some u) (hbusy : (s.lib.drives.get d).state = .busy) : s.endCheck d u true = { s with
    cat := { s.cat with platters := updateKeyed Platter.id u.side.platter (fun p => p.modSide u.side.side (fun x => { x with state := .blank })) s.cat.platters }
    lib := { s.lib with drives := s.lib.drives.set d { s.lib.drives.get d with
      cmd := some (.erase 0 16), reported := 0, since := s.ref, retry := false } }
    driveChans := s.driveChans.set d { DriveChan.idle with chan := Chan.header (.slot q) }
    filUse := some { u with stage := .headErase d, openTime := s.clock.now } } := by
  obtain ⟨ps, g, slot, t, w⟩ := u
  subst hq
  have hstate' : (s.cmdEnded d).sideState? ps = some .unchecked := hstate
  simp only [State.endCheck, State.endCmd_idleChan, hstate', ne_eq, not_true_eq_false, if_false, if_true]
  simp only [State.startHeader, State.setSide, State.modSide_eq, State.command, State.setChan, State.stage, State.modDrive, State.cmdEnded,
    Six.set_set, Six.get_set_same, hu, Option.map_some, Drive.ended]
  rw [← hbusy]
  rfl

/-- A header block written or unreadable: the side is FOREIGN, and FIL leaves it to search for another (R67). -/
theorem State.endCheck_foreign : s.endCheck d u false = ((s.cmdEnded d).modSide u.side (fun x => { x with state := .foreign })).leaveSide d .sideSearch := by
  have hstate' : (s.cmdEnded d).sideState? u.side = some .unchecked := hstate
  simp only [State.endCheck, State.endCmd_idleChan, hstate', hq, nextSearch, ne_eq, not_true_eq_false, Bool.false_eq_true, if_false]
  rfl

end

section
variable {s : State} {d : DriveNo} {u : FilUse} {q : FSlot} {f : Filing} {p : Platter} (hs : s.Quiet) (hf : s.filings.get q = some f)
  (hp : s.platter? u.side.platter = some p) (huniq : ∀ r ∈ s.cat.platters, r.id = p.id → r = p) (hothers : s.OthersShut u.side)
include hs hf hp huniq hothers

/-- A FOREIGN side, when every other side is closed: the head waits for media (R67, R69). -/
theorem State.foreign_waits (hbusy : (s.lib.drives.get d).state = .busy) (hw : (s.lib.drives.get d).work = [.filing])
    (hplatter : (s.lib.drives.get d).platter = some ⟨some u.side.platter, u.side.side⟩) (hd : s.demand? u.side = none) (hrests : s.PickerRests)
    (hqueue : s.commitQueue.head? = some q) :
    (((s.cmdEnded d).modSide u.side (fun x => { x with state := .foreign })).leaveSide d .sideSearch).settle = State.post { s with
      cat := { s.cat with platters := updateKeyed Platter.id u.side.platter (fun p => p.modSide u.side.side (fun x => { x with state := .foreign })) s.cat.platters }
      filings := s.filings.set q (some { f with state := .waitingMedia })
      lib := { s.lib with drives := s.lib.drives.set d { s.lib.drives.get d with
        state := .ready, cmd := none, reported := 0, retry := false, pinned := false, work := [] } }
      driveChans := s.driveChans.set d DriveChan.idle
      filUse := none } (.noBlankMedia q f.inst) := by
  obtain ⟨v, hv⟩ : ∃ v, v = (s.cmdEnded d).modSide u.side (fun x => { x with state := .foreign }) := ⟨_, rfl⟩
  have hdrive : v.lib.drives.get d = (s.lib.drives.get d).ended := by rw [hv]; exact s.cmdEnded_drive d
  have hagenda : v.agenda = [] := by rw [hv]; exact hs.2
  have hdemand : v.demand? u.side = none := by rw [hv]; exact hd
  have hpicker : v.PickerRests := by rw [hv]; exact hrests
  have hshut : (v.filLeft d).OthersShut u.side := by rw [hv]; exact State.OthersShut.modSide (s := s.cmdEnded d) hothers _
  have hstands : (v.filLeft d).Stands u.side .foreign := by rw [hv]; exact State.stands_modSide (s := s.cmdEnded d) hp huniq _
  have hhead : (v.filLeft d).head? = some (q, f) := by rw [hv]; exact State.head?_of (s := s) hqueue hf
  have hsearch := State.sideSearch_waits (s := v.filLeft d) rfl hhead (State.findSide_shut hshut hstands rfl f)
  rw [← hv]
  refine (State.leaveSide_settle (ps := u.side) (w := .sideSearch) hagenda (by rw [hdrive]; exact hw) (by rw [hdrive]; exact hplatter) hdemand hpicker
    (.brings hagenda hsearch (.nothing ((State.post_agenda _ _).trans hagenda))) (by decide)).trans ?_
  have hfiling : (v.filLeft d).filings.get q = some f := by rw [hv]; exact hf
  simp only [State.modFiling, State.setFiling, hfiling, Option.map_some]
  refine congrArg (fun x : State => x.post (.noBlankMedia q f.inst)) ?_
  simp only [State.filLeft, hdrive]
  rw [hv]
  simp only [State.modSide_eq, State.cmdEnded, Six.set_set, Drive.ended, Drive.left, hbusy, if_true]

omit hs in
/-- The header written on a BLANK side: it is OPEN from block 16, and with every other side closed an extent is allocated on it (R67, R68). -/
theorem State.headerWritten_opens (hu : s.filUse = some u) (hq : u.slot = some q) (hblank : (p.sideRec u.side.side).state = .blank)
    (hbusy : (s.lib.drives.get d).state = .busy) (hloc : p.loc = .drive d) (hroom : f.blocks ≤ 307200 - 16) (hfailed : ∀ c ∈ f.commit, u.side ∉ c.failed) :
    s.headerWritten d u = { s with
      cat := { s.cat with platters := updateKeyed Platter.id u.side.platter (fun p => p.modSide u.side.side (fun x => { x with state := .opened (16 + f.blocks) })) s.cat.platters }
      lastFiling := some u.side
      filings := s.filings.set q (some { f with state := .writing, extent := some ⟨u.side.platter, u.side.side, 16, f.blocks⟩ })
      lib := { s.lib with drives := s.lib.drives.set d { s.lib.drives.get d with
        cmd := some (.erase 16 f.blocks), reported := 0, since := s.ref, retry := false, pinned := true } }
      driveChans := s.driveChans.set d DriveChan.idle
      filUse := some { u with stage := .erase d } } := by
  obtain ⟨ps, g, slot, t, w⟩ := u
  subst hq
  obtain ⟨v, hv⟩ : ∃ v : State, v = { (s.cmdEnded d).modSide ps (fun x => { x with state := .opened 16 }) with lastFiling := some ps } := ⟨_, rfl⟩
  have hshut : v.OthersShut ps := by rw [hv]; exact State.OthersShut.modSide (s := s.cmdEnded d) hothers _
  have hstands : v.Stands ps (.opened 16) := by rw [hv]; exact State.stands_modSide (s := s.cmdEnded d) hp huniq _
  have hplatter : v.platter? ps.platter = some (p.modSide ps.side (fun x => { x with state := .opened 16 })) := by
    rw [hv]; exact State.platter?_modSide_same (s := s.cmdEnded d) hp _
  have hdrive : v.lib.drives.get d = (s.lib.drives.get d).ended := by rw [hv]; exact s.cmdEnded_drive d
  have hreach : v.reachable ps.platter = true :=
    (State.reachable_iff hplatter).2 (.inr (.inr ⟨d, (Platter.modSide_loc ..).trans hloc, by rw [hdrive]; simp [Drive.ended, hbusy]⟩))
  have husable : v.usable f ps 16 = true := State.usable_of_room hreach hroom hfailed
  have hfiling : v.filings.get q = some f := by rw [hv]; exact hf
  have huse : v.filUse = some ⟨ps, g, some q, t, w⟩ := by rw [hv]; exact hu
  have hstate : (s.cmdEnded d).sideState? ps = some .blank := (State.sideState?_eq (s := s) hp).trans (congrArg some hblank)
  have hwritten : s.headerWritten d ⟨ps, g, some q, t, w⟩ = v.startErase d q f ps 16 := by
    simp only [State.headerWritten, State.endCmd_idleChan, hstate, ne_eq, not_true_eq_false, if_false]
    exact hv ▸ State.allocate_starts hfiling (State.openSide_only hshut hstands rfl) husable
  rw [hwritten, State.startErase_modSide d hfiling huse, hdrive, hv]
  simp only [State.modSide_eq, updateKeyed_modSide_twice, State.cmdEnded, Six.set_set, Drive.ended, Drive.erasing]
  rw [← hbusy]
end

/-- The state of a change that hands no work over is the state left. -/
theorem State.next_settled {x t : State} (h : x = t) (ha : t.agenda = []) :
    (Host.Outcome.next x.settle : Host.Outcome State Fault Refusal) = .next t := by
  rw [h, State.settle_nil t ha]

end Sys2Proof.Machine
end

section
/-!
PROOFS. The passes of an extent: the port's reads, the drive's blocks, the compare, a failed attempt, and the record change (R70, R71, R73 to R75).
-/
namespace Sys2Proof.Machine
set_option Elab.async false

/-! ## The port and the ring -/

/-- A drive channel that wants the port is served first (R116). -/
theorem State.portMove_drive {s : State} {d : DriveNo} (h : DriveNo.all.find? s.driveWants = some d) (parity : Bool) :
    s.portMove parity = s.serveDrive d parity := by
  simp only [State.portMove, h]

theorem State.extentOf_eq {s : State} {q : FSlot} {f : Filing} {e : Location} (hf : s.filings.get q = some f) (he : f.extent = some e) :
    s.extentOf q = e := by
  simp only [State.extentOf, hf, Option.bind_some, he]

theorem State.abandonPending_eq {s : State} {q : FSlot} {f : Filing} (hf : s.filings.get q = some f) (hc : ∀ c ∈ f.commit, c.abandonPending = false) :
    s.abandonPending q = false := by
  cases hcommit : f.commit with
  | none => simp only [State.abandonPending, hf, Option.bind_some, hcommit]
  | some c => simp only [State.abandonPending, hf, Option.bind_some, hcommit, hc c hcommit]

/-! ## The compare -/

section
variable {s : State} {d : DriveNo} {u : FilUse} {q : FSlot}

/-- Nothing is compared until the drive's block and the ring block are both there (R71). -/
theorem State.compare_waits (h : (s.driveChans.get d).held = [] ∨ (s.driveChans.get d).ringBlock = none) : s.compare d u q = s := by
  unfold State.compare
  dsimp only
  split
  · rename_i hheld hring
    obtain h | h := h
    · rw [h] at hheld
      cases hheld
    · rw [h] at hring
      cases hring
  · rfl

variable {b rb : List Byte} {rest : List (List Byte)} (hheld : (s.driveChans.get d).held = b :: rest) (hring : (s.driveChans.get d).ringBlock = some rb)
include hheld hring

/-- Blocks that differ fail the attempt (R71, R74). -/
theorem State.compare_differs (h : b ≠ rb) : s.compare d u q = s.failAttempt d u := by
  simp only [State.compare, hheld, hring, if_neg h]

/-- Blocks that are equal: the channel goes on to the slot's next ring block (R71). -/
theorem State.compare_equal {e : Location} (he : s.extentOf q = e) (h : b = rb) (hleft : 1 < (s.driveChans.get d).chan.remaining) : s.compare d u q = { s with
    driveChans := s.driveChans.set d { s.driveChans.get d with
      chan := { (s.driveChans.get d).chan with
        next := s.ringPos q (e.len - ((s.driveChans.get d).chan.remaining - 1))
        remaining := (s.driveChans.get d).chan.remaining - 1 }
      held := rest
      ringBlock := none } } := by
  have hmore : ¬(s.driveChans.get d).chan.remaining - 1 = 0 := by omega
  simp only [State.compare, hheld, hring, he, if_pos h, if_neg hmore]
  rfl

/-- The last blocks are equal (R71 step 3). -/
theorem State.compare_last (h : b = rb) (hleft : (s.driveChans.get d).chan.remaining = 1) :
    ∃ c : DriveChan, s.compare d u q = State.verifyDone { s with driveChans := s.driveChans.set d c } d q := by
  simp only [State.compare, hheld, hring, if_pos h, hleft, Nat.sub_self, if_true]
  exact ⟨_, rfl⟩

end

/-- A block the drive has passed is held, and counted (R112, R126). -/
theorem State.holdBlock_eq (s : State) (d : DriveNo) (b : List Byte) : s.holdBlock d b = { s with
    lib := { s.lib with drives := s.lib.drives.set d ((s.lib.drives.get d).counted s.ref) }
    driveChans := s.driveChans.set d { s.driveChans.get d with held := (s.driveChans.get d).held ++ [b] } } := (rfl)

theorem State.holdBlock_chan (s : State) (d : DriveNo) (b : List Byte) :
    (s.holdBlock d b).driveChans.get d = { s.driveChans.get d with held := (s.driveChans.get d).held ++ [b] } := Six.get_set_same _ _ _

/-! ## The passes -/

section
variable {s : State} {d : DriveNo} {u : FilUse} {q : FSlot} {e : Location} (hr : s.role d = .fil u) (hq : u.slot = some q) (he : s.extentOf q = e)

section
include hr hq

/-- The port reads a ring block for a write pass (R112). -/
theorem State.serveDrive_write (he : s.extentOf q = e) {x : DriveNo} (hg : u.stage = .write x) : s.serveDrive d false = { s with
    driveChans := s.driveChans.set d { s.driveChans.get d with
      chan := { (s.driveChans.get d).chan with
        next := s.ringPos q (e.len - ((s.driveChans.get d).chan.remaining - 1))
        remaining := (s.driveChans.get d).chan.remaining - 1 }
      passed := some (.block (Memory.readBlock s.mem (s.driveChans.get d).chan.next)) } } := by
  simp only [State.serveDrive, hr, hq, he, State.readRing, hg, Bool.false_eq_true, if_false, State.pass, State.modDriveChan, Six.get_set_same, Six.set_set]

/-- The port reads a ring block for a verify pass, ahead of the drive's block (R71, R112). -/
theorem State.serveDrive_verify {x : DriveNo} (hg : u.stage = .verify x) (hheld : (s.driveChans.get d).held = []) : s.serveDrive d false = { s with
    driveChans := s.driveChans.set d { s.driveChans.get d with ringBlock := some (Memory.readBlock s.mem (s.driveChans.get d).chan.next) } } := by
  simp only [State.serveDrive, hr, hq, State.readRing, hg, Bool.false_eq_true, if_false]
  refine State.compare_waits (.inl ?_)
  simp only [State.modDriveChan, Six.get_set_same, hheld]

end

include he

/-- The write pass done, the verify pass begins (R70, R71). -/
theorem State.writeDone_verifies {f : Filing} (hf : s.filings.get q = some f) (hu : s.filUse = some u) (hab : s.abandonPending q = false) :
    s.writeDone d q = { s with
      filings := s.filings.set q (some { f with state := .verifying })
      lib := { s.lib with drives := s.lib.drives.set d { s.lib.drives.get d with
        state := .busy, cmd := some (.read e.start e.len), reported := 0, since := s.ref, retry := false } }
      driveChans := s.driveChans.set d { DriveChan.idle with chan := Chan.use (.slot q) (some .ring) (s.ringPos q 0) e.len .markWritten }
      filUse := some { u with stage := .verify d } } := by
  simp only [State.writeDone, hab, Bool.false_eq_true, if_false, State.startVerify, he, State.modFiling, State.setFiling, hf, Option.map_some]
  simp only [State.endCmd, State.command, State.setChan, State.stage, State.modDrive, Six.get_set_same, Six.set_set, hu, Option.map_some]
  rfl

end

/-! ## A failed attempt -/

section
variable {s : State} {d : DriveNo} {u : FilUse} {q : FSlot} {f : Filing} {c : Commit} {p : Platter} {fill : Nat} (hu : s.filUse = some u)
  (hq : u.slot = some q) (hf : s.filings.get q = some f) (hc : f.commit = some c) (hp : s.platter? u.side.platter = some p)
  (hopen : (p.sideRec u.side.side).state = .opened fill) (hab : c.abandonPending = false)

/-- A filing with one more failed attempt (R74). -/
def Filing.failedOn (f : Filing) (c : Commit) (ps : PlatterSide) : Filing :=
  { f with commit := some { c with attempts := c.attempts + 1, failed := if c.failed.contains ps then c.failed else c.failed ++ [ps] } }

/-- One more failed attempt counted on the slot and on the side (R74). -/
def State.attemptCounted (s : State) (d : DriveNo) (q : FSlot) (g : Filing) (ps : PlatterSide) : State :=
  { (s.cmdEnded d).modSide ps SideRec.failOnce with filings := s.filings.set q (some g) }

include hf hc in
theorem State.failAttempt_eq (hq : u.slot = some q) : s.failAttempt d u =
    (s.attemptCounted d q (f.failedOn c u.side) u.side).afterFailure d q u.side := by
  have hf' : ((s.cmdEnded d).modSide u.side SideRec.failOnce).filings.get q = some f := hf
  simp only [State.failAttempt, State.endCmd_idleChan, hq, State.modCommit, State.modFiling, State.setFiling, hf', Option.map_some, hc]
  rfl

include hu hq hf hc hp hopen hab in
/-- After a first failure on a side still OPEN with room the erase pass begins on another extent of it (R75). -/
theorem State.failAttempt_retries (hfailed : c.failed = []) (hfails : (p.sideRec u.side.side).fails = 0) (ho : s.openSide = some (u.side, fill))
    (hloc : p.loc = .drive d) (hfault : (s.lib.drives.get d).state ≠ .fault) (hroom : f.blocks ≤ 307200 - fill) : s.failAttempt d u = { s with
      cat := { s.cat with platters := updateKeyed Platter.id u.side.platter (fun p => p.modSide u.side.side
        (fun x => { state := .opened (fill + f.blocks), fails := min 2 (x.fails + 1) })) s.cat.platters }
      filings := s.filings.set q (some { f with
        state := .writing, extent := some ⟨u.side.platter, u.side.side, fill, f.blocks⟩
        commit := some { c with attempts := c.attempts + 1, failed := c.failed ++ [u.side] } })
      lib := { s.lib with drives := s.lib.drives.set d ((s.lib.drives.get d).erasing s.ref fill f.blocks) }
      driveChans := s.driveChans.set d DriveChan.idle
      filUse := some { u with stage := .erase d } } := by
  obtain ⟨v, hv⟩ : ∃ v, v = s.attemptCounted d q (f.failedOn c u.side) u.side := ⟨_, rfl⟩
  have hkeeps : (SideRec.failOnce (p.sideRec u.side.side)).state = (p.sideRec u.side.side).state := by simp [SideRec.failOnce, hfails]
  have hopen' : v.openSide = some (u.side, fill) := by
    rw [hv]
    exact State.openSide_modSide (s := s.cmdEnded d) hp hopen ho hkeeps
  have hplatter : v.platter? u.side.platter = some (p.modSide u.side.side SideRec.failOnce) := by
    rw [hv]
    exact State.platter?_modSide_same (s := s.cmdEnded d) hp _
  have hdrive : v.lib.drives.get d = (s.lib.drives.get d).ended := by rw [hv]; exact s.cmdEnded_drive d
  have hreach : v.reachable u.side.platter = true := by
    refine (State.reachable_iff hplatter).2 (.inr (.inr ⟨d, (Platter.modSide_loc ..).trans hloc, ?_⟩))
    rw [hdrive, Drive.ended]
    dsimp only
    split
    · decide
    · exact hfault
  have htakes : v.sideTakes u.side fill (f.failedOn c u.side).blocks = true := by
    have hroom' : f.blocks ≤ Config.sideBlocks - fill := hroom
    simp only [State.sideTakes, hreach, Filing.failedOn, hroom', decide_true, Bool.and_self]
  have hfiling : v.filings.get q = some (f.failedOn c u.side) := by rw [hv]; exact Four.get_set_same _ _ _
  have huse : v.filUse = some u := by rw [hv]; exact hu
  have hcommit : (f.failedOn c u.side).commit = some { c with attempts := c.attempts + 1, failed := [u.side] } := by simp [Filing.failedOn, hfailed]
  have hagain : v.afterFailure d q u.side = v.startErase d q (f.failedOn c u.side) u.side fill := by
    have hone : ¬2 ≤ [u.side].length := by simp
    simp only [State.afterFailure, hfiling, hcommit, hab, Bool.false_eq_true, if_false, if_neg hone, hopen', htakes, and_self, if_true]
  rw [State.failAttempt_eq hf hc hq, ← hv, hagain, State.startErase_modSide d hfiling huse, hdrive, hv]
  simp only [State.attemptCounted, State.modSide_eq, updateKeyed_modSide_twice, State.cmdEnded, Six.set_set, Four.set_set, Drive.ended, Drive.erasing,
    SideRec.failOnce, Filing.failedOn, hfailed, List.contains_nil, Bool.false_eq_true, if_false, List.nil_append]

end

/-! ## The last block of a verify pass -/

/-- FIL has left a drive and ended a filing: the picker rests, and there is no next head. -/
theorem State.ends_settle {s : State} (ha : s.agenda = []) (hp : s.PickerRests) (hh : s.HeadRests) :
    (s.later [.pickerNext, .pickerNext, .headTurn]).settle = s := by
  have hrests : s.pickerNext = s := State.pickerNext_rests hp
  have hw : State.Works s [.pickerNext, .pickerNext, .headTurn] s 3 :=
    .rests ha hrests (.rests ha hrests (.rests ha (State.headTurn_rests hh) (.nothing ha)))
  exact hw.settle (by decide)

/-- The record change of one filing (R10). -/
theorem CatMem.recordEntry_map (c : CatMem) (n : InstrNum) (e : Location) (pg : Pages) (res : Bool) (fs : List Nat) :
    c.recordEntry n e pg res fs = { c.addLinks n fs with table := c.table.map (fun e' =>
      let e' : Entry := if e'.num = n then { e' with state := .recorded e pg, restricted := res } else e'
      if e'.claim = some n then { e' with claim := none, successor := some n } else e') } := by
  simp only [CatMem.recordEntry, CatMem.modEntry, CatMem.addLinks, List.map_map]
  rfl

/-- A drive whose verify read has passed every block, with the read's DONE perhaps still to come (R71, assumption log 13). -/
def Drive.verified (k : Drive) : Drive := { k with staleDone := k.cmd.isSome }.ended

section
variable {s : State} {d : DriveNo} {q : FSlot} {f : Filing} {c : Commit} {e : Location}

/-- The state after the last block, before the filing ends. -/
def State.verified (s : State) (d : DriveNo) : State :=
  { s with lib := { s.lib with drives := s.lib.drives.set d (s.lib.drives.get d).verified }, driveChans := s.driveChans.set d DriveChan.idle }

/-- The state after the report of the last block and its compare. -/
def State.lastVerified (s : State) (d : DriveNo) : State :=
  { s with
    lib := { s.lib with drives := s.lib.drives.set d ((s.lib.drives.get d).counted s.ref).verified }
    driveChans := s.driveChans.set d DriveChan.idle }

theorem State.lastVerified_eq (s : State) (d : DriveNo) (b : List Byte) (ch : DriveChan) :
    State.verified { s.holdBlock d b with driveChans := (s.holdBlock d b).driveChans.set d ch } d = s.lastVerified d := by
  simp only [State.verified, State.holdBlock_eq, Six.get_set_same, Six.set_set, State.lastVerified]

theorem State.verified_eq (s : State) (d : DriveNo) :
    ((s.modDrive d (fun r => { r with staleDone := r.cmd.isSome })).endCmd d).idleChan d = s.verified d := by
  simp only [State.modDrive, State.endCmd, State.idleChan, Six.get_set_same, Six.set_set, State.verified]
  rfl

variable (hf : s.filings.get q = some f) (hc : f.commit = some c) (he : f.extent = some e) (hi : s.cat.isFiling f.inst = true)
include hf hc he hi

theorem State.verifyDone_records (hab : c.abandonPending = false) : s.verifyDone d q = (s.verified d).recordCommit d q f c e := by
  have hf' : (s.verified d).filings.get q = some f := hf
  have hi' : (s.verified d).cat.isFiling f.inst = true := hi
  simp only [State.verifyDone, State.verified_eq, hf', hc, he, hab, hi', Bool.not_true, Bool.or_self, Bool.false_eq_true, if_false]

omit hi in
theorem State.verifyDone_abandons (hab : c.abandonPending = true) : s.verifyDone d q = (s.verified d).abandonSlot q := by
  have hf' : (s.verified d).filings.get q = some f := hf
  simp only [State.verifyDone, State.verified_eq, hf', hc, he, hab, Bool.true_or, if_true]

end

section
variable {s : State} {d : DriveNo} {q : FSlot} {f : Filing} {c : Commit} {ps : PlatterSide} (ha : s.agenda = [])
  (hw : (s.lib.drives.get d).work = [.filing]) (hplatter : (s.lib.drives.get d).platter = some ⟨some ps.platter, ps.side⟩) (hd : s.demand? ps = none)
  (hp : s.PickerRests) (hqueue : s.commitQueue = [q]) (hgen : (s.links.get c.reply.link).resetCount = c.reply.gen)
include ha hw hplatter hd hp hqueue hgen

/-- The record change, and the end of the commit (R73). -/
theorem State.recordCommit_settle (e : Location) : (s.recordCommit d q f c e).settle = State.queued { s with
      cat := s.cat.recordEntry f.inst e ⟨c.small, c.plan⟩ c.restricted (s.reserved.get q)
      reserved := s.reserved.set q []
      ring := (s.ring.map (fun b => if b.slot = q then { b with mark := .written } else b)).dropWhile (fun b => b.mark ≠ .live)
      filings := s.filings.set q none
      commitQueue := []
      lib := { s.lib with drives := s.lib.drives.set d (s.lib.drives.get d).left }
      filUse := none } c.reply .done (.committed f.inst e c.attempts) := by
  obtain ⟨v, hv⟩ : ∃ v, v = State.markSlot { s.modCat (fun m => m.recordEntry f.inst e ⟨c.small, c.plan⟩ c.restricted (s.reserved.get q)) with
    reserved := s.reserved.set q [] } q .written := ⟨_, rfl⟩
  have hleft : v.endFilUse d = (v.filLeft d).later [.pickerNext, .pickerNext] :=
    State.endFilUse_eq (ps := ps) (by rw [hv]; exact hw) (by rw [hv]; exact hplatter) (by rw [hv]; exact hd)
  have hcommit : s.recordCommit d q f c e = ((v.endFilUse d).freeSlot q |>.respond c.reply .done (.committed f.inst e c.attempts)).later [.headTurn] := by
    rw [hv]
    rfl
  have hfree : ((v.filLeft d).later [.pickerNext, .pickerNext]).freeSlot q = ((v.filLeft d).freeSlot q).later [.pickerNext, .pickerNext] := rfl
  have hgen' : (((v.filLeft d).freeSlot q).links.get c.reply.link).resetCount = c.reply.gen := by rw [hv]; exact hgen
  have hnil : ((v.filLeft d).freeSlot q).commitQueue = [] := by
    have hv' : v.commitQueue = [q] := by rw [hv]; exact hqueue
    simp [State.freeSlot, State.filLeft, hv']
  rw [hcommit, hleft, hfree, State.respond_later, State.later_later, State.respond_eq_queued _ _ _ _ hgen']
  refine (State.ends_settle (s := ((v.filLeft d).freeSlot q).queued c.reply .done (.committed f.inst e c.attempts)) ?_ ?_ (.of_nil hnil)).trans ?_
  · rw [hv]; exact ha
  · rw [hv]; exact hp
  · refine congrArg (fun x : State => x.queued c.reply .done (.committed f.inst e c.attempts)) ?_
    have herase : s.commitQueue.erase q = [] := by simp [hqueue]
    rw [hv]
    simp only [State.filLeft, State.freeSlot, State.setFiling, State.markSlot, State.modCat, herase]
    rfl

/-- A pending abandon taken at the end of a pass (R61). -/
theorem State.abandonSlot_settle {u : FilUse} (hu : s.filUse = some u) (hslot : u.slot = some q) (hg : u.stage = .verify d)
    (hf : s.filings.get q = some f) (hc : f.commit = some c) (hi : s.cat.isFiling f.inst = true) :
    (s.abandonSlot q).settle = State.queued { s.slotFreed q f.inst with
      lib := { s.lib with drives := s.lib.drives.set d (s.lib.drives.get d).left }
      filUse := none } c.reply .aborted .none := by
  have hdrop : s.dropUse q = (s.filLeft d).later [.pickerNext, .pickerNext] := by
    simp only [State.dropUse, hu, hslot, hg, ne_eq, not_true_eq_false, if_false]
    exact State.endFilUse_eq hw hplatter hd
  have hi' : (s.dropUse q).cat.isFiling f.inst = true := by rw [hdrop]; exact hi
  have hfree : ((s.filLeft d).later [.pickerNext, .pickerNext]).slotFreed q f.inst =
      ((s.filLeft d).slotFreed q f.inst).later [.pickerNext, .pickerNext] := rfl
  have hnil : ((s.filLeft d).slotFreed q f.inst).commitQueue = [] := State.slotFreed_only (s := s.filLeft d) hqueue _
  rw [State.abandonSlot_eq hf hi', hdrop, hfree, State.answerOpt_later, State.later_later,
    State.aborted_eq_queued (s := s) (w := (s.filLeft d).slotFreed q f.inst) hc hgen rfl]
  exact State.ends_settle ha hp (.of_nil hnil)

end

/-! ## A block of a verify pass -/

section
variable {s : State} {d : DriveNo} {u : FilUse} {q : FSlot} {f : Filing} {c : Commit} {e : Location} {b rb : List Byte}
  (hheld : (s.driveChans.get d).held = []) (hring : (s.driveChans.get d).ringBlock = some rb)
include hheld hring

theorem State.holdBlock_ready : ((s.holdBlock d b).driveChans.get d).held = [b] ∧ ((s.holdBlock d b).driveChans.get d).ringBlock = some rb := by
  rw [State.holdBlock_chan, hheld]
  exact ⟨rfl, hring⟩

/-- A block equal to its ring block, with more to come. -/
theorem State.verifyBlock_equal (he : s.extentOf q = e) (h : b = rb) (hmore : 1 < (s.driveChans.get d).chan.remaining) :
    (s.holdBlock d b).compare d u q = { s with
      lib := { s.lib with drives := s.lib.drives.set d ((s.lib.drives.get d).counted s.ref) }
      driveChans := s.driveChans.set d { s.driveChans.get d with
        chan := { (s.driveChans.get d).chan with
          next := s.ringPos q (e.len - ((s.driveChans.get d).chan.remaining - 1))
          remaining := (s.driveChans.get d).chan.remaining - 1 }
        held := []
        ringBlock := none } } := by
  obtain ⟨hheld', hring'⟩ := State.holdBlock_ready (b := b) hheld hring
  rw [State.compare_equal hheld' hring' he h (by rw [State.holdBlock_chan]; exact hmore), State.holdBlock_chan]
  simp only [State.holdBlock_eq, Six.set_set]
  rfl

/-- A block that differs from its ring block, on a side still OPEN with room (R74, R75). -/
theorem State.verifyBlock_differs {p : Platter} {fill : Nat} (hu : s.filUse = some u) (hq : u.slot = some q) (hf : s.filings.get q = some f)
    (hc : f.commit = some c) (hp : s.platter? u.side.platter = some p) (hopen : (p.sideRec u.side.side).state = .opened fill) (h : b ≠ rb)
    (hab : c.abandonPending = false) (hfailed : c.failed = []) (hfails : (p.sideRec u.side.side).fails = 0) (ho : s.openSide = some (u.side, fill))
    (hloc : p.loc = .drive d) (hfault : (s.lib.drives.get d).state ≠ .fault) (hroom : f.blocks ≤ 307200 - fill) :
    (s.holdBlock d b).compare d u q = s.failAttempt d u := by
  obtain ⟨hheld', hring'⟩ := State.holdBlock_ready (b := b) hheld hring
  have hdrive : (s.holdBlock d b).lib.drives.get d = (s.lib.drives.get d).counted s.ref := Six.get_set_same _ _ _
  have hretry := State.failAttempt_retries (s := s.holdBlock d b) hu hq hf hc hp hopen hab hfailed hfails ho hloc
    (by rw [hdrive]; exact hfault) hroom
  rw [State.compare_differs hheld' hring' h, hretry, State.failAttempt_retries hu hq hf hc hp hopen hab hfailed hfails ho hloc hfault hroom, hdrive]
  simp only [State.holdBlock_eq, Six.set_set]
  rfl

variable (hleft : (s.driveChans.get d).chan.remaining = 1) (h : b = rb) (hf : s.filings.get q = some f) (hc : f.commit = some c)
  (he : f.extent = some e)
include hleft h

omit hheld hring hleft h in
theorem State.lastVerified_drive : (s.lastVerified d).lib.drives.get d = ((s.lib.drives.get d).counted s.ref).verified := Six.get_set_same _ _ _

theorem State.verifyBlock_last : ∃ t : State, (s.holdBlock d b).compare d u q = t.verifyDone d q ∧ t.verified d = s.lastVerified d ∧
    t.filings = s.filings ∧ t.cat = s.cat := by
  obtain ⟨hheld', hring'⟩ := State.holdBlock_ready (b := b) hheld hring
  obtain ⟨ch, hlast⟩ := State.compare_last (u := u) (q := q) hheld' hring' h (by rw [State.holdBlock_chan]; exact hleft)
  exact ⟨_, hlast, s.lastVerified_eq d b ch, rfl, rfl⟩

include hf hc he

/-- The last block equal, the filing is recorded (R73). -/
theorem State.verifyBlock_records (hi : s.cat.isFiling f.inst = true) (hab : c.abandonPending = false) :
    (s.holdBlock d b).compare d u q = (s.lastVerified d).recordCommit d q f c e := by
  obtain ⟨t, hlast, hverified, hfilings, hcat⟩ := State.verifyBlock_last (u := u) (q := q) hheld hring hleft h
  rw [hlast, State.verifyDone_records (s := t) (by rw [hfilings]; exact hf) hc he (by rw [hcat]; exact hi) hab, hverified]

/-- The last block equal, a pending abandon is taken (R61). -/
theorem State.verifyBlock_abandons (hab : c.abandonPending = true) : (s.holdBlock d b).compare d u q = (s.lastVerified d).abandonSlot q := by
  obtain ⟨t, hlast, hverified, hfilings, -⟩ := State.verifyBlock_last (u := u) (q := q) hheld hring hleft h
  rw [hlast, State.verifyDone_abandons (s := t) (by rw [hfilings]; exact hf) hc he hab, hverified]

end

/-- The drive after the last block of a verify pass, with FIL's use gone. -/
theorem Drive.verified_left {k : Drive} {a n : Nat} (hbusy : k.state = .busy) (hc : k.cmd = some (.read a n)) (now : Nat) :
    (k.counted now).verified.left = { k with
      state := .ready, cmd := none, reported := 0, retry := false, since := now, staleDone := true, pinned := false, work := [] } := by
  simp only [Drive.left, Drive.verified, Drive.ended, Drive.counted, hbusy, hc, Option.isSome_some, if_true]

/-! ## The statement -/

/-- Settles O51: the header steps, the passes, and the last block of a verify pass. -/
theorem filingPassesAndRecord : Obligations.FilingPassesAndRecord := by
  refine ⟨?_, ?_, ?_⟩
  · intro s d hs k u hu q hq f hf p hp cmd hc hbusy hstale huniq hothers side issued header
    obtain ⟨⟨pl, sd⟩, g, slot, t, w⟩ := u
    subst hq
    obtain rfl := (State.platter?_some hp).2
    have hrole := fun {rest} (hw : k.work = .filing :: rest) => State.role_fil hw hu
    refine ⟨fun rest hw hn => ⟨fun w' hcmd hg => ?_, fun hcmd hg => ?_⟩, fun rest hw hcmd hg hn hunchecked hsaw => ?_,
      fun hw hcmd hg hunchecked hqueue hqueued hrests hplatter hd => ?_, fun rest hw hcmd hg => ?_,
      fun rest hw hcmd hg hblank hloc hroom hfailed => ?_⟩ <;> subst hcmd
    · refine (exec_driveBlockReport hs d _).trans (State.next_settled (State.blockReport_check (hrole hw) hc hn hg w') hs.2) |>.trans ?_
      rw [hu]
      rfl
    · exact (exec_driveBlockReport hs d _).trans (State.next_settled (State.blockReport_headWrite (hrole hw) hc hn hg) hs.2)
    · have hstate := (State.sideState?_eq (s := s) (ps := ⟨p.id, sd⟩) hp).trans (congrArg some hunchecked)
      exact (exec_driveDoneReport hs d).trans (State.next_settled
        ((State.doneReport_check (blank := true) (hrole hw) hstale hc hn hg hsaw).trans (State.endCheck_blank (d := d) (q := q) rfl hstate hu hbusy)) hs.2)
    · have hstate := (State.sideState?_eq (s := s) (ps := ⟨p.id, sd⟩) hp).trans (congrArg some hunchecked)
      have hends := State.foreign_waits (u := ⟨⟨p.id, sd⟩, g, some q, t, w⟩) hs hf hp huniq hothers hbusy hw hplatter hd hrests hqueue
      have hforeign := State.endCheck_foreign (d := d) (u := ⟨⟨p.id, sd⟩, g, some q, t, w⟩) rfl hstate
      refine ⟨fun hn hsaw => ?_, ?_⟩
      · rw [exec_driveDoneReport hs d, State.doneReport_check (blank := false) (hrole hw) hstale hc hn hg hsaw, hforeign, hends]
      · rw [exec_driveUnreadable hs d, State.unreadable_check (hrole hw) hc hg, hforeign, hends]
    · exact (exec_driveDoneReport hs d).trans (State.next_settled
        ((State.doneReport_headErase (hrole hw) hstale hc hg).trans (State.headerErased_eq d (q := q) hu rfl hbusy)) hs.2)
    · exact (exec_driveDoneReport hs d).trans (State.next_settled
        ((State.doneReport_headWrite (hrole hw) hstale hc hg).trans
          (State.headerWritten_opens hf hp huniq hothers hu rfl hblank hbusy hloc hroom hfailed)) hs.2)
  · intro s d hs k h u hu q hq f hf e he cmd hc rest hw hstale counted
    have hrole : s.role d = .fil u := State.role_fil hw hu
    have hext := State.extentOf_eq hf he
    refine ⟨fun hport hlanes => ⟨fun hg => ?_, fun hg hheld => ?_⟩, fun hg hcmd hn => ?_, fun hg hcmd hleft hab => ?_, fun hg hcmd hn =>
      ⟨fun b hring => ?_, fun b hring hheld hmore => ?_,
        fun b rb hring c hcommit p hp fill hopen hne hheld hab hfailed hfails ho hloc hfault hroom => ?_⟩⟩
    · exact exec_portMove s false _ ((State.portMove_drive hport false).trans (State.serveDrive_write hrole hq hext hg)) hs.2 hlanes
    · exact exec_portMove s false _ ((State.portMove_drive hport false).trans (State.serveDrive_verify hrole hq hg hheld)) hs.2 hlanes
    · subst hcmd
      exact (exec_driveBlockReport hs d _).trans (State.next_settled (State.blockReport_write hrole hq hc hn hg) hs.2)
    · subst hcmd
      exact (exec_driveDoneReport hs d).trans (State.next_settled
        ((State.doneReport_write hrole hstale hc hg hq hleft).trans (State.writeDone_verifies hext hf hu (State.abandonPending_eq hf hab))) hs.2)
    all_goals
      subst hcmd
      rw [exec_driveBlockReport hs d, State.blockReport_verify hrole hq hc hn hg]
    · exact State.next_settled (State.compare_waits (.inr (by rw [State.holdBlock_chan]; exact hring))) hs.2
    · exact State.next_settled (State.verifyBlock_equal hheld hring hext rfl hmore) hs.2
    · rw [(State.platter?_some hp).2, State.verifyBlock_differs hheld hring hu hq hf hcommit hp hopen hne hab hfailed hfails ho hloc hfault hroom]
      refine State.next_settled ((State.failAttempt_retries hu hq hf hcommit hp hopen hab hfailed hfails ho hloc hfault hroom).trans ?_) hs.2
      rw [hfailed]
      rfl
  · intro s d hs k h u hu q hq f hf c hc e he b hring hw hcmd hbusy hg hn hheld hleft hplatter hd hrests hqueue hgen hi lib
    have hended := Drive.verified_left hbusy hcmd s.ref
    have hwork : ((s.lastVerified d).lib.drives.get d).work = [.filing] := by rw [State.lastVerified_drive]; exact hw
    have hholds : ((s.lastVerified d).lib.drives.get d).platter = some ⟨some u.side.platter, u.side.side⟩ := by
      rw [State.lastVerified_drive]; exact hplatter
    refine ⟨fun hab => ?_, fun hab => ?_⟩ <;> rw [exec_driveBlockReport hs d, State.blockReport_verify (State.role_fil hw hu) hq hcmd hn hg]
    · rw [State.verifyBlock_records hheld hring hleft rfl hf hc he hi hab,
        State.recordCommit_settle (s := s.lastVerified d) hs.2 hwork hholds hd hrests hqueue hgen e, State.lastVerified_drive, hended,
        CatMem.recordEntry_map]
      simp only [State.lastVerified, Six.set_set]
      rfl
    · rw [State.verifyBlock_abandons hheld hring hleft rfl hf hc he hab,
        State.abandonSlot_settle (s := s.lastVerified d) hs.2 hwork hholds hd hrests hqueue hgen hu hq hg hf hc hi, State.lastVerified_drive, hended]
      simp only [State.lastVerified, Six.set_set]
      rfl

end Sys2Proof.Machine
end

section
/-!
PROOFS. A failed attempt that ends FIL's use of the drive: a side that becomes FULL, and a commit that ends WRITE_FAILED (R74, R75).
-/
namespace Sys2Proof.Machine
set_option Elab.async false

/-! ## Events -/

/-- Posting an event changes the links, or the events that wait for them to start. -/
theorem State.post_frame (s : State) (e : Event) : ∃ k v, s.post e = { s with links := k, startEvents := v } := by
  unfold State.post
  split
  · exact ⟨_, s.startEvents, rfl⟩
  · exact ⟨s.links, _, rfl⟩
  · exact ⟨s.links, s.startEvents, rfl⟩

theorem State.post_later (s : State) (e : Event) (ts : List Task) : (s.later ts).post e = (s.post e).later ts := by
  have hpower : (s.later ts).power = s.power := rfl
  unfold State.post
  rw [hpower]
  split <;> rfl

/-! ## The side's count -/

/-- An OPEN side with one more failed attempt, FULL or as it was (R74). -/
def SideRec.failedAt (fill : Nat) (full : Bool) (x : SideRec) : SideRec :=
  { state := if full then .full fill else x.state, fails := min 2 (x.fails + 1) }

theorem SideRec.failOnce_opened {x : SideRec} {fill : Nat} (h : x.state = .opened fill) : x.failOnce = x.failedAt fill (decide (2 ≤ x.fails + 1)) := by
  simp only [SideRec.failOnce, SideRec.failedAt, decide_eq_true_eq, h]
  rfl

section
variable {s : State} {d : DriveNo} {u : FilUse} {q : FSlot} {f : Filing} {c : Commit} {p : Platter} {fill : Nat} (hs : s.Quiet)
  (hq : u.slot = some q) (hf : s.filings.get q = some f) (hc : f.commit = some c) (hp : s.platter? u.side.platter = some p)
  (hopen : (p.sideRec u.side.side).state = .opened fill) (hab : c.abandonPending = false) (huniq : ∀ r ∈ s.cat.platters, r.id = p.id → r = p)
  (hw : (s.lib.drives.get d).work = [.filing]) (hplatter : (s.lib.drives.get d).platter = some ⟨some u.side.platter, u.side.side⟩)
  (hd : s.demand? u.side = none) (hrests : s.PickerRests)

include hp hopen huniq in
theorem State.attemptCounted_eq (g : Filing) : s.attemptCounted d q g u.side =
    { (s.cmdEnded d).modSide u.side (SideRec.failedAt fill (decide (2 ≤ (p.sideRec u.side.side).fails + 1))) with filings := s.filings.set q (some g) } := by
  have hside := State.modSide_congr (s := s.cmdEnded d) hp SideRec.failOnce huniq (SideRec.failOnce_opened hopen)
  rw [State.attemptCounted, hside]

include hs hq hf hc hp hopen hab huniq hw hplatter hd hrests

/-- The second failure of a side makes it FULL: with every other side closed the head waits for media (R65, R66, R69, R75). -/
theorem State.failAttempt_closes (hfailed : c.failed = []) (hfails : (p.sideRec u.side.side).fails = 1) (hothers : s.OthersShut u.side)
    (hqueue : s.commitQueue.head? = some q) : (s.failAttempt d u).settle = State.post { s with
      cat := { s.cat with platters := updateKeyed Platter.id u.side.platter (fun p => p.modSide u.side.side (SideRec.failedAt fill true)) s.cat.platters }
      filings := s.filings.set q (some { f with
        state := .waitingMedia, extent := none, commit := some { c with attempts := c.attempts + 1, failed := c.failed ++ [u.side] } })
      lib := { s.lib with drives := s.lib.drives.set d (s.lib.drives.get d).ended.left }
      driveChans := s.driveChans.set d DriveChan.idle
      filUse := none } (.noBlankMedia q f.inst) := by
  obtain ⟨v, hv⟩ : ∃ v, v = { (s.cmdEnded d).modSide u.side (SideRec.failedAt fill true) with filings := s.filings.set q (some (f.failedOn c u.side)) } :=
    ⟨_, rfl⟩
  have hcounted : s.attemptCounted d q (f.failedOn c u.side) u.side = v := by
    rw [State.attemptCounted_eq hp hopen huniq, hfails, hv]
    rfl
  have hdrive : v.lib.drives.get d = (s.lib.drives.get d).ended := by rw [hv]; exact s.cmdEnded_drive d
  have hagenda : v.agenda = [] := by rw [hv]; exact hs.2
  have hshut : v.OthersShut u.side := by rw [hv]; exact State.OthersShut.modSide (s := s.cmdEnded d) hothers _
  have hstands : v.Stands u.side (.full fill) := by
    rw [hv]
    exact State.stands_modSide (s := s.cmdEnded d) hp huniq (SideRec.failedAt fill true)
  have hfiling : v.filings.get q = some (f.failedOn c u.side) := by rw [hv]; exact Four.get_set_same _ _ _
  have hcommit : (f.failedOn c u.side).commit = some { c with attempts := c.attempts + 1, failed := [u.side] } := by simp [Filing.failedOn, hfailed]
  have hone : ¬2 ≤ [u.side].length := by simp
  have hleft : v.endFilUse d = (v.filLeft d).later [.pickerNext, .pickerNext] :=
    State.endFilUse_eq (ps := u.side) (by rw [hdrive]; exact hw) (by rw [hdrive]; exact hplatter) (by rw [hv]; exact hd)
  obtain ⟨w, hwv⟩ : ∃ w, w = (v.filLeft d).modFiling q (fun f => { f with state := .queued, extent := none }) := ⟨_, rfl⟩
  have hafter : v.afterFailure d q u.side = w.later ([.pickerNext, .pickerNext] ++ [.headTurn]) := by
    simp only [State.afterFailure, hfiling, hcommit, hab, Bool.false_eq_true, if_false, if_neg hone, State.openSide_shut hshut hstands rfl, hleft]
    rw [hwv, ← State.later_later]
    rfl
  obtain ⟨g, hg⟩ : ∃ g, g = { f.failedOn c u.side with state := .queued, extent := none } := ⟨_, rfl⟩
  have hwg : w = { v.filLeft d with filings := v.filings.set q (some g) } := by
    rw [hwv, hg]
    simp only [State.modFiling, State.setFiling, State.filLeft, hfiling, Option.map_some]
  have hget : w.filings.get q = some g := by rw [hwg]; exact Four.get_set_same _ _ _
  have hqueue' : w.commitQueue.head? = some q := by rw [hwg, hv]; exact hqueue
  have hagenda' : w.agenda = [] := by rw [hwg]; exact hagenda
  have huse : w.filUse = none := by rw [hwg]; rfl
  have hpicker : w.pickerNext = w := State.pickerNext_rests (by rw [hwg, hv]; exact hrests)
  have hnone : w.openSide = none := by rw [hwg]; exact State.openSide_shut (s := v) hshut hstands rfl
  have hfind : w.findSide g = none := by
    refine State.findSide_shut (ps := u.side) (st := .full fill) ?_ ?_ rfl g
    · rw [hwg]; exact hshut
    · rw [hwg]; exact hstands
  have hhead := State.head?_of hqueue' hget
  have hturn := State.headTurn_searches huse hhead (by rw [hg]) hnone
  have hsearch := State.sideSearch_waits huse hhead hfind
  have hworks : State.Works w [.pickerNext, .pickerNext, .headTurn] _ 4 :=
    .rests hagenda' hpicker (.rests hagenda' hpicker (.piece hagenda' hturn (.brings (w := .sideSearch) hagenda' hsearch
      (.nothing ((State.post_agenda _ _).trans hagenda')))))
  rw [State.failAttempt_eq hf hc hq, hcounted, hafter]
  refine (hworks.settle (by decide)).trans ?_
  have hinst : g.inst = f.inst := by rw [hg]; rfl
  rw [hinst]
  refine congrArg (fun x : State => x.post (.noBlankMedia q f.inst)) ?_
  simp only [State.modFiling, State.setFiling, hget, Option.map_some]
  rw [hwg, hg]
  simp only [State.filLeft, hdrive]
  rw [hv]
  simp only [State.modSide_eq, State.cmdEnded, Six.set_set, Four.set_set, Filing.failedOn, hfailed, List.contains_nil, Bool.false_eq_true, if_false,
    List.nil_append]

/-- After its second failed side a commit ends WRITE_FAILED (R75). -/
theorem State.failAttempt_ends {x : PlatterSide} (hfailed : c.failed = [x]) (hx : x ≠ u.side) (hqueue : s.commitQueue = [q])
    (hi : s.cat.isFiling f.inst = true) (hgen : (s.links.get c.reply.link).resetCount = c.reply.gen) :
    (s.failAttempt d u).settle = State.post (State.queued { s.slotFreed q f.inst with
      cat := { (s.slotFreed q f.inst).cat with platters := updateKeyed Platter.id u.side.platter (fun p' => p'.modSide u.side.side
        (SideRec.failedAt fill (decide (2 ≤ (p'.sideRec u.side.side).fails + 1)))) s.cat.platters }
      lib := { s.lib with drives := s.lib.drives.set d (s.lib.drives.get d).ended.left }
      driveChans := s.driveChans.set d DriveChan.idle
      filUse := none } c.reply .writeFailed (.writeFailed f.inst [x, u.side])) (.writeFailed f.inst [x, u.side]) := by
  obtain ⟨v, hv⟩ : ∃ v, v = s.attemptCounted d q (f.failedOn c u.side) u.side := ⟨_, rfl⟩
  have hdrive : v.lib.drives.get d = (s.lib.drives.get d).ended := by rw [hv]; exact s.cmdEnded_drive d
  have hfiling : v.filings.get q = some (f.failedOn c u.side) := by rw [hv]; exact Four.get_set_same _ _ _
  have hno : [x].contains u.side = false := by simpa using fun h => hx h.symm
  have hcommit : (f.failedOn c u.side).commit = some { c with attempts := c.attempts + 1, failed := [x, u.side] } := by
    simp only [Filing.failedOn, hfailed, hno, Bool.false_eq_true, if_false, List.cons_append, List.nil_append]
  have htwo : 2 ≤ [x, u.side].length := by simp
  have hleft : v.endFilUse d = (v.filLeft d).later [.pickerNext, .pickerNext] :=
    State.endFilUse_eq (ps := u.side) (by rw [hdrive]; exact hw) (by rw [hdrive]; exact hplatter) (by rw [hv]; exact hd)
  have hi' : ((v.filLeft d).later [.pickerNext, .pickerNext]).cat.isFiling f.inst = true := by rw [hv]; exact hi
  have hfree : ((v.filLeft d).later [.pickerNext, .pickerNext]).discardSlot q f.inst =
      ((v.filLeft d).slotFreed q f.inst).later [.pickerNext, .pickerNext] := State.discardSlot_eq_slotFreed _ q f.inst hi'
  have hgen' : (((v.filLeft d).slotFreed q f.inst).links.get c.reply.link).resetCount = c.reply.gen := by rw [hv]; exact hgen
  obtain ⟨w, hwv⟩ : ∃ w, w = (((v.filLeft d).slotFreed q f.inst).queued c.reply .writeFailed (.writeFailed f.inst [x, u.side])).post
    (.writeFailed f.inst [x, u.side]) := ⟨_, rfl⟩
  have hafter : v.afterFailure d q u.side = w.later [.pickerNext, .pickerNext, .headTurn] := by
    simp only [State.afterFailure, hfiling, hcommit, hab, Bool.false_eq_true, if_false, if_pos htwo, State.writeFailed, hleft]
    rw [hwv, ← State.respond_eq_queued _ _ _ _ hgen', show (f.failedOn c u.side).inst = f.inst from rfl, hfree, State.respond_later, State.post_later,
      State.later_later]
    rfl
  obtain ⟨k, a, hframe⟩ := (((v.filLeft d).slotFreed q f.inst).queued c.reply .writeFailed (.writeFailed f.inst [x, u.side])).post_frame
    (.writeFailed f.inst [x, u.side])
  have hnil : ((v.filLeft d).slotFreed q f.inst).commitQueue = [] := State.slotFreed_only (s := v.filLeft d) (by rw [hv]; exact hqueue) _
  have hends : (w.later [.pickerNext, .pickerNext, .headTurn]).settle = w := by
    refine State.ends_settle ?_ ?_ (.of_nil ?_)
    · rw [hwv, State.post_agenda, hv]; exact hs.2
    · rw [hwv, hframe, hv]; exact hrests
    · rw [hwv, hframe]; exact hnil
  rw [State.failAttempt_eq hf hc hq, ← hv, hafter, hends, hwv]
  refine congrArg (fun t : State => (t.queued c.reply .writeFailed (.writeFailed f.inst [x, u.side])).post (.writeFailed f.inst [x, u.side])) ?_
  simp only [State.filLeft, hdrive]
  rw [hv, State.attemptCounted_eq hp hopen huniq]
  have hsides := State.updateKeyed_only hp
    (g := fun p' => p'.modSide u.side.side (SideRec.failedAt fill (decide (2 ≤ (p'.sideRec u.side.side).fails + 1))))
    (h := fun p' => p'.modSide u.side.side (SideRec.failedAt fill (decide (2 ≤ (p.sideRec u.side.side).fails + 1)))) huniq rfl
  rw [hsides]
  simp only [State.slotFreed, State.modSide_eq, State.cmdEnded, Six.set_set, Four.set_set]


end

end Sys2Proof.Machine
end

section
/-!
PROOFS. The last item of an operation ends with a status other than DONE (R100, R101, R175), and the failure of a fill (R94, R110).
-/
namespace Sys2Proof.Machine
set_option Elab.async false

/-! ## An item leaves -/

/-- An item's waiters leave every demand, and a WAITING demand without waiters is removed (R135). -/
theorem State.leaveDemands_eq (s : State) (r : ItemRef) : s.leaveDemands r = { s with lib := { s.lib with
    demands := (s.lib.demands.map (fun q => { q with waiters := q.waiters.filter (fun w => decide (w.item? ≠ some r)) })).filter
      (fun q => q.mounting.isSome || !q.waiters.isEmpty) } } := by
  have hwaiter : (fun w : Waiter => match w with | .item r' _ _ => decide (r' ≠ r) | .filing _ => true) = fun w => decide (w.item? ≠ some r) := by
    funext w
    cases w <;> simp [Waiter.item?]
  rw [← hwaiter]
  rfl

/-- An item that waits for no side leaves no demand (R135). -/
theorem State.leaveDemands_notWaiting {s : State} {r : ItemRef} (h : s.NotWaiting r) : s.leaveDemands r = s := by
  obtain ⟨hawaited, hno⟩ := h
  have hmap : s.lib.demands.map (fun q => { q with waiters := q.waiters.filter (fun w => decide (w.item? ≠ some r)) }) = s.lib.demands := by
    refine (List.map_congr_left fun q hq => ?_).trans (List.map_id _)
    have hwaiters : q.waiters.filter (fun w => decide (w.item? ≠ some r)) = q.waiters :=
      List.filter_eq_self.2 fun w hw => decide_eq_true (hno q hq w hw)
    rw [hwaiters]
    rfl
  have hprune : s.lib.demands.filter (fun q => q.mounting.isSome || !q.waiters.isEmpty) = s.lib.demands := by
    refine List.filter_eq_self.2 fun q hq => ?_
    cases hm : q.mounting with
    | some d => rfl
    | none => simpa using hawaited q hq hm
  rw [State.leaveDemands_eq, hmap, hprune]

/-- An item with nothing but its outbound channel leaves that alone (R101). -/
theorem State.leaveAll_channel {s : State} {r : ItemRef} (hf : s.spaceFifo = []) (hn : s.NotWaiting r) (hg : ∀ g ∈ s.segments, r ∉ g.users) :
    s.leaveAll r = { s with outChans := if (s.outChans.get r.link).chan.op = .item r then s.outChans.set r.link OutChan.idle else s.outChans } := by
  have hnone : s.spaceFifo.any (fun w => w.item == r) = false := by simp [hf]
  have hseg : s.segments.find? (fun g => g.users.contains r) = none := by simpa using hg
  by_cases hop : (s.outChans.get r.link).chan.op = .item r
  · have hserves : s.serves r = true := by simp [State.serves, hop]
    have hseg' : (s.idleOut r.link).segments.find? (fun g => g.users.contains r) = none := hseg
    simp only [State.leaveAll, hnone, Bool.false_eq_true, if_false, State.leaveDemands_notWaiting hn, hserves, if_true, hseg', if_pos hop]
    rfl
  · have hserves : s.serves r = false := by simpa [State.serves] using hop
    simp only [State.leaveAll, hnone, Bool.false_eq_true, if_false, State.leaveDemands_notWaiting hn, hserves, hseg, if_neg hop]

/-! ## The last item -/

/-- An operation whose item it has come to has ended with a status. -/
def Op.itemEnded (o : Op) (i : Item) (st : Status) : Op := { o with items := o.items.modify (o.current - 1) (fun _ => { i with phase := .ended st }) }

theorem Op.items_itemEnded {o : Op} {i : Item} (h : o.items[o.current - 1]? = some i) (st : Status) :
    (o.itemEnded i st).items[o.current - 1]? = some { i with phase := .ended st } := by
  simp only [Op.itemEnded, List.getElem?_modify, h, if_true]
  rfl

/-- What ends with an item, before its operation does (R101, R175). -/
def State.itemEnded (s : State) (o : Op) (i : Item) (st : Status) : State :=
  { s with
    ops := s.ops.map (fun p => if p.reply.link = o.reply.link then o.itemEnded i st else p)
    cat := match i.quote with
      | some _ => { s.cat with accounts := s.cat.accounts.map (fun a => if a.code = o.account then { a with inFlight := a.inFlight - 1 } else a) }
      | none => s.cat
    outChans := if (s.outChans.get o.reply.link).chan.op = .item o.ref then s.outChans.set o.reply.link OutChan.idle else s.outChans }

section
variable {s : State} {o : Op} {i : Item} {st : Status} (hlast : s.AtLastItem o i)
include hlast

theorem State.item?_ref : s.item? o.ref = some (o, i) := by
  obtain ⟨hmem, hsole, -, -, -, hitem, -⟩ := hlast
  have hop : s.op? o.ref.link o.ref.tag = some o := State.op?_sole hmem hsole
  have hitem' : o.items[o.ref.pos - 1]? = some i := hitem
  simp only [State.item?, hop, hitem', Option.map_some]

/-- The one operation of a link, with its item ended. -/
theorem State.setPhase_last_ops (st : Status) :
    (s.setPhase o.ref (.ended st)).ops = s.ops.map (fun p => if p.reply.link = o.reply.link then o.itemEnded i st else p) := by
  obtain ⟨-, hsole, -, -, -, hitem, -⟩ := hlast
  refine List.map_congr_left fun p hp => ?_
  by_cases hl : p.reply.link = o.reply.link
  · obtain rfl := hsole p hp hl
    have hmodify : p.items.modify (p.current - 1) (fun i => { i with phase := .ended st }) =
        p.items.modify (p.current - 1) (fun _ => { i with phase := .ended st }) := by
      refine List.ext_getElem? fun n => ?_
      rw [List.getElem?_modify, List.getElem?_modify]
      split
      · rename_i hn
        rw [← hn, hitem]
        rfl
      · rfl
    have hkey : p.reply.link = p.ref.link ∧ p.reply.tag = p.ref.tag := ⟨rfl, rfl⟩
    rw [if_pos hkey, if_pos rfl]
    exact congrArg (fun l => { p with items := l }) hmodify
  · have hkey : ¬(p.reply.link = o.ref.link ∧ p.reply.tag = o.ref.tag) := fun h => hl h.1
    rw [if_neg hkey, if_neg hl]

/-- The end of a last item hands over the turn of its channel and of its operation (R101). -/
theorem State.endItem_last (hf : s.spaceFifo = []) (hn : s.NotWaiting o.ref) (hg : ∀ g ∈ s.segments, o.ref ∉ g.users) :
    s.endItem o.ref st = (s.itemEnded o i st).later [.outTake o.reply.link, .nextTurn o.reply.link o.reply.tag] := by
  have hops := State.setPhase_last_ops hlast st
  have hitem := State.item?_ref hlast
  obtain ⟨-, -, -, -, -, -, hended, -⟩ := hlast
  simp only [State.endItem, hitem, hended, Bool.false_eq_true, if_false, State.leaveAll_channel hf hn hg]
  cases hq : i.quote with
  | none =>
    simp only [Option.isSome_none, Bool.false_eq_true, if_false, State.itemEnded, hq, ← hops]
    rfl
  | some v =>
    simp only [Option.isSome_some, if_true, State.itemEnded, hq, ← hops]
    rfl

/-- The ended item's channel takes no other: no item of its link is READY (R95, R114). -/
theorem State.outTake_itemEnded : (s.itemEnded o i st).outTake o.reply.link = s.itemEnded o i st := by
  obtain ⟨-, -, -, -, -, hitem, -⟩ := hlast
  have hready : (s.itemEnded o i st).readyItem o.reply.link = none := by
    have hended : (o.itemEnded i st).items[(o.itemEnded i st).current - 1]? = some { i with phase := .ended st } := Op.items_itemEnded hitem st
    refine Option.map_eq_none_iff.2 (List.find?_eq_none.2 fun p hp => ?_)
    obtain ⟨p', -, rfl⟩ := List.mem_map.1 hp
    by_cases hl : p'.reply.link = o.reply.link
    · rw [if_pos hl, hended]
      simp
    · rw [if_neg hl]
      simp [hl]
  unfold State.outTake
  rw [hready]
  split <;> rfl

/-- The operation of the ended item is over, and its response is formed (R90, R100). -/
theorem State.nextTurn_itemEnded : (s.itemEnded o i st).nextTurn o.reply.link o.reply.tag =
    State.queued { s.itemEnded o i st with ops := s.ops.filter (fun p => decide (p.reply.link ≠ o.reply.link)) } o.reply
      (o.itemEnded i st).finish.1 (o.itemEnded i st).finish.2 := by
  obtain ⟨hmem, hsole, hgen, hpos, hlen, hitem, -⟩ := hlast
  have hop : (s.itemEnded o i st).op? o.reply.link o.reply.tag = some (o.itemEnded i st) := by
    refine State.op?_sole (o := o.itemEnded i st) (List.mem_map.2 ⟨o, hmem, if_pos rfl⟩) fun p hp hl => ?_
    obtain ⟨p', hp', rfl⟩ := List.mem_map.1 hp
    by_cases hl' : p'.reply.link = o.reply.link
    · exact if_pos hl'
    · rw [if_neg hl'] at hl
      exact absurd hl hl'
  have hops : (s.itemEnded o i st).ops.filter (fun p => !(p.reply.link == o.reply.link && p.reply.tag == o.reply.tag)) =
      s.ops.filter (fun p => decide (p.reply.link ≠ o.reply.link)) := by
    have hkept : s.ops.filter ((fun p : Op => !(p.reply.link == o.reply.link && p.reply.tag == o.reply.tag)) ∘
        fun p => if p.reply.link = o.reply.link then o.itemEnded i st else p) = s.ops.filter (fun p => decide (p.reply.link ≠ o.reply.link)) := by
      refine List.filter_congr fun p _ => ?_
      by_cases hl : p.reply.link = o.reply.link
      · simp [hl, Op.itemEnded]
      · simp [hl]
    rw [State.itemEnded, List.filter_map, hkept]
    refine (List.map_congr_left fun p hp => ?_).trans (List.map_id _)
    exact if_neg (by simpa using (List.mem_filter.1 hp).2)
  obtain ⟨n, hcur⟩ : ∃ n, o.current = n + 1 := ⟨o.current - 1, by omega⟩
  have hended : (o.itemEnded i st).items[n]? = some { i with phase := .ended st } := by
    have hn : n = o.current - 1 := by omega
    rw [hn]
    exact Op.items_itemEnded hitem st
  have hrest : (o.itemEnded i st).items.length - o.current = 0 := by simp [Op.itemEnded, hlen]
  have hcurrent : (o.itemEnded i st).current = n + 1 := hcur
  rw [hcur] at hrest
  simp only [State.nextTurn, hop, hcurrent, hended, hrest, List.range'_zero, List.find?_nil, hops]
  refine (if_neg (by simp [Item.hasEnded])).trans ?_
  exact State.respond_eq_queued _ o.reply _ _ hgen

/-- The response of the operation (R100). -/
theorem Op.finish_itemEnded (hst : st ≠ .done) : (o.itemEnded i st).finish =
    (if o.bundle then .partialDone else st,
      if o.bundle then .items ((o.items.modify (o.current - 1) (fun _ => { i with phase := .ended st })).map (fun j => j.entry false))
      else .item { status := st, resolved := i.resolved.map (fun v => v.inst), links := match i.resolved with | some v => v.links | none => 0,
                   first := 0, last := 0, delivered := 0, receipt := none }) := by
  obtain ⟨-, -, -, hpos, hlen, hitem, -, hone⟩ := hlast
  have hended := Op.items_itemEnded hitem st
  cases hb : o.bundle with
  | true =>
    have hall : (o.itemEnded i st).items.all (fun i => i.status == .done) = false := by
      refine List.all_eq_false.2 ⟨_, List.mem_of_getElem? hended, ?_⟩
      simpa [Item.status] using hst
    have hbundle : (o.itemEnded i st).bundle = true := hb
    simp only [Op.finish, hbundle, hall, if_true, Bool.false_eq_true, if_false]
    rfl
  | false =>
    have hcur := hone hb
    obtain ⟨j, hj⟩ := List.length_eq_one_iff.1 (hlen.trans hcur)
    rw [hcur] at hended
    have hitems : (o.itemEnded i st).items = [{ i with phase := .ended st }] := by
      simp only [Op.itemEnded, hcur, hj]
      rfl
    have hbundle : (o.itemEnded i st).bundle = false := hb
    simp only [Op.finish, hbundle, hitems, Bool.false_eq_true, if_false, Item.status, Item.entry, Bool.or_true, if_true, if_neg hst]
    cases i.resolved <;> rfl

/-- A last item that ends takes its operation with it (R100, R101). -/
theorem State.Works.endItem {t : State} {ts : List Task} {n : Nat} (ha : s.agenda = []) (hf : s.spaceFifo = []) (hn : s.NotWaiting o.ref)
    (hg : ∀ g ∈ s.segments, o.ref ∉ g.users) (hst : st ≠ .done) (h : State.Works (s.itemLost o i st) ts t n) :
    State.Works s (.endItem o.ref st :: ts) t (n + 1 + 1 + 1) := by
  have hnext := State.nextTurn_itemEnded (st := st) hlast
  rw [Op.finish_itemEnded hlast hst] at hnext
  refine .piece ha (State.endItem_last (st := st) hlast hf hn hg) (.rests ha (State.outTake_itemEnded hlast) (.brings ha ?_ h))
  exact hnext

end

/-! ## Events meanwhile -/

/-- Posting an event and queueing a response do not meet. -/
theorem State.queued_post (s : State) (e : Event) (y : Reply) (st : Status) (b : Body) : (s.post e).queued y st b = (s.queued y st b).post e := by
  cases hp : s.power with
  | off => simp [State.post, State.queued, State.modLink, hp]
  | starting => simp [State.post, State.queued, State.modLink, hp]
  | running =>
    have hpost : ∀ r x, ({ State.postTo e r with responses := (State.postTo e r).responses ++ x } : LinkRec) =
        State.postTo e { r with responses := r.responses ++ x } := by
      intro r x
      simp only [State.postTo]
      split <;> rfl
    simp only [State.post, State.queued, State.modLink, hp]
    cases y.link <;> simp only [Three.set, Three.get, hpost]

/-- Posting an event and the end of a last item do not meet. -/
theorem State.itemLost_post (s : State) (e : Event) (o : Op) (i : Item) (st : Status) : (s.post e).itemLost o i st = (s.itemLost o i st).post e := by
  unfold State.itemLost
  rw [← State.queued_post]
  cases hp : s.power with
  | off => simp only [State.post, hp]
  | starting => simp only [State.post, hp]
  | running => simp only [State.post, hp]

/-! ## A fill fails -/

/-- A fill has failed: its segment is gone, and the drive's use ended (R94, R125). -/
def State.fillFailed (s : State) (d : DriveNo) (n : InstrNum) : State :=
  { s with
    segments := s.segments.filter (fun h => decide (h.inst ≠ n))
    lib := { s.lib with drives := s.lib.drives.set d { (s.lib.drives.get d).ended with work := [] } }
    driveChans := s.driveChans.set d DriveChan.idle }

theorem State.fillFailed_post (s : State) (e : Event) (d : DriveNo) (n : InstrNum) : (s.post e).fillFailed d n = (s.fillFailed d n).post e := by
  unfold State.fillFailed
  cases hp : s.power with
  | off => simp only [State.post, hp]
  | starting => simp only [State.post, hp]
  | running => simp only [State.post, hp]

theorem State.role_fill {s : State} {d : DriveNo} {n : InstrNum} {rest : List Use} (hw : (s.lib.drives.get d).work = .fill n :: rest) :
    s.role d = .fill n := by
  simp only [State.role, State.drive, hw]

section
variable {s : State} {d : DriveNo} {g : Segment} (hmem : g ∈ s.segments) (honly : ∀ h ∈ s.segments, h.inst = g.inst → h = g)
  (hw : (s.lib.drives.get d).work = [.fill g.inst])
include hmem honly hw

/-- The failure of a fill hands over the end of each user of its segment (R94, R110). -/
theorem State.failFill_eq : s.failFill d g.inst =
    (s.fillFailed d g.inst).later (g.users.map (fun u => .endItem u .mediaFault) ++ [.spaceTry, .pickerNext]) := by
  have hseg : (s.cmdEnded d).segment? g.inst = some g := by
    cases hfind : s.segments.find? (fun h => h.inst == g.inst) with
    | none => simpa using List.find?_eq_none.1 hfind g hmem
    | some h =>
      have hh := honly h (List.mem_of_find?_eq_some hfind) (by simpa using List.find?_some hfind)
      exact hfind.trans (congrArg some hh)
  have herase : [Use.fill g.inst].erase (.fill g.inst) = [] := by simp
  have hwork : (s.lib.drives.get d).ended.work = [.fill g.inst] := hw
  simp only [State.failFill, State.endCmd_idleChan, hseg]
  simp only [State.failUsers, State.dropSegment, State.removeUse, State.modDrive, State.drive, State.later,
    State.cmdEnded, Six.get_set_same, Six.set_set, hwork, herase, List.isEmpty_nil, if_true, List.append_assoc]
  rfl

variable {o : Op} {i : Item} (hs : s.agenda = []) (hf : s.spaceFifo = []) (hrests : s.PickerRests) (hlast : s.AtLastItem o i) (hn : s.NotWaiting o.ref)
include hs hf hrests hlast hn

/-- Its one user ends MEDIA_FAULT. -/
theorem State.failFill_one (husers : g.users = [o.ref]) (huses : ∀ h ∈ s.segments, o.ref ∈ h.users → h = g) :
    (s.failFill d g.inst).settle = (s.fillFailed d g.inst).itemLost o i .mediaFault := by
  rw [State.failFill_eq hmem honly hw, husers]
  have hgone : ∀ h ∈ (s.fillFailed d g.inst).segments, o.ref ∉ h.users := by
    intro h hh huse
    obtain ⟨hmem', hne⟩ := List.mem_filter.1 hh
    rw [huses h hmem' huse] at hne
    simp at hne
  have hrest : State.Works ((s.fillFailed d g.inst).itemLost o i .mediaFault) [.spaceTry, .pickerNext] _ 2 :=
    .rests hs (State.spaceTry_nil _ hf) (.rests hs (State.pickerNext_rests hrests) (.nothing hs))
  exact (State.Works.endItem (s := s.fillFailed d g.inst) hlast hs hf hn hgone (by decide) hrest).settle (by decide)

/-- Its two users, on two links, end MEDIA_FAULT. -/
theorem State.failFill_two {o' : Op} {i' : Item} (husers : g.users = [o.ref, o'.ref]) (hlinks : o.reply.link ≠ o'.reply.link)
    (hlast' : s.AtLastItem o' i') (hn' : s.NotWaiting o'.ref) (huses : ∀ h ∈ s.segments, (o.ref ∈ h.users ∨ o'.ref ∈ h.users) → h = g) :
    (s.failFill d g.inst).settle = ((s.fillFailed d g.inst).itemLost o i .mediaFault).itemLost o' i' .mediaFault := by
  rw [State.failFill_eq hmem honly hw, husers]
  have hgone : ∀ h ∈ (s.fillFailed d g.inst).segments, ¬(o.ref ∈ h.users ∨ o'.ref ∈ h.users) := by
    intro h hh huse
    obtain ⟨hmem', hne⟩ := List.mem_filter.1 hh
    rw [huses h hmem' huse] at hne
    simp at hne
  have hafter : ((s.fillFailed d g.inst).itemLost o i .mediaFault).AtLastItem o' i' := by
    obtain ⟨hmem', hsole, hgen, hrest⟩ := hlast'
    refine ⟨List.mem_filter.2 ⟨hmem', decide_eq_true hlinks.symm⟩, fun p hp => hsole p (List.mem_filter.1 hp).1, ?_, hrest⟩
    refine Eq.trans ?_ hgen
    exact congrArg LinkRec.resetCount (Three.get_set_ne _ _ _ _ hlinks.symm)
  have hrest : State.Works (((s.fillFailed d g.inst).itemLost o i .mediaFault).itemLost o' i' .mediaFault) [.spaceTry, .pickerNext] _ 2 :=
    .rests hs (State.spaceTry_nil _ hf) (.rests hs (State.pickerNext_rests hrests) (.nothing hs))
  have hsecond := State.Works.endItem (s := (s.fillFailed d g.inst).itemLost o i .mediaFault) hafter hs hf hn' (fun h hh => fun hu => hgone h hh (.inr hu))
    (by decide : Status.mediaFault ≠ .done) hrest
  exact (State.Works.endItem (s := s.fillFailed d g.inst) hlast hs hf hn (fun h hh => fun hu => hgone h hh (.inl hu)) (by decide) hsecond).settle (by decide)

end

/-! ## The statement -/

section
variable {s : State} (hs : s.Quiet) {d : DriveNo} {g : Segment} {o : Op} {i : Item} (hmem : g ∈ s.segments)
  (honly : ∀ h ∈ s.segments, h.inst = g.inst → h = g) (hw : (s.lib.drives.get d).work = [.fill g.inst]) (hf : s.spaceFifo = [])
  (hrests : s.PickerRests) (hlast : s.AtLastItem o i) (hn : s.NotWaiting o.ref) (husers : g.users = [o.ref])
  (huses : ∀ h ∈ s.segments, o.ref ∈ h.users → h = g)
include hs hmem honly hw hf hrests hlast hn husers huses

/-- A parity fault on the channel of a fill (R94, R117). -/
theorem State.fillParity_settle : (s.fillParity d g.inst).settle =
    ((s.fillFailed d g.inst).itemLost o i .mediaFault).post (.bufferParity (.drive d) (s.driveChans.get d).chan.next) := by
  obtain ⟨e, he⟩ : ∃ e, e = Event.bufferParity (.drive d) (s.driveChans.get d).chan.next := ⟨_, rfl⟩
  have hlast' : (s.post e).AtLastItem o i := by
    obtain ⟨hop, hsole, hgen, hrest⟩ := hlast
    obtain ⟨k, v, hframe⟩ := s.post_frame e
    have hops : (s.post e).ops = s.ops := by rw [hframe]
    exact ⟨hops ▸ hop, hops ▸ hsole, (s.post_resetCount e _).trans hgen, hrest⟩
  have hfails : ((s.post e).failFill d g.inst).settle = ((s.post e).fillFailed d g.inst).itemLost o i .mediaFault := by
    have hagenda := (s.post_agenda e).trans hs.2
    obtain ⟨k, v, hframe⟩ := s.post_frame e
    rw [hframe] at hlast' hagenda ⊢
    exact State.failFill_one (s := { s with links := k, startEvents := v }) hmem honly hw hagenda hf hrests hlast' hn husers huses
  rw [State.fillParity, ← he, hfails, State.fillFailed_post, State.itemLost_post]

theorem fill_parityFault (hport : DriveNo.all.find? s.driveWants = some d) (hl : ∀ k, (s.links.get k).lane = []) :
    exec (.bufferPortMove true) s =
      .next (((s.fillFailed d g.inst).itemLost o i .mediaFault).post (.bufferParity (.drive d) (s.driveChans.get d).chan.next)) := by
  refine exec_portMove_settles ?_ fun k => ((State.post_lane _ _ k).trans (State.queued_lane _ _ _ _ k)).trans (hl k)
  rw [State.portMove_drive hport]
  have hserve : s.serveDrive d true = s.fillParity d g.inst := by simp only [State.serveDrive, State.role_fill hw, if_true]
  rw [hserve, State.fillParity_settle hs hmem honly hw hf hrests hlast hn husers huses]

end

/-- An unreadable block of a fill (R94). -/
theorem State.unreadable_fill {s : State} {d : DriveNo} {n : InstrNum} {rest : List Use} {a m : Nat} (hw : (s.lib.drives.get d).work = .fill n :: rest)
    (hc : (s.lib.drives.get d).cmd = some (.read a m)) : s.unreadable d = s.failFill d n := by
  simp only [State.unreadable, State.drive, State.role_fill hw, hc]

/-- Settles O52: by the failure the attempt is, and by the users of the fill. -/
theorem mediumFaultsHandled : Obligations.MediumFaultsHandled := by
  refine ⟨?_, ?_⟩
  · intro s d hs k cmd hc hkind u hu q hq f hf c hcommit p hp fill hopen hg hab failed counted
    have hid := (State.platter?_some hp).2
    obtain ⟨a, n, hkind⟩ := hkind
    have hcmd : (s.lib.drives.get d).cmd = some (.erase a n) ∨ (s.lib.drives.get d).cmd = some (.write a n) := by
      rcases hkind with rfl | rfl
      · exact .inl hc
      · exact .inr hc
    have hfails : ∀ {rest}, k.work = .filing :: rest → exec (.driveMediumError d) s = .next (s.failAttempt d u).settle := by
      intro rest hw
      rw [exec_driveMediumError hs d, State.mediumError_pass (State.role_fil hw hu) hcmd hg]
    simp only [hid]
    refine ⟨fun rest hw hfailed hzero ho hloc hfault hroom => ?_, fun hfailed hone hw hrests hplatter hd hothers hqueue huniq => ?_,
      fun x _ hfailed hx hw hrests hplatter hd hqueue hi hgen huniq => ?_⟩
    · exact (hfails hw).trans (State.next_settled
        (State.failAttempt_retries hu hq hf hcommit hp hopen hab hfailed hzero ho hloc hfault hroom) hs.2)
    · rw [hfails hw, State.failAttempt_closes hs hq hf hcommit hp hopen hab (fun r hr h => huniq r hr (h.trans hid)) hw hplatter hd hrests hfailed hone hothers hqueue]
      rfl
    · rw [hfails hw, State.failAttempt_ends hs hq hf hcommit hp hopen hab (fun r hr h => huniq r hr (h.trans hid)) hw hplatter hd hrests hfailed hx hqueue hi hgen]
      rfl
  · intro s d hs k a n hc g hmem o ho i hitem hbusy hw honly hlast hn hf hrests ended
    have hended : s.fillFailed d g.inst = ended := by
      have hdrive : ({ k.ended with work := [] } : Drive) = { k with state := .ready, cmd := none, reported := 0, retry := false, work := [] } := by
        simp only [Drive.ended, hbusy, if_true]
      simp only [State.fillFailed, ended, ← hdrive, k]
    rw [← hended]
    have hunreadable : exec (.driveUnreadable d) s = .next (s.failFill d g.inst).settle := by
      rw [exec_driveUnreadable hs d, State.unreadable_fill hw hc]
    refine ⟨fun husers huses => ⟨?_, ?_⟩, fun o' ho' i' hitem' husers hlinks hlast' hn' huses => ?_⟩
    · rw [hunreadable, State.failFill_one hmem honly hw hs.2 hf hrests hlast hn husers huses]
    · exact fill_parityFault hs hmem honly hw hf hrests hlast hn husers huses
    · rw [hunreadable, State.failFill_two hmem honly hw hs.2 hf hrests hlast hn husers hlinks hlast' hn' huses]

end Sys2Proof.Machine
end

section
/-!
PROOFS. Locator decode (R88), the chain of successors (R11, R12), the clamped selection (R85), and the admission checks of an item in their
order (R83, R84, R86).
-/
namespace Sys2Proof.Machine
set_option Elab.async false

/-! ## The resolved instrument -/

/-- Along a chain of successors that ends, the links are followed to its end, or not at all where they are more than the fuel (R11). -/
theorem CatMem.follow_chain (c : CatMem) (n : InstrNum) (rest : List InstrNum)
    (hlinks : (n :: rest).IsChain (fun a b => (c.entry? a).bind (·.successor) = some b))
    (hend : (c.entry? ((n :: rest).getLast (List.cons_ne_nil n rest))).bind (·.successor) = none) (fuel count : Nat) :
    c.follow fuel n count =
      if rest.length ≤ fuel then some ((n :: rest).getLast (List.cons_ne_nil n rest), count + rest.length) else none := by
  induction rest generalizing n fuel count with
  | nil =>
    have hlast : (c.entry? n).bind (·.successor) = none := hend
    unfold CatMem.follow
    simp [hlast]
  | cons m rest ih =>
    obtain ⟨hnext, hrest⟩ := List.isChain_cons_cons.1 hlinks
    unfold CatMem.follow
    rw [hnext]
    cases fuel with
    | zero => simp
    | succ fuel =>
      refine (ih m hrest (by simpa using hend) fuel (count + 1)).trans ?_
      simp [Nat.add_assoc, Nat.add_comm 1]

theorem State.resolve_asLodged (s : State) {i : Item} (h : i.current = false) : s.resolve i = some (i.named, 0) := by
  simp [State.resolve, h]

theorem State.resolve_current (s : State) {i : Item} (h : i.current = true) {chain : List InstrNum} (hne : chain ≠ []) (hhead : chain.head? = some i.named)
    (hlinks : ∀ k a b, chain[k]? = some a → chain[k + 1]? = some b → ∃ e, s.cat.entry? a = some e ∧ e.successor = some b)
    (hend : ∀ a, chain.getLast? = some a → ∀ e, s.cat.entry? a = some e → e.successor = none) :
    s.resolve i = if chain.length ≤ 9 then chain.getLast?.map (fun a => (a, chain.length - 1)) else none := by
  obtain ⟨n, rest, rfl⟩ := List.exists_cons_of_ne_nil hne
  obtain rfl : n = i.named := Option.some.inj hhead
  have hchain : (i.named :: rest).IsChain (fun a b => (s.cat.entry? a).bind (·.successor) = some b) :=
    List.isChain_iff_getElem.2 fun k hk => Option.bind_eq_some_iff.2
      (hlinks k _ _ (List.getElem?_eq_getElem (Nat.lt_of_succ_lt hk)) (List.getElem?_eq_getElem hk))
  have hlast := List.getLast?_eq_some_getLast (List.cons_ne_nil i.named rest)
  have hstop : (s.cat.entry? ((i.named :: rest).getLast (List.cons_ne_nil i.named rest))).bind (·.successor) = none :=
    Option.bind_eq_none_iff.2 (hend _ hlast)
  have hfollow := s.cat.follow_chain i.named rest hchain hstop Config.maxChain 0
  simp only [State.resolve, h, if_true, hfollow, hlast, List.length_cons, Option.map_some, Nat.zero_add, Nat.add_sub_cancel]
  exact if_congr (show rest.length ≤ 8 ↔ rest.length + 1 ≤ 9 by omega) rfl rfl

/-! ## The clamped selection -/

theorem clampSel_range (f l total : Nat) (cert : Bool) :
    clampSel (.range f l) total cert = if min l total < max f 1 ∨ cert = true then none else some (max f 1, min l total) := by
  have hfirst : (if f = 0 then 1 else f) = max f 1 := by
    split <;> omega
  have hlast : (if total < l then total else l) = min l total := by
    split <;> omega
  simp only [clampSel, hfirst, hlast, Bool.or_eq_true, decide_eq_true_eq]

/-! ## Locator decode -/

/-- A drive is LOADING, READY or BUSY with a platter-side facing the head (R88, R124). -/
def State.Faces (s : State) (d : DriveNo) (ps : PlatterSide) : Prop :=
  ((s.lib.drives.get d).state = .loading ∨ (s.lib.drives.get d).state = .ready ∨ (s.lib.drives.get d).state = .busy) ∧
    (s.lib.drives.get d).platter = some ⟨some ps.platter, ps.side⟩

/-- What decode gives for a platter only the picker can bring (R88, Table 4-4 cases 5 and 6). -/
def State.viaPicker (s : State) : Decode := if s.lib.picker.state = .jammed then .fail .pickerJammed else .mount

theorem DriveNo.mem_all (d : DriveNo) : d ∈ DriveNo.all := by cases d <;> decide

section
variable {s : State} {ps : PlatterSide}

/-- The drive a side is found mounted in has it facing the head. -/
theorem State.faces_of_mountedIn {d : DriveNo} (h : s.mountedIn ps = some d) : s.Faces d ps := by
  have hfound := List.find?_some h
  simpa [State.Faces, State.drive, or_assoc] using hfound

theorem State.mountedIn_eq_none (h : ∀ d, ¬s.Faces d ps) : s.mountedIn ps = none :=
  Option.eq_none_iff_forall_ne_some.2 fun d hd => h d (State.faces_of_mountedIn hd)

theorem State.mountedIn_eq_some {d : DriveNo} (h : s.Faces d ps) (honly : ∀ e, s.Faces e ps → e = d) : s.mountedIn ps = some d := by
  cases hm : s.mountedIn ps with
  | some e => rw [honly e (State.faces_of_mountedIn hm)]
  | none =>
    have hno := List.find?_eq_none.1 hm d (DriveNo.mem_all d)
    refine absurd ?_ hno
    simpa [State.Faces, State.drive, or_assoc] using h

end

section
variable {s : State} {v : Resolved}

theorem State.decode_staged (h : ∃ g ∈ s.segments, g.inst = v.inst) : s.decode v = .staged := by
  have hseg : (s.segment? v.inst).isSome = true := by
    simpa [State.segment?, List.find?_isSome] using h
  simp only [State.decode, hseg, if_true]

section
variable (h : ∀ g ∈ s.segments, g.inst ≠ v.inst)
include h

/-- With no segment of its instrument, an extent is sought by the location of its platter. -/
theorem State.decode_unstaged : s.decode v = match (s.platter? (s.sideOf v).platter).map (fun p => p.loc) with
    | none => .fail .notHeld
    | some (.drive d) =>
      if (s.lib.drives.get d).state = .fault then .fail .mediaFault
      else match s.mountedIn (s.sideOf v) with
        | some m => .drive m
        | none => s.viaPicker
    | some (.slot _) | some .picker => s.viaPicker
    | some .mail | some .exported | some .unknown => .fail .offline := by
  have hseg : (s.segment? v.inst).isSome = false := by
    simpa [State.segment?] using h
  simp only [State.decode, hseg, Bool.false_eq_true, if_false]
  rfl

theorem State.decode_notHeld (hp : s.platter? (s.sideOf v).platter = none) : s.decode v = .fail .notHeld := by
  simp only [State.decode_unstaged h, hp, Option.map_none]

section
variable {p : Platter} (hp : s.platter? (s.sideOf v).platter = some p)
include hp

theorem State.decode_fault {d : DriveNo} (hloc : p.loc = .drive d) (hfault : (s.lib.drives.get d).state = .fault) : s.decode v = .fail .mediaFault := by
  simp only [State.decode_unstaged h, hp, Option.map_some, hloc, hfault, if_true]

theorem State.decode_mounted {d m : DriveNo} (hloc : p.loc = .drive d) (hfault : (s.lib.drives.get d).state ≠ .fault)
    (hm : s.mountedIn (s.sideOf v) = some m) : s.decode v = .drive m := by
  simp only [State.decode_unstaged h, hp, Option.map_some, hloc, hfault, if_false, hm]

theorem State.decode_otherSide {d : DriveNo} (hloc : p.loc = .drive d) (hfault : (s.lib.drives.get d).state ≠ .fault)
    (hm : s.mountedIn (s.sideOf v) = none) : s.decode v = s.viaPicker := by
  simp only [State.decode_unstaged h, hp, Option.map_some, hloc, hfault, if_false, hm]

theorem State.decode_atHand (hloc : p.loc = .picker ∨ ∃ n, p.loc = .slot n) : s.decode v = s.viaPicker := by
  obtain hloc | ⟨n, hloc⟩ := hloc <;> simp only [State.decode_unstaged h, hp, Option.map_some, hloc]

theorem State.decode_offline (hloc : p.loc = .mail ∨ p.loc = .exported ∨ p.loc = .unknown) : s.decode v = .fail .offline := by
  obtain hloc | hloc | hloc := hloc <;> simp only [State.decode_unstaged h, hp, Option.map_some, hloc]

end
end
end

/-! ## The checks of the named and of the resolved instrument -/

section
variable {s : State} {n : InstrNum}

theorem State.namedFault_absent (h : s.cat.entry? n = none) : s.namedFault n = some .noSuch := by
  simp only [State.namedFault, h]

variable {e : Entry} (he : s.cat.entry? n = some e)
include he

theorem State.namedFault_withdrawn (h : e.state = .withdrawn) : s.namedFault n = some .withdrawn := by
  simp only [State.namedFault, he, h]

theorem State.namedFault_unrecorded (hw : e.state ≠ .withdrawn) (h : e.loc? = none) : s.namedFault n = some .notRecorded := by
  unfold Entry.loc? at h
  simp only [State.namedFault, he]
  cases hs : e.state with
  | withdrawn => exact absurd hs hw
  | recorded loc pages => simp [hs] at h
  | lodged => rfl
  | filing q => rfl

theorem State.namedFault_recorded (h : e.loc? ≠ none) : s.namedFault n = none := by
  unfold Entry.loc? at h
  simp only [State.namedFault, he]
  cases hs : e.state with
  | recorded loc pages => rfl
  | withdrawn => simp [hs] at h
  | lodged => simp [hs] at h
  | filing q => simp [hs] at h

end

/-- Check 1 passes where the purpose needs no right or the rights hold it (R83). -/
theorem not_lacksRight {rights : BitVec 8} {pu : Purpose} (h : pu.mask = 0#8 ∨ rights &&& pu.mask ≠ 0#8) :
    ¬(pu.mask ≠ 0#8 ∧ (!holds rights pu.mask) = true) := by
  simpa [holds, or_iff_not_imp_left] using h

section
variable {s : State} {l : Link} {pu : Purpose} {account : Nat} {decoded : Bool} {i : Item}

theorem State.checkItem_noRight (hmask : pu.mask ≠ 0#8) (h : s.rights.get l &&& pu.mask = 0#8) :
    s.checkItem l pu account decoded i = { i with phase := .ended .noRight } := by
  simp [State.checkItem, holds, hmask, h]

section
variable (hright : pu.mask = 0#8 ∨ s.rights.get l &&& pu.mask ≠ 0#8)
include hright

theorem State.checkItem_named {st : Status} (hnamed : s.namedFault i.named = some st) :
    s.checkItem l pu account decoded i = { i with phase := .ended st } := by
  simp only [State.checkItem, if_neg (not_lacksRight hright), hnamed]

variable (hnamed : s.namedFault i.named = none)
include hnamed

theorem State.checkItem_chainTooDeep (hres : s.resolve i = none) :
    s.checkItem l pu account decoded i = { i with phase := .ended .chainTooDeep } := by
  simp only [State.checkItem, if_neg (not_lacksRight hright), hnamed, hres]

/-- An item whose chain ends at a recorded instrument comes to check 4, and then to checks 5 to 7 (R84). -/
theorem State.checkItem_resolved {n : InstrNum} {links : Nat} {e : Entry} {loc : Location} {pages : Pages} (hres : s.resolve i = some (n, links))
    (he : s.cat.entry? n = some e) (hstate : e.state = .recorded loc pages) :
    s.checkItem l pu account decoded i =
      if e.restricted = true ∧ s.rights.get l &&& 0x08#8 = 0#8 then
        { i with resolved := some { inst := n, links := links, loc := loc, pages := pages }, phase := .ended .restricted }
      else s.checkSelection pu account decoded i { inst := n, links := links, loc := loc, pages := pages } := by
  have hplace : (s.cat.entry? n).bind (fun e => e.place?.map (fun p => (e, p))) = some (e, loc, pages) := by
    simp [he, Entry.place?, hstate]
  have hheld : ((!holds (s.rights.get l) rRestricted) = true) = (s.rights.get l &&& 0x08#8 = 0#8) := by
    simp [holds, rRestricted]
  simp only [State.checkItem, if_neg (not_lacksRight hright), hnamed, hres, hplace, hheld]

end
end

/-! ## The checks of the selection, the account and the decode -/

section
variable {s : State} {pu : Purpose} {account : Nat} {i : Item} {v : Resolved}

theorem State.checkSelection_badRange (decoded : Bool) (h : clampSel i.sel (v.pages.small + v.pages.plan) (pu == .certified) = none) :
    s.checkSelection pu account decoded i v = { i with resolved := some v, phase := .ended .badRange } := by
  simp only [State.checkSelection, h]

variable {range : Nat × Nat} (hrange : clampSel i.sel (v.pages.small + v.pages.plan) (pu == .certified) = some range)
include hrange

theorem State.checkSelection_noAccount (decoded : Bool) (hpu : pu ≠ .view) (ha : s.cat.account? account = none) :
    s.checkSelection pu account decoded i v = { i with resolved := some v, range := some range, phase := .ended .noAccount } := by
  simp [State.checkSelection, hrange, hpu, ha]

theorem State.checkSelection_suspended (decoded : Bool) (hpu : pu ≠ .view) {a : Account} (ha : s.cat.account? account = some a)
    (hs : a.suspended = true) :
    s.checkSelection pu account decoded i v = { i with resolved := some v, range := some range, phase := .ended .accountSuspended } := by
  simp [State.checkSelection, hrange, hpu, ha, hs]

section
variable (hopen : pu = .view ∨ ∃ a, s.cat.account? account = some a ∧ a.suspended = false)
include hopen

omit hrange in
/-- An item that needs no account, or whose account is OPEN, fails neither part of check 6 (R86). -/
theorem State.account_passes :
    ¬(pu ≠ .view ∧ (s.cat.account? account).isNone = true) ∧ ¬(pu ≠ .view ∧ (s.cat.account? account).any (·.suspended) = true) := by
  obtain hview | ⟨a, ha, hs⟩ := hopen
  · simp [hview]
  · simp [ha, hs]

theorem State.checkSelection_unreachable {st : Status} (hd : s.decode v = .fail st) :
    s.checkSelection pu account true i v =
      { i with resolved := some v, range := some range, decode := some (.fail st), phase := .ended st } := by
  obtain ⟨hheld, hfree⟩ := State.account_passes hopen
  simp only [State.checkSelection, hrange, if_neg hheld, if_neg hfree, Bool.not_true, Bool.false_eq_true, if_false, hd]

theorem State.checkSelection_admits (hd : ∀ st, s.decode v ≠ .fail st) :
    s.checkSelection pu account true i v = { i with resolved := some v, range := some range, decode := some (s.decode v) } := by
  obtain ⟨hheld, hfree⟩ := State.account_passes hopen
  simp only [State.checkSelection, hrange, if_neg hheld, if_neg hfree, Bool.not_true, Bool.false_eq_true, if_false]

end
end

/-! ## The statement -/

/-- Settles O37: the checks of Table 4-3 one after another, the chain of successors by induction along it, the clamp, and the cases of Table 4-4. -/
theorem admissionChecksAndResolution : Obligations.AdmissionChecksAndResolution := by
  unfold Obligations.AdmissionChecksAndResolution
  refine ⟨fun s l pu account i _ => ?checks, fun s i => ⟨s.resolve_asLodged, fun hcur chain hne hhead hlinks hend => ?chain⟩,
    fun total cert => ⟨rfl, fun f l => clampSel_range f l total cert⟩, fun s v => ?decode⟩
  case checks =>
    intro out needs
    have hneeds : needs = pu.mask := by
      cases pu <;> rfl
    rw [hneeds]
    refine ⟨fun hmask hno => by simp only [out, State.checkItem_noRight hmask hno], fun hright => ⟨fun habsent => ?_,
      fun e he => ⟨fun hw => ?_, fun hw hloc => ?_, fun hloc => ⟨fun hres => ?_, fun n links e' loc pages hres he' hstate => ?_⟩⟩⟩⟩
    · simp only [out, State.checkItem_named hright (State.namedFault_absent habsent)]
    · simp only [out, State.checkItem_named hright (State.namedFault_withdrawn he hw)]
    · simp only [out, State.checkItem_named hright (State.namedFault_unrecorded he hw hloc)]
    · simp only [out, State.checkItem_chainTooDeep hright (State.namedFault_recorded he hloc) hres]
    · intro v
      have hout := State.checkItem_resolved (account := account) (decoded := true) hright (State.namedFault_recorded he hloc) hres he' hstate
      refine ⟨fun hr hno => by simp only [out, hout, if_pos (And.intro hr hno)], fun hseen => ?_⟩
      rw [if_neg (fun hno => hseen.elim (by simp [hno.1]) (fun h => h hno.2))] at hout
      have hout : out = s.checkSelection pu account true i v := hout
      rw [hout]
      refine ⟨fun hbad => by rw [State.checkSelection_badRange true hbad], fun range hrange => ⟨fun hpu ha => ?_, fun a hpu ha hs => ?_, fun hopen =>
        ⟨fun st hd => ?_, State.checkSelection_admits hrange hopen⟩⟩⟩
      · rw [State.checkSelection_noAccount hrange true hpu ha]
      · rw [State.checkSelection_suspended hrange true hpu ha hs]
      · rw [State.checkSelection_unreachable hrange hopen hd]
  case chain =>
    have hres := s.resolve_current hcur hne hhead hlinks hend
    exact ⟨fun hlen => by rw [hres, if_pos hlen], fun hlen => by rw [hres, if_neg (Nat.not_le_of_lt hlen)]⟩
  case decode =>
    intro id side mounted picker
    refine ⟨State.decode_staged, fun hseg => ⟨State.decode_notHeld hseg, fun p hp =>
      ⟨fun d hloc => ⟨State.decode_fault hseg hp hloc, fun hfault => ⟨fun hm honly => ?_, fun hno => ?_⟩⟩,
      State.decode_atHand hseg hp, State.decode_offline hseg hp⟩⟩⟩
    · exact State.decode_mounted hseg hp hloc hfault (State.mountedIn_eq_some hm honly)
    · exact State.decode_otherSide hseg hp hloc hfault (State.mountedIn_eq_none hno)

end Sys2Proof.Machine
end

section
/-!
PROOFS. What an admission change makes of an item (R83, R86): its quote, and the statuses it can end with; and QUOTE (R82).
-/
namespace Sys2Proof.Machine
set_option Elab.async false

/-! ## The quote of an item -/

section
variable {s : State} {pu : Purpose} {i : Item}

theorem State.quoteFor_view (account : Nat) : s.quoteFor .view account i = none := (rfl)

theorem State.quoteFor_unresolved (account : Nat) (h : i.resolved = none ∨ i.range = none) : s.quoteFor pu account i = none := by
  unfold State.quoteFor
  split
  · rfl
  · rename_i hv hrange
    simp [hv, hrange] at h
  · rfl

/-- The quote of a copy is computed for the pages selected, by the account's exemption and the time of day (R86, R164). -/
theorem State.quoteFor_copy (account : Nat) (hpu : pu ≠ .view) {v : Resolved} {f k : Nat} (hv : i.resolved = some v) (hrange : i.range = some (f, k)) :
    s.quoteFor pu account i = some (computeQuote s.cat.active v.pages f k (decide (pu = .certified))
      (match s.cat.account? account with | some a => a.exempt | none => false) (s.clock.now.sec % 86400)) := by
  have hexempt : (s.cat.account? account).any (·.exempt) = match s.cat.account? account with | some a => a.exempt | none => false := by
    cases s.cat.account? account <;> rfl
  rw [← hexempt]
  cases pu with
  | view => exact absurd rfl hpu
  | copy =>
    simp only [State.quoteFor, hv, hrange]
    rfl
  | certified =>
    simp only [State.quoteFor, hv, hrange]
    rfl

end

/-! ## The item admitted -/

theorem Item.hasEnded_of_phase {i : Item} {st : Status} (h : i.phase = .ended st) : i.hasEnded = true := by
  simp only [Item.hasEnded, h]

theorem Item.hasEnded_of_pending {i : Item} (h : i.phase = .pending) : i.hasEnded = false := by
  simp only [Item.hasEnded, h]

theorem Item.status_of_phase {i : Item} {st : Status} (h : i.phase = .ended st) : i.status = st := by
  simp only [Item.status, h]

theorem parseItem_pending {p : ItemParams} {i : Item} (h : parseItem p = some i) : i.phase = .pending := by
  unfold parseItem at h
  split at h
  · split at h
    · cases h
    · cases h
      rfl
  · cases h

section
variable (s : State) (l : Link) (pu : Purpose) (account : Nat) (i : Item)

theorem State.admitItem_eq : s.admitItem l pu account i = s.admitted l pu account i := by
  by_cases hended : (s.checkItem l pu account true i).hasEnded = true
  · simp only [State.admitItem, State.admitted, hended, if_true]
  · simp only [State.admitItem, State.admitted, if_neg hended]
    refine congrArg (fun q => { s.checkItem l pu account true i with quote := q }) ?_
    generalize s.checkItem l pu account true i = c
    by_cases hpu : pu = .view
    · subst hpu
      rfl
    · rw [if_neg hpu]
      cases hv : c.resolved with
      | none => exact State.quoteFor_unresolved account (.inl hv)
      | some v =>
        cases hrange : c.range with
        | none => exact State.quoteFor_unresolved account (.inr hrange)
        | some r => exact State.quoteFor_copy account hpu hv hrange

theorem State.admitted_phase : (s.admitted l pu account i).phase = (s.checkItem l pu account true i).phase := by
  by_cases hended : (s.checkItem l pu account true i).hasEnded = true
  · simp only [State.admitted, hended, if_true]
  · simp only [State.admitted, if_neg hended]

end

/-! ## The statuses of the checks -/

section
variable (s : State)

theorem State.decode_ne_done (v : Resolved) : s.decode v ≠ .fail .done := by
  have hpicker : s.viaPicker ≠ .fail .done := by
    unfold State.viaPicker
    split <;> simp
  by_cases hseg : ∃ g ∈ s.segments, g.inst = v.inst
  · simp [State.decode_staged hseg]
  · rw [State.decode_unstaged (by simpa using hseg)]
    (repeat' split) <;> simp [hpicker]

theorem State.namedFault_ne_done (n : InstrNum) : s.namedFault n ≠ some .done := by
  unfold State.namedFault
  (repeat' split) <;> simp

theorem State.checkSelection_ne_done {i : Item} (h : i.hasEnded = false) (pu : Purpose) (account : Nat) (decoded : Bool) (v : Resolved) :
    (s.checkSelection pu account decoded i v).phase ≠ .ended .done := by
  have hi : i.phase ≠ .ended .done := fun hd => by simp [Item.hasEnded_of_phase hd] at h
  cases hrange : clampSel i.sel (v.pages.small + v.pages.plan) (pu == .certified) with
  | none => simp [State.checkSelection_badRange decoded hrange]
  | some range =>
    simp only [State.checkSelection, hrange]
    split_ifs
    · simp
    · simp
    · exact hi
    · cases hd : s.decode v with
      | fail st => simpa using fun hst : st = .done => s.decode_ne_done v (hst ▸ hd)
      | staged => exact hi
      | drive d => exact hi
      | mount => exact hi

/-- No check ends an item DONE: each has a status of its own (R83, Table 4-3). -/
theorem State.checkItem_ne_done {i : Item} (h : i.hasEnded = false) (l : Link) (pu : Purpose) (account : Nat) (decoded : Bool) :
    (s.checkItem l pu account decoded i).phase ≠ .ended .done := by
  unfold State.checkItem
  dsimp only
  split
  · simp
  · split
    · rename_i st hnamed
      simpa using fun hst : st = .done => s.namedFault_ne_done _ (hst ▸ hnamed)
    · split
      · simp
      · split
        · simp
        · split
          · simp
          · exact s.checkSelection_ne_done h pu account decoded _

end

/-! ## QUOTE -/

section
variable {l : Link} {t : Nat} {p : FetchParams} {s : State} (h : s.Takes l t (.quote p))
include h

theorem quote_badField (hbad : parseItem p.item = none ∨ purpose? p.purpose = none ∨ purpose? p.purpose = some .view ∨ class? p.cls = none) :
    exec (.quote l t p) s = .next (s.answered l t 0x42 .badField .none) := by
  refine request_answers s l t _ h .badField .none ?_
  simp only [State.handle, handleQuote]
  split
  · rename_i hi hpu hcls
    obtain hno | hno | hview | hno := hbad
    · simp [hno] at hi
    · simp [hno] at hpu
    · obtain rfl : Purpose.view = _ := Option.some.inj (hview.symm.trans hpu)
      rfl
    · simp [hno] at hcls
  · rfl

variable {i : Item} {pu : Purpose} {cls : MountClass} (hi : parseItem p.item = some i) (hpu : purpose? p.purpose = some pu) (hcopy : pu ≠ .view)
  (hcls : class? p.cls = some cls)
include hi hpu hcopy hcls

theorem quote_refused {st : Status} (hst : (s.checkItem l pu p.account false i).phase = .ended st) :
    exec (.quote l t p) s = .next (s.answered l t 0x42 st .none) := by
  have hcheck : (s.tagTaken l t).checkItem l pu p.account false i = s.checkItem l pu p.account false i := rfl
  refine request_answers s l t _ h st .none ?_
  simp only [State.handle, handleQuote, hi, hpu, hcls, if_neg hcopy, State.replyTo, hcheck, Item.hasEnded_of_phase hst, if_true, Item.status_of_phase hst,
    State.answer]

theorem quote_quotes {v : Resolved} {f k : Nat} (hpass : (s.checkItem l pu p.account false i).hasEnded = false)
    (hv : (s.checkItem l pu p.account false i).resolved = some v) (hrange : (s.checkItem l pu p.account false i).range = some (f, k)) :
    exec (.quote l t p) s = .next (s.answered l t 0x42 .done (.quoted v.inst v.links f k (computeQuote s.cat.active v.pages f k
      (decide (pu = .certified)) (match s.cat.account? p.account with | some a => a.exempt | none => false) (s.clock.now.sec % 86400)))) := by
  have hcheck : (s.tagTaken l t).checkItem l pu p.account false i = s.checkItem l pu p.account false i := rfl
  have hquote : (s.tagTaken l t).quoteFor pu p.account (s.checkItem l pu p.account false i) = _ := State.quoteFor_copy (s := s) p.account hcopy hv hrange
  refine request_answers s l t _ h .done _ ?_
  simp only [State.handle, handleQuote, hi, hpu, hcls, if_neg hcopy, State.replyTo, hcheck, hpass, Bool.false_eq_true, if_false, hv, hrange, hquote]

end

/-- Settles O40: by the fields, the checks 1 to 6, and the quote of the item that passes them. -/
theorem quoteReturnsFee : Obligations.QuoteReturnsFee := by
  intro l t p s h
  exact ⟨quote_badField h, fun i pu cls hi hpu hcopy hcls => ⟨fun st hst => quote_refused h hi hpu hcopy hcls hst,
    fun v f k hpass hv hrange => quote_quotes h hi hpu hcopy hcls hpass hv hrange⟩⟩

end Sys2Proof.Machine
end

section
/-!
PROOFS. The operation an admitted request makes (R78), its first item's turn (R90), the segment it joins (R93) and the channel that takes it
(R95, R114); and FETCH (R80) and BUNDLE (R81) by these.
-/
namespace Sys2Proof.Machine
set_option Elab.async false

/-! ## Copies in flight -/

/-- A number of copies put in flight on an account (R86, R173). -/
def State.withCopies (s : State) (account n : Nat) : State :=
  { s with cat := { s.cat with accounts := s.cat.accounts.map (fun a => if a.code = account then { a with inFlight := a.inFlight + n } else a) } }

theorem State.withCopies_zero (s : State) (account : Nat) : s.withCopies account 0 = s := by
  simp [State.withCopies]

/-- Each copy raises the count by one (R86). -/
theorem State.foldl_raiseCopy (account : Nat) (copies : List Item) (s : State) :
    copies.foldl (fun s _ => s.modCat (fun c => c.raiseCopy account)) s = s.withCopies account copies.length := by
  induction copies generalizing s with
  | nil => exact (s.withCopies_zero account).symm
  | cons i copies ih =>
    rw [List.foldl_cons, ih]
    simp only [State.withCopies, State.modCat, CatMem.raiseCopy, CatMem.modAccount, updateKeyed, List.map_map, List.length_cons]
    refine congrArg (fun l => { s with cat := { s.cat with accounts := l } }) (List.map_congr_left fun a _ => ?_)
    by_cases ha : a.code = account
    · simp [ha, Nat.add_assoc, Nat.add_comm 1]
    · simp [ha]

/-- No copy in flight, or one, by the item's quote (R86). -/
theorem State.withCopies_quote (s : State) (account : Nat) (i : Item) :
    s.withCopies account ([i].filter (fun j => j.quote.isSome)).length = { s with cat := match i.quote with
      | some _ => { s.cat with accounts := s.cat.accounts.map (fun a => if a.code = account then { a with inFlight := a.inFlight + 1 } else a) }
      | none => s.cat } := by
  cases hq : i.quote with
  | some q =>
    rw [List.filter_cons_of_pos (by simp [hq])]
    rfl
  | none =>
    rw [List.filter_cons_of_neg (by simp [hq])]
    exact s.withCopies_zero account

/-! ## The newest operation -/

/-- An operation behind those that are held. -/
def State.withOp (s : State) (o : Op) : State := { s with ops := s.ops ++ [o] }

/-- The operation a request makes, before any item's turn (R78). -/
def State.opened (s : State) (r : Reply) (bundle : Bool) (pu : Purpose) (account : Nat) (cls : MountClass) (items : List Item) : Op :=
  { reply := r, bundle := bundle, purpose := pu, account := account, cls := cls, admTime := s.ref, admReading := s.clock.now, items := items, current := 0 }

/-- An operation whose first item's turn runs. -/
def Op.begun (o : Op) (i : Item) (rest : List Item) : Op := { o with items := i :: rest, current := 1 }

/-- The first item of an operation. -/
def Op.firstRef (o : Op) : ItemRef := ⟨o.reply.link, o.reply.tag, 1⟩

theorem State.createOp_eq (s : State) (r : Reply) (bundle : Bool) (pu : Purpose) (account : Nat) (cls : MountClass) (items : List Item) :
    s.createOp r bundle pu account cls items =
      ((s.withCopies account (items.filter (fun i => i.quote.isSome)).length).withOp (s.opened r bundle pu account cls items)).later
        [.nextTurn r.link r.tag] := by
  simp only [State.createOp, State.foldl_raiseCopy]
  rfl

/-- No operation is held under a link and tag. -/
def State.NoOp (s : State) (l : Link) (t : Nat) : Prop := ∀ o ∈ s.ops, ¬(o.reply.link = l ∧ o.reply.tag = t)

section
variable {s : State} {o : Op} (hno : s.NoOp o.reply.link o.reply.tag)
include hno

theorem State.op?_withOp : (s.withOp o).op? o.reply.link o.reply.tag = some o := by
  have hnone : s.ops.find? (fun p => p.reply.link == o.reply.link && p.reply.tag == o.reply.tag) = none :=
    List.find?_eq_none.2 fun p hp => by simpa using hno p hp
  simp [State.op?, State.withOp, List.find?_append, hnone]

theorem State.modOp_withOp (f : Op → Op) : (s.withOp o).modOp o.reply.link o.reply.tag f = s.withOp (f o) := by
  have hothers : s.ops.map (fun p => if p.reply.link = o.reply.link ∧ p.reply.tag = o.reply.tag then f p else p) = s.ops :=
    (List.map_congr_left fun p hp => if_neg (hno p hp)).trans (List.map_id _)
  simp [State.modOp, State.withOp, hothers]

/-- The item of the newest operation at a position. -/
theorem State.item?_withOp {n : Nat} {i : Item} (hi : o.items[n - 1]? = some i) : (s.withOp o).item? ⟨o.reply.link, o.reply.tag, n⟩ = some (o, i) := by
  simp only [State.item?, State.op?_withOp hno, hi, Option.map_some]

theorem State.modItem_withOp (n : Nat) (f : Item → Item) :
    (s.withOp o).modItem ⟨o.reply.link, o.reply.tag, n⟩ f = s.withOp { o with items := o.items.modify (n - 1) f } :=
  State.modOp_withOp hno _

/-- A new operation's first turn is its first item's, which has not ended (R90). -/
theorem State.nextTurn_withOp {i : Item} {rest : List Item} (hcur : o.current = 0) (hitems : o.items = i :: rest) (hi : i.hasEnded = false) :
    (s.withOp o).nextTurn o.reply.link o.reply.tag = (s.withOp (o.begun i rest)).later [.turn o.firstRef] := by
  obtain ⟨reply, bundle, pu, account, cls, admTime, admReading, items, current⟩ := o
  obtain rfl : items = i :: rest := hitems
  obtain rfl : current = 0 := hcur
  have hop := State.op?_withOp hno
  simp only [State.nextTurn, hop, Bool.false_eq_true, if_false, Nat.zero_add, Nat.sub_zero, List.length_cons, List.range'_succ, List.find?_cons,
    Nat.sub_self, List.getElem?_cons_zero, hi, Bool.not_false]
  exact congrArg (fun u => State.later u _) (State.modOp_withOp hno _)

end

/-! ## The turn of a first item -/

section
variable {s : State} {o : Op} {i : Item} {rest : List Item} (hno : s.NoOp o.reply.link o.reply.tag)
include hno

theorem State.modItem_begun (f : Item → Item) : (s.withOp (o.begun i rest)).modItem o.firstRef f = s.withOp (o.begun (f i) rest) :=
  State.modItem_withOp (o := o.begun i rest) hno 1 f

theorem State.setPhase_begun (p : Phase) : (s.withOp (o.begun i rest)).setPhase o.firstRef p = s.withOp (o.begun { i with phase := p } rest) :=
  State.modItem_begun hno _

variable {v : Resolved} (hp : i.phase = .pending) (hv : i.resolved = some v)
include hp hv

/-- An item whose instrument is staged joins its segment (R90, R93). -/
theorem State.turn_staged (hd : s.decode v = .staged) : (s.withOp (o.begun i rest)).turn o.firstRef =
    (s.withOp (o.begun { i with decode := some .staged } rest)).joinSegment o.firstRef v.inst := by
  have hitem : (s.withOp (o.begun i rest)).item? o.firstRef = some (o.begun i rest, i) := State.item?_withOp (o := o.begun i rest) hno (n := 1) rfl
  have hdec : (s.withOp (o.begun i rest)).decode v = .staged := hd
  simp only [State.turn, hitem, hv, hp, ne_eq, not_true_eq_false, if_false, hdec, State.modItem_begun hno]

/-- An item whose instrument must be read asks for staging space (R90, R91). -/
theorem State.turn_asks (hd : s.decode v = .mount ∨ ∃ d, s.decode v = .drive d) : (s.withOp (o.begun i rest)).turn o.firstRef =
    (s.withOp (o.begun { i with decode := some (s.decode v) } rest)).askSpace o.firstRef (o.begun i rest) v := by
  have hitem : (s.withOp (o.begun i rest)).item? o.firstRef = some (o.begun i rest, i) := State.item?_withOp (o := o.begun i rest) hno (n := 1) rfl
  have hsame : (s.withOp (o.begun i rest)).decode v = s.decode v := rfl
  obtain hd | ⟨d, hd⟩ := hd <;>
    simp only [State.turn, hitem, hv, hp, ne_eq, not_true_eq_false, if_false, hsame, hd, State.modItem_begun hno]

end

/-- Behind others in the FIFO, an item waits there (R108). -/
theorem State.askSpace_joins {s : State} (r : ItemRef) (o : Op) (v : Resolved) (h : s.spaceFifo ≠ []) : s.askSpace r o v =
    State.setPhase { s with spaceFifo := s.spaceFifo ++ [{ item := r, inst := v.inst, len := v.loc.len }] } r .waitingSpace := by
  have hwaits : (!s.spaceFifo.isEmpty) = true := by
    simpa using h
  simp only [State.askSpace, hwaits, if_true]

/-- An item becomes the newest user of the one segment there is (R93). -/
theorem State.joinSegment_only {s : State} {g : Segment} (r : ItemRef) (h : s.segments = [g]) : s.joinSegment r g.inst =
    (State.setPhase { s with segments := [{ g with users := g.users ++ [r] }] } r .ready).later [.outTake r.link] := by
  simp [State.joinSegment, State.modSegment, State.touchSegment, State.segment?, h]

/-- The channel's registers before the page map is read (R114; assumption log 16). -/
def OutChan.beforeMap (r : ItemRef) (g : Segment) : OutChan :=
  { OutChan.idle with chan := { state := if 0 < g.staged then .running else .waiting, op := .item r, mode := some .sequential,
                                next := stagingBlock g.first, remaining := 0, action := .endItem } }

/-- A free channel takes the first item of its link's only operation when it is READY (R95, R114). -/
theorem State.outTake_begun {s : State} {o : Op} {i : Item} {rest : List Item} {g : Segment} (hno : ∀ p ∈ s.ops, p.reply.link ≠ o.reply.link)
    (hready : i.phase = .ready) (hchan : (s.outChans.get o.reply.link).chan.op = .none) (hseg : s.segments = [g]) (huser : o.firstRef ∈ g.users) :
    (s.withOp (o.begun i rest)).outTake o.reply.link =
      State.withOp { s with outChans := s.outChans.set o.reply.link (OutChan.beforeMap o.firstRef g) } (o.begun { i with phase := .delivering } rest) := by
  have hitem : (s.withOp (o.begun i rest)).readyItem o.reply.link = some o.firstRef := by
    unfold State.readyItem State.withOp
    rw [List.find?_append, List.find?_eq_none.2 (fun p hp => by simp [hno p hp]), Option.none_or, List.find?_cons_of_pos (by simp [Op.begun, hready])]
    rfl
  have hsegment : (s.withOp (o.begun i rest)).segmentOf o.firstRef = some g := by
    simp [State.segmentOf, State.withOp, hseg, huser]
  have hfree : ¬((s.withOp (o.begun i rest)).outChans.get o.reply.link).chan.op ≠ .none := by
    simpa [State.withOp] using hchan
  simp only [State.outTake, if_neg hfree, hitem, hsegment]
  exact State.setPhase_begun (s := { s with outChans := s.outChans.set o.reply.link (OutChan.beforeMap o.firstRef g) })
    (fun p hp hkey => hno p hp hkey.1) .delivering

/-! ## The work a new operation hands over -/

section
variable {s : State} {o : Op} {i : Item} {rest : List Item} {v : Resolved} (ha : s.agenda = []) (hcur : o.current = 0) (hitems : o.items = i :: rest)
  (hp : i.phase = .pending) (hv : i.resolved = some v)
include ha hcur hitems hp hv

/-- An operation made while its first item's instrument is staged and its link is free delivers at once (R90, R93, R95). -/
theorem State.Works.delivers (hno : ∀ p ∈ s.ops, p.reply.link ≠ o.reply.link) {g : Segment} (hseg : s.segments = [g]) (hg : g.inst = v.inst)
    (hchan : (s.outChans.get o.reply.link).chan.op = .none) :
    State.Works (s.withOp o) [.nextTurn o.reply.link o.reply.tag] (State.withOp { s with
      segments := [{ g with users := g.users ++ [o.firstRef] }]
      outChans := s.outChans.set o.reply.link (OutChan.beforeMap o.firstRef g) }
      (o.begun { i with decode := some .staged, phase := .delivering } rest)) 3 := by
  have hfree : s.NoOp o.reply.link o.reply.tag := fun p hp hkey => hno p hp hkey.1
  have hturn := State.turn_staged (rest := rest) hfree hp hv (State.decode_staged ⟨g, by simp [hseg], hg⟩)
  have hjoin := State.joinSegment_only (s := s.withOp (o.begun { i with decode := some .staged } rest)) o.firstRef hseg
  have hready := State.setPhase_begun (s := { s with segments := [{ g with users := g.users ++ [o.firstRef] }] }) (o := o)
    (i := { i with decode := some .staged }) (rest := rest) hfree .ready
  have htake := State.outTake_begun (s := { s with segments := [{ g with users := g.users ++ [o.firstRef] }] }) (o := o)
    (i := { i with decode := some .staged, phase := .ready }) (rest := rest) hno rfl hchan rfl (by simp)
  rw [← hg, hjoin] at hturn
  exact .piece ha (State.nextTurn_withOp hfree hcur hitems (Item.hasEnded_of_pending hp))
    (.piece ha (hturn.trans (congrArg (fun u => State.later u [.outTake o.reply.link]) hready)) (.brings ha htake (.nothing ha)))

/-- An operation made while its first item must be read and others wait for staging space waits behind them (R90, R108). -/
theorem State.Works.waits (hfree : s.NoOp o.reply.link o.reply.tag) (hd : s.decode v = .mount ∨ ∃ d, s.decode v = .drive d) (hfifo : s.spaceFifo ≠ []) :
    State.Works (s.withOp o) [.nextTurn o.reply.link o.reply.tag] (State.withOp { s with
      spaceFifo := s.spaceFifo ++ [{ item := o.firstRef, inst := v.inst, len := v.loc.len }] }
      (o.begun { i with decode := some (s.decode v), phase := .waitingSpace } rest)) 2 := by
  have hturn := State.turn_asks (rest := rest) hfree hp hv hd
  have hjoin := State.askSpace_joins (s := s.withOp (o.begun { i with decode := some (s.decode v) } rest)) o.firstRef (o.begun i rest) v hfifo
  have hwaits := State.setPhase_begun (s := { s with spaceFifo := s.spaceFifo ++ [{ item := o.firstRef, inst := v.inst, len := v.loc.len }] })
    (o := o) (i := { i with decode := some (s.decode v) }) (rest := rest) hfree .waitingSpace
  exact .piece ha (State.nextTurn_withOp hfree hcur hitems (Item.hasEnded_of_pending hp))
    (.brings ha ((hturn.trans hjoin).trans hwaits) (.nothing ha))

end

end Sys2Proof.Machine
end

section
/-!
PROOFS. FETCH (R80) and BUNDLE (R81): their refusals, and the operation each makes when its first item is admitted.
-/
namespace Sys2Proof.Machine
set_option Elab.async false

/-! ## What a request taken says -/

theorem State.Takes.idle {s : State} {l : Link} {t : Nat} {q : Request} (h : s.Takes l t q) : s.agenda = [] := by
  obtain ⟨⟨⟨-, hidle, -⟩, -⟩, -⟩ := h
  exact hidle

/-- A BUNDLE's frame is as long as its items, 1 to 8 of them (R81, R185). -/
theorem State.Takes.bundle_length {s : State} {l : Link} {t : Nat} {p : BundleParams} (h : s.Takes l t (.bundle p)) :
    1 ≤ p.items.length ∧ p.items.length ≤ 8 := by
  obtain ⟨⟨-, -, hlength, -⟩, -⟩ := h
  simpa [Request.lengthOk] using hlength

/-! ## FETCH -/

/-- The entry of an item that ended with a status of its own (R100; assumption log 71). -/
theorem Item.entry_lost {i : Item} {st : Status} (h : i.phase = .ended st) (hst : st ≠ .done) : i.entry true =
    { status := st, resolved := i.resolved.map (fun v => v.inst), links := match i.resolved with | some v => v.links | none => 0,
      first := 0, last := 0, delivered := 0, receipt := none } := by
  simp only [Item.entry, Item.status_of_phase h, Bool.or_true, if_true, if_neg hst]
  cases i.resolved <;> rfl

theorem State.admitItem_tagTaken (s : State) (l k : Link) (t : Nat) (pu : Purpose) (account : Nat) (i : Item) :
    (s.tagTaken l t).admitItem k pu account i = s.admitted k pu account i :=
  s.admitItem_eq k pu account i

section
variable {l : Link} {t : Nat} {p : FetchParams} {s : State} (h : s.Takes l t (.fetch p))
include h

theorem fetch_badField (hbad : parseItem p.item = none ∨ purpose? p.purpose = none ∨ class? p.cls = none) :
    exec (.fetch l t p) s = .next (s.answered l t 0x40 .badField .none) := by
  refine request_answers s l t _ h .badField .none ?_
  simp only [State.handle, handleFetch]
  split
  · rename_i hi hpu hcls
    obtain hno | hno | hno := hbad
    · simp [hno] at hi
    · simp [hno] at hpu
    · simp [hno] at hcls
  · rfl

variable {i : Item} {pu : Purpose} {cls : MountClass} (hi : parseItem p.item = some i) (hpu : purpose? p.purpose = some pu) (hcls : class? p.cls = some cls)
include hi hpu hcls

theorem fetch_refused {st : Status} (hst : (s.admitted l pu p.account i).phase = .ended st) :
    exec (.fetch l t p) s = .next (s.answered l t 0x40 st (.item ((s.admitted l pu p.account i).entry true))) := by
  refine request_answers s l t _ h st _ ?_
  simp only [State.handle, handleFetch, hi, hpu, hcls, State.replyTo, State.admitItem_tagTaken, Item.hasEnded_of_phase hst, if_true,
    Item.status_of_phase hst]

theorem fetch_makesOp (hpass : (s.admitted l pu p.account i).hasEnded = false) :
    exec (.fetch l t p) s = .next ((s.tagTaken l t).createOp (s.replyTo l t (.fetch p)) false pu p.account cls [s.admitted l pu p.account i]).settle := by
  have hlink : (s.replyTo l t (.fetch p)).link = l := rfl
  refine (request_takes s l t _ h).trans ?_
  simp only [State.handle, handleFetch, hi, hpu, hcls, hlink, State.admitItem_tagTaken, hpass, Bool.false_eq_true, if_false]

theorem fetch_delivers {v : Resolved} {g : Segment} (hp : (s.admitted l pu p.account i).phase = .pending)
    (hv : (s.admitted l pu p.account i).resolved = some v) (hseg : s.segments = [g]) (hg : g.inst = v.inst)
    (hno : ∀ o ∈ s.ops, o.reply.link ≠ l) (hchan : (s.outChans.get l).chan.op = .none) :
    exec (.fetch l t p) s = .next (State.withOp { (s.tagTaken l t).withCopies p.account
        ([s.admitted l pu p.account i].filter (fun j => j.quote.isSome)).length with
      segments := [{ g with users := g.users ++ [⟨l, t, 1⟩] }]
      outChans := s.outChans.set l (OutChan.beforeMap ⟨l, t, 1⟩ g) }
      ((s.opened (s.replyTo l t (.fetch p)) false pu p.account cls []).begun
        { s.admitted l pu p.account i with decode := some .staged, phase := .delivering } [])) := by
  have hworks := State.Works.delivers (s := (s.tagTaken l t).withCopies p.account ([s.admitted l pu p.account i].filter (fun j => j.quote.isSome)).length)
    (o := s.opened (s.replyTo l t (.fetch p)) false pu p.account cls [s.admitted l pu p.account i]) h.idle rfl rfl hp hv hno hseg hg hchan
  rw [fetch_makesOp h hi hpu hcls (Item.hasEnded_of_pending hp), State.createOp_eq]
  exact congrArg Host.Outcome.next (hworks.settle (by decide))

end

/-- Settles O38: by the fields, the item's admission, and the three pieces of work of an operation whose first item delivers at once. -/
theorem fetchAdmittedOrRefused : Obligations.FetchAdmittedOrRefused := by
  unfold Obligations.FetchAdmittedOrRefused
  refine ⟨?delivers, fun l t p s h => ⟨fetch_badField h, ?refused⟩⟩
  case delivers =>
    rintro l t p s i _ pu cls v g h hi hpu hcls rfl hpass hv hp hseg hg hno hchan count r
    rw [fetch_delivers h hi hpu hcls hp hv hseg hg hno hchan, State.withCopies_quote]
    rfl
  case refused =>
    intro i pu cls st hi hpu hcls out hst
    have hpending : i.hasEnded = false := Item.hasEnded_of_pending (parseItem_pending hi)
    have hdone : st ≠ .done := by
      rintro rfl
      exact s.checkItem_ne_done hpending l pu p.account true ((s.admitted_phase l pu p.account i).symm.trans hst)
    exact (fetch_refused h hi hpu hcls hst).trans
      (congrArg (fun b => Host.Outcome.next (s.answered l t 0x40 st (.item b))) (Item.entry_lost hst hdone))

/-! ## BUNDLE -/

section
variable {l : Link} {t : Nat} {p : BundleParams} {s : State} (h : s.Takes l t (.bundle p))
include h

theorem bundle_badField (hbad : parseItems p.items = none ∨ purpose? p.purpose = none ∨ class? p.cls = none ∨ p.count ≠ p.items.length) :
    exec (.bundle l t p) s = .next (s.answered l t 0x41 .badField .none) := by
  refine request_answers s l t _ h .badField .none ?_
  simp only [State.handle, handleBundle]
  split
  · rename_i hi hpu hcls
    obtain hno | hno | hno | hcount := hbad
    · simp [hno] at hi
    · simp [hno] at hpu
    · simp [hno] at hcls
    · rw [if_pos (.inl hcount)]
      rfl
  · rfl

variable {i : Item} {is : List Item} {pu : Purpose} {cls : MountClass} (hi : parseItems p.items = some (i :: is)) (hpu : purpose? p.purpose = some pu)
  (hcls : class? p.cls = some cls) (hcount : p.count = p.items.length)
include hi hpu hcls hcount

/-- A BUNDLE whose fields and count are defined comes to the checks of its first item; its frame's length bounds the count (R81). -/
theorem bundle_handled : (s.tagTaken l t).handle (s.replyTo l t (.bundle p)) (.bundle p) =
    if (s.admitted l pu p.account i).hasEnded = true then (s.tagTaken l t).answer (s.replyTo l t (.bundle p)) (s.admitted l pu p.account i).status
    else (s.tagTaken l t).createOp (s.replyTo l t (.bundle p)) true pu p.account cls (s.admitted l pu p.account i :: is.map (s.admitted l pu p.account)) := by
  have hlength := h.bundle_length
  have hcountOk : ¬(p.count ≠ p.items.length ∨ p.count < 1 ∨ 8 < p.count) := by
    omega
  have hlink : (s.replyTo l t (.bundle p)).link = l := rfl
  have hadmit : (s.tagTaken l t).admitItem l pu p.account = s.admitted l pu p.account := funext fun j => s.admitItem_tagTaken l l t pu p.account j
  simp only [State.handle, handleBundle, hi, hpu, hcls, if_neg hcountOk, hlink, hadmit]

theorem bundle_refused {st : Status} (hst : (s.admitted l pu p.account i).phase = .ended st) :
    exec (.bundle l t p) s = .next (s.answered l t 0x41 st .none) := by
  refine request_answers s l t _ h st .none ?_
  rw [bundle_handled h hi hpu hcls hcount, if_pos (Item.hasEnded_of_phase hst), Item.status_of_phase hst]
  rfl

theorem bundle_waits {v : Resolved} (hp : (s.admitted l pu p.account i).phase = .pending) (hv : (s.admitted l pu p.account i).resolved = some v)
    (hd : s.decode v = .mount ∨ ∃ d, s.decode v = .drive d) (hfifo : s.spaceFifo ≠ []) (hno : s.NoOp l t) :
    exec (.bundle l t p) s = .next (State.withOp { (s.tagTaken l t).withCopies p.account
        ((s.admitted l pu p.account i :: is.map (s.admitted l pu p.account)).filter (fun j => j.quote.isSome)).length with
      spaceFifo := s.spaceFifo ++ [{ item := ⟨l, t, 1⟩, inst := v.inst, len := v.loc.len }] }
      ((s.opened (s.replyTo l t (.bundle p)) true pu p.account cls []).begun
        { s.admitted l pu p.account i with decode := some (s.decode v), phase := .waitingSpace } (is.map (s.admitted l pu p.account)))) := by
  have hworks := State.Works.waits (s := (s.tagTaken l t).withCopies p.account
      ((s.admitted l pu p.account i :: is.map (s.admitted l pu p.account)).filter (fun j => j.quote.isSome)).length)
    (o := s.opened (s.replyTo l t (.bundle p)) true pu p.account cls (s.admitted l pu p.account i :: is.map (s.admitted l pu p.account)))
    h.idle rfl rfl hp hv hno hd hfifo
  have hpass : ¬(s.admitted l pu p.account i).hasEnded = true := by
    simp [Item.hasEnded_of_pending hp]
  refine (request_takes s l t _ h).trans ?_
  rw [bundle_handled h hi hpu hcls hcount, if_neg hpass, State.createOp_eq]
  exact congrArg Host.Outcome.next (hworks.settle (by decide))

end

/-- Settles O39: by the fields, the first item's admission, and the two pieces of work of an operation whose first item waits for staging space. -/
theorem bundleAdmitted : Obligations.BundleAdmitted := by
  intro l t p s h
  exact ⟨bundle_badField h, fun i is pu cls hi hpu hcls hcount => ⟨fun st hst => bundle_refused h hi hpu hcls hcount hst,
    fun v hp hv hd hfifo hno => bundle_waits h hi hpu hcls hcount hp hv hd hfifo hno⟩⟩

end Sys2Proof.Machine
end

section
/-!
PROOFS. Buffer memory stays in its canonical form (R107, assumption log 2): the buffer port alone writes to it, a block at a time (R116).
-/
namespace Sys2Proof.Machine
set_option Elab.async false

/-! ## What leaves buffer memory alone -/

theorem State.mem_of_calm {s t : State} (h : s.calm = t.calm) : s.mem = t.mem := by
  obtain ⟨-, -, -, -, -, -, -, -, -, hmem⟩ := State.calm_iff.mp h
  exact hmem

theorem State.respond_mem (s : State) (r : Reply) (st : Status) (b : Body) : (s.respond r st b).mem = s.mem := State.mem_of_calm (by simp)

theorem State.answer_mem (s : State) (r : Reply) (st : Status) : (s.answer r st).mem = s.mem := State.mem_of_calm (by simp)

theorem State.post_mem (s : State) (e : Event) : (s.post e).mem = s.mem := State.mem_of_calm (by simp)

theorem State.testClose_mem (s : State) : s.testClose.mem = s.mem := State.mem_of_calm (by simp)

theorem State.settle_mem (s : State) : s.settle.mem = s.mem := State.mem_of_calm (by simp)

theorem State.beginWrite_mem (s : State) : s.beginWrite.mem = s.mem := by
  unfold State.beginWrite
  split <;> rfl

theorem State.askWrite_mem (s : State) (c : SettingsChange) (r : Reply) : (s.askWrite c r).mem = s.mem := State.beginWrite_mem _

theorem State.endWrite_mem (s : State) (ok : Bool) : (s.endWrite ok).mem = s.mem := by
  unfold State.endWrite
  split
  · rfl
  · rw [State.beginWrite_mem]
    split
    · exact State.respond_mem _ _ _ _
    · exact State.answer_mem _ _ _

theorem State.tick_mem (s : State) : s.tick.mem = s.mem := by
  unfold State.tick
  split
  · exact State.testClose_mem _
  · rfl

theorem State.pressInput_mem (s : State) (q : LineNo) : (s.pressInput q).mem = s.mem := by
  unfold State.pressInput
  split
  · unfold State.takePress
    dsimp only
    split
    · exact State.post_mem _ _
    · exact (State.mem_of_calm (State.issue_calm _ _ _ _)).trans rfl
  · rfl

/-- No request writes to buffer memory: a FEED's block waits in its channel's store (R113). -/
theorem State.handle_mem (s : State) (r : Reply) (q : Request) : (s.handle r q).mem = s.mem := by
  cases q <;> simp only [State.handle]
  case settingsSet =>
    simp only [handleSettingsSet]
    (repeat' split) <;> simp [State.answer_mem, State.askWrite_mem]
  case clockTrim f =>
    cases f <;> simp only [handleClockTrim] <;> (repeat' split) <;> simp [State.answer_mem, State.askWrite_mem]
  case clockLoad =>
    simp only [handleClockLoad]
    split <;> simp [State.answer_mem, State.respond_mem, State.testClose_mem, State.post_mem]
  case clockStep =>
    simp only [handleClockStep]
    (repeat' split) <;> simp [State.answer_mem, State.respond_mem, State.testClose_mem, State.post_mem]
  case catalogueReady =>
    simp only [handleCatalogueReady]
    split <;> simp [State.answer_mem, State.respond_mem]
  case rightsSet =>
    simp only [handleRightsSet]
    (repeat' split) <;> simp [State.answer_mem, State.askWrite_mem]
  all_goals exact State.mem_of_calm (by simp)

theorem State.route_mem (s : State) (r : Reply) (q : Request) : (s.route r q).mem = s.mem := by
  unfold State.route
  split
  · exact s.answer_mem _ _
  · split
    · exact s.answer_mem _ _
    · exact s.handle_mem r q

theorem State.takeInput_mem (s : State) (l : Link) (x : LaneInput) : (s.takeInput l x).mem = s.mem := by
  cases x <;> simp only [State.takeInput]
  case stray => rfl
  case bad f => exact State.mem_of_calm (by simp)
  case request t q =>
    rw [State.settle_mem]
    unfold State.takeRequest
    split
    · exact State.mem_of_calm (by simp)
    · split
      · rfl
      · exact State.route_mem _ _ _

theorem State.arrive_mem (s : State) (l : Link) (x : LaneInput) : (s.arrive l x).mem = s.mem := by
  unfold State.arrive
  split
  · rfl
  · split
    · exact s.takeInput_mem l x
    · rfl

/-- Taking an input off a lane leaves buffer memory as it is. -/
theorem State.takeInput_keeps_mem (mem : List Host.Cell) (s : State) (l : Link) (x : LaneInput) (rest : List LaneInput)
    (hs : s.mem = mem) (_ : (s.links.get l).lane = x :: rest) :
    ((s.modLink l (fun k => { k with lane := rest })).takeInput l x).mem = mem :=
  (State.takeInput_mem _ l x).trans hs

theorem State.drain_mem (s : State) (l : Link) : (s.drain l).mem = s.mem := State.drain_keeps (State.takeInput_keeps_mem s.mem) s l rfl

theorem State.drainAll_mem (s : State) : s.drainAll.mem = s.mem := State.drainAll_keeps (State.takeInput_keeps_mem s.mem) s rfl

theorem State.powerOn_mem (s : State) (p : PowerOn) : (s.powerOn p).mem = s.mem := by
  unfold State.powerOn
  split
  · exact (State.mem_of_calm ((State.startMechanics_calm _ p).trans (State.testClose_calm _))).trans rfl
  · rfl

theorem State.powerFail_mem (s : State) (c : PowerCut) : (s.powerFail c).mem = s.mem := by
  unfold State.powerFail
  split <;> rfl

theorem State.linksStart_mem (s : State) : s.linksStart.mem = s.mem := by
  have hpost : ∀ t : State, (s.startEvents.foldl (fun s e => s.post e) t).mem = t.mem := fun t =>
    State.mem_of_calm (State.foldl_calm _ (fun s e => by simp) _ t)
  unfold State.linksStart
  split
  · rw [State.drainAll_mem, State.settle_mem]
    split <;> exact hpost _
  · rfl

/-! ## The buffer port -/

/-- A move of the port leaves buffer memory as it is, or writes one block of it (R116). -/
def State.Stores (s t : State) : Prop := t.mem = s.mem ∨ ∃ blk bytes, t.mem = Memory.writeBlock s.mem blk bytes

theorem State.Stores.of_calm {s t : State} (h : t.calm = s.calm) : s.Stores t := .inl (State.mem_of_calm h)

theorem State.stageBlock_stores (s : State) (d : DriveNo) (n : InstrNum) : s.Stores (s.stageBlock d n) := by
  unfold State.stageBlock
  dsimp only
  split
  · rename_i b rest g hheld hseg
    refine .inr ⟨(s.driveChans.get d).chan.next, b, State.mem_of_calm (t := { s with mem := Memory.writeBlock s.mem _ b }) ?_⟩
    (repeat' split) <;> simp
  · exact .inl rfl

theorem State.serveIn_stores (s : State) (l : Link) : s.Stores (s.serveIn l) := by
  unfold State.serveIn
  dsimp only
  split
  · exact .inr ⟨_, _, rfl⟩
  · exact .inl rfl

theorem State.serveDrive_stores (s : State) (d : DriveNo) (parity : Bool) : s.Stores (s.serveDrive d parity) := by
  unfold State.serveDrive
  split
  · split
    · exact .of_calm (by simp)
    · exact s.stageBlock_stores _ _
  · split
    · exact .of_calm (by simp)
    · exact .inl rfl
  · exact .inl rfl

theorem State.portMove_stores (s : State) (parity : Bool) : s.Stores (s.portMove parity) := by
  unfold State.portMove
  split
  · exact s.serveDrive_stores _ _
  · split
    · exact s.serveIn_stores _
    · split <;> exact .of_calm (by simp)

/-! ## The statement -/

theorem State.MemoryOk.of_eq {s t : State} (h : s.MemoryOk) (e : t.mem = s.mem) : t.MemoryOk := by
  unfold State.MemoryOk
  rw [e]
  exact h

theorem State.MemoryOk.stores {s t : State} (h : s.MemoryOk) (m : s.Stores t) : t.MemoryOk := by
  obtain e | ⟨blk, bytes, e⟩ := m
  · exact h.of_eq e
  · unfold State.MemoryOk
    rw [e]
    exact Memory.wf_writeBlock _ _ _ h

/-- Whatever a command does keeps buffer memory in its canonical form. -/
theorem Did.memoryOk {i : Instr} {s t : State} (d : Did i s t) (h : s.MemoryOk) : t.MemoryOk := by
  cases d with
  | steady calm _ => exact h.of_eq (State.mem_of_calm calm)
  | arrived l x _ => exact h.of_eq (s.arrive_mem l x)
  | sent l => exact h.of_eq ((State.drain_mem _ l).trans (State.mem_of_calm (by simp)))
  | moved parity => exact (h.stores (s.portMove_stores parity)).of_eq ((State.drainAll_mem _).trans (State.settle_mem _))
  | released l => exact h.of_eq (State.drain_mem _ l)
  | ticked => exact h.of_eq s.tick_mem
  | pressed q => exact h.of_eq (s.pressInput_mem q)
  | unpressed q => exact h
  | accepted q => exact h
  | unaccepted q => exact h
  | written ok => exact h.of_eq (s.endWrite_mem ok)
  | poweredOn p => exact h.of_eq (s.powerOn_mem p)
  | poweredOff c => exact h.of_eq (s.powerFail_mem c)
  | linksStarted => exact h.of_eq s.linksStart_mem

/-- Settles O3: of all a command does the port's moves alone write to buffer memory, and a block written keeps its form. -/
theorem memoryFormKept : Obligations.MemoryFormKept := by
  intro s t hs h
  unfold step at h
  split at h
  · cases h
    exact hs
  · obtain ⟨u, hu, rfl⟩ := exec_did h
    exact (hu.memoryOk hs).of_eq u.settle_mem

end Sys2Proof.Machine
end

section
/-!
PROOFS. Which blocks the ingest ring holds and which filing slots are occupied (R50, R104), and one lemma for each operation of the units that leaves
both alone.
-/
namespace Sys2Proof.Machine
set_option Elab.async false

/-- The blocks of the ring, and the filing slots that are occupied. -/
structure Berths where
  ring : List RingBlock
  occupied : FSlot → Bool

/-- The berths a ring and the filing slots make. -/
def berthsOf (ring : List RingBlock) (filings : Four (Option Filing)) : Berths := ⟨ring, fun q => (filings.get q).isSome⟩

/-- The berths of a state. -/
def State.berths (s : State) : Berths := berthsOf s.ring s.filings

@[simp] theorem berthsOf_self (s : State) : berthsOf s.ring s.filings = s.berths := (rfl)

@[simp] theorem State.berths_mk
    pending power ref cat update absentMode reserved clock lines settings rights links startEvents filings commitQueue lastFiling filUse
    mapReads ops mem ring ringNext segments spaceFifo driveChans inChans outChans lib agenda freeCtr :
    State.berths (.mk pending power ref cat update absentMode reserved clock lines settings rights links startEvents filings commitQueue lastFiling filUse
        mapReads ops mem ring ringNext segments spaceFifo driveChans inChans outChans lib agenda freeCtr) = berthsOf ring filings := (rfl)

/-- One slot replaced. -/
theorem berthsOf_set (ring : List RingBlock) (t : Four (Option Filing)) (q : FSlot) (f : Option Filing) :
    berthsOf ring (t.set q f) = ⟨ring, Function.update (berthsOf ring t).occupied q f.isSome⟩ := by
  refine congrArg (Berths.mk ring) (funext fun k => ?_)
  by_cases e : k = q
  · subst e
    simp
  · simp [berthsOf, Four.get_set_ne _ _ _ _ e, e]

/-- A filing changed leaves its slot occupied, and a free slot is left free. -/
@[simp] theorem berthsOf_map (ring : List RingBlock) (t : Four (Option Filing)) (q : FSlot) (f : Filing → Filing) :
    berthsOf ring (t.set q ((t.get q).map f)) = berthsOf ring t := by
  have hsame : ((t.get q).map f).isSome = (berthsOf ring t).occupied q := Option.isSome_map
  rw [berthsOf_set, hsame, Function.update_eq_self]
  rfl

variable (s : State)

/-- A chain of changes that leave the berths alone leaves them alone. -/
theorem State.foldl_berths {α : Type} (f : State → α → State) (hf : ∀ s a, (f s a).berths = s.berths) (l : List α) (s : State) :
    (l.foldl f s).berths = s.berths := by
  induction l generalizing s with
  | nil => rfl
  | cons a l ih => exact (ih _).trans (hf s a)

/-! ## Records of single units -/

@[simp] theorem State.modFiling_berths (q : FSlot) (f : Filing → Filing) : (s.modFiling q f).berths = s.berths := berthsOf_map _ _ _ _
@[simp] theorem State.modCommit_berths (q : FSlot) (f : Commit → Commit) : (s.modCommit q f).berths = s.berths := s.modFiling_berths q _
@[simp] theorem State.later_berths (ts : List Task) : (s.later ts).berths = s.berths := (rfl)
@[simp] theorem State.modCat_berths (f : CatMem → CatMem) : (s.modCat f).berths = s.berths := (rfl)
@[simp] theorem State.modLink_berths (l : Link) (f : LinkRec → LinkRec) : (s.modLink l f).berths = s.berths := (rfl)
@[simp] theorem State.modLine_berths (q : LineNo) (f : Line → Line) : (s.modLine q f).berths = s.berths := (rfl)
@[simp] theorem State.modLib_berths (f : Library → Library) : (s.modLib f).berths = s.berths := (rfl)
@[simp] theorem State.modDrive_berths (d : DriveNo) (f : Drive → Drive) : (s.modDrive d f).berths = s.berths := (rfl)
@[simp] theorem State.modPicker_berths (f : Picker → Picker) : (s.modPicker f).berths = s.berths := (rfl)
@[simp] theorem State.modDriveChan_berths (d : DriveNo) (f : DriveChan → DriveChan) : (s.modDriveChan d f).berths = s.berths := (rfl)
@[simp] theorem State.setInChan_berths (l : Link) (c : InChan) : (s.setInChan l c).berths = s.berths := (rfl)
@[simp] theorem State.modOutChan_berths (l : Link) (f : OutChan → OutChan) : (s.modOutChan l f).berths = s.berths := (rfl)
@[simp] theorem State.modOp_berths (l : Link) (t : Nat) (f : Op → Op) : (s.modOp l t f).berths = s.berths := (rfl)
@[simp] theorem State.modItem_berths (r : ItemRef) (f : Item → Item) : (s.modItem r f).berths = s.berths := (rfl)
@[simp] theorem State.setPhase_berths (r : ItemRef) (p : Phase) : (s.setPhase r p).berths = s.berths := (rfl)
@[simp] theorem State.modSegment_berths (n : InstrNum) (f : Segment → Segment) : (s.modSegment n f).berths = s.berths := (rfl)
@[simp] theorem State.modPlatter_berths (id : Nat) (f : Platter → Platter) : (s.modPlatter id f).berths = s.berths := (rfl)
@[simp] theorem State.useFree_berths : s.useFree.berths = s.berths := (rfl)
@[simp] theorem State.setLoc_berths (id : Nat) (l : PlatterLoc) : (s.setLoc id l).berths = s.berths := (rfl)
@[simp] theorem State.modSide_berths (ps : PlatterSide) (f : SideRec → SideRec) : (s.modSide ps f).berths = s.berths := (rfl)
@[simp] theorem State.setSide_berths (ps : PlatterSide) (st : SideState) : (s.setSide ps st).berths = s.berths := (rfl)
@[simp] theorem State.carry_berths (id : Nat) : (s.carry id).berths = s.berths := (rfl)
@[simp] theorem State.releaseInst_berths (n : InstrNum) (q : FSlot) : (s.releaseInst n q).berths = s.berths := by
  simp only [State.releaseInst]; split <;> simp

/-! ## Responses, events and records of single units -/

@[simp] theorem State.respond_berths (r : Reply) (st : Status) (b : Body) : (s.respond r st b).berths = s.berths := by
  simp only [State.respond]; (repeat' split) <;> simp
@[simp] theorem State.answer_berths (r : Reply) (st : Status) : (s.answer r st).berths = s.berths := s.respond_berths r st .none

/-! ## Settings memory -/

@[simp] theorem State.beginWrite_berths : s.beginWrite.berths = s.berths := by
  simp only [State.beginWrite]; (repeat' split) <;> simp
@[simp] theorem State.askWrite_berths (c : SettingsChange) (r : Reply) : (s.askWrite c r).berths = s.berths := by simp [State.askWrite]
@[simp] theorem State.endWrite_berths (ok : Bool) : (s.endWrite ok).berths = s.berths := by
  simp only [State.endWrite]; (repeat' split) <;> simp
@[simp] theorem State.pressRelease_berths (q : LineNo) : (s.pressRelease q).berths = s.berths := (rfl)
@[simp] theorem State.printerAccept_berths (q : LineNo) : (s.printerAccept q).berths = s.berths := (rfl)
@[simp] theorem State.printerRelease_berths (q : LineNo) : (s.printerRelease q).berths = s.berths := (rfl)

/-! ## The ring, staging and the library -/

@[simp] theorem State.touchSegment_berths (n : InstrNum) : (s.touchSegment n).berths = s.berths := by
  simp only [State.touchSegment]; (repeat' split) <;> simp
@[simp] theorem State.joinSegment_berths (r : ItemRef) (n : InstrNum) : (s.joinSegment r n).berths = s.berths := by simp [State.joinSegment]
@[simp] theorem State.createSegment_berths (r : ItemRef) (n : InstrNum) (first len : Nat) :
    (s.createSegment r n first len).berths = s.berths := by
  have hjoin := fun (l : List ItemRef) (s : State) => State.foldl_berths (fun s o => s.joinSegment o n) (fun s o => by simp) l s
  simp only [State.createSegment]; split <;> simp [hjoin]
@[simp] theorem State.dropSegment_berths (n : InstrNum) : (s.dropSegment n).berths = s.berths := (rfl)
@[simp] theorem State.idleOut_berths (l : Link) : (s.idleOut l).berths = s.berths := (rfl)
@[simp] theorem State.leaveSegment_berths (r : ItemRef) (g : Segment) : (s.leaveSegment r g).berths = s.berths := by
  simp only [State.leaveSegment]; (repeat' split) <;> simp
@[simp] theorem State.command_berths (d : DriveNo) (c : DriveCmd) : (s.command d c).berths = s.berths := (rfl)
@[simp] theorem State.endCmd_berths (d : DriveNo) : (s.endCmd d).berths = s.berths := (rfl)
@[simp] theorem State.idleChan_berths (d : DriveNo) : (s.idleChan d).berths = s.berths := (rfl)
@[simp] theorem State.appendUse_berths (d : DriveNo) (u : Use) : (s.appendUse d u).berths = s.berths := (rfl)
@[simp] theorem State.removeUse_berths (d : DriveNo) (u : Use) : (s.removeUse d u).berths = s.berths := by
  simp only [State.removeUse]; (repeat' split) <;> simp
@[simp] theorem State.handOver_berths (d : DriveNo) (w : Waiter) : (s.handOver d w).berths = s.berths := by
  simp only [State.handOver]; (repeat' split) <;> simp
@[simp] theorem State.modDemands_berths (f : List Demand → List Demand) : (s.modDemands f).berths = s.berths := (rfl)
@[simp] theorem State.modDemand_berths (ps : PlatterSide) (f : Demand → Demand) : (s.modDemand ps f).berths = s.berths := (rfl)
@[simp] theorem State.dropDemand_berths (ps : PlatterSide) : (s.dropDemand ps).berths = s.berths := (rfl)
@[simp] theorem State.joinDemand_berths (q : Demand) (w : Waiter) : (s.joinDemand q w).berths = s.berths := by
  simp only [State.joinDemand]; (repeat' split) <;> simp
@[simp] theorem State.newDemand_berths (ps : PlatterSide) (w : Waiter) : (s.newDemand ps w).berths = s.berths := (rfl)
@[simp] theorem State.submit_berths (ps : PlatterSide) (w : Waiter) : (s.submit ps w).berths = s.berths := by
  simp only [State.submit]; (repeat' split) <;> simp
@[simp] theorem State.pruneDemands_berths : s.pruneDemands.berths = s.berths := (rfl)
@[simp] theorem State.leaveDemands_berths (r : ItemRef) : (s.leaveDemands r).berths = s.berths := (rfl)
@[simp] theorem State.leaveFiling_berths : s.leaveFiling.berths = s.berths := (rfl)
@[simp] theorem State.meet_berths (d : DriveNo) (q : Demand) : (s.meet d q).berths = s.berths :=
  State.foldl_berths _ (fun s w => by simp) _ _
@[simp] theorem State.meetMounted_berths (d : DriveNo) : (s.meetMounted d).berths = s.berths := by
  simp only [State.meetMounted]; (repeat' split) <;> simp
@[simp] theorem State.endFilUse_berths (d : DriveNo) : (s.endFilUse d).berths = s.berths := by simp [State.endFilUse]
@[simp] theorem State.endDemands_berths (platter : Nat) (st : Status) : (s.endDemands platter st).berths = s.berths :=
  (State.foldl_berths _ (fun s w => by cases w <;> simp) _ _).trans (by simp)
@[simp] theorem State.givePicker_berths (src : Pos) (dst : Option Pos) (flip : Bool) (p : Piece) :
    (s.givePicker src dst flip p).berths = s.berths := (rfl)
@[simp] theorem State.waitAtDrive_berths (d : DriveNo) (dst : Option Pos) (flip : Bool) (p : Piece) :
    (s.waitAtDrive d dst flip p).berths = s.berths := (rfl)
@[simp] theorem State.clearMove_berths : s.clearMove.berths = s.berths := (rfl)
@[simp] theorem State.startSweep_berths : s.startSweep.berths = s.berths := (rfl)
@[simp] theorem State.endPiece_berths : s.endPiece.berths = s.berths := by
  simp only [State.endPiece]; (repeat' split) <;> simp
@[simp] theorem State.queueReturn_berths (d : DriveNo) : (s.queueReturn d).berths = s.berths := (rfl)
@[simp] theorem State.unmount_berths (ps : PlatterSide) : (s.unmount ps).berths = s.berths := (rfl)
@[simp] theorem State.answerReset_berths (d : DriveNo) (st : Status) : (s.answerReset d st).berths = s.berths := by
  simp only [State.answerReset]; (repeat' split) <;> simp
@[simp] theorem State.answerReturn_berths (d : DriveNo) (st : Status) : (s.answerReturn d st).berths = s.berths := by
  simp only [State.answerReturn]; (repeat' split) <;> simp
@[simp] theorem State.importEnds_berths (r : Option Reply) (st : Status) (id slot : Nat) : (s.importEnds r st id slot).berths = s.berths := by
  simp only [State.importEnds]; (repeat' split) <;> simp
@[simp] theorem State.askImport_berths (r : Option Reply) : (s.askImport r).berths = s.berths := by
  simp only [State.askImport]; (repeat' split) <;> simp
@[simp] theorem State.serveMail_berths : s.serveMail.berths = s.berths := by
  simp only [State.serveMail]; (repeat' split) <;> simp

/-! ## Filing -/

@[simp] theorem State.demandSide_berths (q : FSlot) (ps : PlatterSide) : (s.demandSide q ps).berths = s.berths := by
  simp only [State.demandSide]; (repeat' split) <;> simp
@[simp] theorem State.dropUse_berths (q : FSlot) : (s.dropUse q).berths = s.berths := by
  simp only [State.dropUse]; (repeat' split) <;> simp
@[simp] theorem State.pass_berths (d : DriveNo) (p : Passed) : (s.pass d p).berths = s.berths := (rfl)
@[simp] theorem State.setChan_berths (d : DriveNo) (c : Chan) : (s.setChan d c).berths = s.berths := (rfl)
@[simp] theorem State.stage_berths (g : FilStage) : (s.stage g).berths = s.berths := (rfl)
@[simp] theorem State.startCheck_berths (d : DriveNo) (q : FSlot) : (s.startCheck d q).berths = s.berths := (rfl)
@[simp] theorem State.startHeader_berths (d : DriveNo) (q : FSlot) : (s.startHeader d q).berths = s.berths := (rfl)
@[simp] theorem State.leaveSide_berths (d : DriveNo) (next : Task) : (s.leaveSide d next).berths = s.berths := by simp [State.leaveSide]
@[simp] theorem State.headerErased_berths (d : DriveNo) (u : FilUse) : (s.headerErased d u).berths = s.berths := by simp [State.headerErased]
@[simp] theorem State.startWrite_berths (d : DriveNo) (q : FSlot) : (s.startWrite d q).berths = s.berths := by simp [State.startWrite]
@[simp] theorem State.startVerify_berths (d : DriveNo) (q : FSlot) : (s.startVerify d q).berths = s.berths := by simp [State.startVerify]

/-! ## Retrieval -/

@[simp] theorem State.cancelFill_berths (n : InstrNum) : (s.cancelFill n).berths = s.berths := by
  unfold State.cancelFill
  exact State.foldl_berths _ (fun s d => by split <;> simp) _ _
@[simp] theorem State.removeUnstarted_berths (g : Segment) (r : ItemRef) : (s.removeUnstarted g r).berths = s.berths := by
  unfold State.removeUnstarted
  exact (State.foldl_berths _ (fun s u => by dsimp only; split <;> simp) _ _).trans (by simp)
@[simp] theorem State.leaveAll_berths (r : ItemRef) : (s.leaveAll r).berths = s.berths := by
  simp only [State.leaveAll]; (repeat' split) <;> simp
@[simp] theorem State.nextTurn_berths (l : Link) (t : Nat) : (s.nextTurn l t).berths = s.berths := by
  simp only [State.nextTurn]; (repeat' split) <;> simp
@[simp] theorem State.granted_berths (r : ItemRef) (o : Op) (v : Resolved) (first : Nat) : (s.granted r o v first).berths = s.berths := by
  simp [State.granted]
@[simp] theorem State.askSpace_berths (r : ItemRef) (o : Op) (v : Resolved) : (s.askSpace r o v).berths = s.berths := by
  simp only [State.askSpace]; (repeat' split) <;> simp
@[simp] theorem State.startFill_berths (d : DriveNo) (n : InstrNum) : (s.startFill d n).berths = s.berths := by
  simp only [State.startFill]; (repeat' split) <;> simp
@[simp] theorem State.failUsers_berths (g : Segment) : (s.failUsers g).berths = s.berths := (rfl)
@[simp] theorem State.failFill_berths (d : DriveNo) (n : InstrNum) : (s.failFill d n).berths = s.berths := by
  simp only [State.failFill]; (repeat' split) <;> simp
@[simp] theorem State.endFill_berths (d : DriveNo) (n : InstrNum) : (s.endFill d n).berths = s.berths := by simp [State.endFill]
@[simp] theorem State.outTake_berths (l : Link) : (s.outTake l).berths = s.berths := by
  simp only [State.outTake]; (repeat' split) <;> simp
@[simp] theorem State.advanceOut_berths (l : Link) (g : Segment) : (s.advanceOut l g).berths = s.berths := (rfl)
@[simp] theorem State.reportStaged_berths (g : Segment) : (s.reportStaged g).berths = s.berths :=
  State.foldl_berths _ (fun s l => by split <;> simp) _ _
@[simp] theorem State.offerFrame_berths (l : Link) : (s.offerFrame l).berths = s.berths := by
  simp only [State.offerFrame]; (repeat' split) <;> simp

/-! ## Drives, picker, door and mail slot -/

@[simp] theorem State.endDemand_berths (q : Demand) (st : Status) : (s.endDemand q st).berths = s.berths :=
  (State.foldl_berths _ (fun s w => by cases w <;> simp) _ _).trans (by simp)
@[simp] theorem State.faultDemand_berths (was : Drive) (q : Demand) : (s.faultDemand was q).berths = s.berths := by
  simp only [State.faultDemand]; (repeat' split) <;> simp
@[simp] theorem State.faultPiece_berths (d : DriveNo) : (s.faultPiece d).berths = s.berths := by
  simp only [State.faultPiece]; (repeat' split) <;> simp
@[simp] theorem State.resetFailed_berths (d : DriveNo) : (s.resetFailed d).berths = s.berths := by simp [State.resetFailed]
@[simp] theorem State.reissue_berths (d : DriveNo) : (s.reissue d).berths = s.berths := by
  simp only [State.reissue]; (repeat' split) <;> simp
@[simp] theorem State.vacate_berths (d : DriveNo) : (s.vacate d).berths = s.berths := (rfl)
@[simp] theorem State.ejected_berths (d : DriveNo) : (s.ejected d).berths = s.berths := by
  simp only [State.ejected]; (repeat' split) <;> simp
@[simp] theorem State.countBlock_berths (d : DriveNo) : (s.countBlock d).berths = s.berths := (rfl)
@[simp] theorem State.holdBlock_berths (d : DriveNo) (b : List Byte) : (s.holdBlock d b).berths = s.berths := (rfl)
@[simp] theorem State.carryHeader_berths (d : DriveNo) : (s.carryHeader d).berths = s.berths := (rfl)
@[simp] theorem State.residencyExpiry_berths (d : DriveNo) : (s.residencyExpiry d).berths = s.berths := by
  simp only [State.residencyExpiry]; (repeat' split) <;> simp
@[simp] theorem State.stageBlock_berths (d : DriveNo) (n : InstrNum) : (s.stageBlock d n).berths = s.berths := by
  simp only [State.stageBlock]; (repeat' split) <;> simp
@[simp] theorem State.serveIn_berths (l : Link) : (s.serveIn l).berths = s.berths := by
  simp only [State.serveIn]; (repeat' split) <;> simp
@[simp] theorem State.emptied_berths (d : DriveNo) : (s.emptied d).berths = s.berths := by
  simp only [State.emptied]; (repeat' split) <;> simp
@[simp] theorem State.modSweep_berths (f : Sweep → Sweep) : (s.modSweep f).berths = s.berths := (rfl)
@[simp] theorem State.jamDemands_berths : s.jamDemands.berths = s.berths := by
  simp only [State.jamDemands, State.pruneDemands_berths, State.modDemands_berths]
  exact State.foldl_berths _ (fun s w => by cases w <;> simp) _ _
@[simp] theorem State.jamPiece_berths : s.jamPiece.berths = s.berths := by
  simp only [State.jamPiece]; (repeat' split) <;> simp
@[simp] theorem State.refuseMedia_berths (st : Status) : (s.refuseMedia st).berths = s.berths :=
  (State.foldl_berths _ (fun s m => by cases m <;> simp) _ _).trans (by simp)
@[simp] theorem State.mailFilled_berths : s.mailFilled.berths = s.berths := by
  simp only [State.mailFilled]; (repeat' split) <;> simp

/-! ## Frames -/

@[simp] theorem State.refuseFrame_berths (l : Link) (tag : Option Nat) (code : Nat) (st : Status) :
    (s.refuseFrame l tag code st).berths = s.berths := by simp [State.refuseFrame]
@[simp] theorem State.badFrame_berths (l : Link) (f : BadFrame) : (s.badFrame l f).berths = s.berths := by simp [State.badFrame]
@[simp] theorem State.responseSend_berths (l : Link) : (s.responseSend l).berths = s.berths := by
  simp only [State.responseSend]; (repeat' split) <;> simp
@[simp] theorem State.responseAccepted_berths (l : Link) : (s.responseAccepted l).berths = s.berths := by
  simp only [State.responseAccepted]; (repeat' split) <;> simp

/-! ## The library -/

@[simp] theorem State.moveHome_berths (d : DriveNo) (id n : Nat) (sd : Side) (p : Piece) : (s.moveHome d id n sd p).berths = s.berths := by
  simp [State.moveHome]
@[simp] theorem State.mountFetch_berths (d : DriveNo) (ps : PlatterSide) : (s.mountFetch d ps).berths = s.berths := by
  simp only [State.mountFetch]; (repeat' split) <;> simp
@[simp] theorem State.grant_berths (q : Demand) (d : DriveNo) : (s.grant q d).berths = s.berths := by
  simp only [State.grant]; (repeat' split) <;> simp
@[simp] theorem State.arbiter_berths : s.arbiter.berths = s.berths := by
  simp only [State.arbiter]; (repeat' split) <;> simp
@[simp] theorem State.homeMove_berths (d : DriveNo) (new : Option Nat) : (s.homeMove d new).berths = s.berths := by
  simp only [State.homeMove]; (repeat' split) <;> simp
@[simp] theorem State.startReturn_berths (d : DriveNo) : (s.startReturn d).berths = s.berths := by
  simp only [State.startReturn]; (repeat' split) <;> simp
@[simp] theorem State.startMedia_berths (m : MediaReq) : (s.startMedia m).berths = s.berths := by
  simp only [State.startMedia]; (repeat' split) <;> simp
@[simp] theorem State.pickerNext_berths : s.pickerNext.berths = s.berths := by
  simp only [State.pickerNext]; (repeat' split) <;> simp

/-! ## Filing: slots, attempts and turns -/

@[simp] theorem State.headTurn_berths : s.headTurn.berths = s.berths := by
  simp only [State.headTurn]; (repeat' split) <;> simp
@[simp] theorem State.startErase_berths (d : DriveNo) (q : FSlot) (f : Filing) (ps : PlatterSide) (fill : Nat) :
    (s.startErase d q f ps fill).berths = s.berths := by simp [State.startErase]
@[simp] theorem State.allocate_berths (d : DriveNo) (q : FSlot) (ps : PlatterSide) : (s.allocate d q ps).berths = s.berths := by
  simp only [State.allocate]; (repeat' split) <;> simp
@[simp] theorem State.fileGiven_berths (d : DriveNo) : (s.fileGiven d).berths = s.berths := by
  simp only [State.fileGiven]; (repeat' split) <;> simp
@[simp] theorem State.endCheck_berths (d : DriveNo) (u : FilUse) (blank : Bool) : (s.endCheck d u blank).berths = s.berths := by
  simp only [State.endCheck]; (repeat' split) <;> simp
@[simp] theorem State.headerWritten_berths (d : DriveNo) (u : FilUse) : (s.headerWritten d u).berths = s.berths := by
  simp only [State.headerWritten]; (repeat' split) <;> simp
@[simp] theorem State.admitCommit_berths (r : Reply) (q : FSlot) (p : CommitParams) (res : Bool) (fs : List Nat) (ts : List InstrNum) :
    (s.admitCommit r q p res fs ts).berths = s.berths := by
  simp only [State.admitCommit]; split <;> simp

/-! ## Retrieval: items, turns and deliveries -/

@[simp] theorem State.createOp_berths (r : Reply) (bundle : Bool) (pu : Purpose) (account : Nat) (cls : MountClass) (items : List Item) :
    (s.createOp r bundle pu account cls items).berths = s.berths := by
  have hraise := fun (l : List Item) (s : State) => State.foldl_berths (fun s _ => s.modCat (fun c => c.raiseCopy account))
    (fun s _ => by simp) l s
  simp [State.createOp, hraise]
@[simp] theorem State.endItem_berths (r : ItemRef) (st : Status) : (s.endItem r st).berths = s.berths := by
  simp only [State.endItem]; (repeat' split) <;> simp
@[simp] theorem State.itemDone_berths (r : ItemRef) : (s.itemDone r).berths = s.berths := by
  simp only [State.itemDone]; (repeat' split) <;> simp
@[simp] theorem State.abortOps_berths (l : Link) : (s.abortOps l).berths = s.berths := by
  simp only [State.abortOps, State.berths_mk, berthsOf_self]
  refine State.foldl_berths _ (fun s o => ?_) _ _
  refine State.foldl_berths _ (fun s p => ?_) _ _
  (repeat' split) <;> simp
@[simp] theorem State.turn_berths (r : ItemRef) : (s.turn r).berths = s.berths := by
  simp only [State.turn]; (repeat' split) <;> simp
@[simp] theorem State.spaceTry_berths : s.spaceTry.berths = s.berths := by
  simp only [State.spaceTry]; (repeat' split) <;> simp
@[simp] theorem State.driveNext_berths (d : DriveNo) : (s.driveNext d).berths = s.berths := by
  simp only [State.driveNext]; (repeat' split) <;> simp
@[simp] theorem State.checkMap_berths (l : Link) (r : ItemRef) (g : Segment) (v : Resolved) (range : Nat × Nat) :
    (s.checkMap l r g v range).berths = s.berths := by
  simp only [State.checkMap]; (repeat' split) <;> simp
@[simp] theorem State.dataAccepted_berths (l : Link) : (s.dataAccepted l).berths = s.berths := by
  simp only [State.dataAccepted]; (repeat' split) <;> simp
@[simp] theorem State.deliveryTimeout_berths (l : Link) : (s.deliveryTimeout l).berths = s.berths := by
  simp only [State.deliveryTimeout]; (repeat' split) <;> simp

/-! ## Drives -/

@[simp] theorem State.readyReport_berths (d : DriveNo) : (s.readyReport d).berths = s.berths := by
  simp only [State.readyReport]; (repeat' split) <;> simp
@[simp] theorem State.setUnloadTime_berths (d : DriveNo) : (s.setUnloadTime d).berths = s.berths := by
  simp only [State.setUnloadTime]; (repeat' split) <;> simp
@[simp] theorem State.mountUnloaded_berths (d : DriveNo) (ps : PlatterSide) : (s.mountUnloaded d ps).berths = s.berths := by
  simp only [State.mountUnloaded]; (repeat' split) <;> simp
@[simp] theorem State.exportUnloaded_berths (d : DriveNo) (r : Reply) (id : Nat) : (s.exportUnloaded d r id).berths = s.berths := by
  simp only [State.exportUnloaded]; (repeat' split) <;> simp
@[simp] theorem State.unloadedReport_berths (d : DriveNo) : (s.unloadedReport d).berths = s.berths := by
  simp only [State.unloadedReport]; (repeat' split) <;> simp

/-! ## The picker -/

@[simp] theorem State.putInDrive_berths (d : DriveNo) (ps : PlatterSide) : (s.putInDrive d ps).berths = s.berths := by
  simp only [State.putInDrive]; (repeat' split) <;> simp
@[simp] theorem State.evicted_berths (d : DriveNo) (ps : PlatterSide) : (s.evicted d ps).berths = s.berths := by
  simp only [State.evicted]; (repeat' split) <;> simp
@[simp] theorem State.returned_berths (d : DriveNo) : (s.returned d).berths = s.berths := by
  simp only [State.returned]; (repeat' split) <;> simp
@[simp] theorem State.importMoved_berths (r : Option Reply) (id : Nat) : (s.importMoved r id).berths = s.berths := by
  simp only [State.importMoved]; (repeat' split) <;> simp
@[simp] theorem State.exportMoved_berths (r : Reply) (id : Nat) : (s.exportMoved r id).berths = s.berths := by simp [State.exportMoved]
@[simp] theorem State.moveDone_berths : s.moveDone.berths = s.berths := by
  simp only [State.moveDone]; (repeat' split) <;> simp
@[simp] theorem State.homeLabelled_berths (d : DriveNo) (rep : LabelReport) : (s.homeLabelled d rep).berths = s.berths := by
  simp only [State.homeLabelled]; (repeat' split) <;> simp
@[simp] theorem State.importLabelled_berths (r : Option Reply) (rep : LabelReport) : (s.importLabelled r rep).berths = s.berths := by
  simp only [State.importLabelled]; (repeat' split) <;> simp

/-! ## The sweep, jams and the mail slot -/

@[simp] theorem State.loseHome_berths (n : Nat) (other : Option Nat) : (s.loseHome n other).berths = s.berths := by
  simp only [State.loseHome]; (repeat' split) <;> simp
@[simp] theorem State.sweepForeign_berths (n : Nat) : (s.sweepForeign n).berths = s.berths := by simp [State.sweepForeign]
@[simp] theorem State.sweepFound_berths (n id : Nat) : (s.sweepFound n id).berths = s.berths := by
  simp only [State.sweepFound]; split <;> simp
@[simp] theorem State.sweepSlot_berths (n : Nat) (rep : LabelReport) : (s.sweepSlot n rep).berths = s.berths := by
  simp only [State.sweepSlot]; (repeat' split) <;> simp
@[simp] theorem State.exportComplete_berths (id : Nat) : (s.exportComplete id).berths = s.berths := (rfl)
@[simp] theorem State.sweepMail_berths (rep : LabelReport) : (s.sweepMail rep).berths = s.berths := by
  simp only [State.sweepMail]; (repeat' split) <;> simp
@[simp] theorem State.mailEmptied_berths : s.mailEmptied.berths = s.berths := by
  simp only [State.mailEmptied]; (repeat' split) <;> simp
@[simp] theorem State.post_berths (e : Event) : (s.post e).berths = s.berths := by
  unfold State.post; split <;> rfl
@[simp] theorem State.postLow_berths : s.postLow.berths = s.berths := by
  simp only [State.postLow]; (repeat' split) <;> simp

/-! ## Presses refused -/

@[simp] theorem State.refusePress_berths (q : LineNo) (why : RefuseReason) : (s.refusePress q why).berths = s.berths := by
  simp [State.refusePress]

/-! ## Filing -/

@[simp] theorem State.sideSearch_berths : s.sideSearch.berths = s.berths := by
  simp only [State.sideSearch]; (repeat' split) <;> simp
@[simp] theorem State.mediaRetry_berths : s.mediaRetry.berths = s.berths := by
  simp only [State.mediaRetry]; (repeat' split) <;> simp

/-! ## Retrieval -/

@[simp] theorem State.stagingFault_berths (l : Link) (g : Segment) : (s.stagingFault l g).berths = s.berths := by
  simp only [State.stagingFault]; (repeat' split) <;> simp

/-! ## Drives, picker, door and mail slot -/

@[simp] theorem State.fillParity_berths (d : DriveNo) (n : InstrNum) : (s.fillParity d n).berths = s.berths := by simp [State.fillParity]
@[simp] theorem State.doorOpens_berths : s.doorOpens.berths = s.berths := by
  simp only [State.doorOpens]; (repeat' split) <;> simp
@[simp] theorem State.doorCloses_berths : s.doorCloses.berths = s.berths := by
  simp only [State.doorCloses]; (repeat' split) <;> simp

/-! ## Stamps, accounts and the period close -/

@[simp] theorem State.closePeriod_berths : s.closePeriod.berths = s.berths := by
  simp [State.closePeriod]
@[simp] theorem State.testClose_berths : s.testClose.berths = s.berths := by
  unfold State.testClose; split <;> simp
@[simp] theorem State.tick_berths : s.tick.berths = s.berths := by
  unfold State.tick; split <;> simp
@[simp] theorem State.issue_berths (n : InstrNum) (t : Stamp) (src : Source) : (s.issue n t src).berths = s.berths := by
  simp [State.issue]

/-! ## Attempts to file -/

@[simp] theorem State.serveMapRead_berths (parity : Bool) : (s.serveMapRead parity).berths = s.berths := by
  simp only [State.serveMapRead]; (repeat' split) <;> simp

/-! ## Outbound channels -/

@[simp] theorem State.serveOut_berths (l : Link) (parity : Bool) : (s.serveOut l parity).berths = s.berths := by
  simp only [State.serveOut]; (repeat' split) <;> simp

/-! ## Work handed over -/

@[simp] theorem State.runTask_berths (t : Task) : (s.runTask t).berths = s.berths := by
  simp only [State.runTask]; (repeat' split) <;> simp
theorem State.settleFor_berths (n : Nat) (s : State) : (State.settleFor n s).berths = s.berths := by
  induction n generalizing s with
  | zero => rfl
  | succ n ih =>
    unfold State.settleFor
    split
    · rfl
    · exact (ih _).trans (State.runTask_berths _ _)

@[simp] theorem State.settle_berths : s.settle.berths = s.berths := State.settleFor_berths _ s

/-! ## The sweep, jams and the mail slot -/

@[simp] theorem State.sweepEnd_berths : s.sweepEnd.berths = s.berths := by
  have hgone := fun (l : List Nat) (s : State) => State.foldl_berths (fun s id => (s.setLoc id .unknown).later [.unreachable id .offline])
    (fun s id => by simp) l s
  have hback := fun (l : List DriveNo) (s : State) => State.foldl_berths (fun s d => s.queueReturn d) (fun s d => by simp) l s
  simp [State.sweepEnd, hgone, hback]
@[simp] theorem State.sweepReport_berths (rep : LabelReport) : (s.sweepReport rep).berths = s.berths := by
  simp only [State.sweepReport]; (repeat' split) <;> simp
@[simp] theorem State.labelReport_berths (rep : LabelReport) : (s.labelReport rep).berths = s.berths := by
  simp only [State.labelReport]; (repeat' split) <;> simp
@[simp] theorem State.jam_berths : s.jam.berths = s.berths := by
  simp only [State.jam]; (repeat' split) <;> simp
@[simp] theorem State.pickerTimeout_berths : s.pickerTimeout.berths = s.berths := by
  simp only [State.pickerTimeout]; (repeat' split) <;> simp

/-! ## Link reset -/

@[simp] theorem State.resetEdge_berths (l : Link) : (s.resetEdge l).berths = s.berths := by
  simp [State.resetEdge]
@[simp] theorem State.linkReset_berths (l : Link) : (s.linkReset l).berths = s.berths := by
  simp only [State.linkReset]; (repeat' split) <;> simp

/-! ## Requests, presses and the close target -/

@[simp] theorem State.pressInput_berths (q : LineNo) : (s.pressInput q).berths = s.berths := by
  simp only [State.pressInput, State.takePress]; (repeat' split) <;> simp
@[simp] theorem State.closeReached_berths : s.closeReached.berths = s.berths := by
  unfold State.closeReached; (repeat' split) <;> simp
end Sys2Proof.Machine
end

section
/-!
PROOFS. Every LIVE block of the ring belongs to an occupied filing slot (R104): a slot's blocks are marked WRITTEN or DISCARDED in the change that
frees it (R105), and a block is appended for an occupied slot (R53).
-/
namespace Sys2Proof.Machine
set_option Elab.async false

/-! ## The ring and the slots -/

namespace Berths

/-- Every LIVE block belongs to an occupied slot (R104). -/
def Owned (x : Berths) : Prop := ∀ b ∈ x.ring, b.mark = .live → x.occupied b.slot = true

/-- A slot freed, with its blocks marked and the ring reclaimed (R105). -/
def vacate (x : Berths) (q : FSlot) (m : Mark) : Berths :=
  { ring := reclaimRing (x.ring.map (fun b => if b.slot = q then { b with mark := m } else b))
    occupied := Function.update x.occupied q false }

variable {x : Berths} (h : x.Owned)
include h

/-- A slot freed has no LIVE block left. -/
@[simp] theorem Owned.vacate (q : FSlot) {m : Mark} (hm : m ≠ .live) : (x.vacate q m).Owned := by
  intro b hb hlive
  have hmarked : b ∈ x.ring.map (fun b => if b.slot = q then { b with mark := m } else b) := (List.dropWhile_sublist _).mem hb
  obtain ⟨c, hc, rfl⟩ := List.mem_map.1 hmarked
  by_cases hq : c.slot = q
  · rw [if_pos hq] at hlive
    exact absurd hlive hm
  · rw [if_neg hq] at hlive ⊢
    exact (Function.update_of_ne hq _ _).trans (h c hc hlive)

/-- A slot occupied. -/
theorem Owned.occupy (q : FSlot) : Owned ⟨x.ring, Function.update x.occupied q true⟩ := by
  intro b hb hlive
  by_cases hq : b.slot = q
  · rw [hq]
    exact Function.update_self _ _ _
  · exact (Function.update_of_ne hq _ _).trans (h b hb hlive)

/-- A block appended for an occupied slot. -/
theorem Owned.append {b : RingBlock} (hb : x.occupied b.slot = true) : Owned ⟨x.ring ++ [b], x.occupied⟩ := by
  intro c hc hlive
  rcases List.mem_append.1 hc with hc | hc
  · exact h c hc hlive
  · obtain rfl := List.mem_singleton.1 hc
    exact hb

end Berths

theorem State.ringOwned_iff (s : State) : s.RingOwned ↔ s.berths.Owned :=
  forall₃_congr fun _ _ _ => Option.isSome_iff_ne_none.symm

/-- A ring without blocks. -/
theorem berthsOf_nil_owned (t : Four (Option Filing)) : (berthsOf [] t).Owned := fun _ hb => nomatch hb

section
variable (s : State)

@[simp] theorem State.discardSlot_berths (q : FSlot) (n : InstrNum) : (s.discardSlot q n).berths = s.berths.vacate q .discarded := by
  have hfree : ∀ t : State, (t.freeSlot q).berths = ⟨t.berths.ring, Function.update t.berths.occupied q false⟩ := fun t => berthsOf_set _ _ _ _
  have hmark : (s.markSlot q .discarded).berths = ⟨(s.berths.vacate q .discarded).ring, s.berths.occupied⟩ := rfl
  rw [State.discardSlot, hfree, State.releaseInst_berths, hmark]
  rfl

@[simp] theorem State.recordCommit_berths (d : DriveNo) (q : FSlot) (f : Filing) (c : Commit) (l : Location) :
    (s.recordCommit d q f c l).berths = s.berths.vacate q .written := by
  have hfree : ∀ t : State, (t.freeSlot q).berths = ⟨t.berths.ring, Function.update t.berths.occupied q false⟩ := fun t => berthsOf_set _ _ _ _
  have hmark : ∀ t : State, (t.markSlot q .written).berths = ⟨(t.berths.vacate q .written).ring, t.berths.occupied⟩ := fun _ => rfl
  simp only [State.recordCommit, State.later_berths, State.respond_berths, hfree, State.endFilUse_berths, hmark]
  rfl

end

section
variable {s : State} (h : s.berths.Owned)
include h

/-! ## Filing -/

@[simp] theorem State.abandonSlot_owned (q : FSlot) : (s.abandonSlot q).berths.Owned := by
  simp only [State.abandonSlot]; (repeat' split) <;> simp [h]
@[simp] theorem State.eraseDone_owned (d : DriveNo) (q : FSlot) : (s.eraseDone d q).berths.Owned := by
  simp only [State.eraseDone]; split <;> simp [h]
@[simp] theorem State.writeDone_owned (d : DriveNo) (q : FSlot) : (s.writeDone d q).berths.Owned := by
  simp only [State.writeDone]; split <;> simp [h]
@[simp] theorem State.verifyDone_owned (d : DriveNo) (q : FSlot) : (s.verifyDone d q).berths.Owned := by
  simp only [State.verifyDone]; (repeat' split) <;> simp [h]
@[simp] theorem State.afterFailure_owned (d : DriveNo) (q : FSlot) (ps : PlatterSide) : (s.afterFailure d q ps).berths.Owned := by
  simp only [State.afterFailure, State.writeFailed]; (repeat' split) <;> simp [h]
@[simp] theorem State.failAttempt_owned (d : DriveNo) (u : FilUse) : (s.failAttempt d u).berths.Owned := by
  simp only [State.failAttempt]; split <;> simp [h]
@[simp] theorem State.headerFailed_owned (d : DriveNo) (u : FilUse) : (s.headerFailed d u).berths.Owned := by
  simp only [State.headerFailed]; split <;> simp [h]
@[simp] theorem State.filFault_owned (d : DriveNo) (u : FilUse) : (s.filFault d u).berths.Owned := by
  simp only [State.filFault]; (repeat' split) <;> simp [h]
@[simp] theorem State.idleExpiry_owned (q : FSlot) : (s.idleExpiry q).berths.Owned := by
  simp only [State.idleExpiry]; (repeat' split) <;> simp [h]

/-! ## Drives and the port -/

@[simp] theorem State.faultUse_owned (d : DriveNo) (u : Use) : (s.faultUse d u).berths.Owned := by
  simp only [State.faultUse]; (repeat' split) <;> simp [h]

omit h in
theorem State.foldl_owned {α : Type} (f : State → α → State) (hf : ∀ s a, s.berths.Owned → (f s a).berths.Owned) (l : List α) (s : State)
    (h : s.berths.Owned) : (l.foldl f s).berths.Owned := by
  induction l generalizing s with
  | nil => exact h
  | cons a l ih => exact ih _ (hf s a h)

@[simp] theorem State.faultDrive_owned (d : DriveNo) (timeout : Bool) : (s.faultDrive d timeout).berths.Owned := by
  have huses := fun (l : List Use) (s : State) => State.foldl_owned (fun s u => s.faultUse d u) (fun s u hs => by simp [hs]) l s
  have hdemands := fun (was : Drive) (l : List Demand) (s : State) => State.foldl_berths (fun s q => s.faultDemand was q) (fun s q => by simp) l s
  simp only [State.faultDrive]; (repeat' split) <;> simp [hdemands, huses, h]
@[simp] theorem State.faultReport_owned (d : DriveNo) : (s.faultReport d).berths.Owned := by
  simp only [State.faultReport]; (repeat' split) <;> simp [h]
@[simp] theorem State.driveTimeout_owned (d : DriveNo) : (s.driveTimeout d).berths.Owned := by
  simp only [State.driveTimeout]; (repeat' split) <;> simp [h]
@[simp] theorem State.compare_owned (d : DriveNo) (u : FilUse) (q : FSlot) : (s.compare d u q).berths.Owned := by
  simp only [State.compare]; (repeat' split) <;> simp [h]
@[simp] theorem State.blockReport_owned (d : DriveNo) (b : BlockReport) : (s.blockReport d b).berths.Owned := by
  simp only [State.blockReport]; (repeat' split) <;> simp [h]
@[simp] theorem State.doneReport_owned (d : DriveNo) : (s.doneReport d).berths.Owned := by
  simp only [State.doneReport]; (repeat' split) <;> simp [h]
@[simp] theorem State.mediumError_owned (d : DriveNo) : (s.mediumError d).berths.Owned := by
  simp only [State.mediumError]; (repeat' split) <;> simp [h]
@[simp] theorem State.unreadable_owned (d : DriveNo) : (s.unreadable d).berths.Owned := by
  simp only [State.unreadable]; (repeat' split) <;> simp [h]
@[simp] theorem State.serveDrive_owned (d : DriveNo) (parity : Bool) : (s.serveDrive d parity).berths.Owned := by
  simp only [State.serveDrive, State.readRing]; (repeat' split) <;> simp [h]
@[simp] theorem State.portMove_owned (parity : Bool) : (s.portMove parity).berths.Owned := by
  simp only [State.portMove]; (repeat' split) <;> simp [h]

/-! ## Requests -/

@[simp] theorem handleOpenFiling_owned (r : Reply) (o : OptField) : (handleOpenFiling s r o).berths.Owned := by
  simp only [handleOpenFiling]
  (repeat' split) <;> simp only [State.answer_berths, State.respond_berths, h]
  rename_i n _ q _
  rw [State.setFiling, State.berths_mk, berthsOf_set]
  exact h.occupy q

omit h in
/-- A slot's owner finds it occupied (R53, R56). -/
theorem State.occupied_of_ownSlot {s : State} {n : Nat} {l : Link} {q : FSlot} {f : Filing} (h : s.ownSlot n l = .ok (q, f)) :
    s.berths.occupied q = true := by
  have hslot : s.slotOf n = some (q, f) := by
    unfold State.ownSlot at h
    split at h
    · cases h
    · rename_i q' f' he
      split at h
      · cases h
      · split at h
        · cases h
        · obtain ⟨rfl, rfl⟩ := Prod.mk.inj (Except.ok.inj h)
          exact he
  obtain ⟨k, -, hk⟩ := Option.bind_eq_some_iff.1 hslot
  obtain ⟨g, hg, hqf⟩ := Option.map_eq_some_iff.1 hk
  obtain ⟨rfl, rfl⟩ := Prod.mk.inj hqf
  exact Option.isSome_iff_exists.2 ⟨_, hg⟩

@[simp] theorem handleFeed_owned (r : Reply) (slot pageStart : Nat) (block : List Byte) : (handleFeed s r slot pageStart block).berths.Owned := by
  simp only [handleFeed]
  (repeat' split) <;> try simp only [State.answer_berths, State.modFiling_berths, h]
  rename_i flag hflag q f hown hlong hfull
  simp only [State.admitFeed, State.respond_berths, State.setInChan_berths, State.modFiling_berths]
  exact h.append (State.occupied_of_ownSlot hown)

@[simp] theorem handleAbandon_owned (r : Reply) (n : Nat) : (handleAbandon s r n).berths.Owned := by
  simp only [handleAbandon]; (repeat' split) <;> simp [h]

/-- Only OPEN_FILING, FEED and ABANDON_FILING change the berths. -/
theorem State.handle_owned (r : Reply) (q : Request) : (s.handle r q).berths.Owned := by
  cases q <;> simp only [State.handle, handleOpenFiling_owned h, handleFeed_owned h, handleAbandon_owned h]
  all_goals
    simp only [handleLookup, handlePendingList, handleFolioSearch, handleRestore, handleCatalogueReady, handleSettingsSet, handleClockRead,
      handleClockLoad, handleClockStep, handleClockTrim, handleCloseTargetSet, handleLodge, State.answerSchedules, handleScheduleSet,
      State.answerAccount, accountCreate, accountChange, accountReset, accountDelete, handleAccountSet, handleAccountRead, handlePeriodTake,
      handlePeriodClear, handleImport, handleExport, handleSubstitute, handleDriveReset, handleCommit, handleWithdraw, handleCloseSide, handleFetch,
      handleBundle, handleQuote, handleStatus, handleRightsSet, handleEventsRead, handleEventsAck, handleEventsEnable]
    (repeat' split) <;> simp [h]

/-! ## Frames -/

@[simp] theorem State.route_owned (r : Reply) (q : Request) : (s.route r q).berths.Owned := by
  unfold State.route
  repeat' split
  · simp [h]
  · simp [h]
  · exact State.handle_owned h r q

@[simp] theorem State.takeRequest_owned (l : Link) (tag : Nat) (q : Request) : (s.takeRequest l tag q).berths.Owned := by
  simp only [State.takeRequest]; (repeat' split) <;> simp [h]

@[simp] theorem State.takeInput_owned (l : Link) (i : LaneInput) : (s.takeInput l i).berths.Owned := by
  cases i <;> simp [State.takeInput, h]

@[simp] theorem State.drain_owned (l : Link) : (s.drain l).berths.Owned :=
  State.drain_keeps (P := fun s => s.berths.Owned) (fun s l i _ hs _ => State.takeInput_owned (by simpa using hs) l i) s l h

@[simp] theorem State.drainAll_owned : s.drainAll.berths.Owned :=
  State.drain_owned (State.drain_owned (State.drain_owned h .l0) .l1) .l2

@[simp] theorem State.arrive_owned (l : Link) (i : LaneInput) : (s.arrive l i).berths.Owned := by
  unfold State.arrive; (repeat' split) <;> simp [h]

@[simp] theorem State.linkRelease_owned (l : Link) : (s.linkRelease l).berths.Owned := by simp [State.linkRelease, h]

@[simp] theorem State.linksStart_owned : s.linksStart.berths.Owned := by
  have hpost := fun (l : List Event) (s : State) => State.foldl_berths (fun s e => s.post e) (fun s e => by simp) l s
  simp only [State.linksStart]; (repeat' split) <;> simp [hpost, h]

@[simp] theorem State.whenPowered_owned {t : State} (ht : t.berths.Owned) : (s.whenPowered t).berths.Owned := by
  unfold State.whenPowered; split
  · exact ht
  · exact h

/-! ## The supply -/

omit h in
@[simp] theorem State.startMechanics_berths (s : State) (p : PowerOn) : (s.startMechanics p).berths = s.berths := by
  unfold State.startMechanics
  dsimp only
  (repeat' split) <;> simp

omit h in
/-- The ring is empty once the memories have started. -/
theorem State.startMemory_owned (s : State) (p : PowerOn) : (s.startMemory p).berths.Owned := berthsOf_nil_owned _

@[simp] theorem State.powerOn_owned (p : PowerOn) : (s.powerOn p).berths.Owned := by
  unfold State.powerOn
  split
  · simp [s.startMemory_owned p]
  · exact h

@[simp] theorem State.powerFail_owned (c : PowerCut) : (s.powerFail c).berths.Owned := by
  unfold State.powerFail
  split
  · exact h
  · exact berthsOf_nil_owned _

/-- Every command keeps the ring's blocks with occupied slots. -/
theorem exec_owned {i : Instr} {t : State} (hi : exec i s = .next t) : t.berths.Owned := by
  cases hq : requestOf i with
  | some v =>
    obtain ⟨l, g, q⟩ := v
    rw [exec_request i l g q hq s] at hi
    obtain rfl := Host.Outcome.next.inj hi
    simp [h]
  | none =>
    cases i <;> simp only [requestOf, reduceCtorEq] at hq
    all_goals
      obtain rfl := Host.Outcome.next.inj hi
      try split
      all_goals simp [h]

end

/-- Settles O11: blocks are appended for occupied slots only, and a slot is freed in the change that marks its blocks. -/
theorem liveBlocksOwnedKept : Obligations.LiveBlocksOwnedKept := by
  intro s t hs hstep
  unfold step at hstep
  split at hstep
  · obtain rfl := Host.Outcome.next.inj hstep
    exact hs
  · rename_i rest _
    exact t.ringOwned_iff.2 (exec_owned (s := { s with pending := rest }) (s.ringOwned_iff.1 hs) hstep)

end Sys2Proof.Machine
end

section
/-!
PROOFS. A drive's reports of blocks and of DONE in a fill and in an erase pass (R70, R94, R112, R126).
-/
namespace Sys2Proof.Machine
set_option Elab.async false

section
variable {s : State} {d : DriveNo}

/-! ## Block reports -/

/-- A block of a fill's read is held for the port (R112). -/
theorem State.blockReport_fill {n : InstrNum} {a len : Nat} (hr : s.role d = .fill n) (hc : (s.lib.drives.get d).cmd = some (.read a len))
    (hn : (s.lib.drives.get d).reported < len) (b : List Byte) : s.blockReport d (.data b) = s.holdBlock d b := by
  have hmore : ¬ (DriveCmd.read a len).len ≤ (s.lib.drives.get d).reported := Nat.not_le.2 hn
  simp only [State.blockReport, State.drive, hc, hr, if_neg hmore]

/-- A block of FIL's erase counts (R126). -/
theorem State.blockReport_erase {u : FilUse} {a len : Nat} (hr : s.role d = .fil u) (hc : (s.lib.drives.get d).cmd = some (.erase a len))
    (hn : (s.lib.drives.get d).reported < len) : s.blockReport d .passed = s.countBlock d := by
  have hmore : ¬ (DriveCmd.erase a len).len ≤ (s.lib.drives.get d).reported := Nat.not_le.2 hn
  simp only [State.blockReport, State.drive, hc, hr, if_neg hmore]

/-- No block is due: no command runs, or it has had its blocks. -/
theorem State.blockReport_undue
    (h : (s.lib.drives.get d).cmd = none ∨ ∃ c, (s.lib.drives.get d).cmd = some c ∧ c.len ≤ (s.lib.drives.get d).reported) (b : BlockReport) :
    s.blockReport d b = s := by
  obtain hc | ⟨c, hc, hall⟩ := h
  · simp only [State.blockReport, State.drive, hc]
  · simp only [State.blockReport, State.drive, hc]
    exact if_pos hall

/-! ## DONE -/

variable (hstale : (s.lib.drives.get d).staleDone = false)
include hstale

theorem State.doneReport_idle (hc : (s.lib.drives.get d).cmd = none) : s.doneReport d = s := by
  simp only [State.doneReport, State.drive, hstale, hc]
  cases s.role d <;> rfl

/-- A fill whose blocks are not all staged keeps its channel after the drive's DONE (R94). -/
theorem State.doneReport_fill {i : InstrNum} {a n : Nat} (hr : s.role d = .fill i) (hc : (s.lib.drives.get d).cmd = some (.read a n))
    (hn : n ≤ (s.lib.drives.get d).reported) (hleft : (s.driveChans.get d).chan.remaining ≠ 0) : s.doneReport d = s.endCmd d := by
  have hchan : (s.endCmd d).driveChans = s.driveChans := rfl
  simp only [State.doneReport, State.drive, hstale, hc, hr, Bool.false_eq_true, if_false, if_neg (Nat.not_lt.2 hn), hchan, if_neg hleft]

/-- The erase pass of a slot's extent is done. -/
theorem State.doneReport_erase {u : FilUse} {q : FSlot} {a n : Nat} (hr : s.role d = .fil u) (hc : (s.lib.drives.get d).cmd = some (.erase a n))
    (hg : u.stage = .erase d) (hq : u.slot = some q) : s.doneReport d = s.eraseDone d q := by
  simp only [State.doneReport, State.drive, hstale, hc, hr, hg, hq, Bool.false_eq_true, if_false]

omit hstale in
/-- The erase pass done, the write pass of the extent begins (R70 step 2). -/
theorem State.eraseDone_writes {q : FSlot} {e : Location} {u : FilUse} (he : s.extentOf q = e) (hu : s.filUse = some u)
    (hab : s.abandonPending q = false) :
    s.eraseDone d q = { s with
      lib := { s.lib with drives := s.lib.drives.set d { s.lib.drives.get d with
        state := .busy, cmd := some (.write e.start e.len), reported := 0, since := s.ref, retry := false } }
      driveChans := s.driveChans.set d { DriveChan.idle with chan := Chan.use (.slot q) (some .ring) (s.ringPos q 0) e.len .startVerify }
      filUse := some { u with stage := .write d } } := by
  simp only [State.eraseDone, hab, Bool.false_eq_true, if_false, State.startWrite, he]
  simp only [State.endCmd, State.command, State.setChan, State.stage, State.modDrive, Six.get_set_same, Six.set_set, hu, Option.map_some]

end

/-- Settles O50, report by report. -/
theorem driveBlocksAndDone : Obligations.DriveBlocksAndDone := by
  refine ⟨fun d s hs => ⟨fun a len n rest b hc hn hw => ?_, fun a len rest u hc hn hw hu => ?_, fun h b => ?_⟩,
    fun d s hs hstale => ⟨fun q f e u a n rest hc hw hu hg hq hf he hab => ?_, fun i a n rest hc hn hw hleft => ?_, fun hc => ?_⟩⟩
  · exact (exec_driveBlockReport hs d _).trans (State.next_settled (State.blockReport_fill (State.role_fill hw) hc hn b) hs.2)
  · exact (exec_driveBlockReport hs d _).trans (State.next_settled (State.blockReport_erase (State.role_fil hw hu) hc hn) hs.2)
  · exact (exec_driveBlockReport hs d b).trans (State.next_settled (State.blockReport_undue h b) hs.2)
  · have hwrites := State.eraseDone_writes (d := d) (State.extentOf_eq hf he) hu (State.abandonPending_eq hf hab)
    exact (exec_driveDoneReport hs d).trans
      (State.next_settled ((State.doneReport_erase hstale (State.role_fil hw hu) hc hg hq).trans hwrites) hs.2)
  · exact (exec_driveDoneReport hs d).trans (State.next_settled (State.doneReport_fill hstale (State.role_fill hw) hc hn hleft) hs.2)
  · exact (exec_driveDoneReport hs d).trans (State.next_settled (State.doneReport_idle hstale hc) hs.2)

end Sys2Proof.Machine
end

section
/-!
PROOFS. An item leaves a segment whose fill has started, with nothing waiting for staging space (R93, R101, R107): the segment is the most recently
used, and the item's operation, with this its last item, ends.
-/
namespace Sys2Proof.Machine
set_option Elab.async false

/-! ## The segment -/

/-- An item has left its segment, which is now the most recently used (R93, R107). -/
def State.userLeft (s : State) (r : ItemRef) (g : Segment) : State :=
  { s with segments := s.segments.filter (fun h => decide (h.inst ≠ g.inst)) ++ [{ g with users := g.users.filter (fun u => decide (u ≠ r)) }] }

/-- The work a user's leaving hands over: the segment may be one to make room with (R109). -/
def Segment.freed (g : Segment) (r : ItemRef) : List Task := if g.complete && (g.users.filter (fun u => u ≠ r)).isEmpty then [.spaceTry] else []

theorem State.segment?_only {s : State} {g : Segment} (hmem : g ∈ s.segments) (honly : ∀ h ∈ s.segments, h.inst = g.inst → h = g) :
    s.segment? g.inst = some g := by
  cases hfind : s.segments.find? (fun h => h.inst == g.inst) with
  | none => simpa using List.find?_eq_none.1 hfind g hmem
  | some h =>
    have hh := honly h (List.mem_of_find?_eq_some hfind) (by simpa using List.find?_some hfind)
    exact hfind.trans (congrArg some hh)

section
variable {s : State} {r : ItemRef} {g : Segment}

theorem State.leaveSegment_user (hseg : s.segment? g.inst = some g) (r : ItemRef) : s.leaveSegment r g = (s.userLeft r g).later (g.freed r) := by
  obtain ⟨f, hf⟩ : ∃ f : Segment → Segment, f = fun h => if h.inst = g.inst then { h with users := g.users.filter (fun u => u ≠ r) } else h := ⟨_, rfl⟩
  have hinst : ∀ h, (f h).inst = h.inst := by
    intro h
    rw [hf]
    dsimp only
    split <;> rfl
  have hfound : (s.segments.map f).find? (fun h => h.inst == g.inst) = some (f g) := by
    have hseg' : s.segments.find? (fun h => h.inst == g.inst) = some g := hseg
    rw [List.find?_map]
    simp only [Function.comp_def, hinst, hseg', Option.map_some]
  have hothers : (s.segments.map f).filter (fun h => decide (h.inst ≠ g.inst)) = s.segments.filter (fun h => decide (h.inst ≠ g.inst)) := by
    rw [List.filter_map]
    simp only [Function.comp_def, hinst]
    refine (List.map_congr_left fun h hh => ?_).trans (List.map_id _)
    rw [hf]
    exact if_neg (by simpa using (List.mem_filter.1 hh).2)
  have htouch : (s.modSegment g.inst (fun h => { h with users := g.users.filter (fun u => u ≠ r) })).touchSegment g.inst = s.userLeft r g := by
    have hmod : s.modSegment g.inst (fun h => { h with users := g.users.filter (fun u => u ≠ r) }) = { s with segments := s.segments.map f } := by
      rw [hf]
      rfl
    have hg : f g = { g with users := g.users.filter (fun u => u ≠ r) } := by
      rw [hf]
      exact if_pos rfl
    have hfound' : State.segment? { s with segments := s.segments.map f } g.inst = some (f g) := hfound
    rw [hmod]
    simp only [State.touchSegment, hfound', hothers, hg, State.userLeft]
  simp only [State.leaveSegment, htouch, Segment.freed]
  split
  · rfl
  · exact (State.later_nil _).symm

/-- An item that delivers, or is READY to, leaves its segment and its channel (R101). -/
theorem State.leaveAll_user (hf : s.spaceFifo = []) (hn : s.NotWaiting r) (hg : s.segmentOf r = some g) (hs : g.started = true)
    (hseg : s.segment? g.inst = some g) : s.leaveAll r =
      State.later { s.userLeft r g with
        outChans := if (s.outChans.get r.link).chan.op = .item r then s.outChans.set r.link OutChan.idle else s.outChans } (g.freed r) := by
  have hnone : s.spaceFifo.any (fun w => w.item == r) = false := by simp [hf]
  have hstarted : ¬(g.filler = some r ∧ (!g.started) = true) := by simp [hs]
  have hg' : s.segments.find? (fun g => g.users.contains r) = some g := hg
  by_cases hop : (s.outChans.get r.link).chan.op = .item r
  · have hserves : s.serves r = true := by simp [State.serves, hop]
    have hidle : (s.idleOut r.link).segments = s.segments := rfl
    have hseg' : (s.idleOut r.link).segment? g.inst = some g := hseg
    simp only [State.leaveAll, hnone, Bool.false_eq_true, if_false, State.leaveDemands_notWaiting hn, hserves, if_true, hidle, hg', if_neg hstarted,
      if_pos hop, State.leaveSegment_user hseg']
    rfl
  · have hserves : s.serves r = false := by simpa [State.serves] using hop
    simp only [State.leaveAll, hnone, Bool.false_eq_true, if_false, State.leaveDemands_notWaiting hn, hserves, hg', if_neg hstarted, if_neg hop,
      State.leaveSegment_user hseg]
    rfl

/-- With nothing waiting for space the work handed over for it changes nothing. -/
theorem State.Works.freed {t : State} {ts : List Task} {n : Nat} (ha : s.agenda = []) (hf : s.spaceFifo = []) (h : State.Works s ts t n) :
    ∃ m ≤ n + 1, State.Works s (g.freed r ++ ts) t m := by
  unfold Segment.freed
  split
  · exact ⟨n + 1, Nat.le_refl _, .rests ha (State.spaceTry_nil _ hf) h⟩
  · exact ⟨n, Nat.le_succ _, h⟩

/-! ## The end of an item that is not DONE -/

variable {o : Op} {i : Item} {st : Status} (hlast : s.AtLastItem o i) (ha : s.agenda = []) (hf : s.spaceFifo = []) (hn : s.NotWaiting o.ref)
  (hg : s.segmentOf o.ref = some g) (hs : g.started = true) (hseg : s.segment? g.inst = some g)
include hlast hf hn hg hs hseg

theorem State.endItem_user : s.endItem o.ref st =
    ((s.userLeft o.ref g).itemEnded o i st).later (g.freed o.ref ++ [.outTake o.reply.link, .nextTurn o.reply.link o.reply.tag]) := by
  have hops := State.setPhase_last_ops hlast st
  have hitem := State.item?_ref hlast
  obtain ⟨-, -, -, -, -, -, hended, -⟩ := hlast
  rw [← State.later_later]
  simp only [State.endItem, hitem, hended, Bool.false_eq_true, if_false, State.leaveAll_user hf hn hg hs hseg]
  cases hq : i.quote with
  | none =>
    simp only [Option.isSome_none, Bool.false_eq_true, if_false, State.itemEnded, hq, State.userLeft, ← hops]
    rfl
  | some v =>
    simp only [Option.isSome_some, if_true, State.itemEnded, hq, State.userLeft, ← hops]
    rfl

include ha

/-- A last item that ends takes its operation with it, and leaves its segment to the other users (R100, R101). -/
theorem State.endItem_user_settle (hst : st ≠ .done) : (s.endItem o.ref st).settle = (s.userLeft o.ref g).itemLost o i st := by
  have hlast' : (s.userLeft o.ref g).AtLastItem o i := hlast
  have hnext := State.nextTurn_itemEnded (st := st) hlast'
  rw [Op.finish_itemEnded hlast' hst] at hnext
  have hwork : State.Works ((s.userLeft o.ref g).itemEnded o i st) [.outTake o.reply.link, .nextTurn o.reply.link o.reply.tag]
      ((s.userLeft o.ref g).itemLost o i st) 2 :=
    .rests ha (State.outTake_itemEnded hlast') (.brings ha hnext (.nothing ha))
  obtain ⟨m, hm, hwhole⟩ := State.Works.freed (s := (s.userLeft o.ref g).itemEnded o i st) (g := g) (r := o.ref) ha hf hwork
  rw [State.endItem_user hlast hf hn hg hs hseg]
  exact hwhole.settle (by omega)

end

end Sys2Proof.Machine
end

section
/-!
PROOFS. The host's acceptance of a DATA frame, the end of a FETCH, and the delivery time-out (R97 to R101, R114).
-/
namespace Sys2Proof.Machine
set_option Elab.async false

/-! ## A FETCH -/

/-- The item of a FETCH. -/
def Op.fetchRef (o : Op) : ItemRef := ⟨o.reply.link, o.reply.tag, 1⟩

/-- The one operation of a link is a FETCH, and so is at its only item. -/
structure State.Fetches (s : State) (o : Op) : Prop where
  mem : o ∈ s.ops
  sole : ∀ p ∈ s.ops, p.reply.link = o.reply.link → p = o
  gen : (s.links.get o.reply.link).resetCount = o.reply.gen
  bundle : o.bundle = false
  current : o.current = 1

/-- The state with another item in a FETCH. -/
def State.fetchWith (s : State) (o : Op) (i : Item) : State :=
  { s with ops := s.ops.map (fun p => if p.reply.link = o.reply.link then { o with items := [i] } else p) }

section
variable {s : State} {o : Op} {i : Item}

theorem State.fetchWith_modItem (f : Item → Item) : (s.fetchWith o i).modItem o.fetchRef f = s.fetchWith o (f i) := by
  have hops : ((s.fetchWith o i).modItem o.fetchRef f).ops = (s.fetchWith o (f i)).ops := by
    simp only [State.modItem, State.modOp, State.fetchWith, Op.fetchRef, List.map_map]
    refine List.map_congr_left fun p _ => ?_
    by_cases hl : p.reply.link = o.reply.link
    · simp [hl]
    · simp [hl]
  exact congrArg (fun l => { s with ops := l }) hops

theorem State.fetchWith_setPhase (p : Phase) : (s.fetchWith o i).setPhase o.fetchRef p = s.fetchWith o { i with phase := p } := State.fetchWith_modItem _

variable (h : s.Fetches o)
include h

theorem State.Fetches.fetchWith_self (hi : o.items = [i]) : s.fetchWith o i = s := by
  have hops : s.ops.map (fun p => if p.reply.link = o.reply.link then { o with items := [i] } else p) = s.ops := by
    refine (List.map_congr_left fun p hp => ?_).trans (List.map_id _)
    by_cases hl : p.reply.link = o.reply.link
    · rw [if_pos hl, ← hi]
      exact (h.sole p hp hl).symm
    · exact if_neg hl
  simp only [State.fetchWith, hops]

theorem State.Fetches.op? : (s.fetchWith o i).op? o.reply.link o.reply.tag = some { o with items := [i] } := by
  refine State.op?_sole (o := { o with items := [i] }) (List.mem_map.2 ⟨o, h.mem, if_pos rfl⟩) fun p hp hl => ?_
  obtain ⟨p', hp', rfl⟩ := List.mem_map.1 hp
  by_cases hl' : p'.reply.link = o.reply.link
  · exact if_pos hl'
  · rw [if_neg hl'] at hl
    exact absurd hl hl'

theorem State.Fetches.item? : (s.fetchWith o i).item? o.fetchRef = some ({ o with items := [i] }, i) := by
  have hop : (s.fetchWith o i).op? o.fetchRef.link o.fetchRef.tag = _ := h.op?
  simp only [State.item?, hop]
  rfl

variable {st : Status} (hend : i.phase = .ended st)
include hend

/-- An item that has ended is not READY (R95, R114). -/
theorem State.Fetches.outTake : (s.fetchWith o i).outTake o.reply.link = s.fetchWith o i := by
  have hready : (s.fetchWith o i).readyItem o.reply.link = none := by
    refine Option.map_eq_none_iff.2 (List.find?_eq_none.2 fun p hp => ?_)
    obtain ⟨p', -, rfl⟩ := List.mem_map.1 hp
    by_cases hl : p'.reply.link = o.reply.link
    · rw [if_pos hl]
      simp [h.current, hend]
    · rw [if_neg hl]
      simp [hl]
  unfold State.outTake
  rw [hready]
  split <;> rfl

/-- With its item ended the FETCH is over, and its response is formed (R90, R100). -/
theorem State.Fetches.nextTurn : (s.fetchWith o i).nextTurn o.reply.link o.reply.tag =
    State.queued { s with ops := s.ops.filter (fun p => decide (p.reply.link ≠ o.reply.link)) } o.reply st (.item (i.entry true)) := by
  have hops : (s.fetchWith o i).ops.filter (fun p => !(p.reply.link == o.reply.link && p.reply.tag == o.reply.tag)) =
      s.ops.filter (fun p => decide (p.reply.link ≠ o.reply.link)) := by
    have hkept : s.ops.filter ((fun p : Op => !(p.reply.link == o.reply.link && p.reply.tag == o.reply.tag)) ∘
        fun p => if p.reply.link = o.reply.link then { o with items := [i] } else p) = s.ops.filter (fun p => decide (p.reply.link ≠ o.reply.link)) := by
      refine List.filter_congr fun p _ => ?_
      by_cases hl : p.reply.link = o.reply.link
      · simp [hl]
      · simp [hl]
    rw [State.fetchWith, List.filter_map, hkept]
    refine (List.map_congr_left fun p hp => ?_).trans (List.map_id _)
    exact if_neg (by simpa using (List.mem_filter.1 hp).2)
  have hended : i.hasEnded = true := by simp [Item.hasEnded, hend]
  have hstatus : i.status = st := by simp [Item.status, hend]
  simp only [State.nextTurn, h.op?, h.current, hops, Op.finish, h.bundle, hstatus]
  refine (if_neg (by simp [hended])).trans ?_
  exact State.respond_eq_queued { s with ops := s.ops.filter (fun p => decide (p.reply.link ≠ o.reply.link)) } o.reply _ _ h.gen

/-- The work that ends a FETCH whose item has ended. -/
theorem State.Fetches.works (ha : s.agenda = []) : State.Works (s.fetchWith o i) [.outTake o.reply.link, .nextTurn o.reply.link o.reply.tag]
    (State.queued { s with ops := s.ops.filter (fun p => decide (p.reply.link ≠ o.reply.link)) } o.reply st (.item (i.entry true))) 2 :=
  .rests ha (h.outTake hend) (.brings ha (h.nextTurn hend) (.nothing ha))

end

/-! ## The last block of a FETCH -/

/-- Catalogue memory after a delivered item's end, a copy's or a view's (R99). -/
theorem CatMem.delivered_eq {c : CatMem} {account : Nat} {i : Item} {v : Resolved} (hv : i.resolved = some v) : c.delivered account i =
    match i.quote with
    | some q => c.copyMade account q v.inst
    | none => c := by
  cases hq : i.quote with
  | none => simp only [CatMem.delivered, Item.copyDone, hq]
  | some q => simp only [CatMem.delivered, Item.copyDone, hq, hv]

/-- The item of a copy with its receipt (R99). -/
def Item.receipted (i : Item) (receipt : Quote → Receipt) : Item :=
  { i with receipt := match i.quote with | some q => some (receipt q) | none => i.receipt }

/-- The item after its last block: it is DONE, a copy with its receipt (R97, R99). -/
def Item.lastReceived (i : Item) (receipt : Quote → Receipt) : Item :=
  { i.receipted receipt with delivered := i.delivered + 1, phase := .ended .done }

/-- The receipt of a copy of an operation, as things stand (R99). -/
def State.receiptOf (s : State) (o : Op) (q : Quote) : Receipt := { account := o.account, period := s.cat.period, quote := q, stamp := s.clock.now }

/-- An item has left its segment and its outbound channel (R101). -/
def State.delivererLeft (s : State) (r : ItemRef) (g : Segment) : State := { s.userLeft r g with outChans := s.outChans.set r.link OutChan.idle }

section
variable {s : State} {o : Op} {i : Item} {v : Resolved} {g : Segment}

section
variable (hf : s.spaceFifo = []) (hn : s.NotWaiting o.fetchRef) (hg : s.segmentOf o.fetchRef = some g) (hs : g.started = true)
  (hseg : s.segment? g.inst = some g) (hop : (s.outChans.get o.reply.link).chan.op = .item o.fetchRef)
include hf hn hg hs hseg hop

/-- A FETCH whose item has been charged leaves segment and channel. -/
theorem State.fetchWith_leaves : (((s.fetchWith o i).leaveAll o.fetchRef).setPhase o.fetchRef (.ended .done)).later
      [.outTake o.reply.link, .nextTurn o.reply.link o.reply.tag] =
    ((s.delivererLeft o.fetchRef g).fetchWith o { i with phase := .ended .done }).later
      (g.freed o.fetchRef ++ [.outTake o.reply.link, .nextTurn o.reply.link o.reply.tag]) := by
  have hop' : ((s.fetchWith o i).outChans.get o.fetchRef.link).chan.op = .item o.fetchRef := hop
  rw [State.leaveAll_user (s := s.fetchWith o i) hf hn hg hs hseg, if_pos hop', ← State.later_later,
    ← State.fetchWith_setPhase (s := s.delivererLeft o.fetchRef g) (i := i) (.ended .done)]
  rfl

/-- A FETCH whose item has been charged is over (R99, R100). -/
theorem State.Fetches.leaves_settle (h : s.Fetches o) (ha : s.agenda = []) :
    ((((s.fetchWith o i).leaveAll o.fetchRef).setPhase o.fetchRef (.ended .done)).later
      [.outTake o.reply.link, .nextTurn o.reply.link o.reply.tag]).settle =
    State.queued { s.delivererLeft o.fetchRef g with ops := s.ops.filter (fun p => decide (p.reply.link ≠ o.reply.link)) } o.reply .done
      (.item (({ i with phase := .ended .done } : Item).entry true)) := by
  obtain ⟨hmem, hsole, hgen, hbundle, hcurrent⟩ := h
  have hleft : (s.delivererLeft o.fetchRef g).Fetches o := ⟨hmem, hsole, hgen, hbundle, hcurrent⟩
  have hworks := hleft.works (i := { i with phase := .ended .done }) rfl ha
  obtain ⟨m, hm, hwhole⟩ := State.Works.freed (s := (s.delivererLeft o.fetchRef g).fetchWith o { i with phase := .ended .done }) (g := g)
    (r := o.fetchRef) ha hf hworks
  rw [State.fetchWith_leaves hf hn hg hs hseg hop]
  exact hwhole.settle (by omega)

end

/-- The end of a delivered item: a copy is charged and has its receipt, and the item leaves (R99). -/
theorem State.Fetches.itemDone_eq (h : s.Fetches o) (hv : i.resolved = some v) : (s.fetchWith o i).itemDone o.fetchRef =
    ((((State.fetchWith { s with cat := s.cat.delivered o.account i } o (i.receipted (s.receiptOf o))).leaveAll o.fetchRef).setPhase o.fetchRef
      (.ended .done)).later [.outTake o.reply.link, .nextTurn o.reply.link o.reply.tag]) := by
  cases hq : i.quote with
  | none =>
    have hcopy : i.copyDone = none := by simp only [Item.copyDone, hq]
    have hreceipt : i.receipted (s.receiptOf o) = i := by
      cases i
      cases hq
      rfl
    have hcat : s.cat.delivered o.account i = s.cat := by simp only [CatMem.delivered, hcopy]
    simp only [State.itemDone, h.item?, hcopy, hreceipt, hcat]
    rfl
  | some q =>
    have hcopy : i.copyDone = some (q, v.inst) := by simp only [Item.copyDone, hq, hv]
    have hreceipt : i.receipted (s.receiptOf o) = { i with receipt := some (s.receiptOf o q) } := by simp only [Item.receipted, hq]
    have hcat : s.cat.delivered o.account i = s.cat.copyMade o.account q v.inst := by simp only [CatMem.delivered, hcopy]
    rw [hreceipt, ← State.fetchWith_modItem (fun i => { i with receipt := some (s.receiptOf o q) }), hcat]
    simp only [State.itemDone, h.item?, hcopy]
    rfl

/-- A FETCH whose last block has been accepted ends DONE (R99, R100). -/
theorem State.Fetches.done (h : s.Fetches o) (ha : s.agenda = []) (hv : i.resolved = some v) (hf : s.spaceFifo = []) (hn : s.NotWaiting o.fetchRef)
    (hg : s.segmentOf o.fetchRef = some g) (hs : g.started = true) (hseg : s.segment? g.inst = some g)
    (hop : (s.outChans.get o.reply.link).chan.op = .item o.fetchRef) : ((s.fetchWith o i).itemDone o.fetchRef).settle =
      State.queued { s.delivererLeft o.fetchRef g with
        ops := s.ops.filter (fun p => decide (p.reply.link ≠ o.reply.link))
        cat := s.cat.delivered o.account i } o.reply .done (.item (({ i.receipted (s.receiptOf o) with phase := .ended .done } : Item).entry true)) := by
  obtain ⟨hmem, hsole, hgen, hbundle, hcurrent⟩ := h
  have hcharged : State.Fetches { s with cat := s.cat.delivered o.account i } o := ⟨hmem, hsole, hgen, hbundle, hcurrent⟩
  rw [State.Fetches.itemDone_eq ⟨hmem, hsole, hgen, hbundle, hcurrent⟩ hv]
  exact State.Fetches.leaves_settle hf hn hg hs hseg hop hcharged ha

end

/-! ## Acceptance -/

/-- A channel goes on to its next block: RUNNING, behind the responses queued, where it is staged, else WAITING (R114; assumption log 17). -/
theorem State.advanceOut_eq (s : State) (l : Link) (g : Segment) : s.advanceOut l g = { s with outChans := s.outChans.set l { s.outChans.get l with
    chan := { (s.outChans.get l).chan with state := if (s.outChans.get l).chan.next < 4096 + (g.first + g.staged) then .running else .waiting }
    ahead := if (s.outChans.get l).chan.next < 4096 + (g.first + g.staged) then (s.links.get l).responses.length else (s.outChans.get l).ahead } } := by
  by_cases hstaged : (s.outChans.get l).chan.next < 4096 + (g.first + g.staged)
  · have hblock : (s.outChans.get l).chan.next < stagingBlock (g.first + g.staged) := hstaged
    simp only [State.advanceOut, State.modOutChan, if_pos hstaged, if_pos hblock]
  · have hblock : ¬(s.outChans.get l).chan.next < stagingBlock (g.first + g.staged) := hstaged
    simp only [State.advanceOut, State.modOutChan, if_neg hstaged, if_neg hblock]

section
variable {s : State} {l : Link}

theorem exec_dataAccepted (s : State) (l : Link) : exec (.dataAccepted l) s = .next (s.dataAccepted l).settle := (rfl)

theorem exec_deliveryTimeout (s : State) (l : Link) : exec (.deliveryTimeout l) s = .next (s.deliveryTimeout l).settle := (rfl)

/-- A block accepted: the lane is free, the item has one block more, and the channel is at its next (R97, R114). -/
def State.blockAccepted (s : State) (l : Link) (r : ItemRef) : State :=
  ((s.modLink l (fun k => { k with out := none })).modItem r (fun i => { i with delivered := i.delivered + 1 })).modOutChan l
    (fun c => { c with chan := { c.chan with next := c.chan.next + 1, remaining := c.chan.remaining - 1 }, frame := none })

variable {f : DataFrame} {r : ItemRef} (hout : (s.links.get l).out = some (.data f)) (hst : (s.outChans.get l).chan.state = .paused)
  (hop : (s.outChans.get l).chan.op = .item r)
include hout hst hop

theorem State.dataAccepted_more {g : Segment} (hmore : 1 < (s.outChans.get l).chan.remaining) (hg : s.segmentOf r = some g) :
    s.dataAccepted l = (s.blockAccepted l r).advanceOut l g := by
  have hg' : (s.blockAccepted l r).segmentOf r = some g := hg
  simp only [State.dataAccepted, hout, hst, hop, if_neg (Nat.not_le.2 hmore)]
  rw [State.blockAccepted] at hg' ⊢
  rw [hg']

theorem State.dataAccepted_lastBlock (hlast : (s.outChans.get l).chan.remaining = 1) : s.dataAccepted l = (s.blockAccepted l r).itemDone r := by
  simp only [State.dataAccepted, hout, hst, hop, hlast, Nat.le_refl, if_true]
  rfl

end

section
variable {s : State} {l : Link}

theorem State.deliveryTimeout_due {r : ItemRef} (hst : (s.outChans.get l).chan.state = .paused) (hop : (s.outChans.get l).chan.op = .item r)
    (hdue : (s.outChans.get l).offeredAt + 30000 ≤ s.ref) :
    s.deliveryTimeout l = (s.modLink l (fun k => { k with out := none })).endItem r .deliveryTimeout := by
  have hpassed : s.passed (s.outChans.get l).offeredAt Config.deliveryMs = true := decide_eq_true hdue
  simp only [State.deliveryTimeout, hst, hop, hpassed, if_true]

theorem State.deliveryTimeout_early (h : (s.outChans.get l).chan.state ≠ .paused ∨ s.ref < (s.outChans.get l).offeredAt + 30000) :
    s.deliveryTimeout l = s := by
  unfold State.deliveryTimeout
  dsimp only
  split
  · rename_i hst _
    have hearly : s.passed (s.outChans.get l).offeredAt Config.deliveryMs = false :=
      decide_eq_false (Nat.not_le.2 (h.resolve_left (fun hne => hne hst)))
    rw [hearly]
    rfl
  · rfl

end

/-- The channel after a block accepted that is not the item's last (R114). -/
theorem State.blockAccepted_advanceOut {s : State} {l : Link} {r : ItemRef} {g : Segment} : (s.blockAccepted l r).advanceOut l g = { s with
    links := s.links.set l { s.links.get l with out := none }
    ops := s.ops.map (fun o => if o.reply.link = r.link ∧ o.reply.tag = r.tag
      then { o with items := o.items.modify (r.pos - 1) (fun i => { i with delivered := i.delivered + 1 }) } else o)
    outChans := s.outChans.set l { s.outChans.get l with
      chan := { (s.outChans.get l).chan with
        next := (s.outChans.get l).chan.next + 1
        remaining := (s.outChans.get l).chan.remaining - 1
        state := if (s.outChans.get l).chan.next + 1 < 4096 + (g.first + g.staged) then .running else .waiting }
      frame := none
      ahead := if (s.outChans.get l).chan.next + 1 < 4096 + (g.first + g.staged) then (s.links.get l).responses.length else (s.outChans.get l).ahead } } := by
  rw [State.advanceOut_eq]
  simp only [State.blockAccepted, State.modOutChan, State.modItem, State.modOp, State.modLink, Three.get_set_same, Three.set_set]

theorem Waiter.item?_eq {w : Waiter} {r : ItemRef} (h : w.item? = some r) : ∃ cls age, w = .item r cls age := by
  cases w with
  | filing q => cases h
  | item r' cls age =>
    cases h
    exact ⟨cls, age, rfl⟩

/-- The obligation's way to say that an item waits for no side. -/
theorem State.notWaiting_of {s : State} {r : ItemRef}
    (h : ∀ q ∈ s.lib.demands, (q.mounting = none → q.waiters ≠ []) ∧ ∀ cls age, Waiter.item r cls age ∉ q.waiters) : s.NotWaiting r := by
  refine ⟨fun q hq => (h q hq).1, fun q hq w hw hr => ?_⟩
  obtain ⟨cls, age, rfl⟩ := Waiter.item?_eq hr
  exact (h q hq).2 cls age hw

section
variable {s : State} {o : Op} {i : Item} {g : Segment} (ha : s.agenda = []) (hitems : o.items = [i]) (hf : s.spaceFifo = [])
  (hn : s.NotWaiting o.fetchRef) (hg : s.segmentOf o.fetchRef = some g) (hs : g.started = true)
  (honly : ∀ h ∈ s.segments, h.inst = g.inst → h = g) (hst : (s.outChans.get o.reply.link).chan.state = .paused)
  (hop : (s.outChans.get o.reply.link).chan.op = .item o.fetchRef)
include ha hitems hf hn hg hs honly hst hop

/-- The last block of a FETCH accepted (R97, R99, R100). -/
theorem State.Fetches.dataAccepted_done {f : DataFrame} {v : Resolved} (h : s.Fetches o) (hv : i.resolved = some v)
    (hout : (s.links.get o.reply.link).out = some (.data f)) (hlast : (s.outChans.get o.reply.link).chan.remaining = 1) :
    (s.dataAccepted o.reply.link).settle = { s with
      links := s.links.set o.reply.link { s.links.get o.reply.link with
        out := none
        responses := (s.links.get o.reply.link).responses ++
          [{ tag := some o.reply.tag, code := o.reply.code, status := .done, body := .item ((i.lastReceived (s.receiptOf o)).entry true) }] }
      ops := s.ops.filter (fun p => decide (p.reply.link ≠ o.reply.link))
      cat := s.cat.delivered o.account i
      segments := s.segments.filter (fun h => decide (h.inst ≠ g.inst)) ++ [{ g with users := g.users.filter (fun u => decide (u ≠ o.fetchRef)) }]
      outChans := s.outChans.set o.reply.link OutChan.idle } := by
  obtain ⟨hmem, hsole, hgen, hbundle, hcur⟩ := h
  obtain ⟨u, hu⟩ : ∃ u : State, u = (s.modLink o.reply.link (fun k => { k with out := none })).modOutChan o.reply.link
    (fun c => { c with chan := { c.chan with next := c.chan.next + 1, remaining := c.chan.remaining - 1 }, frame := none }) := ⟨_, rfl⟩
  have hfetch : u.Fetches o := by
    rw [hu]
    exact ⟨hmem, hsole, (congrArg LinkRec.resetCount (Three.get_set_same _ _ _)).trans hgen, hbundle, hcur⟩
  have haccepted : s.blockAccepted o.reply.link o.fetchRef = u.fetchWith o { i with delivered := i.delivered + 1 } := by
    rw [← State.fetchWith_modItem (fun i => { i with delivered := i.delivered + 1 }), hfetch.fetchWith_self hitems, hu]
    rfl
  have hop' : (u.outChans.get o.reply.link).chan.op = .item o.fetchRef := by
    rw [hu]
    exact (congrArg (fun c : OutChan => c.chan.op) (Three.get_set_same _ _ _)).trans hop
  have hends := hfetch.done (i := { i with delivered := i.delivered + 1 }) (g := g) (by rw [hu]; exact ha) hv (by rw [hu]; exact hf)
    (by rw [hu]; exact hn) (by rw [hu]; exact hg) hs (by rw [hu]; exact State.segment?_only (List.mem_of_find?_eq_some hg) honly) hop'
  have hreceipt : u.receiptOf o = s.receiptOf o := by
    rw [hu]
    rfl
  rw [State.dataAccepted_lastBlock hout hst hop hlast, haccepted, hends, hreceipt, hu]
  simp only [State.queued, State.modLink, State.delivererLeft, State.userLeft, State.modOutChan, Op.fetchRef, Three.get_set_same, Three.set_set]
  rfl

/-- The item of a FETCH given up for want of acceptance (R98, R101). -/
theorem State.Fetches.deliveryTimeout_lost (h : s.Fetches o) (hended : i.hasEnded = false)
    (hdue : (s.outChans.get o.reply.link).offeredAt + 30000 ≤ s.ref) : (s.deliveryTimeout o.reply.link).settle =
      State.itemLost { s.userLeft o.ref g with links := s.links.set o.reply.link { s.links.get o.reply.link with out := none } } o i .deliveryTimeout := by
  obtain ⟨hmem, hsole, hgen, hbundle, hcur⟩ := h
  obtain ⟨u, hu⟩ : ∃ u : State, u = s.modLink o.reply.link (fun k => { k with out := none }) := ⟨_, rfl⟩
  have hlast : u.AtLastItem o i := by
    rw [hu]
    exact ⟨hmem, hsole, (congrArg LinkRec.resetCount (Three.get_set_same _ _ _)).trans hgen, by omega, by simp [hitems, hcur],
      by simp [hitems, hcur], hended, fun _ => hcur⟩
  have href : o.ref = o.fetchRef := by simp [Op.ref, Op.fetchRef, hcur]
  have hends := State.endItem_user_settle (st := .deliveryTimeout) (g := g) hlast (by rw [hu]; exact ha) (by rw [hu]; exact hf)
    (by rw [hu, href]; exact hn) (by rw [hu, href]; exact hg) hs
    (by rw [hu]; exact State.segment?_only (List.mem_of_find?_eq_some hg) honly) (by decide)
  rw [State.deliveryTimeout_due hst hop hdue, ← href, ← hu, hends, hu]
  rfl

end

/-- Settles O42: by what the acceptance, or its time-out, leaves of the channel and of the item. -/
theorem deliveryAccepted : Obligations.DeliveryAccepted := by
  refine ⟨?_, ?_, ?_⟩
  · intro l s f r g ha hout c hst hop hmore hg next staged c'
    rw [exec_dataAccepted, State.dataAccepted_more hout hst hop hmore hg]
    exact State.next_settled State.blockAccepted_advanceOut ha
  · intro l s f o i v g ha hout hmem hsole hl hgen hbundle hitems hcur hended hv r c hst hop hlast hg honly hs hf hn receipt i' add charge
    subst hl
    have hfetch : s.Fetches o := ⟨hmem, hsole, hgen, hbundle, hcur⟩
    have hcharge : charge s.cat = s.cat.delivered o.account i := (CatMem.delivered_eq hv).symm
    rw [hcharge]
    exact congrArg Host.Outcome.next
      (hfetch.dataAccepted_done ha hitems hf (State.notWaiting_of hn) hg hs honly hst hop hv hout hlast)
  · intro l s ha
    refine ⟨?_, fun h => ?_⟩
    · intro o i g hmem hsole hl hgen hbundle hitems hcur hended r c hst hop hdue hg honly hs hf hn release
      subst hl
      have hfetch : s.Fetches o := ⟨hmem, hsole, hgen, hbundle, hcur⟩
      have href : o.ref = r := by simp [Op.ref, hcur, r]
      have hop' : (s.outChans.get o.reply.link).chan.op = .item r := hop
      rw [exec_deliveryTimeout, hfetch.deliveryTimeout_lost ha hitems hf (State.notWaiting_of hn) hg hs honly hst hop hended hdue]
      simp only [State.itemLost, State.queued, State.modLink, State.userLeft, hbundle, href, hop', Three.get_set_same, Three.set_set, if_true,
        if_false, Bool.false_eq_true]
      rfl
    · rw [exec_deliveryTimeout, State.deliveryTimeout_early h, State.settle_nil s ha]

end Sys2Proof.Machine
end

section
/-!
PROOFS. The buffer port moves a block to buffer memory: an inbound channel's to its place in the ring, and a fill's to its place in staging, with
what follows its being staged (R93, R94, R112, R113, R116).
-/
namespace Sys2Proof.Machine
set_option Elab.async false

/-! ## Which channel is served -/

theorem Link.mem_all (l : Link) : l ∈ Link.all := by cases l <;> decide

/-- The first drive channel that wants the port, given those before it do not. -/
theorem State.first_drive {s : State} {d : DriveNo} (h : s.driveWants d = true) (hbefore : ∀ k : DriveNo, k.toNat < d.toNat → s.driveWants k = false) :
    DriveNo.all.find? s.driveWants = some d := by
  have h1 := hbefore .d1; have h2 := hbefore .d2; have h3 := hbefore .d3; have h4 := hbefore .d4; have h5 := hbefore .d5
  unfold DriveNo.all
  cases d <;> simp [DriveNo.toNat] at h1 h2 h3 h4 h5 <;> simp [h, h1, h2, h3, h4, h5]

/-- The channel of a fill wants the port while it holds a block. -/
theorem State.driveWants_fill {s : State} {d : DriveNo} {n : InstrNum} {rest : List Use} {b : List Byte} {held : List (List Byte)}
    (hw : (s.lib.drives.get d).work = .fill n :: rest) (hheld : (s.driveChans.get d).held = b :: held) : s.driveWants d = true := by
  simp only [State.driveWants, State.role_fill hw, hheld]
  rfl

/-- A block written to buffer memory reads as it was, and every other byte as before. -/
theorem Memory.writeBlock_reads {m : Memory} (hm : Memory.wf m = true) {blk : Nat} (hblk : blk < 8192) {b : List Byte} (hb : b.length = 1024) :
    (∀ i, i < 1024 → Memory.read (Memory.writeBlock m blk b) (blk * 1024 + i) = b.getD i 0#8) ∧
      (∀ a, (a < blk * 1024 ∨ blk * 1024 + 1024 ≤ a) → Memory.read (Memory.writeBlock m blk b) a = Memory.read m a) := by
  refine ⟨fun i hi => ?_, fun a ha => Memory.read_writeBlock_out m hm blk b a ha⟩
  have hi' : i < b.length := hb ▸ hi
  rw [List.getD_eq_getElem _ _ hi']
  exact Memory.read_writeBlock_in m hm blk b hblk hb i hi'

/-! ## The inbound channels -/

theorem State.portMove_in {s : State} {l : Link} {b : List Byte} (hd : DriveNo.all.find? s.driveWants = none)
    (hl : Link.all.find? (fun l => (s.inChans.get l).store.isSome) = some l) (hb : (s.inChans.get l).store = some b) (parity : Bool) :
    s.portMove parity = { s with mem := Memory.writeBlock s.mem (s.inChans.get l).chan.next b, inChans := s.inChans.set l InChan.idle } := by
  simp only [State.portMove, hd, hl, State.serveIn, hb]
  rfl

/-! ## A staged block -/

/-- A segment with one staged block more; with its last its fill is over (R94). -/
def Segment.onceStaged (g : Segment) : Segment := { g with staged := g.staged + 1, fill := if g.len ≤ g.staged + 1 then none else g.fill }

/-- The oldest block a fill's channel holds has been moved to its place in staging (R94, R112). -/
def State.blockMoved (s : State) (d : DriveNo) (b : List Byte) (held : List (List Byte)) : State :=
  { s with
    mem := Memory.writeBlock s.mem (s.driveChans.get d).chan.next b
    driveChans := s.driveChans.set d { s.driveChans.get d with
      chan := { (s.driveChans.get d).chan with next := (s.driveChans.get d).chan.next + 1, remaining := (s.driveChans.get d).chan.remaining - 1 }
      held := held } }

/-- A segment's record replaced. -/
def State.withSegment (s : State) (g : Segment) : State := s.modSegment g.inst (fun _ => g)

theorem foldl_eq_of_fixed {α β : Type} {f : β → α → β} {s : β} {l : List α} (h : ∀ x ∈ l, f s x = s) : l.foldl f s = s := by
  induction l with
  | nil => rfl
  | cons x l ih =>
    rw [List.foldl_cons, h x List.mem_cons_self]
    exact ih fun y hy => h y (List.mem_cons_of_mem _ hy)

/-- A chain of changes of which one does anything. -/
theorem foldl_eq_of_only {α β : Type} {f : β → α → β} {s : β} {l : List α} {x : α} (hx : x ∈ l) (hnodup : l.Nodup)
    (hbefore : ∀ y ∈ l, y ≠ x → f s y = s) (hafter : ∀ y ∈ l, y ≠ x → f (f s x) y = f s x) : l.foldl f s = f s x := by
  obtain ⟨p, q, rfl⟩ := List.append_of_mem hx
  obtain ⟨-, hcons, hdisj⟩ := List.nodup_append.1 hnodup
  have hfront : p.foldl f s = s := foldl_eq_of_fixed fun y hy =>
    hbefore y (List.mem_append_left _ hy) (hdisj y hy x List.mem_cons_self)
  have hback : q.foldl f (f s x) = f s x := foldl_eq_of_fixed fun y hy =>
    hafter y (List.mem_append_right _ (List.mem_cons_of_mem _ hy)) fun h => (List.nodup_cons.1 hcons).1 (h ▸ hy)
  rw [List.foldl_append, hfront, List.foldl_cons, hback]

section
variable {s : State} {g : Segment}

/-- A channel that delivers from a segment serves one of its users. -/
theorem State.mem_readers {l : Link} : l ∈ s.readers g ↔ ∃ u ∈ g.users, u.link = l ∧ s.serves u = true := by
  simp [State.readers, Link.mem_all]

/-- Nothing waits for the staged block. -/
theorem State.reportStaged_unawaited (h : ∀ u ∈ g.users, (s.outChans.get u.link).chan.state ≠ .waiting) : s.reportStaged g = s := by
  refine foldl_eq_of_fixed fun l hl => ?_
  obtain ⟨u, hu, rfl, -⟩ := State.mem_readers.1 hl
  exact if_neg (by simpa using h u hu)

/-- The channel after a block it waits for has been staged (R112, R114; assumption log 17). -/
def OutChan.resumed (c : OutChan) (ahead : Nat) : OutChan := { c with chan := { c.chan with state := .running }, ahead := ahead }

theorem State.advanceOut_staged {l : Link} (h : (s.outChans.get l).chan.next < 4096 + (g.first + g.staged)) : s.advanceOut l g =
    { s with outChans := s.outChans.set l ((s.outChans.get l).resumed (s.links.get l).responses.length) } := by
  rw [State.advanceOut_eq, if_pos h, if_pos h]
  rfl

/-- One channel waits for the staged block, and goes on. -/
theorem State.reportStaged_awaited {l : Link} {r : ItemRef} (hr : r ∈ g.users) (hl : r.link = l) (hop : (s.outChans.get l).chan.op = .item r)
    (hst : (s.outChans.get l).chan.state = .waiting) (hothers : ∀ u ∈ g.users, u.link ≠ l → (s.outChans.get u.link).chan.state ≠ .waiting)
    (hnext : (s.outChans.get l).chan.next < 4096 + (g.first + g.staged)) : s.reportStaged g =
      { s with outChans := s.outChans.set l ((s.outChans.get l).resumed (s.links.get l).responses.length) } := by
  have hserves : s.serves r = true := by simp [State.serves, hl, hop]
  have hturn : (if (s.outChans.get l).chan.state == .waiting then s.advanceOut l g else s) = s.advanceOut l g := if_pos (by simp [hst])
  have hidle : ∀ y ∈ s.readers g, y ≠ l → (s.outChans.get y).chan.state ≠ .waiting := by
    intro y hy hne
    obtain ⟨u, hu, rfl, -⟩ := State.mem_readers.1 hy
    exact hothers u hu hne
  have hnodup : (s.readers g).Nodup := List.Nodup.filter _ (by decide : Link.all.Nodup)
  have honly := foldl_eq_of_only (f := fun (s : State) l => if (s.outChans.get l).chan.state == .waiting then s.advanceOut l g else s)
    (State.mem_readers.2 ⟨r, hr, hl, hserves⟩) hnodup (fun y hy hne => if_neg (by simpa using hidle y hy hne)) (fun y hy hne => by
      rw [hturn, State.advanceOut_staged hnext]
      refine if_neg ?_
      simpa [Three.get_set_ne _ _ _ _ hne] using hidle y hy hne)
  exact honly.trans (hturn.trans (State.advanceOut_staged hnext))

end

/-! ## The fill -/

section
variable {s : State} {d : DriveNo} {g : Segment} {b : List Byte} {held : List (List Byte)} (hheld : (s.driveChans.get d).held = b :: held)
  (hseg : s.segment? g.inst = some g)
include hheld hseg

/-- A block staged whose segment, if it is complete with it, has users. -/
theorem State.stageBlock_eq {t : State} (hreport : ((s.blockMoved d b held).withSegment g.onceStaged).reportStaged g.onceStaged = t)
    (huse : g.staged + 1 < g.len ∨ g.users ≠ []) :
    s.stageBlock d g.inst = if (t.driveChans.get d).chan.remaining = 0 ∧ (t.drive d).cmd = none then t.endFill d g.inst else t := by
  have hroom : (g.onceStaged.complete && g.onceStaged.users.isEmpty) = false := by
    obtain hmore | husers := huse
    · have hcomplete : ¬g.len ≤ g.staged + 1 := by omega
      simp [Segment.complete, Segment.onceStaged, hcomplete]
    · simp [Segment.onceStaged, husers]
  have hmoved : (s.blockMoved d b held).withSegment g.onceStaged = State.modSegment (State.modDriveChan
      { s with mem := Memory.writeBlock s.mem (s.driveChans.get d).chan.next b } d
      (fun c => { c with chan := { c.chan with next := c.chan.next + 1, remaining := c.chan.remaining - 1 }, held := held })) g.inst
      (fun _ => g.onceStaged) := rfl
  rw [hmoved] at hreport
  simp only [State.stageBlock, hheld, hseg]
  rw [Segment.onceStaged] at hreport hroom
  simp only [hreport, hroom]
  rfl

end

/-- The end of a fill, on a drive with no other use, is its channel's too (R94). -/
theorem State.endFill_settle {s : State} {d : DriveNo} {n : InstrNum} (ha : s.agenda = []) (hw : (s.lib.drives.get d).work = [.fill n])
    (hrests : s.PickerRests) : (s.endFill d n).settle = { s with
      lib := { s.lib with drives := s.lib.drives.set d { s.lib.drives.get d with work := [] } }
      driveChans := s.driveChans.set d DriveChan.idle } := by
  obtain ⟨t, ht⟩ : ∃ t : State, t = { s with
    lib := { s.lib with drives := s.lib.drives.set d { s.lib.drives.get d with work := [] } }
    driveChans := s.driveChans.set d DriveChan.idle } := ⟨_, rfl⟩
  have herase : [Use.fill n].erase (.fill n) = [] := by simp
  have hhands : s.endFill d n = t.later [.pickerNext] := by
    simp only [State.endFill, State.removeUse, State.idleChan, State.modDrive, State.drive, hw, herase, Six.get_set_same, List.isEmpty_nil, if_true, ht]
  have hpicker : t.pickerNext = t := State.pickerNext_rests (by rw [ht]; exact hrests)
  have hagenda : t.agenda = [] := by rw [ht]; exact ha
  have hworks : State.Works t [.pickerNext] t 1 := .rests hagenda hpicker (.nothing hagenda)
  rw [hhands, ← ht]
  exact hworks.settle (by decide)

/-! ## A fill's blocks -/

section
variable {s : State} {d : DriveNo} {g : Segment} {b : List Byte} {held : List (List Byte)}

theorem State.blockMoved_chan (s : State) (d : DriveNo) (b : List Byte) (held : List (List Byte)) :
    ((s.blockMoved d b held).driveChans.get d).chan.remaining = (s.driveChans.get d).chan.remaining - 1 := by
  rw [State.blockMoved]
  exact congrArg (fun c : DriveChan => c.chan.remaining) (Six.get_set_same _ _ _)

/-- The port's move of a fill's block, as the segment's channels find it. -/
theorem State.portMove_fill {t : State} {work : List Use} (hport : DriveNo.all.find? s.driveWants = some d)
    (hw : (s.lib.drives.get d).work = .fill g.inst :: work) (hheld : (s.driveChans.get d).held = b :: held) (hseg : s.segment? g.inst = some g)
    (hreport : ((s.blockMoved d b held).withSegment g.onceStaged).reportStaged g.onceStaged = t) (huse : g.staged + 1 < g.len ∨ g.users ≠ []) :
    s.portMove false = if (t.driveChans.get d).chan.remaining = 0 ∧ (t.drive d).cmd = none then t.endFill d g.inst else t := by
  rw [State.portMove_drive hport, ← State.stageBlock_eq hheld hseg hreport huse]
  simp only [State.serveDrive, State.role_fill hw, Bool.false_eq_true, if_false]

variable {work : List Use} (hs : s.agenda = []) (hlanes : ∀ k, (s.links.get k).lane = []) (hport : DriveNo.all.find? s.driveWants = some d)
  (hw : (s.lib.drives.get d).work = .fill g.inst :: work) (hheld : (s.driveChans.get d).held = b :: held) (hseg : s.segment? g.inst = some g)
include hs hlanes hport hw hheld hseg

/-- A block of a fill that goes on, or whose drive still reads, with no channel waiting for it. -/
theorem exec_portMove_stages (hunawaited : ∀ u ∈ g.users, (s.outChans.get u.link).chan.state ≠ .waiting) (huse : g.staged + 1 < g.len ∨ g.users ≠ [])
    (hon : 1 < (s.driveChans.get d).chan.remaining ∨ (s.lib.drives.get d).cmd ≠ none) :
    exec (.bufferPortMove false) s = .next ((s.blockMoved d b held).withSegment g.onceStaged) := by
  have hmove := State.portMove_fill hport hw hheld hseg (State.reportStaged_unawaited hunawaited) huse
  refine exec_portMove s false _ (hmove.trans (if_neg ?_)) hs hlanes
  rintro ⟨hleft, hcmd⟩
  have hleft' : (s.driveChans.get d).chan.remaining - 1 = 0 := (s.blockMoved_chan d b held).symm.trans hleft
  exact hon.elim (fun h => by omega) (fun h => h hcmd)

/-- A block of a fill that goes on, with one channel waiting for it. -/
theorem exec_portMove_resumes {l : Link} {r : ItemRef} (hr : r ∈ g.users) (hl : r.link = l) (hop : (s.outChans.get l).chan.op = .item r)
    (hst : (s.outChans.get l).chan.state = .waiting) (hothers : ∀ u ∈ g.users, u.link ≠ l → (s.outChans.get u.link).chan.state ≠ .waiting)
    (hnext : (s.outChans.get l).chan.next = 4096 + (g.first + g.staged)) (hon : 1 < (s.driveChans.get d).chan.remaining) :
    exec (.bufferPortMove false) s = .next { (s.blockMoved d b held).withSegment g.onceStaged with
      outChans := s.outChans.set l ((s.outChans.get l).resumed (s.links.get l).responses.length) } := by
  have hstaged : (s.outChans.get l).chan.next < 4096 + (g.onceStaged.first + g.onceStaged.staged) := by
    rw [hnext]
    exact Nat.lt_succ_self _
  have hreport : ((s.blockMoved d b held).withSegment g.onceStaged).reportStaged g.onceStaged = { (s.blockMoved d b held).withSegment g.onceStaged with
      outChans := s.outChans.set l ((s.outChans.get l).resumed (s.links.get l).responses.length) } :=
    State.reportStaged_awaited (s := (s.blockMoved d b held).withSegment g.onceStaged) hr hl hop hst hothers hstaged
  have hmove := State.portMove_fill hport hw hheld hseg hreport (.inr (List.ne_nil_of_mem hr))
  refine exec_portMove s false _ (hmove.trans (if_neg ?_)) hs hlanes
  rintro ⟨hleft, -⟩
  have hleft' : (s.driveChans.get d).chan.remaining - 1 = 0 := (s.blockMoved_chan d b held).symm.trans hleft
  omega

/-- The last block of a fill whose drive has reported its read done. -/
theorem exec_portMove_endsFill (hunawaited : ∀ u ∈ g.users, (s.outChans.get u.link).chan.state ≠ .waiting) (husers : g.users ≠ []) (hnil : work = [])
    (hlast : (s.driveChans.get d).chan.remaining = 1) (hcmd : (s.lib.drives.get d).cmd = none) (hrests : s.PickerRests) :
    exec (.bufferPortMove false) s = .next { (s.blockMoved d b held).withSegment g.onceStaged with
      driveChans := s.driveChans.set d DriveChan.idle
      lib := { s.lib with drives := s.lib.drives.set d { s.lib.drives.get d with work := [] } } } := by
  subst hnil
  have hmove := State.portMove_fill hport hw hheld hseg (State.reportStaged_unawaited hunawaited) (.inr husers)
  have hleft : (((s.blockMoved d b held).withSegment g.onceStaged).driveChans.get d).chan.remaining = 0 :=
    (s.blockMoved_chan d b held).trans (by omega)
  have hends := State.endFill_settle (s := (s.blockMoved d b held).withSegment g.onceStaged) hs hw hrests
  refine exec_portMove_settles ?_ hlanes
  rw [hmove, if_pos ⟨hleft, hcmd⟩, hends]
  simp only [State.withSegment, State.modSegment, State.blockMoved, Six.set_set]

end

/-- DONE of a fill's read with every block staged ends the fill (R94; assumption log 53). -/
theorem exec_driveDoneReport_endsFill {s : State} (hs : s.Quiet) {d : DriveNo} {i : InstrNum} {a n : Nat} (hw : (s.lib.drives.get d).work = [.fill i])
    (hc : (s.lib.drives.get d).cmd = some (.read a n)) (hstale : (s.lib.drives.get d).staleDone = false) (hn : n ≤ (s.lib.drives.get d).reported)
    (hleft : (s.driveChans.get d).chan.remaining = 0) (hrests : s.PickerRests) : exec (.driveDoneReport d) s = .next { s with
      lib := { s.lib with drives := s.lib.drives.set d { (s.lib.drives.get d).ended with work := [] } }
      driveChans := s.driveChans.set d DriveChan.idle } := by
  have hchan : (s.endCmd d).driveChans = s.driveChans := rfl
  have hdone : s.doneReport d = (s.endCmd d).endFill d i := by
    simp only [State.doneReport, State.drive, hstale, hc, State.role_fill hw, Bool.false_eq_true, if_false, if_neg (Nat.not_lt.2 hn), hchan, hleft, if_true]
  have hdrive : (s.endCmd d).lib.drives.get d = (s.lib.drives.get d).ended := Six.get_set_same _ _ _
  have hends := State.endFill_settle (s := s.endCmd d) (d := d) (n := i) hs.2 (by rw [hdrive]; exact hw) hrests
  rw [exec_driveDoneReport hs d, hdone, hends, hdrive]
  simp only [State.endCmd, State.modDrive, Six.set_set]

theorem Segment.onceStaged_more {g : Segment} (h : g.staged + 1 < g.len) : g.onceStaged = { g with staged := g.staged + 1 } := by
  simp only [Segment.onceStaged, if_neg (Nat.not_le.2 h)]

theorem Segment.onceStaged_last {g : Segment} (h : g.staged + 1 = g.len) : g.onceStaged = { g with staged := g.staged + 1, fill := none } := by
  simp only [Segment.onceStaged, if_pos (Nat.le_of_eq h.symm)]

end Sys2Proof.Machine
end

section
/-!
PROOFS. The buffer port serves an outbound channel: its page map, its blocks, and a parity fault on its read (R96, R97, R114 to R117).
-/
namespace Sys2Proof.Machine
set_option Elab.async false

/-- Writing one of three values leaves a field that the new value keeps. -/
theorem three_get_set_field {α β : Type} (g : α → β) (t : Three α) (i j : Link) (a : α) (h : g a = g (t.get i)) : g ((t.set i a).get j) = g (t.get j) := by
  by_cases e : j = i
  · rw [e, Three.get_set_same, h]
  · rw [Three.get_set_ne _ _ _ _ e]

/-- Which of the port's channels wants it: an outbound one, with nothing before it (R116). -/
structure State.PortServes (s : State) (l : Link) : Prop where
  drives : DriveNo.all.find? s.driveWants = none
  stores : Link.all.find? (fun l => (s.inChans.get l).store.isSome) = none
  out : Link.all.find? s.outWants = some l

theorem State.PortServes.portMove {s : State} {l : Link} (h : s.PortServes l) (parity : Bool) : s.portMove parity = s.serveOut l parity := by
  obtain ⟨hdrives, hstores, hout⟩ := h
  simp only [State.portMove, hdrives, hstores, hout]

theorem State.PortServes.running {s : State} {l : Link} (h : s.PortServes l) : (s.outChans.get l).chan.state = .running := by
  have hwants := List.find?_some h.out
  simp only [State.outWants, Bool.and_eq_true, beq_iff_eq] at hwants
  exact hwants.1

theorem State.segmentOf_only {s : State} {r : ItemRef} {g : Segment} (hmem : g ∈ s.segments) (hr : r ∈ g.users)
    (honly : ∀ h ∈ s.segments, r ∈ h.users → h = g) : s.segmentOf r = some g := by
  cases hfind : s.segments.find? (fun h => h.users.contains r) with
  | none => exact absurd (List.contains_iff_mem.2 hr) (List.find?_eq_none.1 hfind g hmem)
  | some h =>
    have hh := honly h (List.mem_of_find?_eq_some hfind) (by simpa using List.find?_some hfind)
    exact hfind.trans (congrArg some hh)

theorem State.item?_current {s : State} {o : Op} {i : Item} (hmem : o ∈ s.ops) (hsole : ∀ p ∈ s.ops, p.reply.link = o.reply.link → p = o)
    (hi : o.items[o.current - 1]? = some i) : s.item? o.ref = some (o, i) := by
  have hop : s.op? o.ref.link o.ref.tag = some o := State.op?_sole hmem hsole
  have hitem : o.items[o.ref.pos - 1]? = some i := hi
  simp only [State.item?, hop, hitem, Option.map_some]

section
variable {s : State} {l : Link} {o : Op} {i : Item} {g : Segment} (hop : (s.outChans.get l).chan.op = .item o.ref)
  (hg : s.segmentOf o.ref = some g) (hi : s.item? o.ref = some (o, i))
include hop hg hi

/-! ## The page map -/

section
variable {v : Resolved} {a z : Nat} (hv : i.resolved = some v) (hrange : i.range = some (a, z)) (hoffs : (s.outChans.get l).offsets = none)
include hv hrange hoffs

theorem State.serveOut_map : s.serveOut l false = s.checkMap l o.ref g v (a, z) := by
  simp only [State.serveOut, hop, hg, hi, hoffs, hv, hrange, Bool.false_eq_true, if_false]

/-- A page map that agrees with page counts and extent sets the channel to its first selected block (R97). -/
theorem State.serveOut_mapOk (hok : mapOk (Memory.readBlock s.mem (4096 + g.first)) (v.pages.small + v.pages.plan) g.len = true) :
    s.serveOut l false = { s with outChans := s.outChans.set l { s.outChans.get l with
      chan := { (s.outChans.get l).chan with
        next := 4096 + (g.first + (mapOffsets (Memory.readBlock s.mem (4096 + g.first))).getD (a - 1) 0)
        remaining := ((mapOffsets (Memory.readBlock s.mem (4096 + g.first)))[z]?).getD g.len -
          (mapOffsets (Memory.readBlock s.mem (4096 + g.first))).getD (a - 1) 0
        state := if 4096 + (g.first + (mapOffsets (Memory.readBlock s.mem (4096 + g.first))).getD (a - 1) 0) < 4096 + (g.first + g.staged)
          then .running else .waiting }
      offsets := some (mapOffsets (Memory.readBlock s.mem (4096 + g.first)))
      ahead := if 4096 + (g.first + (mapOffsets (Memory.readBlock s.mem (4096 + g.first))).getD (a - 1) 0) < 4096 + (g.first + g.staged)
        then (s.links.get l).responses.length else (s.outChans.get l).ahead } } := by
  rw [State.serveOut_map hop hg hi hv hrange hoffs]
  simp only [State.checkMap, stagingBlock, Config.ringBlocks, hok, if_true, State.advanceOut_eq, State.modOutChan, Three.get_set_same, Three.set_set,
    selectedRun]

theorem State.serveOut_mapDamaged (hbad : mapOk (Memory.readBlock s.mem (4096 + g.first)) (v.pages.small + v.pages.plan) g.len = false) :
    s.serveOut l false = s.endItem o.ref .mapDamaged := by
  have hbad' : mapOk (Memory.readBlock s.mem (stagingBlock g.first)) (v.pages.small + v.pages.plan) g.len = false := hbad
  rw [State.serveOut_map hop hg hi hv hrange hoffs]
  simp only [State.checkMap, hbad', Bool.false_eq_true, if_false]

end

/-! ## The blocks -/

/-- The DATA frame of a selected block (R97, R198). -/
def State.frameOf (s : State) (o : Op) (offs : List Nat) (first next : Nat) : DataFrame :=
  let blk := next - (4096 + first)
  let page := (offs.filter (fun a => decide (a ≤ blk))).length
  { item := o.ref, code := o.reply.code, page := page, block := blk - offs.getD (page - 1) 0, bytes := Memory.readBlock s.mem next }

theorem State.serveOut_block {offs : List Nat} (hoffs : (s.outChans.get l).offsets = some offs) : s.serveOut l false =
    State.offerFrame { s with outChans := s.outChans.set l { s.outChans.get l with
      frame := some (s.frameOf o offs g.first (s.outChans.get l).chan.next) } } l := by
  have hformed : ({ s with outChans := s.outChans.set l { s.outChans.get l with
      frame := some (s.frameOf o offs g.first (s.outChans.get l).chan.next) } } : State) =
        s.modOutChan l (fun c => { c with frame := some (s.frameOf o offs g.first (s.outChans.get l).chan.next) }) := rfl
  rw [hformed]
  simp only [State.serveOut, hop, hg, hi, hoffs, Bool.false_eq_true, if_false]
  rfl

omit hop hg hi in
/-- A frame formed is offered where the lane is free and no response goes ahead of it (R114, R115). -/
theorem State.offerFrame_offers {f : DataFrame} (hst : (s.outChans.get l).chan.state = .running) (hahead : (s.outChans.get l).ahead = 0)
    (hout : (s.links.get l).out = none) :
    State.offerFrame { s with outChans := s.outChans.set l { s.outChans.get l with frame := some f } } l = { s with
      links := s.links.set l { s.links.get l with out := some (.data f) }
      outChans := s.outChans.set l { s.outChans.get l with
        chan := { (s.outChans.get l).chan with state := .paused }, frame := some f, offeredAt := s.ref } } := by
  simp only [State.offerFrame, Three.get_set_same, hst, hahead, hout, State.modLink, State.modOutChan, Three.set_set, Option.isNone_none, and_self, if_true]

omit hop hg hi in
theorem State.offerFrame_waits {f : DataFrame} (h : (s.outChans.get l).ahead ≠ 0 ∨ (s.links.get l).out ≠ none) :
    State.offerFrame { s with outChans := s.outChans.set l { s.outChans.get l with frame := some f } } l =
      { s with outChans := s.outChans.set l { s.outChans.get l with frame := some f } } := by
  simp only [State.offerFrame, Three.get_set_same]
  refine if_neg ?_
  rintro ⟨-, hahead, hout⟩
  exact h.elim (fun hne => hne hahead) (fun hne => hne (Option.isNone_iff_eq_none.1 hout))

/-! ## A parity fault -/

theorem State.serveOut_parity : s.serveOut l true = s.stagingFault l g := by
  simp only [State.serveOut, hop, hg, hi, if_true]

end

/-- Posting an event leaves the segments alone. -/
theorem State.post_withSegments (s : State) (e : Event) (x : List Segment) :
    State.post { s with segments := x } e = { s.post e with segments := x } := by
  cases hp : s.power <;> simp only [State.post, hp]

section
variable {s : State} {l : Link} {o : Op} {i : Item} {g : Segment} (ha : s.agenda = []) (hl : o.reply.link = l)
  (hop : (s.outChans.get l).chan.op = .item o.ref) (husers : g.users = [o.ref]) (hfill : g.fill = none) (hcomplete : g.len ≤ g.staged)
  (hlast : s.AtLastItem o i) (hn : s.NotWaiting o.ref) (hf : s.spaceFifo = [])
  (honly : ∀ h ∈ s.segments, (o.ref ∈ h.users ∨ h.inst = g.inst) → h = g)
include ha hl hop husers hfill hcomplete hlast hn hf honly

/-- A parity fault on an outbound channel's read removes the segment, and ends its one user's item MEDIA_FAULT (R110, R117). -/
theorem State.stagingFault_settle : (s.stagingFault l g).settle =
    State.itemLost (State.post { s with segments := s.segments.filter (fun h => decide (h.inst ≠ g.inst)) }
      (.bufferParity (.outbound l) (s.outChans.get l).chan.next)) o i .mediaFault := by
  obtain ⟨e, he⟩ : ∃ e, e = Event.bufferParity (.outbound l) (s.outChans.get l).chan.next := ⟨_, rfl⟩
  obtain ⟨k, w, hframe⟩ := s.post_frame e
  obtain ⟨u, hu⟩ : ∃ u : State, u = { s.post e with
    segments := s.segments.filter (fun h => decide (h.inst ≠ g.inst)), outChans := s.outChans.set l OutChan.idle } := ⟨_, rfl⟩
  have hwhole : g.complete = true := decide_eq_true hcomplete
  have hfault : s.stagingFault l g = u.later [.endItem o.ref .mediaFault, .spaceTry] := by
    simp only [State.stagingFault, hfill, hwhole, if_true, ← he, hu, hframe]
    simp only [State.failUsers, husers, State.dropSegment, State.idleOut, State.later, List.map_cons, List.map_nil, List.append_assoc]
    rfl
  have hulast : u.AtLastItem o i := by
    obtain ⟨hmem, hsole, hgen, hrest⟩ := hlast
    have hops : u.ops = s.ops := by rw [hu, hframe]
    refine ⟨hops ▸ hmem, hops ▸ hsole, ?_, hrest⟩
    rw [hu]
    exact (s.post_resetCount e _).trans hgen
  have hagenda : u.agenda = [] := by rw [hu, hframe]; exact ha
  have hfifo : u.spaceFifo = [] := by rw [hu, hframe]; exact hf
  have hnot : u.NotWaiting o.ref := by rw [hu, hframe]; exact hn
  have hgone : ∀ h ∈ u.segments, o.ref ∉ h.users := by
    intro h hh huse
    rw [hu] at hh
    obtain ⟨hmem', hne⟩ := List.mem_filter.1 hh
    rw [honly h hmem' (.inl huse)] at hne
    simp at hne
  have hrest : State.Works (u.itemLost o i .mediaFault) [.spaceTry] _ 1 :=
    .rests hagenda (State.spaceTry_nil _ hfifo) (.nothing hagenda)
  have hworks := State.Works.endItem hulast hagenda hfifo hnot hgone (by decide) hrest
  rw [hfault, hworks.settle (by decide), ← he, State.post_withSegments, hu, hframe]
  subst hl
  have hidle : ¬OutChan.idle.chan.op = .item o.ref := by simp [OutChan.idle, Chan.idle]
  simp only [State.itemLost, Three.get_set_same, hop, if_true, if_neg hidle]

end

/-! ## The statement -/

/-- Settles O33, channel by channel in the port's order. -/
theorem portMovesBlocks : Obligations.PortMovesBlocks := by
  refine ⟨?_, ?_, ?_, ?_⟩
  · intro s l b parity ha hdrives hlanes
    have hd := s.no_drive_wants hdrives
    refine ⟨fun hb hbefore hlen hblk hmem => ?_, fun hstores houts hmaps => ?_⟩
    · obtain ⟨hin, hout⟩ := Memory.writeBlock_reads hmem hblk hlen
      exact ⟨_, exec_portMove s parity _ (State.portMove_in hd (s.first_store l b hb hbefore) hb parity) ha hlanes, hin, hout⟩
    · refine exec_portMove s parity _ ?_ ha hlanes
      rw [State.portMove_mapRead hdrives hstores houts, State.serveMapRead, hmaps]
  · intro d s n work b held g hs c hlanes hbefore hw hheld hleft hblk hlen hmem hsegs hn hmore hunawaited
    subst hn
    obtain ⟨hin, hout⟩ := Memory.writeBlock_reads hmem hblk hlen
    have hseg : s.segment? g.inst = some g := by simp [State.segment?, hsegs]
    have hport := State.first_drive (State.driveWants_fill hw hheld) hbefore
    have hexec := exec_portMove_stages hs.2 hlanes hport hw hheld hseg hunawaited (.inl hmore) (.inl hleft)
    refine ⟨_, hexec.trans ?_, hin, hout⟩
    simp only [State.withSegment, State.modSegment, State.blockMoved, Segment.onceStaged_more hmore, hsegs, List.map_cons, List.map_nil, if_true]
    rfl
  · intro s d hs k c g hmem hw honly
    have hseg := State.segment?_only hmem honly
    refine ⟨?_, fun a n hc hstale hn hleft hrests => ?_⟩
    · intro b held hheld hport hlanes moved staged
      have hlanes' : ∀ k, (s.links.get k).lane = [] := fun k => hlanes k (Link.mem_all k)
      refine ⟨?_, fun hunawaited hleft hmore husers => ⟨fun hcmd => ?_, fun hcmd hrests => ?_⟩⟩
      · intro l r hr o hl hop hst hothers hleft hmore hnext
        rw [exec_portMove_resumes hs.2 hlanes' hport hw hheld hseg hr hl hop hst hothers hnext hleft]
        simp only [State.withSegment, State.modSegment, State.blockMoved, Segment.onceStaged_more hmore]
        rfl
      · rw [exec_portMove_stages hs.2 hlanes' hport hw hheld hseg hunawaited (.inr husers) (.inr hcmd)]
        simp only [State.withSegment, State.modSegment, State.blockMoved, Segment.onceStaged_last hmore]
        rfl
      · rw [exec_portMove_endsFill hs.2 hlanes' hport hw hheld hseg hunawaited husers rfl hleft hcmd hrests]
        simp only [State.withSegment, State.modSegment, State.blockMoved, Segment.onceStaged_last hmore]
        rfl
    · exact exec_driveDoneReport_endsFill hs hw hc hstale hn hleft hrests
  · intro s l hs c o hmem i hitem g hgmem v hv hdrives hstores hout hlanes hop hl hsole hpos huse honly
    subst hl
    have hlanes' : ∀ k, (s.links.get k).lane = [] := fun k => hlanes k (Link.mem_all k)
    have hserves : s.PortServes o.reply.link :=
      ⟨s.no_drive_wants fun d => hdrives d (DriveNo.mem_all d), s.no_store_holds fun k => hstores k (Link.mem_all k), hout⟩
    have hg := State.segmentOf_only hgmem huse fun h hh hu => honly h hh (.inl hu)
    have hseg := State.segment?_only hgmem fun h hh hinst => honly h hh (.inr hinst)
    have hi := State.item?_current hmem hsole hitem
    refine ⟨?_, ?_, fun husers hfill hstarted hcomplete hlast hn hf => ?_⟩
    · intro hoffs map
      refine ⟨?_, fun hbad hrange hlast hn hf hstarted => ?_⟩
      · intro a z hrange first count staged hok
        exact exec_portMove s false _ ((hserves.portMove false).trans (State.serveOut_mapOk hop hg hi hv hrange hoffs hok)) hs.2 hlanes'
      · obtain ⟨⟨a, z⟩, hrange⟩ := Option.isSome_iff_exists.1 hrange
        refine exec_portMove_settles ?_ fun k => (State.queued_lane _ _ _ _ k).trans (hlanes' k)
        rw [hserves.portMove, State.serveOut_mapDamaged hop hg hi hv hrange hoffs hbad]
        exact State.endItem_user_settle hlast hs.2 hf hn hg hstarted hseg (by decide)
    · intro offs hoffs blk page frame
      have hformed := (hserves.portMove false).trans (State.serveOut_block hop hg hi hoffs)
      refine ⟨fun hahead hfree => ?_, fun hbusy => ?_⟩
      · exact exec_portMove s false _ (hformed.trans (State.offerFrame_offers hserves.running hahead hfree)) hs.2
          fun k => (three_get_set_field LinkRec.lane s.links _ k { s.links.get o.reply.link with out := some (.data frame) } rfl).trans (hlanes' k)
      · exact exec_portMove s false _ (hformed.trans (State.offerFrame_waits hbusy)) hs.2 hlanes'
    · refine exec_portMove_settles ?_ fun k => ((State.queued_lane _ _ _ _ k).trans (State.post_lane _ _ k)).trans (hlanes' k)
      rw [hserves.portMove, State.serveOut_parity hop hg hi]
      exact State.stagingFault_settle hs.2 rfl hop husers hfill hcomplete hlast hn hf honly

end Sys2Proof.Machine
end

section
/-!
PROOFS. One OPEN side (R120) is not kept by every step: at a state that no run reaches, FIL's use of a BLANK side stands in a write pass while another
side is OPEN. A hand-over to FIL in a drive, whatever FIL's use was doing, makes it one that waits for the drive, and the BLANK side is then opened.
-/
namespace Sys2Proof.Machine
set_option Elab.async false

/-- Side 0 of platter 1 is OPEN; FIL's use stands in a write pass of the BLANK side 0 of platter 2, which drive 2 has just loaded for a filing waiter. -/
def strayPass : State := { State.reset with
  pending := [.driveReadyReport .d2]
  power := .running
  cat := { CatMem.cleared with platters :=
    [{ Platter.new 1 1 with side0 := ⟨.opened 16, 0⟩ }, { Platter.new 2 2 with loc := .drive .d2, side0 := ⟨.blank, 0⟩ }] }
  filUse := some ⟨⟨2, .s0⟩, .write .d1, some .q1, ⟨0, 0⟩, false⟩
  lib := { Library.start with
    drives := Library.start.drives.set .d2 { Drive.vacant .loading with platter := some ⟨some 2, .s0⟩, cmd := some .load }
    demands := [⟨⟨2, .s0⟩, some .d2, [.filing 0]⟩] } }

/-- FIL's use is in a pass, so that it opens no side. -/
theorem strayPass_oneSideOpen : strayPass.OneSideOpen := by
  refine ⟨rfl, ⟨by decide +kernel, fun m h => nomatch h⟩, fun u hu hopening => ?_, fun q f h => ?_⟩
  · obtain rfl := Option.some.inj hu
    rcases hopening with ⟨d, h | h | h⟩ | ⟨h | ⟨d, h⟩, -⟩ <;> cases h
  · cases q <;> cases h

/-- After READY of the drive, FIL erases the header blocks of the BLANK side, and the other side is still OPEN. -/
theorem strayPass_opens : ∃ t u, step strayPass = .next t ∧ t.filUse = some u ∧ u.stage = .headErase .d2 ∧ t.cat.openSides = 1 :=
  ⟨_, ⟨⟨2, .s0⟩, .headErase .d2, some .q1, ⟨0, 0⟩, false⟩, rfl, by decide +kernel, rfl, by decide +kernel⟩

/-- Refutes O10: a state in which FIL's pass of a BLANK side stands beside an OPEN one has the property, and READY of a drive that a filing waiter
waits for makes FIL open a second side. -/
theorem not_oneOpenSideKept : ¬ Obligations.OneOpenSideKept := by
  unfold Obligations.OneOpenSideKept
  intro h
  obtain ⟨t, u, hstep, hu, hstage, hopen⟩ := strayPass_opens
  obtain ⟨-, -, hopening, -⟩ := h _ _ strayPass_oneSideOpen hstep
  exact absurd (hopening u hu (.inl ⟨.d2, .inr (.inl hstage)⟩)) (by rw [hopen]; decide)

end Sys2Proof.Machine
end

section
/-!
PROOFS. Obligation O48: DRIVE_RESET of each drive state.
-/
namespace Sys2Proof.Machine
set_option Elab.async false

theorem DriveNo.ofNat?_toNat (d : DriveNo) : DriveNo.ofNat? d.toNat = some d := by cases d <;> rfl

theorem DriveNo.ofNat?_out {n : Nat} (h : n = 0 ∨ 6 < n) : DriveNo.ofNat? n = none := by
  match n, h with
  | 0, _ => rfl
  | _ + 7, _ => rfl

@[simp] theorem State.tagTaken_drive (s : State) (l : Link) (t : Nat) (d : DriveNo) : (s.tagTaken l t).drive d = s.lib.drives.get d := (rfl)

/-- A request whose unit leaves nothing to settle. -/
theorem request_leaves {s u : State} {l : Link} {t : Nat} {q : Request} (h : s.Takes l t q)
    (hq : (s.tagTaken l t).handle (s.replyTo l t q) q = u) (ha : u.agenda = []) : request l t q s = .next u := by
  rw [request_takes s l t q h, hq, State.settle_nil u ha]

section
variable {l : Link} {t n : Nat} {s : State}

theorem driveReset_noNumber (h : s.Takes l t (.driveReset n)) (hn : n = 0 ∨ 6 < n) :
    exec (.driveReset l t n) s = .next (s.answered l t 0x53 .noDrive .none) := by
  refine request_answers s l t _ h .noDrive .none ?_
  simp only [State.handle, handleDriveReset, DriveNo.ofNat?_out hn, State.answer]

variable {d : DriveNo}

theorem driveReset_absent (h : s.Takes l t (.driveReset d.toNat)) (hd : (s.lib.drives.get d).state = .absent) :
    exec (.driveReset l t d.toNat) s = .next (s.answered l t 0x53 .noDrive .none) := by
  refine request_answers s l t _ h .noDrive .none ?_
  simp only [State.handle, handleDriveReset, DriveNo.ofNat?_toNat, State.tagTaken_drive, hd, if_true, State.answer]

theorem driveReset_notFault (h : s.Takes l t (.driveReset d.toNat)) (ha : (s.lib.drives.get d).state ≠ .absent)
    (hf : (s.lib.drives.get d).state ≠ .fault) :
    exec (.driveReset l t d.toNat) s = .next (s.answered l t 0x53 .notFault .none) := by
  refine request_answers s l t _ h .notFault .none ?_
  simp only [State.handle, handleDriveReset, DriveNo.ofNat?_toNat, State.tagTaken_drive, if_neg ha, if_pos (Or.inl hf), State.answer]

theorem driveReset_fault (h : s.Takes l t (.driveReset d.toNat)) (hf : (s.lib.drives.get d).state = .fault)
    (hr : (s.lib.drives.get d).reset = none) :
    exec (.driveReset l t d.toNat) s = .next { s.tagTaken l t with lib := { s.lib with
      drives := s.lib.drives.set d { s.lib.drives.get d with
        cmd := some .eject, reported := 0, since := s.ref, retry := false
        reset := some { link := l, tag := t, gen := (s.links.get l).resetCount, code := 0x53 } } } } := by
  refine request_leaves h ?_ h.1.1.2.1
  have hne : ¬((s.lib.drives.get d).state ≠ .fault ∨ (s.lib.drives.get d).reset.isSome = true) := by simp [hf, hr]
  have hna : (s.lib.drives.get d).state ≠ .absent := by simp [hf]
  simp only [State.handle, handleDriveReset, DriveNo.ofNat?_toNat, State.tagTaken_drive, if_neg hna, if_neg hne]
  simp only [State.command, State.modDrive, Six.get_set_same, Six.set_set]
  rfl

end

/-- Settles O48, by the number and the state of the drive named. -/
theorem driveResetEjects : Obligations.DriveResetEjects := by
  intro l t n s h
  refine ⟨driveReset_noNumber h, fun d hd => ?_⟩
  subst hd
  exact ⟨driveReset_absent h, driveReset_notFault h, driveReset_fault h⟩

end Sys2Proof.Machine
end

section
/-!
PROOFS. Obligation O47: the tests of SUBSTITUTE, and the pair it records.
-/
namespace Sys2Proof.Machine
set_option Elab.async false

/-- What makes a SUBSTITUTE of one platter by another invalid (R145), `q` the record of the replacement. -/
def State.Unfit (s : State) (old new : Nat) (q : Platter) : Prop :=
  old = new ∨ (∃ x ∈ s.cat.substs, x.retired = old ∨ x.replacement = old ∨ x.retired = new ∨ x.replacement = new) ∨
    q.side0.state ≠ .unchecked ∨ q.side1.state ≠ .unchecked ∨ (∃ e ∈ s.cat.table, ∃ x, e.loc? = some x ∧ x.platter = new)

theorem SideRec.opened_iff (x : SideRec) : (match x.state with | .opened _ => true | _ => false) = true ↔ ∃ f, x.state = .opened f := by
  cases x.state <;> simp

theorem Entry.locatedOn_iff (e : Entry) (n : Nat) :
    (match e.loc? with | some l => l.platter == n | none => false) = true ↔ ∃ x, e.loc? = some x ∧ x.platter = n := by
  cases e.loc? <;> simp

section
variable {s : State} {old new : Nat} {p q : Platter}

theorem State.substituteRefusal_notHeld (h : s.platter? old = none ∨ s.platter? new = none) :
    s.substituteRefusal old new = some .notHeld := by
  unfold State.substituteRefusal
  cases hp : s.platter? old <;> cases hq : s.platter? new <;> simp_all

theorem State.substituteRefusal_held (hp : s.platter? old = some p) (hq : s.platter? new = some q) [Decidable (s.Unfit old new q)]
    [Decidable ((∃ f, p.side0.state = .opened f) ∨ ∃ f, p.side1.state = .opened f)] :
    s.substituteRefusal old new =
      if s.Unfit old new q then some .substituteInvalid
      else if (∃ f, p.side0.state = .opened f) ∨ ∃ f, p.side1.state = .opened f then some .platterBusy
      else if Config.maxSubst ≤ s.cat.substs.length then some .tableFull
      else none := by
  simp only [State.substituteRefusal, hp, hq]
  refine if_congr ?_ rfl (if_congr ?_ rfl rfl)
  · simp only [State.Unfit, Bool.or_eq_true, List.any_eq_true, decide_eq_true_eq, bne_iff_ne, beq_iff_eq, or_assoc]
    exact or_congr_right (or_congr_right (or_congr_right (or_congr_right (exists_congr fun e => and_congr_right fun _ => e.locatedOn_iff new))))
  · simp only [Bool.or_eq_true]
    exact or_congr p.side0.opened_iff p.side1.opened_iff

variable {l : Link} {t : Nat}

/-- A SUBSTITUTE that fails a test is answered with the status of that test. -/
theorem substitute_refused (h : s.Takes l t (.substitute old new)) {st : Status} (hr : s.substituteRefusal old new = some st) :
    exec (.substitute l t old new) s = .next (s.answered l t 0x52 st .none) := by
  refine request_answers s l t _ h st .none ?_
  have htaken : (s.tagTaken l t).substituteRefusal old new = some st := hr
  simp only [State.handle, handleSubstitute, htaken, State.answer]

/-- With no filing in the commit queue, FIL has nothing to look for when it is told of the pair (R69). -/
theorem substitute_made (h : s.Takes l t (.substitute old new)) (hr : s.substituteRefusal old new = none) (hc : s.commitQueue = []) :
    exec (.substitute l t old new) s = .next (State.answered { s with cat := s.cat.substitute old new } l t 0x52 .done .none) := by
  have hagenda : s.agenda = [] := h.1.1.2.1
  have htaken : (s.tagTaken l t).substituteRefusal old new = none := hr
  have hhandle : (s.tagTaken l t).handle (s.replyTo l t (.substitute old new)) (.substitute old new) =
      (State.answered { s with cat := s.cat.substitute old new } l t 0x52 .done .none).later [.mediaRetry] := by
    simp only [State.handle, handleSubstitute, htaken]
    exact congrArg (fun u => State.later u [.mediaRetry])
      (State.answer_tagTaken { s with cat := s.cat.substitute old new } l t (.substitute old new) .done)
  have hreq := request_takes s l t _ h
  rw [hhandle] at hreq
  exact hreq.trans (congrArg Host.Outcome.next (State.settle_later_one hagenda (State.mediaRetry_idle _ hc) hagenda))

end

theorem SideState.closed_eq (st : SideState) :
    st.closed = .full (match st with | .full f => f | .opened f => f | _ => 16) := by
  cases st <;> rfl

theorem State.substitute_cat {s : State} {old : Nat} {p : Platter} (hp : s.platter? old = some p) (new : Nat) :
    s.cat.substitute old new = { s.cat with
      platters := updateKeyed Platter.id old (fun r => { r with
          side0 := { r.side0 with state := .full (match r.side0.state with | .full f => f | .opened f => f | _ => 16) }
          side1 := { r.side1 with state := .full (match r.side1.state with | .full f => f | .opened f => f | _ => 16) } })
        (updateKeyed Platter.id new (fun r => { r with side0 := p.side0, side1 := p.side1 }) s.cat.platters)
      substs := s.cat.substs ++ [{ retired := old, replacement := new }] } := by
  have hfind : findKeyed Platter.id old s.cat.platters = some p := hp
  simp only [CatMem.substitute, hfind, SideState.closed_eq]

open Classical in
/-- Settles O47: each of SUBSTITUTE's tests in its order, and the pair recorded. -/
theorem substituteRecordsPair : Obligations.SubstituteRecordsPair := by
  intro l t old new s h
  refine ⟨fun hn => substitute_refused h (State.substituteRefusal_notHeld hn), fun p q hp hq => ?_⟩
  have hr := State.substituteRefusal_held hp hq
  refine ⟨fun hi => ?_, fun hi hb => ?_, fun hi hb hf => ?_, fun hi hb hf hc => ?_⟩
  · exact substitute_refused h (hr.trans (if_pos hi))
  · exact substitute_refused h (hr.trans ((if_neg hi).trans (if_pos hb)))
  · exact substitute_refused h (hr.trans ((if_neg hi).trans ((if_neg hb).trans (if_pos hf))))
  · have hnone := hr.trans ((if_neg hi).trans ((if_neg hb).trans (if_neg (Nat.not_le.2 hf))))
    exact (substitute_made h hnone hc).trans
      (congrArg (fun c => Host.Outcome.next (State.answered { s with cat := c } l t 0x52 .done .none)) (State.substitute_cat hp new))

end Sys2Proof.Machine
end

section
/-!
SUPPORT. The Library Unit's reports, each handed to its own function, and the end of a piece of the picker's work.
-/
namespace Sys2Proof.Machine
set_option Elab.async false

/-! ## Reports and timers of a running controller -/

section
variable {s : State} (hs : s.Quiet)
include hs

theorem exec_pickerMoveDone : exec .pickerMoveDone s = .next s.moveDone.settle := by
  show done (s.whenPowered s.moveDone) = _
  rw [State.whenPowered_running hs.1]; rfl

theorem exec_pickerLabelReport (rep : LabelReport) : exec (.pickerLabelReport rep) s = .next (s.labelReport rep).settle := by
  show done (s.whenPowered (s.labelReport rep)) = _
  rw [State.whenPowered_running hs.1]; rfl

theorem exec_pickerMoveTimeout : exec .pickerMoveTimeout s = .next s.pickerTimeout.settle := by
  show done (s.whenPowered s.pickerTimeout) = _
  rw [State.whenPowered_running hs.1]; rfl

theorem exec_driveReadyReport (d : DriveNo) : exec (.driveReadyReport d) s = .next (s.readyReport d).settle := by
  show done (s.whenPowered (s.readyReport d)) = _
  rw [State.whenPowered_running hs.1]; rfl

theorem exec_driveUnloadedReport (d : DriveNo) : exec (.driveUnloadedReport d) s = .next (s.unloadedReport d).settle := by
  show done (s.whenPowered (s.unloadedReport d)) = _
  rw [State.whenPowered_running hs.1]; rfl

theorem exec_driveFaultReport (d : DriveNo) : exec (.driveFaultReport d) s = .next (s.faultReport d).settle := by
  show done (s.whenPowered (s.faultReport d)) = _
  rw [State.whenPowered_running hs.1]; rfl

theorem exec_driveCommandTimeout (d : DriveNo) : exec (.driveCommandTimeout d) s = .next (s.driveTimeout d).settle := by
  show done (s.whenPowered (s.driveTimeout d)) = _
  rw [State.whenPowered_running hs.1]; rfl

theorem exec_residencyExpiry (d : DriveNo) : exec (.residencyExpiry d) s = .next (s.residencyExpiry d).settle := by
  show done (s.whenPowered (s.residencyExpiry d)) = _
  rw [State.whenPowered_running hs.1]; rfl

end

/-! ## The end of a piece of work -/

/-- The picker's piece of work is over, and it begins nothing. -/
def State.workOver (s : State) : State := { s with lib := { s.lib with picker := s.pickerFreed } }

/-- FIL, told of something that may bring a side, has nothing to look for (R69). -/
theorem State.mediaRetry_rests {s : State} (h : s.HeadHasMedia) : s.mediaRetry = s := by
  unfold State.mediaRetry State.head?
  cases hq : s.commitQueue with
  | nil => rfl
  | cons q rest =>
    cases hf : s.filings.get q with
    | none => simp [hf]
    | some f =>
      have hstate : f.state ≠ .waitingMedia := h q (by simp [hq]) f hf
      simp [hf, hstate]

/-- What the picker is asked to do when its piece of work is over and no closing is held: nothing with the door open (R130, R148). -/
def State.afterPiece (s : State) : List Task := if s.lib.doorOpen then [] else [.pickerNext]

section
variable {s : State}

theorem State.endPiece_eq (h : s.lib.doorOpen = true ∨ s.lib.sweepDue = false) : s.endPiece = s.workOver.later s.afterPiece := by
  unfold State.endPiece State.workOver State.pickerFreed State.afterPiece
  cases hd : s.lib.doorOpen with
  | true =>
    rw [if_pos (show ((s.clearMove).modPicker _).lib.doorOpen = true from hd), if_pos rfl, if_pos rfl, State.later_nil]
    rfl
  | false =>
    have hdue : s.lib.sweepDue = false := h.resolve_left (by simp [hd])
    rw [if_neg (show ¬((s.clearMove).modPicker _).lib.doorOpen = true from ne_true_of_eq_false hd),
      if_neg (show ¬((s.clearMove).modPicker _).lib.sweepDue = true from ne_true_of_eq_false hdue), if_neg (by decide), if_neg (by decide)]
    rfl

theorem State.workOver_endPiece_later (h : s.lib.doorOpen = true ∨ s.lib.sweepDue = false) (ts : List Task) :
    (s.later ts).endPiece = s.workOver.later (ts ++ s.afterPiece) :=
  (State.endPiece_eq (s := s.later ts) h).trans (State.later_later s.workOver ts s.afterPiece)

/-- With the door open the picker is HALTED, and asked for nothing. -/
theorem State.endPiece_open (hd : s.lib.doorOpen = true) : s.endPiece = s.workOver := by
  rw [State.endPiece_eq (.inl hd), State.afterPiece, if_pos hd, State.later_nil]

/-- With the door closed and no closing held the picker is IDLE, and asked for its next piece. -/
theorem State.endPiece_closed (hd : s.lib.doorOpen = false) (hdue : s.lib.sweepDue = false) : s.endPiece = s.workOver.later [.pickerNext] := by
  rw [State.endPiece_eq (.inr hdue), State.afterPiece, if_neg (ne_true_of_eq_false hd)]

variable (ha : s.agenda = []) (hn : s.NothingNext)
include ha hn

/-- With nothing next, the picker asked for its next piece begins none. -/
theorem State.Works.workOver : State.Works s.workOver s.afterPiece s.workOver s.afterPiece.length := by
  unfold State.afterPiece
  obtain ⟨-, hopen | hnext⟩ := hn
  · rw [if_pos hopen]; exact .nothing ha
  · split
    · exact .nothing ha
    · exact .rests ha (State.pickerNext_rests (.inr hnext)) (.nothing ha)

theorem State.endPiece_settle : s.endPiece.settle = s.workOver := by
  rw [State.endPiece_eq (.inr hn.1)]
  exact (State.Works.workOver ha hn).settle (by unfold State.afterPiece; split <;> decide)

theorem State.endPiece_retry_settle (hm : s.HeadHasMedia) : (s.later [.mediaRetry]).endPiece.settle = s.workOver := by
  rw [State.workOver_endPiece_later (.inr hn.1)]
  have hretry : s.workOver.runTask .mediaRetry = s.workOver := State.mediaRetry_rests (s := s.workOver) hm
  have hworks : State.Works s.workOver ([.mediaRetry] ++ s.afterPiece) s.workOver (s.afterPiece.length + 1) :=
    .rests ha hretry (State.Works.workOver ha hn)
  exact hworks.settle (by unfold State.afterPiece; split <;> decide)

end

/-! ## A label read or a move done, on the command that it answers -/

section
variable {s : State} {m : Move} (hmove : s.lib.picker.move = some m) (hstate : s.lib.picker.state = .moving) (hsince : s.lib.picker.since ≠ none)
include hmove hstate hsince

theorem State.onCommand_label (hdst : m.dst = none) : s.onCommand false = true := by
  simp [State.onCommand, hmove, hstate, hdst, Option.isSome_iff_ne_none.2 hsince]

theorem State.onCommand_move (hdst : m.dst ≠ none) : s.onCommand true = true := by
  simp [State.onCommand, hmove, hstate, Option.isSome_iff_ne_none.2 hsince, Option.isSome_iff_ne_none.2 hdst]

end

/-- The response a reply is still owed, its link not reset since. -/
theorem State.answer_eq_queued (s : State) (y : Reply) (st : Status) (h : (s.links.get y.link).resetCount = y.gen) :
    s.answer y st = s.queued y st .none := s.respond_eq_queued y st .none h

theorem updateKeyed_updateKeyed {α : Type} (key : α → Nat) (k : Nat) (f g : α → α) (hf : ∀ a, key (f a) = key a) (l : List α) :
    updateKeyed key k g (updateKeyed key k f l) = updateKeyed key k (fun a => g (f a)) l := by
  simp only [updateKeyed, List.map_map]
  refine List.map_congr_left fun a _ => ?_
  by_cases hk : key a = k
  · simp [hk, hf]
  · simp [hk]

theorem State.demands_kept {s : State} {l : List Demand} (h : l = s.lib.demands) : ({ s with lib := { s.lib with demands := l } } : State) = s := by
  rw [h]

/-- With no demand for a platter, none ends with it (R140). -/
theorem State.endDemands_none {s : State} {id : Nat} (h : ∀ q ∈ s.lib.demands, q.side.platter ≠ id) (st : Status) : s.endDemands id st = s := by
  have hgone : s.lib.demands.filter (fun q => q.side.platter = id) = [] := List.filter_eq_nil_iff.2 fun q hq => by simpa using h q hq
  have hkept : s.lib.demands.filter (fun q => q.side.platter ≠ id) = s.lib.demands := List.filter_eq_self.2 fun q hq => by simpa using h q hq
  unfold State.endDemands
  rw [hgone]
  exact State.demands_kept hkept

/-- A slot becomes the occupied home of a platter that the picker takes (R158, R121). -/
def CatMem.carriedHome (c : CatMem) (id n : Nat) : CatMem :=
  { c with
    slots := insertKeyed SlotRec.slot ⟨n, .occupied id⟩ (c.slots.filter (fun r => decide (r.slot = n ∨ (r.use ≠ .occupied id ∧ r.use ≠ .reserved id))))
    platters := updateKeyed Platter.id id (fun p => { p with home := some n, loc := .picker }) c.platters }

theorem State.giveHome_carry (s : State) (id n : Nat) :
    (s.modCat (fun c => c.giveHome id n)).carry id =
      State.modPicker { s with cat := s.cat.carriedHome id n } (fun k => { k with held := some id }) := by
  have hplatters : (s.cat.carriedHome id n).platters =
      updateKeyed Platter.id id (fun p => { p with loc := .picker }) (s.cat.giveHome id n).platters :=
    (updateKeyed_updateKeyed Platter.id id (fun p => { p with home := some n }) (fun p => { p with loc := .picker }) (fun _ => rfl) s.cat.platters).symm
  have hcat : { s.cat.giveHome id n with
      platters := updateKeyed Platter.id id (fun p => { p with loc := .picker }) (s.cat.giveHome id n).platters } = s.cat.carriedHome id n := by
    rw [← hplatters]; rfl
  rw [← hcat]
  rfl

/-- A slot becomes the home of a platter whose record has just been changed otherwise. -/
theorem CatMem.carriedHome_update (c : CatMem) (id n : Nat) (f : Platter → Platter) (hf : ∀ p, (f p).id = p.id) :
    CatMem.carriedHome { c with platters := updateKeyed Platter.id id f c.platters } id n = { c with
      slots := insertKeyed SlotRec.slot ⟨n, .occupied id⟩ (c.slots.filter (fun r => decide (r.slot = n ∨ (r.use ≠ .occupied id ∧ r.use ≠ .reserved id))))
      platters := updateKeyed Platter.id id (fun p => { f p with home := some n, loc := .picker }) c.platters } := by
  simp only [CatMem.carriedHome, updateKeyed_updateKeyed Platter.id id f _ hf]

/-! ## Drive and platter records changed twice -/

theorem State.modDrive_modDrive (s : State) (d : DriveNo) (f g : Drive → Drive) : (s.modDrive d f).modDrive d g = s.modDrive d (fun k => g (f k)) := by
  simp only [State.modDrive, Six.get_set_same, Six.set_set]

theorem State.modPlatter_modPlatter (s : State) (id : Nat) (f g : Platter → Platter) (hf : ∀ p, (f p).id = p.id) :
    (s.modPlatter id f).modPlatter id g = s.modPlatter id (fun p => g (f p)) := by
  simp only [State.modPlatter, State.modCat, updateKeyed_updateKeyed Platter.id id f g hf]

theorem State.platter?_modPlatter {s : State} {id : Nat} {p : Platter} (h : s.platter? id = some p) (f : Platter → Platter) (hf : ∀ p, (f p).id = p.id) :
    (s.modPlatter id f).platter? id = some (f p) := by
  have hfind : findKeyed Platter.id id (updateKeyed Platter.id id f s.cat.platters) = _ := findKeyed_updateKeyed Platter.id id id f hf _
  have hp : findKeyed Platter.id id s.cat.platters = some p := h
  rw [hp] at hfind
  exact hfind.trans (by simp [(State.platter?_some h).2])

/-- A DRIVE_RESET in progress is answered, its link not reset since (R128). -/
theorem State.answerReset_eq_queued {s : State} {d : DriveNo} {y : Reply} (h : (s.lib.drives.get d).reset = some y)
    (hgen : (s.links.get y.link).resetCount = y.gen) (st : Status) :
    s.answerReset d st = (s.modDrive d (fun k => { k with reset := none })).queued y st .none := by
  have hreset : (s.drive d).reset = some y := h
  simp only [State.answerReset, hreset]
  exact State.answer_eq_queued (s.modDrive d _) y st hgen

theorem State.queued_modDrive (s : State) (y : Reply) (st : Status) (b : Body) (d : DriveNo) (f : Drive → Drive) :
    (s.queued y st b).modDrive d f = (s.modDrive d f).queued y st b := (rfl)

/-- A drive that holds nothing any more, its DRIVE_RESET answered (R128). -/
theorem State.answerReset_vacate {s : State} {d : DriveNo} {y : Reply} (h : (s.lib.drives.get d).reset = some y)
    (hgen : (s.links.get y.link).resetCount = y.gen) (st : Status) :
    (s.answerReset d st).vacate d = (s.vacate d).queued y st .none := by
  rw [State.answerReset_eq_queued h hgen, State.vacate, State.queued_modDrive, State.modDrive_modDrive, State.vacate]

/-! ## The slot of a platter that comes back -/

/-- The slot a platter with a record is returned to: its home, where the slot is occupied by it, or else the lowest free slot (R158). -/
def CatMem.ReturnsTo (c : CatMem) (p : Platter) (id n : Nat) : Prop :=
  (p.home = some n ∧ c.slotUse? n = some (.occupied id)) ∨ ((∀ h, p.home = some h → c.slotUse? h ≠ some (.occupied id)) ∧ c.lowestFree = some n)

theorem CatMem.returnSlot_eq {c : CatMem} {p : Platter} {n : Nat} (h : c.ReturnsTo p p.id n) : c.returnSlot p = some n := by
  unfold CatMem.returnSlot CatMem.usableHome
  obtain ⟨hhome, huse⟩ | ⟨hhome, hfree⟩ := h
  · simp [hhome, huse]
  · cases hp : p.home with
    | none => simp [hfree]
    | some h => simp [hhome h hp, hfree]

theorem CatMem.returnSlot_none {c : CatMem} {p : Platter} (hhome : p.home = none) (hfree : c.lowestFree = none) : c.returnSlot p = none := by
  simp [CatMem.returnSlot, CatMem.usableHome, hhome, hfree]

/-- A known platter begins its way to a slot, which becomes its home (R138 step 2, R158). -/
theorem State.moveHome_eq (s : State) (d : DriveNo) (id n : Nat) (sd : Side) (p : Piece) :
    s.moveHome d id n sd p = State.givePicker { s with cat := s.cat.carriedHome id n, lib := { s.lib with picker := { s.lib.picker with held := some id } } }
      (.drive d) (some (.slot n)) (sd == .s1) p := by
  rw [State.moveHome, State.giveHome_carry]
  rfl

section
variable {s : State} {d : DriveNo} {sd : Side}

theorem State.homeMove_known {id n : Nat} {p : Platter} (hin : (s.lib.drives.get d).platter = some ⟨some id, sd⟩) (hp : s.platter? id = some p)
    (hret : s.cat.ReturnsTo p id n) (new : Option Nat) : s.homeMove d new = s.moveHome d id n sd (.homeMove d) := by
  have hplatter : (s.drive d).platter = some ⟨some id, sd⟩ := hin
  obtain rfl : p.id = id := (State.platter?_some hp).2
  simp only [State.homeMove, hplatter, Option.bind_some, hp, CatMem.returnSlot_eq hret]

theorem State.homeMove_noSlot {id : Nat} {p : Platter} (hin : (s.lib.drives.get d).platter = some ⟨some id, sd⟩) (hp : s.platter? id = some p)
    (hhome : p.home = none) (hfree : s.cat.lowestFree = none) (new : Option Nat) : s.homeMove d new = (s.answerReset d .noSlot).endPiece := by
  have hplatter : (s.drive d).platter = some ⟨some id, sd⟩ := hin
  simp only [State.homeMove, hplatter, Option.bind_some, hp, CatMem.returnSlot_none hhome hfree]

/-- A platter without a record goes to the lowest free slot, the picker carrying the number its label has given it, if any (R158). -/
theorem State.homeMove_unknown {n : Nat} (hin : (s.lib.drives.get d).platter = some ⟨none, sd⟩) (hfree : s.cat.lowestFree = some n) (new : Option Nat) :
    s.homeMove d new = (s.modPicker (fun k => { k with held := new })).givePicker (.drive d) (some (.slot n)) (sd == .s1) (.homeMove d) := by
  have hplatter : (s.drive d).platter = some ⟨none, sd⟩ := hin
  simp only [State.homeMove, hplatter, Option.bind_none, hfree]

end

/-- A return-home piece is next where it is the first queued (R130). -/
theorem State.pickerNext_return {s : State} (hidle : s.lib.picker.state = .idle) (hd : s.lib.doorOpen = false) (hsweep : s.lib.sweep.running = false)
    (hpower : s.power = .running) {d : DriveNo} {rest : List DriveNo} (hr : s.lib.returns = d :: rest) :
    s.pickerNext = (s.modLib (fun l => { l with returns := rest })).startReturn d := by
  simp only [State.pickerNext, if_pos (And.intro hidle (And.intro hd (And.intro hsweep hpower))), hr]

end Sys2Proof.Machine
end

section
/-!
PROOFS. Obligation O46, the requests: what refuses an IMPORT and an EXPORT, and how one that is taken begins or waits.
-/
namespace Sys2Proof.Machine
set_option Elab.async false

/-! ## The picker's next piece -/

section
variable {s : State} (hidle : s.lib.picker.state = .idle) (hd : s.lib.doorOpen = false) (hsweep : s.lib.sweep.running = false)
  (hpower : s.power = .running) (hreturns : s.lib.returns = [])
include hidle hd hsweep hpower hreturns

/-- With no return-home piece queued, the first media request is next (R130). -/
theorem State.pickerNext_media {m : MediaReq} {rest : List MediaReq} (hm : s.lib.media = m :: rest) :
    s.pickerNext = (s.modLib (fun b => { b with media := rest })).startMedia m := by
  simp only [State.pickerNext, if_pos (And.intro hidle (And.intro hd (And.intro hsweep hpower))), hreturns, hm]

/-- With nothing else queued the arbiter runs (R130). -/
theorem State.pickerNext_arbiter (hm : s.lib.media = []) : s.pickerNext = s.arbiter := by
  simp only [State.pickerNext, if_pos (And.intro hidle (And.intro hd (And.intro hsweep hpower))), hreturns, hm]

end

/-- A media request appended to the queue. -/
def State.asked (s : State) (m : MediaReq) : State := { s with lib := { s.lib with media := s.lib.media ++ [m] } }

/-- A request queued as a media request, the picker not IDLE. -/
theorem request_waits {s : State} {l : Link} {t : Nat} {q : Request} (h : s.Takes l t q) {m : MediaReq}
    (hq : (s.tagTaken l t).handle (s.replyTo l t q) q = ((s.tagTaken l t).asked m).later [.pickerNext])
    (hbusy : s.lib.picker.state ≠ .idle) : request l t q s = .next ((s.tagTaken l t).asked m) := by
  have hreq := request_takes s l t q h
  rw [hq] at hreq
  have hrest : ((s.tagTaken l t).asked m).pickerNext = (s.tagTaken l t).asked m := State.pickerNext_rests (.inl hbusy)
  exact hreq.trans (congrArg _ (State.settle_later_one h.1.1.2.1 hrest h.1.1.2.1))

/-- A request queued as a media request where nothing else is queued and the picker is free begins at once. -/
theorem request_begins {s u : State} {l : Link} {t : Nat} {q : Request} (h : s.Takes l t q) {m : MediaReq}
    (hq : (s.tagTaken l t).handle (s.replyTo l t q) q = ((s.tagTaken l t).asked m).later [.pickerNext])
    (hidle : s.lib.picker.state = .idle) (hd : s.lib.doorOpen = false) (hsweep : s.lib.sweep.running = false)
    (hreturns : s.lib.returns = []) (hmedia : s.lib.media = []) (hu : (s.tagTaken l t).startMedia m = u) (ha : u.agenda = []) :
    request l t q s = .next u := by
  have hreq := request_takes s l t q h
  rw [hq] at hreq
  have hqueue : ((s.tagTaken l t).asked m).lib.media = [m] := congrArg (· ++ [m]) hmedia
  have hnext := State.pickerNext_media (s := (s.tagTaken l t).asked m) hidle hd hsweep h.1.1.1 hreturns hqueue
  have hback : ((s.tagTaken l t).asked m).modLib (fun b => { b with media := [] }) = s.tagTaken l t := by
    rw [← hmedia]; rfl
  rw [hback, hu] at hnext
  exact hreq.trans (congrArg _ (State.settle_later_one h.1.1.2.1 hnext ha))

/-! ## IMPORT -/

section
variable {s : State}

theorem State.importRefusal_open (hd : s.lib.doorOpen = true) : s.importRefusal = some .doorOpen := if_pos hd

variable (hd : s.lib.doorOpen = false)
include hd

theorem State.importRefusal_sweep (hw : s.lib.sweep.running = true) : s.importRefusal = some .inventoryRunning := by
  simp [State.importRefusal, hd, hw]

variable (hw : s.lib.sweep.running = false)
include hw

theorem State.importRefusal_jammed (hj : s.lib.picker.state = .jammed) : s.importRefusal = some .pickerJammed := by
  simp [State.importRefusal, hd, hw, hj]

variable (hj : s.lib.picker.state ≠ .jammed)
include hj

theorem State.importRefusal_empty (hm : s.lib.mail = .empty) : s.importRefusal = some .mailSlotEmpty := by
  simp [State.importRefusal, hd, hw, hj, hm]

theorem State.importRefusal_none (hm : s.lib.mail ≠ .empty) : s.importRefusal = none := by
  simp [State.importRefusal, hd, hw, hj, hm]

end

section
variable {s : State} {l : Link} {t : Nat}

theorem import_handled (hr : s.importRefusal = none) : (s.tagTaken l t).handle (s.replyTo l t .importPlatter) .importPlatter =
    ((s.tagTaken l t).asked (.importReq (some (s.replyTo l t .importPlatter)))).later [.pickerNext] := by
  have htaken : (s.tagTaken l t).importRefusal = none := hr
  simp only [State.handle, handleImport, State.askImport, htaken]
  rfl

variable (h : s.Takes l t .importPlatter)
include h

theorem import_refused {st : Status} (hr : s.importRefusal = some st) (hst : st ≠ .done) :
    exec (.importPlatter l t) s = .next (s.answered l t 0x50 st .none) := by
  refine request_answers s l t _ h st .none ?_
  have htaken : (s.tagTaken l t).importRefusal = some st := hr
  simp only [State.handle, handleImport, State.askImport, htaken, State.importEnds, if_neg hst, State.answer]

variable (hd : s.lib.doorOpen = false) (hw : s.lib.sweep.running = false) (hm : s.lib.mail ≠ .empty)
include hd hw hm

/-- A picker free with no other work reads the label at the mail slot at once (R141). -/
theorem import_begins (hidle : s.lib.picker.state = .idle) (hreturns : s.lib.returns = []) (hmedia : s.lib.media = []) :
    exec (.importPlatter l t) s =
      .next ((s.tagTaken l t).givePicker .mail none false (.importLabel (some (s.replyTo l t .importPlatter)))) :=
  request_begins h (import_handled (State.importRefusal_none hd hw (by simp [hidle]) hm)) hidle hd hw hreturns hmedia
    (if_neg (show (s.tagTaken l t).lib.mail ≠ .empty from hm)) h.1.1.2.1

theorem import_waits (hbusy : s.lib.picker.state = .moving ∨ s.lib.picker.state = .halted) :
    exec (.importPlatter l t) s = .next ((s.tagTaken l t).asked (.importReq (some (s.replyTo l t .importPlatter)))) := by
  have hj : s.lib.picker.state ≠ .jammed := by rcases hbusy with hb | hb <;> simp [hb]
  exact request_waits h (import_handled (State.importRefusal_none hd hw hj hm)) (by rcases hbusy with hb | hb <;> simp [hb])

end

/-! ## EXPORT -/

/-- A platter in a slot or a drive that is in use: a demand for it, an OPEN side, or a drive not READY or with uses (R143). -/
def State.ExportBusy (s : State) (id : Nat) (p : Platter) : Prop :=
  (∃ q ∈ s.lib.demands, q.side.platter = id) ∨ (∃ f, p.side0.state = .opened f) ∨ (∃ f, p.side1.state = .opened f) ∨
    ∃ d, p.loc = .drive d ∧ ((s.lib.drives.get d).state ≠ .ready ∨ (s.lib.drives.get d).work ≠ [])

theorem State.driveInUse_iff (s : State) (p : Platter) :
    (match p.loc with | .drive d => !((s.drive d).state == .ready && (s.drive d).work.isEmpty) | _ => false) = true ↔
      ∃ d, p.loc = .drive d ∧ ((s.lib.drives.get d).state ≠ .ready ∨ (s.lib.drives.get d).work ≠ []) := by
  cases p.loc <;> simp [State.drive, ← not_and_or]

section
variable {s : State} {id : Nat} {p : Platter} (hp : s.platter? id = some p)

theorem State.exportRefusal_notHeld (hp : s.platter? id = none) : s.exportRefusal id = some .notHeld := by
  simp only [State.exportRefusal, hp]

include hp

theorem State.exportRefusal_offline (hloc : p.loc = .picker ∨ p.loc = .mail ∨ p.loc = .exported ∨ p.loc = .unknown) :
    s.exportRefusal id = some .offline := by
  simp only [State.exportRefusal, hp]
  rcases hloc with h | h | h | h <;> simp [h]

theorem State.exportRefusal_placed (hloc : (∃ n, p.loc = .slot n) ∨ ∃ d, p.loc = .drive d) [Decidable (s.ExportBusy id p)] :
    s.exportRefusal id =
      if s.lib.doorOpen = true then some .doorOpen
      else if s.lib.sweep.running = true then some .inventoryRunning
      else if s.lib.picker.state = .jammed then some .pickerJammed
      else if s.ExportBusy id p then some .platterBusy
      else if s.lib.mail ≠ .empty then some .mailSlotFull
      else none := by
  simp only [State.exportRefusal, hp]
  have hplaced : ¬(!(match p.loc with | .slot _ => true | .drive _ => true | _ => false)) = true := by
    rcases hloc with ⟨n, h⟩ | ⟨d, h⟩ <;> simp [h]
  refine (if_neg hplaced).trans (if_congr Iff.rfl rfl (if_congr Iff.rfl rfl (if_congr Iff.rfl rfl (if_congr ?_ rfl rfl))))
  simp only [State.ExportBusy, Bool.or_eq_true, List.any_eq_true, beq_iff_eq, or_assoc]
  exact or_congr_right (or_congr p.side0.opened_iff (or_congr p.side1.opened_iff (s.driveInUse_iff p)))

variable (hloc : (∃ n, p.loc = .slot n) ∨ ∃ d, p.loc = .drive d)
include hloc

theorem State.exportRefusal_open (hd : s.lib.doorOpen = true) : s.exportRefusal id = some .doorOpen := by
  classical simp [State.exportRefusal_placed hp hloc, hd]

variable (hd : s.lib.doorOpen = false)
include hd

theorem State.exportRefusal_sweep (hw : s.lib.sweep.running = true) : s.exportRefusal id = some .inventoryRunning := by
  classical simp [State.exportRefusal_placed hp hloc, hd, hw]

variable (hw : s.lib.sweep.running = false)
include hw

theorem State.exportRefusal_jammed (hj : s.lib.picker.state = .jammed) : s.exportRefusal id = some .pickerJammed := by
  classical simp [State.exportRefusal_placed hp hloc, hd, hw, hj]

variable (hj : s.lib.picker.state ≠ .jammed)
include hj

theorem State.exportRefusal_busy (hb : s.ExportBusy id p) : s.exportRefusal id = some .platterBusy := by
  classical simp [State.exportRefusal_placed hp hloc, hd, hw, hj, hb]

variable (hb : ¬s.ExportBusy id p)
include hb

theorem State.exportRefusal_full (hm : s.lib.mail ≠ .empty) : s.exportRefusal id = some .mailSlotFull := by
  classical simp [State.exportRefusal_placed hp hloc, hd, hw, hj, hb, hm]

theorem State.exportRefusal_none (hm : s.lib.mail = .empty) : s.exportRefusal id = none := by
  classical simp [State.exportRefusal_placed hp hloc, hd, hw, hj, hb, hm]

end

section
variable {s : State} {id : Nat} {p : Platter} {l : Link} {t : Nat}

theorem State.exportBusy_slot {n : Nat} (hloc : p.loc = .slot n) :
    s.ExportBusy id p ↔ (∃ q ∈ s.lib.demands, q.side.platter = id) ∨ (∃ f, p.side0.state = .opened f) ∨ ∃ f, p.side1.state = .opened f := by
  simp [State.ExportBusy, hloc]

theorem State.not_exportBusy (hq : ∀ q ∈ s.lib.demands, q.side.platter ≠ id) (h0 : ∀ f, p.side0.state ≠ .opened f)
    (h1 : ∀ f, p.side1.state ≠ .opened f)
    (hdrive : ∀ d, p.loc = .drive d → (s.lib.drives.get d).state = .ready ∧ (s.lib.drives.get d).work = []) : ¬s.ExportBusy id p := by
  rintro (⟨q, hmem, heq⟩ | ⟨f, hf⟩ | ⟨f, hf⟩ | ⟨d, hd, hne⟩)
  · exact hq q hmem heq
  · exact h0 f hf
  · exact h1 f hf
  · obtain ⟨hready, hwork⟩ := hdrive d hd
    simp [hready, hwork] at hne

theorem export_handled (hr : s.exportRefusal id = none) :
    (s.tagTaken l t).handle (s.replyTo l t (.exportPlatter id)) (.exportPlatter id) =
      ((s.tagTaken l t).asked (.exportReq (s.replyTo l t (.exportPlatter id)) id)).later [.pickerNext] := by
  have htaken : (s.tagTaken l t).exportRefusal id = none := hr
  simp only [State.handle, handleExport, htaken]
  rfl

theorem State.startMedia_slot (hp : s.platter? id = some p) (hr : s.exportRefusal id = none) (y : Reply) {n : Nat} (hloc : p.loc = .slot n) :
    s.startMedia (.exportReq y id) = (s.carry id).givePicker (.slot n) (some .mail) false (.exportMove y id) := by
  have hl : s.locOf id = some (.slot n) := by simp [State.locOf, hp, hloc]
  simp only [State.startMedia, hr, hl]

theorem State.startMedia_drive (hp : s.platter? id = some p) (hr : s.exportRefusal id = none) (y : Reply) {d : DriveNo} (hloc : p.loc = .drive d)
    {x : Option Nat} {sd : Side} (hin : (s.lib.drives.get d).platter = some ⟨x, sd⟩) :
    s.startMedia (.exportReq y id) = (s.command d .unload).waitAtDrive d (some .mail) (sd == .s1) (.exportUnload y id d) := by
  have hl : s.locOf id = some (.drive d) := by simp [State.locOf, hp, hloc]
  simp only [State.startMedia, hr, hl, State.drive, hin]

variable (h : s.Takes l t (.exportPlatter id))
include h

theorem export_refused {st : Status} (hr : s.exportRefusal id = some st) :
    exec (.exportPlatter l t id) s = .next (s.answered l t 0x51 st .none) := by
  refine request_answers s l t _ h st .none ?_
  have htaken : (s.tagTaken l t).exportRefusal id = some st := hr
  simp only [State.handle, handleExport, htaken, State.answer]

variable (hr : s.exportRefusal id = none)
include hr

theorem export_waits (hbusy : s.lib.picker.state ≠ .idle) :
    exec (.exportPlatter l t id) s = .next ((s.tagTaken l t).asked (.exportReq (s.replyTo l t (.exportPlatter id)) id)) :=
  request_waits h (export_handled hr) hbusy

variable (hidle : s.lib.picker.state = .idle) (hd : s.lib.doorOpen = false) (hw : s.lib.sweep.running = false)
  (hreturns : s.lib.returns = []) (hmedia : s.lib.media = []) (hp : s.platter? id = some p)
include hidle hd hw hreturns hmedia hp

theorem export_begins_slot {n : Nat} (hloc : p.loc = .slot n) :
    exec (.exportPlatter l t id) s = .next (((s.tagTaken l t).carry id).givePicker (.slot n) (some .mail) false
      (.exportMove (s.replyTo l t (.exportPlatter id)) id)) :=
  request_begins h (export_handled hr) hidle hd hw hreturns hmedia (State.startMedia_slot (s := s.tagTaken l t) hp hr _ hloc) h.1.1.2.1

/-- UNLOAD is issued to the drive that holds the platter, and the picker waits there (R143). -/
theorem export_begins_drive {d : DriveNo} (hloc : p.loc = .drive d) {x : Option Nat} {sd : Side} (hin : (s.lib.drives.get d).platter = some ⟨x, sd⟩) :
    exec (.exportPlatter l t id) s = .next (((s.tagTaken l t).command d .unload).waitAtDrive d (some .mail) (sd == .s1)
      (.exportUnload (s.replyTo l t (.exportPlatter id)) id d)) :=
  request_begins h (export_handled hr) hidle hd hw hreturns hmedia (State.startMedia_drive (s := s.tagTaken l t) hp hr _ hloc hin) h.1.1.2.1

end

end Sys2Proof.Machine
end

section
/-!
PROOFS. Obligation O46, the label and the moves: what an import's label decides, and the moves of an import and an EXPORT done.
-/
namespace Sys2Proof.Machine
set_option Elab.async false

/-! ## The outcome of an import -/

/-- An import other than DONE has ended: its response is queued, or, made without a request, its outcome stands in STATUS (R142, R146). -/
def State.told (s : State) (y : Option Reply) (st : Status) (id : Nat) : State :=
  match y with
  | some r => s.queued r st .none
  | none => { s with lib := { s.lib with outcome := some { status := st, id := id } } }

section
variable {s : State} {y : Option Reply}

theorem State.importEnds_eq_told (hgen : ∀ r ∈ y, (s.links.get r.link).resetCount = r.gen) {st : Status} (hst : st ≠ .done) (id slot : Nat) :
    s.importEnds y st id slot = s.told y st id := by
  cases y with
  | none => rfl
  | some r => exact (if_neg hst).trans (s.answer_eq_queued r st (hgen r rfl))

theorem State.told_agenda (st : Status) (id : Nat) : (s.told y st id).agenda = s.agenda := by cases y <;> rfl

theorem State.told_workOver (st : Status) (id : Nat) : (s.told y st id).workOver = s.workOver.told y st id := by cases y <;> rfl

theorem State.told_nothingNext (h : s.NothingNext) (st : Status) (id : Nat) : (s.told y st id).NothingNext := by cases y <;> exact h

theorem State.told_doorOpen (st : Status) (id : Nat) : (s.told y st id).lib.doorOpen = s.lib.doorOpen := by cases y <;> rfl

theorem State.told_endPiece_open (ha : s.agenda = []) (hd : s.lib.doorOpen = true) (st : Status) (id : Nat) :
    (s.told y st id).endPiece.settle = s.workOver.told y st id := by
  have hopen : (s.told y st id).lib.doorOpen = true := (State.told_doorOpen st id).trans hd
  rw [State.endPiece_open hopen, State.told_workOver,
    State.settle_nil _ ((State.told_agenda (s := s.workOver) st id).trans ha)]

end

/-! ## What a label decides -/

section
variable {s : State} {id : Nat} (hid : id ≠ 0)

theorem State.importSlot_noLabel (s : State) : s.importSlot 0 = .error .noLabel := rfl

section
variable (hn : s.platter? id = none)
include hid hn

theorem State.importSlot_new_noSlot (hf : s.cat.lowestFree = none) : s.importSlot id = .error .noSlot := by
  simp [State.importSlot, hid, hn, hf]

theorem State.importSlot_new_full (hf : s.cat.lowestFree ≠ none) (hlen : 160 ≤ s.cat.platters.length) : s.importSlot id = .error .tableFull := by
  obtain ⟨m, hm⟩ := Option.ne_none_iff_exists'.1 hf
  simp [State.importSlot, hid, hn, hm, Config.maxPlatters, hlen]

theorem State.importSlot_new {n : Nat} (hf : s.cat.lowestFree = some n) (hlen : s.cat.platters.length < 160) : s.importSlot id = .ok n := by
  simp [State.importSlot, hid, hn, hf, Config.maxPlatters, Nat.not_le.2 hlen]

end

variable {p : Platter} (hp : s.platter? id = some p)
include hid hp

theorem State.importSlot_duplicate (hloc : p.loc ≠ .exported) (hm : s.lib.mail ≠ .outgoing id) : s.importSlot id = .error .duplicate := by
  simp only [State.importSlot, if_neg hid, hp, if_neg hm]

theorem State.importSlot_homeless (hin : p.loc = .exported ∨ s.lib.mail = .outgoing id) (hh : p.home = none) (hf : s.cat.lowestFree = none) :
    s.importSlot id = .error .noSlot := by
  simp only [State.importSlot, if_neg hid, hp, hh, hf]
  split
  · rfl
  · exact if_pos (hin.resolve_left ‹_›)

theorem State.importSlot_home {n : Nat} (hh : p.home = some n)
    (hin : (p.loc = .exported ∧ s.cat.slotUse? n = some (.reserved id)) ∨ (p.loc ≠ .exported ∧ s.lib.mail = .outgoing id)) :
    s.importSlot id = .ok n := by
  simp only [State.importSlot, if_neg hid, hp, hh]
  rcases hin with ⟨hloc, hres⟩ | ⟨hloc, hm⟩
  · simp only [hloc, if_pos hres]
  · split
    · exact absurd ‹_› hloc
    · exact if_pos hm

end

/-! ## The label read of an import -/

/-- The label number of a report, EMPTY taken as 0 (assumption log 26). -/
def labelNumber : LabelReport → Nat
  | .label n => n
  | .empty => 0

section
variable {s : State} (hs : s.Quiet) {m : Move} (hmove : s.lib.picker.move = some m) {y : Option Reply}
  (hpiece : s.lib.picker.piece = some (.importLabel y)) (hstate : s.lib.picker.state = .moving) (hsince : s.lib.picker.since ≠ none)
  (hdst : m.dst = none)
include hs hmove hpiece hstate hsince hdst

theorem exec_importLabel (rep : LabelReport) : exec (.pickerLabelReport rep) s = .next (s.importLabelled y rep).settle := by
  have hon := State.onCommand_label hmove hstate hsince hdst
  rw [exec_pickerLabelReport hs, State.labelReport, hon, hpiece]
  rfl

variable (hgen : ∀ r ∈ y, (s.links.get r.link).resetCount = r.gen)
include hgen

theorem importLabel_refused (hn : s.NothingNext) (rep : LabelReport) {st : Status} (hslot : s.importSlot (labelNumber rep) = .error st) (hst : st ≠ .done) :
    exec (.pickerLabelReport rep) s = .next (s.workOver.told y st (labelNumber rep)) := by
  rw [exec_importLabel hs hmove hpiece hstate hsince hdst]
  have hlab : s.importLabelled y rep = (s.told y st (labelNumber rep)).endPiece := by
    rw [← State.importEnds_eq_told hgen hst (labelNumber rep) 0]
    unfold State.importLabelled
    cases rep <;> simp only [labelNumber] at hslot <;> simp only [hslot] <;> rfl
  rw [hlab, State.endPiece_settle ((State.told_agenda _ _).trans hs.2) (State.told_nothingNext hn _ _), State.told_workOver]

/-- With the door open the import is answered DOOR_OPEN, and the mail slot is INCOMING (R149; assumption log 48). -/
theorem importLabel_interrupted (hd : s.lib.doorOpen = true) {id n : Nat} (hslot : s.importSlot id = .ok n) :
    exec (.pickerLabelReport (.label id)) s =
      .next (State.told { s with lib := { s.lib with mail := .incoming, picker := s.pickerFreed } } y .doorOpen id) := by
  rw [exec_importLabel hs hmove hpiece hstate hsince hdst]
  have hint : s.interrupted = true := by simp [State.interrupted, hd]
  have hlab : s.importLabelled y (.label id) = (State.told { s with lib := { s.lib with mail := .incoming } } y .doorOpen id).endPiece := by
    simp only [State.importLabelled, hslot, hint, if_true]
    rw [State.importEnds_eq_told hgen (by decide)]
    cases y <;> rfl
  rw [hlab, State.told_endPiece_open (s := { s with lib := { s.lib with mail := .incoming } }) hs.2 hd]
  rfl

omit hgen

section
variable (hd : s.lib.doorOpen = false) (hdue : s.lib.sweepDue = false) {id n : Nat} (hslot : s.importSlot id = .ok n)
include hd hdue hslot

/-- The move of a new platter begins (R142). -/
theorem importLabel_begins_new (hn : s.platter? id = none) :
    exec (.pickerLabelReport (.label id)) s = .next (State.givePicker
      { s with lib := { s.lib with mail := .empty, picker := { s.lib.picker with held := some id } } } .mail (some (.slot n)) false (.importMove y id)) := by
  rw [exec_importLabel hs hmove hpiece hstate hsince hdst]
  have hint : s.interrupted = false := by simp [State.interrupted, hd, hdue]
  refine congrArg _ ((congrArg State.settle ?_).trans (State.settle_nil _ hs.2))
  simp only [State.importLabelled, hslot, hint, hn]
  rfl

/-- The move of a platter with a record begins, its slot now its home (R142). -/
theorem importLabel_begins_held {p : Platter} (hp : s.platter? id = some p) :
    exec (.pickerLabelReport (.label id)) s = .next (State.givePicker
      { s with cat := s.cat.carriedHome id n, lib := { s.lib with mail := .empty, picker := { s.lib.picker with held := some id } } }
      .mail (some (.slot n)) false (.importMove y id)) := by
  rw [exec_importLabel hs hmove hpiece hstate hsince hdst]
  have hint : s.interrupted = false := by simp [State.interrupted, hd, hdue]
  refine congrArg _ ((congrArg State.settle ?_).trans (State.settle_nil _ hs.2))
  simp only [State.importLabelled, hslot, hint, hp, State.giveHome_carry]
  rfl

end

end

/-! ## A move done -/

theorem State.moveSlot_eq {s : State} {m : Move} {n : Nat} (hmove : s.lib.picker.move = some m) (hdst : m.dst = some (.slot n)) :
    s.moveSlot = n := by
  obtain ⟨src, dst, flip⟩ := m
  obtain rfl : dst = some (.slot n) := hdst
  simp only [State.moveSlot, hmove]

/-- An import's move is done: its platter is in its slot, with its record (R142). -/
def State.placed (s : State) (y : Option Reply) (id n : Nat) (c : CatMem) : State :=
  match y with
  | some r => State.queued { s with cat := c, lib := { s.lib with picker := s.pickerFreed } } r .done (.imported id n)
  | none => { s with cat := c, lib := { s.lib with picker := s.pickerFreed, outcome := some { status := .done, id := id } } }

section
variable {s : State} (hs : s.Quiet) {m : Move} (hmove : s.lib.picker.move = some m) (hstate : s.lib.picker.state = .moving)
  (hsince : s.lib.picker.since ≠ none) (hn : s.NothingNext)
include hs hmove hstate hsince hn

section
variable (hm : s.HeadHasMedia) {n : Nat} (hdst : m.dst = some (.slot n)) {y : Option Reply} {id : Nat}
  (hpiece : s.lib.picker.piece = some (.importMove y id)) (hgen : ∀ r ∈ y, (s.links.get r.link).resetCount = r.gen)
include hm hdst hpiece hgen

theorem importMove_done {c : CatMem} (hc : (if (s.platter? id).isSome then s.setLoc id (.slot n) else s.modCat (fun c => c.addPlatter id n)) = { s with cat := c }) :
    exec .pickerMoveDone s = .next (s.placed y id n c) := by
  have hon := State.onCommand_move hmove hstate hsince (by simp [hdst])
  have hmoved : s.moveDone = ((State.importEnds { s with cat := c } y .done id n).later [.mediaRetry]).endPiece := by
    simp only [State.moveDone, hon, hpiece, Bool.not_true, Bool.false_eq_true, if_false, State.importMoved, State.moveSlot_eq hmove hdst, hc]
  rw [exec_pickerMoveDone hs, hmoved]
  cases y with
  | none => rw [State.endPiece_retry_settle (s := State.importEnds { s with cat := c } none .done id n) hs.2 hn hm]; rfl
  | some r =>
    have hends : State.importEnds { s with cat := c } (some r) .done id n = State.queued { s with cat := c } r .done (.imported id n) :=
      State.respond_eq_queued { s with cat := c } r .done _ (hgen r rfl)
    rw [hends, State.endPiece_retry_settle (s := State.queued { s with cat := c } r .done (.imported id n)) hs.2 hn hm]
    rfl

end

end

/-- A platter in the mail slot, OUTGOING (R143, R123). -/
def State.mailed (s : State) (id : Nat) : State :=
  { s with
    cat := { s.cat with platters := updateKeyed Platter.id id (fun p => { p with loc := .mail }) s.cat.platters }
    lib := { s.lib with mail := .outgoing id } }

/-- An EXPORT's move is done: the platter is in the mail slot, OUTGOING, and the response gives its id (R143, R123). -/
theorem State.exportMoved_settle {s : State} {y : Reply} {id : Nat} (ha : s.agenda = []) (hn : s.NothingNext)
    (hgen : (s.links.get y.link).resetCount = y.gen) (hq : ∀ q ∈ s.lib.demands, q.side.platter ≠ id) :
    (s.exportMoved y id).settle = ((s.mailed id).queued y .done (.exported id)).workOver := by
  have hmoved : s.exportMoved y id = (((s.mailed id).respond y .done (.exported id)).endDemands id .offline).endPiece := rfl
  rw [hmoved, State.respond_eq_queued (s.mailed id) y .done (.exported id) hgen,
    State.endDemands_none (s := (s.mailed id).queued y .done (.exported id)) hq]
  exact State.endPiece_settle (s := (s.mailed id).queued y .done (.exported id)) ha hn

theorem State.emptied_unloading {s : State} {d : DriveNo} (h : (s.lib.drives.get d).state = .unloading) :
    s.emptied d = { s with lib := { s.lib with drives := s.lib.drives.set d (Drive.vacant .empty) } } := if_pos h

section
variable {s : State} (hs : s.Quiet) {m : Move} (hmove : s.lib.picker.move = some m) (hstate : s.lib.picker.state = .moving)
  (hsince : s.lib.picker.since ≠ none) (hn : s.NothingNext) (hdst : m.dst ≠ none) {y : Reply} {id : Nat}
  (hgen : (s.links.get y.link).resetCount = y.gen) (hq : ∀ q ∈ s.lib.demands, q.side.platter ≠ id)
include hs hmove hstate hsince hn hdst hgen hq

theorem exportMove_done (hpiece : s.lib.picker.piece = some (.exportMove y id)) :
    exec .pickerMoveDone s = .next ((s.mailed id).queued y .done (.exported id)).workOver := by
  have hon := State.onCommand_move hmove hstate hsince hdst
  rw [exec_pickerMoveDone hs, State.moveDone, hon, hpiece]
  exact congrArg _ (State.exportMoved_settle hs.2 hn hgen hq)

theorem exportDrive_done {d : DriveNo} (hpiece : s.lib.picker.piece = some (.exportDrive y id d)) (hd : (s.lib.drives.get d).state = .unloading) :
    exec .pickerMoveDone s = .next ((State.mailed { s with lib := { s.lib with drives := s.lib.drives.set d (Drive.vacant .empty) } } id).queued
      y .done (.exported id)).workOver := by
  have hon := State.onCommand_move hmove hstate hsince hdst
  rw [exec_pickerMoveDone hs, State.moveDone, hon, hpiece]
  refine congrArg _ ((congrArg (fun t => (State.exportMoved t y id).settle) (State.emptied_unloading hd)).trans ?_)
  exact State.exportMoved_settle (s := { s with lib := { s.lib with drives := s.lib.drives.set d (Drive.vacant .empty) } }) hs.2 hn hgen hq

end

/-- The lowest free slot in the words of R122. -/
theorem CatMem.lowestFree_isFirst (c : CatMem) :
    let free (n : Nat) : Prop := 1 ≤ n ∧ n ≤ 160 ∧ ∀ r ∈ c.slots, r.slot ≠ n
    (∀ n, c.lowestFree = some n ↔ free n ∧ ∀ m, m < n → ¬free m) ∧ (c.lowestFree = none ↔ ∀ n, ¬free n) := by
  simp only [CatMem.lowestFree_eq_some, CatMem.lowestFree_eq_none, ← CatMem.slotUse?_eq_none]
  refine ⟨fun n => ?_, ?_⟩
  · constructor
    · rintro ⟨hfree, hmin⟩
      exact ⟨hfree, fun m hm hfm => hmin m hfm.1 hm hfm.2.2⟩
    · rintro ⟨hfree, hmin⟩
      exact ⟨hfree, fun m h1 hm hnone => hmin m hm ⟨h1, by omega, hnone⟩⟩
  · exact ⟨fun h n hf => h n hf.1 hf.2.1 hf.2.2, fun h n h1 h2 hnone => h n ⟨h1, h2, hnone⟩⟩

/-- Settles O46: the requests, the label of an import, the lowest free slot, and the moves done. -/
theorem importAndExportTaken : Obligations.ImportAndExportTaken := by
  refine ⟨fun l t s h => ?imports, fun l t id s h => ?exportsSlot, fun s l t id p hp h hd hw hj hq ho => ?exportsDrive,
    fun s hs m hmove y hpiece hstate hsince hdst hgen => ?label, CatMem.lowestFree_isFirst,
    fun s hs m hmove hstate hsince hn hmedia => ?moves⟩
  case imports =>
    exact ⟨fun hd => import_refused h (State.importRefusal_open hd) (by decide),
      fun hd hw => import_refused h (State.importRefusal_sweep hd hw) (by decide),
      fun hd hw hj => import_refused h (State.importRefusal_jammed hd hw hj) (by decide),
      fun hd hw hj hm => import_refused h (State.importRefusal_empty hd hw hj hm) (by decide),
      fun hd hw hm => ⟨import_begins h hd hw hm, import_waits h hd hw hm⟩⟩
  case exportsSlot =>
    refine ⟨fun hn => export_refused h (State.exportRefusal_notHeld hn), fun p hp =>
      ⟨fun hloc => export_refused h (State.exportRefusal_offline hp hloc), fun n hloc => ?_⟩⟩
    have hplaced : (∃ n, p.loc = .slot n) ∨ ∃ d, p.loc = .drive d := .inl ⟨n, hloc⟩
    refine ⟨fun hd => export_refused h (State.exportRefusal_open hp hplaced hd),
      fun hd hw => export_refused h (State.exportRefusal_sweep hp hplaced hd hw),
      fun hd hw hj => export_refused h (State.exportRefusal_jammed hp hplaced hd hw hj), fun hd hw hj =>
      ⟨fun hb => export_refused h (State.exportRefusal_busy hp hplaced hd hw hj ((State.exportBusy_slot hloc).2 hb)), fun hq h0 h1 => ?_⟩⟩
    have hfree : ¬s.ExportBusy id p := State.not_exportBusy hq h0 h1 (by simp [hloc])
    exact ⟨fun hm => export_refused h (State.exportRefusal_full hp hplaced hd hw hj hfree hm), fun hm hidle hreturns hmedia =>
      export_begins_slot h (State.exportRefusal_none hp hplaced hd hw hj hfree hm) hidle hd hw hreturns hmedia hp hloc⟩
  case exportsDrive =>
    have hfree := State.not_exportBusy hq (fun f => (ho f).1) (fun f => (ho f).2)
    refine ⟨fun d hloc => ?_, fun hplaced hm hbusy => ?_⟩
    · have hunused (hready : (s.lib.drives.get d).state = .ready) (hwork : (s.lib.drives.get d).work = []) : ¬s.ExportBusy id p := by
        refine hfree fun e he => ?_
        obtain rfl : d = e := by simpa [hloc] using he
        exact ⟨hready, hwork⟩
      exact ⟨fun huse => export_refused h (State.exportRefusal_busy hp (.inr ⟨d, hloc⟩) hd hw hj (.inr (.inr (.inr ⟨d, hloc, huse⟩)))),
        fun hready hwork hm => export_refused h (State.exportRefusal_full hp (.inr ⟨d, hloc⟩) hd hw hj (hunused hready hwork) hm),
        fun x sd hin hready hwork hm hidle hreturns hmedia => export_begins_drive h
          (State.exportRefusal_none hp (.inr ⟨d, hloc⟩) hd hw hj (hunused hready hwork) hm) hidle hd hw hreturns hmedia hp hloc hin⟩
    · have hunused : ¬s.ExportBusy id p := by
        refine hfree fun d hloc => ?_
        obtain ⟨n, hn⟩ | ⟨e, he, hready⟩ := hplaced
        · simp [hn] at hloc
        · obtain rfl : e = d := by simpa [he] using hloc
          exact hready
      exact export_waits h (State.exportRefusal_none hp (hplaced.imp_right fun ⟨d, hloc, _⟩ => ⟨d, hloc⟩) hd hw hj hunused hm) hbusy
  case label =>
    refine ⟨fun hn => ?refused, fun hd hdue => ?begins, fun id hid hnew hlen hfree hd => ?interrupted⟩
    case refused =>
      have hrefused := importLabel_refused hs hmove hpiece hstate hsince hdst hgen hn
      exact ⟨hrefused .empty s.importSlot_noLabel (by decide), hrefused (.label 0) s.importSlot_noLabel (by decide),
        fun id hid hnew => ⟨fun hf => hrefused (.label id) (State.importSlot_new_noSlot hid hnew hf) (by decide),
          fun hf hlen => hrefused (.label id) (State.importSlot_new_full hid hnew hf hlen) (by decide)⟩,
        fun id p hp hid => ⟨fun hloc hm => hrefused (.label id) (State.importSlot_duplicate hid hp hloc hm) (by decide),
          fun hin hh hf => hrefused (.label id) (State.importSlot_homeless hid hp hin hh hf) (by decide)⟩⟩
    case begins =>
      exact ⟨fun id n hf hid hnew hlen =>
          importLabel_begins_new hs hmove hpiece hstate hsince hdst hd hdue (State.importSlot_new hid hnew hf hlen) hnew,
        fun id p hp n hh hid hin =>
          importLabel_begins_held hs hmove hpiece hstate hsince hdst hd hdue (State.importSlot_home hid hp hh hin) hp⟩
    case interrupted =>
      obtain ⟨n, hn⟩ := Option.ne_none_iff_exists'.1 hfree
      exact importLabel_interrupted hs hmove hpiece hstate hsince hdst hgen hd (State.importSlot_new hid hnew hn hlen)
  case moves =>
    refine ⟨fun n hdst y id hpiece hgen => ⟨fun p hp => ?held, fun hnew => ?new⟩, fun hdst =>
      ⟨fun y id hpiece hgen hq => ?_, fun y id d hpiece hgen hq hd => ?_⟩⟩
    case held =>
      refine (importMove_done hs hmove hstate hsince hn hmedia hdst hpiece hgen (by rw [hp]; rfl)).trans (congrArg _ ?_)
      cases y <;> rfl
    case new =>
      refine (importMove_done hs hmove hstate hsince hn hmedia hdst hpiece hgen (by rw [hnew]; rfl)).trans (congrArg _ ?_)
      cases y <;> rfl
    · exact exportMove_done hs hmove hstate hsince hn hdst hgen hq hpiece
    · exact exportDrive_done hs hmove hstate hsince hn hdst hgen hq hpiece hd

end Sys2Proof.Machine
end

section
/-!
PROOFS. Obligation O57: a platter ejected, its label read, and the move that brings it to its slot.
-/
namespace Sys2Proof.Machine
set_option Elab.async false

/-! ## UNLOADED after an EJECT -/

/-- A drive whose platter its EJECT has let go: UNLOADING, with no command (R128). -/
def Drive.ejected (k : Drive) : Drive := { k with state := .unloading, cmd := none, retry := false }

/-- The drive and its platter's record as an EJECT's report leaves them (R119, R128). -/
def State.letGo (s : State) (d : DriveNo) : State := (s.setUnloadTime d).modDrive d Drive.ejected

theorem State.setUnloadTime_lib (s : State) (d : DriveNo) : (s.setUnloadTime d).lib = s.lib := by
  unfold State.setUnloadTime
  split <;> rfl

theorem State.letGo_lib (s : State) (d : DriveNo) :
    (s.letGo d).lib = { s.lib with drives := s.lib.drives.set d (s.lib.drives.get d).ejected } :=
  congrArg (fun l : Library => { l with drives := l.drives.set d (l.drives.get d).ejected }) (s.setUnloadTime_lib d)

theorem State.letGo_quiet {s : State} (hs : s.Quiet) (d : DriveNo) : (s.letGo d).Quiet := by
  unfold State.letGo State.setUnloadTime
  split <;> exact hs

theorem State.setUnloadTime_known {s : State} {d : DriveNo} {id : Nat} {sd : Side} (hp : (s.lib.drives.get d).platter = some ⟨some id, sd⟩) :
    s.setUnloadTime d = s.modPlatter id (fun p => { p with lastUnload := some s.clock.now }) := by
  have hplatter : (s.drive d).platter = some ⟨some id, sd⟩ := hp
  simp only [State.setUnloadTime, hplatter]

theorem State.setUnloadTime_unknown {s : State} {d : DriveNo} {sd : Side} (hp : (s.lib.drives.get d).platter = some ⟨none, sd⟩) :
    s.setUnloadTime d = s := by
  have hplatter : (s.drive d).platter = some ⟨none, sd⟩ := hp
  simp only [State.setUnloadTime, hplatter]

theorem State.letGo_drive (s : State) (d : DriveNo) : (s.letGo d).lib.drives.get d = (s.lib.drives.get d).ejected := by
  rw [State.letGo_lib]
  exact Six.get_set_same _ _ _

/-- A piece that begins from a drive whose EJECT has been answered (R158). -/
theorem State.startReturn_known {s : State} {d : DriveNo} {id : Nat} {sd : Side} (hst : (s.lib.drives.get d).state = .unloading)
    (hp : (s.lib.drives.get d).platter = some ⟨some id, sd⟩) : s.startReturn d = s.homeMove d none := by
  have hstate : (s.drive d).state = .unloading := hst
  have hplatter : (s.drive d).platter = some ⟨some id, sd⟩ := hp
  simp only [State.startReturn, hstate, hplatter]

theorem State.startReturn_unknown {s : State} {d : DriveNo} {sd : Side} (hst : (s.lib.drives.get d).state = .unloading)
    (hp : (s.lib.drives.get d).platter = some ⟨none, sd⟩) : s.startReturn d = s.givePicker (.drive d) none false (.homeLabel d) := by
  have hstate : (s.drive d).state = .unloading := hst
  have hplatter : (s.drive d).platter = some ⟨none, sd⟩ := hp
  simp only [State.startReturn, hstate, hplatter]

theorem State.letGo_pickerNext {s : State} {d : DriveNo} (hs : s.Quiet) (hidle : s.lib.picker.state = .idle) (hd : s.lib.doorOpen = false)
    (hsweep : s.lib.sweep.running = false) (hreturns : s.lib.returns = []) : ((s.letGo d).queueReturn d).pickerNext = (s.letGo d).startReturn d := by
  have hlib := s.letGo_lib d
  have hqueue : ((s.letGo d).queueReturn d).lib.returns = [d] := by simp [State.queueReturn, State.modLib, hlib, hreturns]
  have hback : ((s.letGo d).queueReturn d).modLib (fun l => { l with returns := [] }) = s.letGo d := by
    have hnil : (s.letGo d).lib.returns = [] := by rw [hlib]; exact hreturns
    rw [← hnil]; rfl
  rw [State.pickerNext_return (s := (s.letGo d).queueReturn d) (by rw [State.queueReturn, State.modLib, hlib]; exact hidle)
    (by rw [State.queueReturn, State.modLib, hlib]; exact hd) (by rw [State.queueReturn, State.modLib, hlib]; exact hsweep)
    (State.letGo_quiet hs d).1 hqueue, hback]

section
variable {s : State} {d : DriveNo} (hs : s.Quiet) (hcmd : (s.lib.drives.get d).cmd = some .eject)
include hs hcmd

theorem exec_ejected : exec (.driveUnloadedReport d) s = .next ((s.setUnloadTime d).ejected d).settle := by
  have hc : (s.drive d).cmd = some .eject := hcmd
  rw [exec_driveUnloadedReport hs]
  simp only [State.unloadedReport, hc]

theorem ejected_empty {y : Reply} (hreset : (s.lib.drives.get d).reset = some y) (hgen : (s.links.get y.link).resetCount = y.gen)
    (hp : (s.lib.drives.get d).platter = none) (hrest : s.PickerRests) :
    exec (.driveUnloadedReport d) s = .next ((s.vacate d).queued y .done .none) := by
  have hplatter : (s.drive d).platter = none := hp
  have htime : s.setUnloadTime d = s := by simp only [State.setUnloadTime, hplatter]
  rw [exec_ejected hs hcmd, htime]
  simp only [State.ejected, hplatter, State.answerReset_vacate hreset hgen]
  exact congrArg _ (State.settle_later_one hs.2 (State.pickerNext_rests hrest) hs.2)

variable {x : Option Nat} {sd : Side} (hp : (s.lib.drives.get d).platter = some ⟨x, sd⟩)
include hp

theorem exec_letGo : exec (.driveUnloadedReport d) s = .next (((s.letGo d).queueReturn d).later [.pickerNext]).settle := by
  have hplatter : ((s.setUnloadTime d).drive d).platter = some ⟨x, sd⟩ :=
    (congrArg (fun l : Library => (l.drives.get d).platter) (s.setUnloadTime_lib d)).trans hp
  rw [exec_ejected hs hcmd]
  simp only [State.ejected, hplatter]
  rfl

/-- A picker with other work begins nothing. -/
theorem letGo_waits (hbusy : s.lib.picker.state ≠ .idle) : exec (.driveUnloadedReport d) s = .next ((s.letGo d).queueReturn d) := by
  have ha : ((s.letGo d).queueReturn d).agenda = [] := (State.letGo_quiet hs d).2
  have hrest : ((s.letGo d).queueReturn d).pickerNext = (s.letGo d).queueReturn d :=
    State.pickerNext_rests (.inl (by rw [State.queueReturn, State.modLib, State.letGo_lib]; exact hbusy))
  rw [exec_letGo hs hcmd hp, State.settle_later_one (t := .pickerNext) ha hrest ha]

variable (hidle : s.lib.picker.state = .idle) (hd : s.lib.doorOpen = false) (hsweep : s.lib.sweep.running = false) (hreturns : s.lib.returns = [])
include hidle hd hsweep hreturns

/-- A picker free with no other work begins the return-home piece at once. -/
theorem letGo_begins {u : State} (hu : (s.letGo d).startReturn d = u) (ha : u.agenda = []) : exec (.driveUnloadedReport d) s = .next u := by
  have hnext : ((s.letGo d).queueReturn d).runTask .pickerNext = u := (State.letGo_pickerNext hs hidle hd hsweep hreturns).trans hu
  have hq : ((s.letGo d).queueReturn d).agenda = [] := (State.letGo_quiet hs d).2
  rw [exec_letGo hs hcmd hp, State.settle_later_one hq hnext ha]

end

section
variable {s : State} {d : DriveNo} {id : Nat} {sd : Side} {p : Platter} (hin : (s.lib.drives.get d).platter = some ⟨some id, sd⟩) (hp : s.platter? id = some p)
include hin

theorem State.letGo_known : s.letGo d = (s.modPlatter id (fun p => { p with lastUnload := some s.clock.now })).modDrive d Drive.ejected := by
  rw [State.letGo, State.setUnloadTime_known hin]

include hp

theorem State.letGo_platter : (s.letGo d).platter? id = some { p with lastUnload := some s.clock.now } := by
  rw [State.letGo_known hin]
  exact State.platter?_modPlatter hp (fun p => { p with lastUnload := some s.clock.now }) (fun _ => rfl)

theorem State.letGo_startsHome {n : Nat} (hret : s.cat.ReturnsTo p id n) : (s.letGo d).startReturn d = State.givePicker { s with
    cat := { s.cat with
      slots := insertKeyed SlotRec.slot ⟨n, .occupied id⟩ (s.cat.slots.filter (fun r => decide (r.slot = n ∨ (r.use ≠ .occupied id ∧ r.use ≠ .reserved id))))
      platters := updateKeyed Platter.id id (fun p => { p with home := some n, loc := .picker, lastUnload := some s.clock.now }) s.cat.platters }
    lib := { s.lib with drives := s.lib.drives.set d (s.lib.drives.get d).ejected, picker := { s.lib.picker with held := some id } } }
    (.drive d) (some (.slot n)) (sd == .s1) (.homeMove d) := by
  have hdrive := s.letGo_drive d
  have hin' : ((s.letGo d).lib.drives.get d).platter = some ⟨some id, sd⟩ := by rw [hdrive]; exact hin
  have hret' : (s.letGo d).cat.ReturnsTo { p with lastUnload := some s.clock.now } id n := by rw [State.letGo_known hin]; exact hret
  rw [State.startReturn_known (by rw [hdrive]; rfl) hin', State.homeMove_known hin' (State.letGo_platter hin hp) hret', State.moveHome_eq, State.letGo_known hin]
  have hcat := s.cat.carriedHome_update id n (fun p => { p with lastUnload := some s.clock.now }) (fun _ => rfl)
  exact congrArg (fun c => State.givePicker { s with
    cat := c
    lib := { s.lib with drives := s.lib.drives.set d (s.lib.drives.get d).ejected, picker := { s.lib.picker with held := some id } } }
    (.drive d) (some (.slot n)) (sd == .s1) (.homeMove d)) hcat

/-- With no slot free the DRIVE_RESET is answered, and the platter stays in the drive (R158). -/
theorem letGo_noSlot (hs : s.Quiet) (hcmd : (s.lib.drives.get d).cmd = some .eject) {y : Reply} (hreset : (s.lib.drives.get d).reset = some y)
    (hgen : (s.links.get y.link).resetCount = y.gen) (hidle : s.lib.picker.state = .idle) (hd : s.lib.doorOpen = false)
    (hsweep : s.lib.sweep.running = false) (hreturns : s.lib.returns = []) (hhome : p.home = none) (hfree : s.cat.lowestFree = none) (hn : s.NothingNext) :
    exec (.driveUnloadedReport d) s = .next (State.queued { s with
      cat := { s.cat with platters := updateKeyed Platter.id id (fun p => { p with lastUnload := some s.clock.now }) s.cat.platters }
      lib := { s.lib with drives := s.lib.drives.set d { (s.lib.drives.get d).ejected with reset := none }, picker := s.pickerFreed } } y .noSlot .none) := by
  have hdrive := s.letGo_drive d
  have hin' : ((s.letGo d).lib.drives.get d).platter = some ⟨some id, sd⟩ := by rw [hdrive]; exact hin
  have hfree' : (s.letGo d).cat.lowestFree = none := by rw [State.letGo_known hin]; exact hfree
  have hreset' : ((s.letGo d).lib.drives.get d).reset = some y := by rw [hdrive]; exact hreset
  have hgen' : ((s.letGo d).links.get y.link).resetCount = y.gen := by rw [State.letGo_known hin]; exact hgen
  have hanswer : (s.letGo d).answerReset d .noSlot = State.queued { s with
      cat := { s.cat with platters := updateKeyed Platter.id id (fun p => { p with lastUnload := some s.clock.now }) s.cat.platters }
      lib := { s.lib with drives := s.lib.drives.set d { (s.lib.drives.get d).ejected with reset := none } } } y .noSlot .none := by
    rw [State.answerReset_eq_queued hreset' hgen', State.letGo_known hin, State.modDrive_modDrive]
    rfl
  have hstart := (State.startReturn_known (by rw [hdrive]; rfl) hin').trans (State.homeMove_noSlot hin' (State.letGo_platter hin hp) hhome hfree' none)
  rw [hanswer] at hstart
  have hq : ((s.letGo d).queueReturn d).agenda = [] := (State.letGo_quiet hs d).2
  have hnext := ((State.letGo_pickerNext hs hidle hd hsweep hreturns).trans hstart).trans (State.endPiece_eq (.inr hn.1))
  have hafter : s.afterPiece = [.pickerNext] := if_neg (ne_true_of_eq_false hd)
  have hrest : s.lib.returns = [] ∧ s.lib.media = [] ∧ ∀ q ∈ s.lib.demands, q.mounting ≠ none := hn.2.resolve_left (ne_true_of_eq_false hd)
  rw [exec_letGo hs hcmd hin]
  refine congrArg _ (State.settle_later_two hq (hnext.trans (congrArg _ hafter)) hs.2 ?_ hs.2)
  exact State.pickerNext_rests (.inr hrest)

end

/-- An unidentified platter's label is read first (R158). -/
theorem State.letGo_startsLabel {s : State} {d : DriveNo} {sd : Side} (hin : (s.lib.drives.get d).platter = some ⟨none, sd⟩) :
    (s.letGo d).startReturn d = State.givePicker { s with lib := { s.lib with drives := s.lib.drives.set d (s.lib.drives.get d).ejected } }
      (.drive d) none false (.homeLabel d) := by
  have hdrive := s.letGo_drive d
  rw [State.startReturn_unknown (s := s.letGo d) (by rw [hdrive]; rfl) (by rw [hdrive]; exact hin), State.letGo, State.setUnloadTime_unknown hin]
  rfl

/-! ## A return-home piece's label -/

section
variable {s : State} (hs : s.Quiet) {m : Move} (hmove : s.lib.picker.move = some m) {d : DriveNo}
  (hpiece : s.lib.picker.piece = some (.homeLabel d)) (hstate : s.lib.picker.state = .moving) (hsince : s.lib.picker.since ≠ none)
  (hdst : m.dst = none) {x : Option Nat} {sd : Side} (hin : (s.lib.drives.get d).platter = some ⟨x, sd⟩) (hst : (s.lib.drives.get d).state = .unloading)

/-- The drive's platter identified, or not, by its label, the picker's command over (R158). -/
def State.labelled (s : State) (d : DriveNo) (known : Option Nat) (sd : Side) : State :=
  { s with lib := { s.lib with
    drives := s.lib.drives.set d { s.lib.drives.get d with platter := some ⟨known, sd⟩ }
    picker := { s.lib.picker with held := none, move := none, since := none } } }

theorem State.clearMove_identify {s : State} {d : DriveNo} {x : Option Nat} {sd : Side} (hin : (s.lib.drives.get d).platter = some ⟨x, sd⟩)
    (known : Option Nat) :
    s.clearMove.modDrive d (fun r => { r with platter := r.platter.map (fun p => { p with id := known }) }) = s.labelled d known sd := by
  simp only [State.clearMove, State.modPicker, State.modDrive, State.labelled, hin, Option.map_some]

theorem State.labelled_drive (s : State) (d : DriveNo) (known : Option Nat) (sd : Side) :
    ((s.labelled d known sd).lib.drives.get d).platter = some ⟨known, sd⟩ := by
  simp only [State.labelled, Six.get_set_same]

include hs hmove hpiece hstate hsince hdst

theorem exec_homeLabel (rep : LabelReport) : exec (.pickerLabelReport rep) s = .next (s.homeLabelled d rep).settle := by
  have hon := State.onCommand_label hmove hstate hsince hdst
  rw [exec_pickerLabelReport hs, State.labelReport, hon, hpiece]
  rfl

end

section
variable {s : State} {d : DriveNo} {x : Option Nat} {sd : Side} (hin : (s.lib.drives.get d).platter = some ⟨x, sd⟩)
  (hst : (s.lib.drives.get d).state = .unloading)
include hin hst

/-- A label that makes the platter known (R158). -/
theorem State.homeLabelled_known {rep : LabelReport} {id : Nat} {p : Platter} (hid : s.homeLabelId rep = some id) (hp : s.platter? id = some p)
    (hint : s.interrupted = false) : s.homeLabelled d rep = ((s.labelled d (some id) sd).setLoc id (.drive d)).homeMove d (some id) := by
  have hstate : (s.clearMove.drive d).state = .unloading := hst
  have hlabel : s.clearMove.homeLabelId rep = some id := hid
  have hknown : (s.clearMove.platter? id).isSome = true := by rw [show s.clearMove.platter? id = some p from hp]; rfl
  have hlab := State.clearMove_identify hin (some id)
  have hgo : ((s.labelled d (some id) sd).setLoc id (.drive d)).interrupted = false := hint
  simp only [State.homeLabelled, hstate, ne_eq, not_true_eq_false, if_false, hlabel, Option.filter_some, hknown, if_true, hlab, hgo]
  rfl

/-- A label that leaves the platter unknown, a new id carried by the move alone (R158). -/
theorem State.homeLabelled_unknown {rep : LabelReport} {new : Option Nat} (hid : s.homeLabelId rep = new) (hnone : ∀ id ∈ new, s.platter? id = none) :
    s.homeLabelled d rep =
      if s.interrupted then ((s.labelled d none sd).modLib (fun l => { l with returns := d :: l.returns })).endPiece
      else (s.labelled d none sd).homeMove d new := by
  have hstate : (s.clearMove.drive d).state = .unloading := hst
  have hlabel : s.clearMove.homeLabelId rep = new := hid
  have hknown : new.filter (fun n => (s.clearMove.platter? n).isSome) = none := by
    cases hnew : new with
    | none => rfl
    | some id => simp [Option.filter, show s.clearMove.platter? id = none from hnone id (by simp [hnew])]
  have hlab := State.clearMove_identify hin none
  simp only [State.homeLabelled, hstate, ne_eq, not_true_eq_false, if_false, hlabel, hknown, hlab]
  rfl

end

section
variable {s : State} {id : Nat}

theorem State.homeLabelId_known (hid : id ≠ 0) {p : Platter} (hp : s.platter? id = some p) (hloc : p.loc = .unknown ∨ p.loc = .exported) :
    s.homeLabelId (.label id) = some id := by
  obtain ⟨n, rfl⟩ := Nat.exists_eq_succ_of_ne_zero hid
  have hl : s.locOf (n + 1) = some p.loc := by simp [State.locOf, hp]
  obtain h | h := hloc <;> simp only [State.homeLabelId, Nat.succ_eq_add_one, hl, h]

theorem State.homeLabelId_elsewhere (hid : id ≠ 0) {p : Platter} (hp : s.platter? id = some p) (hu : p.loc ≠ .unknown) (he : p.loc ≠ .exported) :
    s.homeLabelId (.label id) = none := by
  obtain ⟨n, rfl⟩ := Nat.exists_eq_succ_of_ne_zero hid
  have hl : s.locOf (n + 1) = some p.loc := by simp [State.locOf, hp]
  simp only [State.homeLabelId, hl]

theorem State.homeLabelId_new (hid : id ≠ 0) (hn : s.platter? id = none) :
    s.homeLabelId (.label id) = if s.cat.platters.length < 160 then some id else none := by
  obtain ⟨n, rfl⟩ := Nat.exists_eq_succ_of_ne_zero hid
  have hl : s.locOf (n + 1) = none := by simp [State.locOf, hn]
  simp only [State.homeLabelId, Nat.succ_eq_add_one, hl]
  rfl

theorem State.newLabel_unknown (hn : s.platter? id = none) :
    ∀ i ∈ (if s.cat.platters.length < 160 then some id else none : Option Nat), s.platter? i = none := by
  intro i hi
  obtain ⟨-, rfl⟩ : s.cat.platters.length < 160 ∧ id = i := by simpa using hi
  exact hn

theorem State.homeLabelId_unlabelled {rep : LabelReport} (h : rep = .label 0 ∨ rep = .empty) : s.homeLabelId rep = none := by
  obtain rfl | rfl := h <;> rfl

end

/-! ## The label read, and the move done -/

section
variable {s : State} (hs : s.Quiet) {m : Move} (hmove : s.lib.picker.move = some m) {d : DriveNo}
  (hpiece : s.lib.picker.piece = some (.homeLabel d)) (hstate : s.lib.picker.state = .moving) (hsince : s.lib.picker.since ≠ none)
  (hdst : m.dst = none) {x : Option Nat} {sd : Side} (hin : (s.lib.drives.get d).platter = some ⟨x, sd⟩) (hst : (s.lib.drives.get d).state = .unloading)
include hs hmove hpiece hstate hsince hdst hin hst

/-- A platter identified is carried to its home slot, or to the lowest free slot, which becomes its home (R158). -/
theorem homeLabel_known (hint : s.interrupted = false) {id n : Nat} (hid : id ≠ 0) {p : Platter} (hp : s.platter? id = some p)
    (hloc : p.loc = .unknown ∨ p.loc = .exported) (hret : s.cat.ReturnsTo p id n) :
    exec (.pickerLabelReport (.label id)) s = .next (State.givePicker { s.labelled d (some id) sd with
      cat := s.cat.carriedHome id n
      lib := { (s.labelled d (some id) sd).lib with picker := { (s.labelled d (some id) sd).lib.picker with held := some id } } }
      (.drive d) (some (.slot n)) (sd == .s1) (.homeMove d)) := by
  have hp' : ((s.labelled d (some id) sd).setLoc id (.drive d)).platter? id = some { p with loc := .drive d } :=
    State.platter?_modPlatter (s := s.labelled d (some id) sd) hp (fun p => { p with loc := .drive d }) (fun _ => rfl)
  have hcat : CatMem.carriedHome { s.cat with platters := updateKeyed Platter.id id (fun p => { p with loc := .drive d }) s.cat.platters } id n =
      s.cat.carriedHome id n := s.cat.carriedHome_update id n (fun p => { p with loc := .drive d }) (fun _ => rfl)
  rw [exec_homeLabel hs hmove hpiece hstate hsince hdst, State.homeLabelled_known hin hst (State.homeLabelId_known hid hp hloc) hp hint,
    State.homeMove_known (s := (s.labelled d (some id) sd).setLoc id (.drive d)) (State.labelled_drive s d (some id) sd) hp' hret, State.moveHome_eq, ← hcat]
  exact congrArg _ (State.settle_nil _ hs.2)

/-- A platter not identified goes to the lowest free slot (R158). -/
theorem homeLabel_unknown (hint : s.interrupted = false) {n : Nat} (hfree : s.cat.lowestFree = some n) {rep : LabelReport} {new : Option Nat}
    (hid : s.homeLabelId rep = new) (hnone : ∀ id ∈ new, s.platter? id = none) :
    exec (.pickerLabelReport rep) s = .next (((s.labelled d none sd).modPicker (fun k => { k with held := new })).givePicker
      (.drive d) (some (.slot n)) (sd == .s1) (.homeMove d)) := by
  rw [exec_homeLabel hs hmove hpiece hstate hsince hdst, State.homeLabelled_unknown hin hst hid hnone, if_neg (ne_true_of_eq_false hint),
    State.homeMove_unknown (s := s.labelled d none sd) (State.labelled_drive s d none sd) hfree]
  exact congrArg _ (State.settle_nil _ hs.2)

/-- With the door open the piece is queued first again (R149; assumption log 55). -/
theorem homeLabel_interrupted (hd : s.lib.doorOpen = true) :
    exec (.pickerLabelReport (.label 0)) s = .next { s with lib := { s.lib with
      drives := s.lib.drives.set d { s.lib.drives.get d with platter := some ⟨none, sd⟩ }, returns := d :: s.lib.returns, picker := s.pickerFreed } } := by
  have hint : s.interrupted = true := by simp [State.interrupted, hd]
  rw [exec_homeLabel hs hmove hpiece hstate hsince hdst,
    State.homeLabelled_unknown hin hst (State.homeLabelId_unlabelled (.inl rfl)) (by simp), if_pos hint,
    State.endPiece_open (s := (s.labelled d none sd).modLib (fun l => { l with returns := d :: l.returns })) hd, State.settle_nil _ (by exact hs.2)]
  simp only [State.workOver, State.pickerFreed]
  rfl

end

/-- A return-home move done, its platter recorded in `c`: the drive is EMPTY and its DRIVE_RESET answered, unless it has become FAULT (R158, R128). -/
def State.broughtBack (s : State) (d : DriveNo) (c : CatMem) : State :=
  let t := State.workOver { s with cat := c }
  if (s.lib.drives.get d).state = .fault then t
  else
    match (s.lib.drives.get d).reset with
    | some y => (t.vacate d).queued y .done .none
    | none => t.vacate d

section
variable {s : State} {d : DriveNo} (ha : s.agenda = []) (hn : s.NothingNext) (hm : s.HeadHasMedia)
  (hst : (s.lib.drives.get d).state = .unloading ∨ (s.lib.drives.get d).state = .fault)
  (hgen : ∀ y ∈ (s.lib.drives.get d).reset, (s.links.get y.link).resetCount = y.gen)
include ha hn hm hst hgen

theorem State.returnEnds_settle (c : CatMem) :
    ((((State.answerReturn { s with cat := c } d .done).emptied d).later [.mediaRetry]).endPiece).settle = s.broughtBack d c := by
  have hends {t : State} (hta : t.agenda = []) (htn : t.NothingNext) (htm : t.HeadHasMedia)
      (ht : (State.answerReturn { s with cat := c } d .done).emptied d = t) :
      ((((State.answerReturn { s with cat := c } d .done).emptied d).later [.mediaRetry]).endPiece).settle = t.workOver := by
    rw [ht, State.endPiece_retry_settle hta htn htm]
  unfold State.broughtBack
  obtain hun | hfault := hst
  · have hunloading : (State.drive { s with cat := c } d).state = .unloading := hun
    rw [if_neg (by rw [hun]; decide)]
    cases hr : (s.lib.drives.get d).reset with
    | some y =>
      refine hends (t := (State.vacate { s with cat := c } d).queued y .done .none) ha hn hm ?_
      have hanswer := State.answerReset_eq_queued (s := { s with cat := c }) hr (hgen y hr) .done
      have hleft : (((State.answerReset { s with cat := c } d .done).lib.drives.get d)).state = .unloading := by
        rw [hanswer]; exact (congrArg Drive.state (Six.get_set_same _ _ _)).trans hun
      rw [State.answerReturn, if_pos hunloading]
      exact (if_pos hleft).trans (State.answerReset_vacate (s := { s with cat := c }) hr (hgen y hr) .done)
    | none =>
      refine hends (t := State.vacate { s with cat := c } d) ha hn hm ?_
      have hnone : (State.drive { s with cat := c } d).reset = none := hr
      rw [State.answerReturn, if_pos hunloading, State.answerReset, hnone]
      exact if_pos hun
  · rw [if_pos hfault]
    have hnot : ¬(State.drive { s with cat := c } d).state = .unloading := by rw [show (State.drive { s with cat := c } d).state = _ from hfault]; decide
    refine hends (t := { s with cat := c }) ha hn hm ?_
    rw [State.answerReturn, if_neg hnot]
    exact if_neg hnot

end

section
variable {s : State} (hs : s.Quiet) {m : Move} (hmove : s.lib.picker.move = some m) {n : Nat} (hdst : m.dst = some (.slot n)) {d : DriveNo}
  (hpiece : s.lib.picker.piece = some (.homeMove d)) (hstate : s.lib.picker.state = .moving) (hsince : s.lib.picker.since ≠ none)
include hs hmove hdst hpiece hstate hsince

theorem exec_homeMove : exec .pickerMoveDone s = .next (s.returned d).settle := by
  have hon := State.onCommand_move hmove hstate hsince (by simp [hdst])
  rw [exec_pickerMoveDone hs, State.moveDone, hon, hpiece]
  rfl

variable (hst : (s.lib.drives.get d).state = .unloading ∨ (s.lib.drives.get d).state = .fault)
  (hgen : ∀ y ∈ (s.lib.drives.get d).reset, (s.links.get y.link).resetCount = y.gen) (hn : s.NothingNext) (hm : s.HeadHasMedia)
include hst hgen hn hm

theorem homeMove_held {id : Nat} (hheld : s.lib.picker.held = some id) (hp : s.platter? id ≠ none) :
    exec .pickerMoveDone s = .next (s.broughtBack d
      { s.cat with platters := updateKeyed Platter.id id (fun p => { p with loc := .slot n, lastUnload := some s.clock.now }) s.cat.platters }) := by
  rw [exec_homeMove hs hmove hdst hpiece hstate hsince]
  simp only [State.returned, hheld, State.moveSlot_eq hmove hdst, if_pos (Option.isSome_iff_ne_none.2 hp)]
  exact congrArg _ (State.returnEnds_settle hs.2 hn hm hst hgen _)

theorem homeMove_new {id : Nat} (hheld : s.lib.picker.held = some id) (hp : s.platter? id = none) :
    exec .pickerMoveDone s = .next (s.broughtBack d (s.cat.addPlatter id n)) := by
  rw [exec_homeMove hs hmove hdst hpiece hstate hsince]
  simp only [State.returned, hheld, State.moveSlot_eq hmove hdst, hp, Option.isSome_none]
  exact congrArg _ (State.returnEnds_settle hs.2 hn hm hst hgen _)

theorem homeMove_foreign (hheld : s.lib.picker.held = none) :
    exec .pickerMoveDone s = .next (s.broughtBack d (s.cat.setSlot n (some .foreignOccupied))) := by
  rw [exec_homeMove hs hmove hdst hpiece hstate hsince]
  simp only [State.returned, hheld, State.moveSlot_eq hmove hdst]
  exact congrArg _ (State.returnEnds_settle hs.2 hn hm hst hgen _)

end

/-- Settles O57: the EJECT's report, the label read, and the move done. -/
theorem plattersReturnHome : Obligations.PlattersReturnHome := by
  refine ⟨fun s d hs y hreset hcmd hgen => ?ejected, fun s hs m hmove d hpiece hstate hsince hdst x sd hin hst => ?label,
    fun s hs m hmove n hdst d hpiece hstate hsince hst hgen hn hm => ?done⟩
  case ejected =>
    refine ⟨fun hp hrest => ejected_empty hs hcmd hreset hgen hp hrest, fun id sd hin =>
      ⟨fun hbusy => ?_, fun p hp hidle hd hsweep hreturns => ⟨fun n hret => ?_,
      fun hhome hfree hn => letGo_noSlot hin hp hs hcmd hreset hgen hidle hd hsweep hreturns hhome hfree hn⟩⟩, fun sd hin hidle hd hsweep hreturns => ?_⟩
    · rw [letGo_waits hs hcmd hin hbusy, State.letGo_known hin]
      exact rfl
    · exact letGo_begins hs hcmd hin hidle hd hsweep hreturns (State.letGo_startsHome hin hp hret) hs.2
    · exact letGo_begins hs hcmd hin hidle hd hsweep hreturns (State.letGo_startsLabel hin) hs.2
  case label =>
    refine ⟨fun hd hdue => ?_, fun hd => homeLabel_interrupted hs hmove hpiece hstate hsince hdst hin hst hd⟩
    have hint : s.interrupted = false := by simp [State.interrupted, hd, hdue]
    have hunknown {n : Nat} := homeLabel_unknown hs hmove hpiece hstate hsince hdst hin hst hint (n := n)
    exact ⟨fun id p hp n hid hloc hret => homeLabel_known hs hmove hpiece hstate hsince hdst hin hst hint hid hp hloc hret,
      fun n hfree => ⟨fun id hid hnew => hunknown hfree (State.homeLabelId_new hid hnew) (State.newLabel_unknown hnew),
        fun id p hp hid hu he => hunknown hfree (State.homeLabelId_elsewhere hid hp hu he) (by simp),
        fun rep hrep => hunknown hfree (State.homeLabelId_unlabelled hrep) (by simp)⟩⟩
  case done =>
    exact ⟨fun id hheld => ⟨homeMove_held hs hmove hdst hpiece hstate hsince hst hgen hn hm hheld,
      homeMove_new hs hmove hdst hpiece hstate hsince hst hgen hn hm hheld⟩, homeMove_foreign hs hmove hdst hpiece hstate hsince hst hgen hn hm⟩

end Sys2Proof.Machine
end

section
/-!
PROOFS. Obligation O49, READY: the mount done, and the first of its waiters given the drive.
-/
namespace Sys2Proof.Machine
set_option Elab.async false

theorem satAdd_max16 (n : Nat) : satAdd Config.max16 n 1 = min (n + 1) 65535 := by
  show (if n + 1 ≤ 65535 then n + 1 else 65535) = _
  split <;> omega

theorem State.demand?_side {s : State} {ps : PlatterSide} {q : Demand} (h : s.demand? ps = some q) : q.side = ps := by
  simpa [State.demand?] using List.find?_some h

theorem State.demand?_none {s : State} {ps : PlatterSide} (h : s.demand? ps = none) :
    s.lib.demands.filter (fun q => decide (q.side ≠ ps)) = s.lib.demands := by
  refine List.filter_eq_self.2 fun q hq => ?_
  have hne := List.find?_eq_none.1 h q hq
  simpa using hne

/-- A drive that has reported READY after a load, with the uses its side's waiters asked for (R138, R124). -/
def State.loaded (s : State) (d : DriveNo) (ps : PlatterSide) (work : List Use) : State :=
  { s with
    cat := { s.cat with platters := updateKeyed Platter.id ps.platter (fun p => { p with mounts := min (p.mounts + 1) 65535 }) s.cat.platters }
    lib := { s.lib with
      drives := s.lib.drives.set d { s.lib.drives.get d with
        state := .ready, cmd := none, retry := false, loadTime := some s.clock.now, residency := some s.ref, work := work }
      demands := s.lib.demands.filter (fun q => decide (q.side ≠ ps)) } }

section
variable {s : State} {d : DriveNo} {ps : PlatterSide} (hcmd : (s.lib.drives.get d).cmd = some .load)
  (hin : (s.lib.drives.get d).platter = some ⟨some ps.platter, ps.side⟩) (hwork : (s.lib.drives.get d).work = [])
include hcmd hin hwork

theorem State.readyReport_eq : s.readyReport d =
    ((match s.demand? ps with
      | some q => q.waiters.foldl (fun u w => State.handOver u d w) (s.loaded d ps [])
      | none => s.loaded d ps [])).later [.driveNext d] := by
  have hc : (s.drive d).cmd = some .load := hcmd
  have hp : (s.drive d).platter = some ⟨some ps.platter, ps.side⟩ := hin
  let t : State := (s.modDrive d (fun r =>
      { r with state := .ready, cmd := none, retry := false, loadTime := some s.clock.now, residency := some s.ref })).modPlatter
    ps.platter (fun p => { p with mounts := satAdd Config.max16 p.mounts 1 })
  have hloaded : t.dropDemand ps = s.loaded d ps [] := by
    simp only [t, State.loaded, satAdd_max16, ← hwork]
    rfl
  have hdemand : t.demand? ⟨ps.platter, ps.side⟩ = s.demand? ps := rfl
  have hready : s.readyReport d = (match t.demand? ⟨ps.platter, ps.side⟩ with | some q => t.meet d q | none => t).later [.driveNext d] := by
    simp only [State.readyReport, hc, hp]
    rfl
  rw [hready, hdemand]
  cases hq : s.demand? ps with
  | some q => rw [← hloaded, ← State.demand?_side hq]; rfl
  | none =>
    have hkept : t.dropDemand ps = t := State.demands_kept (State.demand?_none hq)
    rw [← hloaded, hkept]

end

/-! ## Waiters handed over -/

/-- A drive's work list lengthened. -/
def State.withUses (s : State) (d : DriveNo) (us : List Use) : State := s.modDrive d (fun k => { k with work := k.work ++ us })

theorem State.modDrive_same {s : State} {d : DriveNo} {f : Drive → Drive} (h : f (s.lib.drives.get d) = s.lib.drives.get d) : s.modDrive d f = s := by
  simp only [State.modDrive, h, Six.set_get]

theorem State.withUses_nil (s : State) (d : DriveNo) : s.withUses d [] = s :=
  State.modDrive_same (congrArg (fun us => { s.lib.drives.get d with work := us }) (List.append_nil _))

theorem State.withUses_withUses (s : State) (d : DriveNo) (us vs : List Use) : (s.withUses d us).withUses d vs = s.withUses d (us ++ vs) := by
  simp only [State.withUses, State.modDrive_modDrive, List.append_assoc]

/-- Retrieval waiters handed over: their uses stand on the work list in waiter order (R138 step 5). -/
theorem State.handOver_items (d : DriveNo) (ws : List Waiter) (hws : ∀ w ∈ ws, ∃ r c a, w = .item r c a) (s : State) :
    ws.foldl (fun u w => State.handOver u d w) s =
      (s.withUses d (ws.filterMap s.useOf)).later (List.replicate (ws.filterMap s.useOf).length (.driveNext d)) := by
  induction ws generalizing s with
  | nil => exact ((State.later_nil _).trans (s.withUses_nil d)).symm
  | cons w ws ih =>
    obtain ⟨r, c, a, rfl⟩ := hws w List.mem_cons_self
    have hrest := ih fun v hv => hws v (List.mem_cons_of_mem _ hv)
    cases hu : s.useOf (.item r c a) with
    | none =>
      have hsame : s.handOver d (.item r c a) = s := by simp only [State.handOver, hu]
      rw [List.foldl_cons, hsame, hrest, List.filterMap_cons_none hu]
    | some u =>
      have hgiven : s.handOver d (.item r c a) = (s.withUses d [u]).later [.driveNext d] := by
        simp only [State.handOver, hu]
        rfl
      have huses : ((s.withUses d [u]).later [.driveNext d]).useOf = s.useOf := by funext v; cases v <;> rfl
      have happend (us : List Use) (ts : List Task) : (((s.withUses d [u]).later [.driveNext d]).withUses d us).later ts =
          (s.withUses d (u :: us)).later (.driveNext d :: ts) :=
        (State.later_later ((s.withUses d [u]).withUses d us) [.driveNext d] ts).trans
          (congrArg (State.later · (.driveNext d :: ts)) (s.withUses_withUses d [u] us))
      rw [List.foldl_cons, hgiven, hrest, huses, happend, List.filterMap_cons_some hu, List.length_cons, List.replicate_succ]

/-! ## The first fill started -/

/-- An operation with the phase of one item changed, where it is that item's. -/
def Op.phased (r : ItemRef) (p : Phase) (o : Op) : Op :=
  if o.reply.link = r.link ∧ o.reply.tag = r.tag then { o with items := o.items.modify (r.pos - 1) (fun i => { i with phase := p }) } else o

theorem Op.phased_phased (r : ItemRef) (p q : Phase) (o : Op) : Op.phased r q (Op.phased r p o) = Op.phased r q o := by
  unfold Op.phased
  by_cases h : o.reply.link = r.link ∧ o.reply.tag = r.tag
  · rw [if_pos h, if_pos h, if_pos h, List.modify_modify_eq]
    rfl
  · rw [if_neg h, if_neg h]

theorem State.setPhase_setPhase (s : State) (r : ItemRef) (p q : Phase) : (s.setPhase r p).setPhase r q = s.setPhase r q := by
  have hops : (s.ops.map (Op.phased r p)).map (Op.phased r q) = s.ops.map (Op.phased r q) := by
    rw [List.map_map]
    exact List.map_congr_left fun o _ => Op.phased_phased r p q o
  exact congrArg (fun l => { s with ops := l }) hops

/-- A fill that has the drive: its read is issued, and the channel set to its segment (R92, R94, R112). -/
def State.reading (s : State) (d : DriveNo) (g : Segment) (r : ItemRef) (v : Resolved) : State :=
  { s with
    lib := { s.lib with drives := s.lib.drives.set d { s.lib.drives.get d with
      state := .busy, cmd := some (.read v.loc.start v.loc.len), reported := 0, since := s.ref, retry := false } }
    segments := s.segments.map (fun h => if h.inst = v.inst then { h with fill := some d, started := true } else h)
    driveChans := s.driveChans.set d
      { chan := { state := .running, op := .item r, mode := some .sequential, next := 4096 + g.first, remaining := g.len, action := .none }, held := [], ringBlock := none, passed := none } }

/-- The item that made the segment is READY as its fill starts (R92). -/
def State.filling (s : State) (d : DriveNo) (g : Segment) (r : ItemRef) (v : Resolved) : State := (s.reading d g r v).setPhase r .ready

section
variable {s : State} {d : DriveNo} {g : Segment} {r : ItemRef} {o : Op} {i : Item} {v : Resolved}

theorem State.driveNext_fill {rest : List Use} (hstate : (s.lib.drives.get d).state = .ready) (hwork : (s.lib.drives.get d).work = .fill v.inst :: rest)
    (hseg : s.segment? v.inst = some g) (hstarted : g.started = false) (hfiller : g.filler = some r) (hitem : s.item? r = some (o, i))
    (hv : i.resolved = some v) : s.driveNext d = (s.filling d g r v).later [.outTake r.link] := by
  have hready : (s.drive d).state = .ready := hstate
  have huses : (s.drive d).work = .fill v.inst :: rest := hwork
  simp only [State.driveNext, hready, if_true, huses, hseg, hstarted, State.startFill, hfiller, Option.bind_some, hitem, Option.map_some, hv]
  rfl

theorem State.driveNext_busy (hstate : (s.lib.drives.get d).state ≠ .ready) : s.driveNext d = s := if_neg hstate

/-- A drive that is not READY is given to no use, however often that is asked for. -/
theorem State.Works.busy (ha : s.agenda = []) (hstate : (s.lib.drives.get d).state ≠ .ready) (n : Nat) :
    State.Works s (List.replicate n (.driveNext d)) s n := by
  induction n with
  | zero => exact .nothing ha
  | succ n ih => exact .rests ha (State.driveNext_busy hstate) ih

/-- An IDLE channel takes the READY item of its link; with no block staged it waits (R114). -/
theorem State.outTake_takes (hop : (s.outChans.get r.link).chan.op = .none) (hready : s.readyItem r.link = some r) (hseg : s.segmentOf r = some g)
    (hstaged : g.staged = 0) : s.outTake r.link = State.setPhase { s with outChans := s.outChans.set r.link { OutChan.idle with
      chan := { state := .waiting, op := .item r, mode := some .sequential, next := 4096 + g.first, remaining := 0, action := .endItem } } } r .delivering := by
  simp only [State.outTake, hop, ne_eq, not_true_eq_false, if_false, hready, hseg, hstaged]
  rfl

theorem State.outTake_busy {l : Link} (hop : (s.outChans.get l).chan.op ≠ .none) : s.outTake l = s := if_pos hop

theorem State.item?_some (h : s.item? r = some (o, i)) : s.op? r.link r.tag = some o ∧ o.items[r.pos - 1]? = some i := by
  unfold State.item? at h
  split at h
  · simp at h
  · rename_i p hp
    obtain ⟨j, hj, heq⟩ := Option.map_eq_some_iff.1 h
    obtain ⟨rfl, rfl⟩ := Prod.mk.inj heq
    exact ⟨hp, hj⟩

/-- With no other item of the link READY, the one made READY is the one its channel takes (R95). -/
theorem State.readyItem_setPhase (hitem : s.item? r = some (o, i)) (hpos : o.current = r.pos) (h1 : 1 ≤ r.pos)
    (hnone : ∀ p ∈ s.ops, p.reply.link = r.link → ∀ j, p.items[p.current - 1]? = some j → j.phase ≠ .ready) :
    (s.setPhase r .ready).readyItem r.link = some r := by
  obtain ⟨hop, hi⟩ := State.item?_some hitem
  obtain ⟨hkey, before, after, hops, hbefore⟩ := List.find?_eq_some_iff_append.1 hop
  obtain ⟨hlink, htag⟩ : o.reply.link = r.link ∧ o.reply.tag = r.tag := by simpa using hkey
  have hmade : Op.phased r .ready o = { o with items := o.items.modify (r.pos - 1) (fun i => { i with phase := .ready }) } := if_pos ⟨hlink, htag⟩
  have hlist : (s.setPhase r .ready).ops = before.map (Op.phased r .ready) ++ Op.phased r .ready o :: after.map (Op.phased r .ready) := by
    rw [← List.map_cons, ← List.map_append, ← hops]
    rfl
  have hfound : (s.setPhase r .ready).ops.find? (fun o => o.reply.link == r.link && (match o.items[o.current - 1]? with
      | some i => decide (1 ≤ o.current) && i.phase == .ready
      | none => false)) = some (Op.phased r .ready o) := by
    rw [hlist]
    refine List.find?_eq_some_iff_append.2 ⟨?_, _, _, rfl, fun p hp => ?_⟩
    · simp [hmade, hlink, hpos, hi, h1]
    · obtain ⟨p, hp, rfl⟩ := List.mem_map.1 hp
      have hother : ¬(p.reply.link = r.link ∧ p.reply.tag = r.tag) :=
        fun h => absurd (hbefore p ‹p ∈ before›) (by simp [h.1, h.2])
      have hkept : Op.phased r .ready p = p := if_neg hother
      by_cases hl : p.reply.link = r.link
      · have hphase := hnone p (by rw [hops]; exact List.mem_append_left _ ‹p ∈ before›) hl
        rw [hkept]
        cases hj : p.items[p.current - 1]? with
        | none => simp
        | some j => simp [hphase j hj]
      · simp [hkept, hl]
  refine (congrArg (Option.map (fun o : Op => (⟨r.link, o.reply.tag, o.current⟩ : ItemRef))) hfound).trans ?_
  simp only [Option.map_some, hmade, htag, hpos]

theorem State.filling_drive : ((s.filling d g r v).lib.drives.get d) = { s.lib.drives.get d with
    state := .busy, cmd := some (.read v.loc.start v.loc.len), reported := 0, since := s.ref, retry := false } := Six.get_set_same _ _ _

theorem State.segmentOf_filling (hseg : s.segmentOf r = some g) (hinst : g.inst = v.inst) :
    (s.filling d g r v).segmentOf r = some { g with fill := some d, started := true } := by
  have hmap : s.segments.find? ((fun h : Segment => h.users.contains r) ∘ fun h => if h.inst = v.inst then { h with fill := some d, started := true } else h) = some g := by
    rw [← hseg]
    refine congrArg (fun P => s.segments.find? P) (funext fun h => ?_)
    by_cases hh : h.inst = v.inst <;> simp [hh]
  exact List.find?_map.trans ((congrArg _ hmap).trans (congrArg some (if_pos hinst)))

/-- READY with retrieval waiters, as far as the first fill's start; `t` is what the outbound channel of its item makes of it (R138 step 5). -/
theorem readyReport_fills (hs : s.Quiet) {ps : PlatterSide} {q : Demand} {cls : MountClass} {age : Nat} {ws : List Waiter} {t : State}
    (hcmd : (s.lib.drives.get d).cmd = some .load) (hin : (s.lib.drives.get d).platter = some ⟨some ps.platter, ps.side⟩)
    (hwork : (s.lib.drives.get d).work = []) (hq : s.demand? ps = some q) (hwaiters : q.waiters = .item r cls age :: ws)
    (hws : ∀ w ∈ ws, ∃ r' c a, w = .item r' c a) (hlen : ws.length ≤ 12) (hitem : s.item? r = some (o, i)) (hv : i.resolved = some v)
    (hseg : s.segment? v.inst = some g) (hfiller : g.filler = some r) (hstarted : g.started = false)
    (ht : ((s.loaded d ps (.fill v.inst :: ws.filterMap s.useOf)).filling d g r v).outTake r.link = t) (hta : t.agenda = [])
    (hbusy : (t.lib.drives.get d).state ≠ .ready) : exec (.driveReadyReport d) s = .next t := by
  have huse : s.useOf (.item r cls age) = some (.fill v.inst) := by simp [State.useOf, hitem, hv]
  have hall : ∀ w ∈ q.waiters, ∃ r' c a, w = .item r' c a := by
    rw [hwaiters]
    exact List.forall_mem_cons.2 ⟨⟨r, cls, age, rfl⟩, hws⟩
  have huses : q.waiters.filterMap s.useOf = .fill v.inst :: ws.filterMap s.useOf := by rw [hwaiters, List.filterMap_cons_some huse]
  have hfold := State.handOver_items d q.waiters hall (s.loaded d ps [])
  have huseOf : (s.loaded d ps []).useOf = s.useOf := by funext w; cases w <;> rfl
  have hwith (us : List Use) : (s.loaded d ps []).withUses d us = s.loaded d ps us := by
    simp only [State.withUses, State.modDrive, State.loaded, Six.get_set_same, Six.set_set, List.nil_append]
  rw [huseOf, huses, hwith, List.length_cons, List.replicate_succ] at hfold
  have hreport : s.readyReport d = (s.loaded d ps (.fill v.inst :: ws.filterMap s.useOf)).later
      (.driveNext d :: List.replicate ((ws.filterMap s.useOf).length + 1) (.driveNext d)) := by
    rw [State.readyReport_eq hcmd hin hwork, hq]
    refine (congrArg (State.later · [.driveNext d]) hfold).trans ?_
    rw [State.later_later, List.replicate_succ']
    rfl
  have hdrive := Six.get_set_same s.lib.drives d { s.lib.drives.get d with
    state := .ready, cmd := none, retry := false, loadTime := some s.clock.now, residency := some s.ref, work := .fill v.inst :: ws.filterMap s.useOf }
  have hnext := State.driveNext_fill (s := s.loaded d ps (.fill v.inst :: ws.filterMap s.useOf)) (d := d) (congrArg Drive.state hdrive) (congrArg Drive.work hdrive)
    hseg hstarted hfiller hitem hv
  have hcount : (ws.filterMap s.useOf).length ≤ 12 := (List.length_filterMap_le _ _).trans hlen
  rw [exec_driveReadyReport hs, hreport]
  refine congrArg _ (State.Works.settle (.piece hs.2 hnext (.brings (s := State.filling _ d g r v) hs.2 ht (.busy hta hbusy _))) ?_)
  omega

end

end Sys2Proof.Machine
end

section
/-!
PROOFS. Obligation O49, READY for FIL: the side mounted is checked, its header erased, or an extent on it erased.
-/
namespace Sys2Proof.Machine
set_option Elab.async false

/-- A drive that has reported READY with the filing head as its side's waiter: FIL has the drive (R67, R68). -/
def State.loadedFil (s : State) (d : DriveNo) (ps : PlatterSide) (u : FilUse) : State :=
  { s.loaded d ps [.filing] with filUse := some { u with stage := .listed d } }

section
variable {s : State} {d : DriveNo} {ps : PlatterSide} {u : FilUse} {q : FSlot}

theorem State.loadedFil_drive : (s.loadedFil d ps u).lib.drives.get d = { s.lib.drives.get d with
    state := .ready, cmd := none, retry := false, loadTime := some s.clock.now, residency := some s.ref, work := [.filing] } :=
  Six.get_set_same _ _ _

section
variable {p : Platter} (hp : s.platter? ps.platter = some p)
include hp

theorem State.loadedFil_platter : (s.loadedFil d ps u).platter? ps.platter = some { p with mounts := min (p.mounts + 1) 65535 } :=
  State.platter?_modPlatter (s := s) hp (fun p => { p with mounts := min (p.mounts + 1) 65535 }) (fun _ => rfl)

theorem State.loadedFil_sideState : (s.loadedFil d ps u).sideState? ps = some (p.sideRec ps.side).state := by
  simp only [State.sideState?, State.sideRec?, State.loadedFil_platter hp, Option.map_some]
  cases ps.side <;> rfl

end

theorem State.loadedFil_openSide : (s.loadedFil d ps u).openSide = s.openSide := by
  rw [State.openSide_eq, State.openSide_eq]
  refine (List.findSome?_map).trans (congrArg (fun P => s.cat.platters.findSome? P) (funext fun r => ?_))
  by_cases hr : r.id = ps.platter
  · exact (congrArg Platter.openOf (if_pos hr)).trans rfl
  · exact congrArg Platter.openOf (if_neg hr)

/-- READY for FIL: what it does with the drive ends in `t`, the drive BUSY (R138 step 5). -/
theorem readyReport_files (hs : s.Quiet) {w : Demand} {age : Nat} {t : State} (hcmd : (s.lib.drives.get d).cmd = some .load)
    (hin : (s.lib.drives.get d).platter = some ⟨some ps.platter, ps.side⟩) (hwork : (s.lib.drives.get d).work = []) (hw : s.demand? ps = some w)
    (hwaiters : w.waiters = [.filing age]) (hu : s.filUse = some u) (ht : (s.loadedFil d ps u).fileGiven d = t) (hta : t.agenda = [])
    (hbusy : (t.lib.drives.get d).state ≠ .ready) : exec (.driveReadyReport d) s = .next t := by
  have hreport : s.readyReport d = (s.loadedFil d ps u).later [.driveNext d, .driveNext d] := by
    rw [State.readyReport_eq hcmd hin hwork, hw]
    refine (congrArg (State.later · [.driveNext d]) ?_).trans (State.later_later (s.loadedFil d ps u) [.driveNext d] [.driveNext d])
    simp only [hwaiters, List.foldl_cons, List.foldl_nil, State.handOver, State.useOf, State.appendUse, State.modDrive, State.loaded, State.loadedFil,
      Six.get_set_same, Six.set_set, List.nil_append, hu, Option.map_some]
  have hnext : (s.loadedFil d ps u).runTask (.driveNext d) = t :=
    (State.driveNext_filing (congrArg Drive.state State.loadedFil_drive) (congrArg Drive.work State.loadedFil_drive)).trans ht
  rw [exec_driveReadyReport hs, hreport]
  exact congrArg _ (State.Works.settle (.brings (s := s.loadedFil d ps u) hs.2 hnext (.busy hta hbusy 1)) (by decide))

end

/-! ## What FIL does with the drive -/

/-- A drive that has reported READY and been given a command of FIL's at once (R126). -/
def Drive.filesAfterLoad (k : Drive) (load : Stamp) (now : Nat) (c : DriveCmd) : Drive :=
  { k with state := .busy, cmd := some c, reported := 0, since := now, retry := false, loadTime := some load, residency := some now, work := [.filing] }

section
variable {s : State} {d : DriveNo} {u : FilUse} {q : FSlot} (hslot : u.slot = some q) {p : Platter} (hp : s.platter? u.side.platter = some p)
include hslot hp

/-- An UNCHECKED side has its header blocks read (R67 step 2). -/
theorem State.fileGiven_unchecked (hside : (p.sideRec u.side.side).state = .unchecked) :
    (s.loadedFil d u.side u).fileGiven d = { s.loaded d u.side [.filing] with
      lib := { (s.loaded d u.side [.filing]).lib with
        drives := s.lib.drives.set d ((s.lib.drives.get d).filesAfterLoad s.clock.now s.ref (.read 0 16)) }
      driveChans := s.driveChans.set d { DriveChan.idle with chan := Chan.header (.slot q) }
      filUse := some { u with stage := .check d } } := by
  have hstate := (State.loadedFil_sideState (d := d) (u := u) hp).trans (congrArg some hside)
  have huse : (s.loadedFil d u.side u).filUse = some { u with stage := .listed d } := rfl
  simp only [State.fileGiven, huse, hslot, hstate]
  simp only [State.startCheck, State.command, State.setChan, State.stage, State.modDrive, State.loadedFil, State.loaded, Six.get_set_same, Six.set_set,
    Option.map_some, hslot]
  rfl

/-- A BLANK side has its header blocks erased, the open time read from the clock (R67 step 4, R31). -/
theorem State.fileGiven_blank (hside : (p.sideRec u.side.side).state = .blank) :
    (s.loadedFil d u.side u).fileGiven d = { s.loaded d u.side [.filing] with
      lib := { (s.loaded d u.side [.filing]).lib with
        drives := s.lib.drives.set d ((s.lib.drives.get d).filesAfterLoad s.clock.now s.ref (.erase 0 16)) }
      driveChans := s.driveChans.set d { DriveChan.idle with chan := Chan.header (.slot q) }
      filUse := some { u with stage := .headErase d, openTime := s.clock.now } } := by
  have hstate := (State.loadedFil_sideState (d := d) (u := u) hp).trans (congrArg some hside)
  have huse : (s.loadedFil d u.side u).filUse = some { u with stage := .listed d } := rfl
  simp only [State.fileGiven, huse, hslot, hstate]
  simp only [State.startHeader, State.command, State.setChan, State.stage, State.modDrive, State.loadedFil, State.loaded, Six.get_set_same, Six.set_set,
    Option.map_some, hslot]
  rfl

/-- On the OPEN side with room an extent is allocated, and its erase issued (R68). -/
theorem State.fileGiven_room {f : Filing} (hf : s.filings.get q = some f) {fill : Nat} (hside : (p.sideRec u.side.side).state = .opened fill)
    (hopen : s.openSide = some (u.side, fill)) (hloc : p.loc = .drive d) (hroom : f.blocks ≤ 307200 - fill)
    (hfailed : ∀ c ∈ f.commit, u.side ∉ c.failed) :
    (s.loadedFil d u.side u).fileGiven d = { s.loaded d u.side [.filing] with
      cat := { s.cat with
        platters := updateKeyed Platter.id u.side.platter
          (fun p => p.modSide u.side.side (fun x => { x with state := .opened (fill + f.blocks) })) (s.loaded d u.side [.filing]).cat.platters }
      filings := s.filings.set q (some { f with state := .writing, extent := some ⟨u.side.platter, u.side.side, fill, f.blocks⟩ })
      lib := { (s.loaded d u.side [.filing]).lib with
        drives := s.lib.drives.set d { (s.lib.drives.get d).filesAfterLoad s.clock.now s.ref (.erase fill f.blocks) with pinned := true } }
      filUse := some { u with stage := .erase d } } := by
  obtain ⟨ps, stage, slot, openTime, sawWritten⟩ := u
  obtain rfl : slot = some q := hslot
  have hstate := (State.loadedFil_sideState (d := d) (u := ⟨ps, stage, some q, openTime, sawWritten⟩) hp).trans (congrArg some hside)
  have hreach : (s.loadedFil d ps ⟨ps, stage, some q, openTime, sawWritten⟩).reachable ps.platter = true := by
    have hlocOf : (s.loadedFil d ps ⟨ps, stage, some q, openTime, sawWritten⟩).locOf ps.platter = some (.drive d) := by
      rw [State.locOf, State.loadedFil_platter hp, Option.map_some]
      exact congrArg some hloc
    have hdrive := congrArg Drive.state (State.loadedFil_drive (s := s) (d := d) (ps := ps) (u := ⟨ps, stage, some q, openTime, sawWritten⟩))
    simp only [State.reachable, hlocOf, State.drive, hdrive]
    rfl
  rw [State.fileGiven_opened (s := s.loadedFil d ps ⟨ps, stage, some q, openTime, sawWritten⟩) rfl hstate,
    State.allocate_starts (s := s.loadedFil d ps ⟨ps, stage, some q, openTime, sawWritten⟩) hf (State.loadedFil_openSide.trans hopen)
      (State.usable_of_room hreach hroom hfailed),
    State.startErase_eq (s := s.loadedFil d ps ⟨ps, stage, some q, openTime, sawWritten⟩) d hf rfl]
  simp only [State.loadedFil, State.loaded, Six.get_set_same, Six.set_set]
  rfl

end

end Sys2Proof.Machine
end

section
/-!
PROOFS. Obligation O49, UNLOADED where the picker waits at the drive.
-/
namespace Sys2Proof.Machine
set_option Elab.async false

/-- A slot that is a platter's occupied home already is not changed by being made so (R122). -/
theorem insertKeyed_slotUse {c : CatMem} {n : Nat} {u : SlotUse} (h : c.slotUse? n = some u) (hrise : risingKeys SlotRec.slot c.slots = true) :
    insertKeyed SlotRec.slot ⟨n, u⟩ c.slots = c.slots := by
  obtain ⟨r, hr, hu⟩ := Option.map_eq_some_iff.1 h
  have hsame := updateKeyed_eq_insertKeyed SlotRec.slot n (fun r => r) (fun _ => rfl) c.slots hrise r hr
  obtain ⟨-, hslot⟩ := findKeyed_some SlotRec.slot n c.slots r hr
  obtain rfl : r = ⟨n, u⟩ := by cases r; simp_all
  rw [← hsame]
  simp [updateKeyed]

/-- The drive's platter let go by its UNLOAD, its last unload time set (R119, R126). -/
def State.unloadDone (s : State) (d : DriveNo) (id : Nat) : State :=
  { s with
    cat := { s.cat with platters := updateKeyed Platter.id id (fun p => { p with lastUnload := some s.clock.now }) s.cat.platters }
    lib := { s.lib with drives := s.lib.drives.set d { s.lib.drives.get d with cmd := none, reported := 0, retry := false } } }

section
variable {s : State} {d : DriveNo} {id : Nat} {sd : Side} (hst : (s.lib.drives.get d).state = .unloading)
  (hin : (s.lib.drives.get d).platter = some ⟨some id, sd⟩)
include hst hin

theorem State.unloadDone_eq : (s.setUnloadTime d).endCmd d = s.unloadDone d id := by
  rw [State.setUnloadTime_known hin]
  have hended : (s.lib.drives.get d).ended = { s.lib.drives.get d with cmd := none, reported := 0, retry := false } := by
    simp only [Drive.ended, hst]
    rfl
  exact congrArg (fun k => State.modDrive (s.modPlatter id _) d (fun _ => k)) hended

variable (hs : s.Quiet) (hcmd : (s.lib.drives.get d).cmd = some .unload)
include hs hcmd

theorem exec_mountUnloaded {want : PlatterSide} (hpiece : s.lib.picker.piece = some (.mountUnload d want)) :
    exec (.driveUnloadedReport d) s = .next ((s.unloadDone d id).mountUnloaded d want).settle := by
  have hc : (s.drive d).cmd = some .unload := hcmd
  have hp : (s.unloadDone d id).lib.picker.piece = some (.mountUnload d want) := hpiece
  rw [exec_driveUnloadedReport hs]
  simp only [State.unloadedReport, hc, State.unloadDone_eq hst hin, hp, if_true]

theorem exec_exportUnloaded {y : Reply} (hpiece : s.lib.picker.piece = some (.exportUnload y id d)) :
    exec (.driveUnloadedReport d) s = .next ((s.unloadDone d id).exportUnloaded d y id).settle := by
  have hc : (s.drive d).cmd = some .unload := hcmd
  have hp : (s.unloadDone d id).lib.picker.piece = some (.exportUnload y id d) := hpiece
  rw [exec_driveUnloadedReport hs]
  simp only [State.unloadedReport, hc, State.unloadDone_eq hst hin, hp, if_true]

end

section
variable {s : State} {d : DriveNo} {id : Nat} {sd : Side}

theorem State.unloadDone_drive : ((s.unloadDone d id).lib.drives.get d).platter = (s.lib.drives.get d).platter :=
  (congrArg Drive.platter (Six.get_set_same s.lib.drives d { s.lib.drives.get d with cmd := none, reported := 0, retry := false })).trans rfl

theorem State.unloadDone_platter {p : Platter} (hp : s.platter? id = some p) :
    (s.unloadDone d id).platter? id = some { p with lastUnload := some s.clock.now } :=
  State.platter?_modPlatter (s := s) hp (fun p => { p with lastUnload := some s.clock.now }) (fun _ => rfl)

variable (hin : (s.lib.drives.get d).platter = some ⟨some id, sd⟩) {want : PlatterSide}
include hin

/-- An evicted platter begins its way to its home slot (R138 step 2). -/
theorem State.mountUnloaded_evicts (hint : s.interrupted = false) (hne : id ≠ want.platter) {p : Platter} (hp : s.platter? id = some p) {n : Nat}
    (hret : s.cat.ReturnsTo p id n) :
    (s.unloadDone d id).mountUnloaded d want = (s.unloadDone d id).moveHome d id n sd (.mountEvict d want) := by
  have hplatter : ((s.unloadDone d id).drive d).platter = some ⟨some id, sd⟩ := State.unloadDone_drive.trans hin
  have hgo : (s.unloadDone d id).interrupted = false := hint
  have hslot : (s.unloadDone d id).evictSlot id = some n := by
    obtain rfl : p.id = id := (State.platter?_some hp).2
    rw [State.evictSlot, State.unloadDone_platter hp, Option.bind_some]
    exact CatMem.returnSlot_eq (c := (s.unloadDone d p.id).cat) (p := { p with lastUnload := some s.clock.now }) hret
  simp only [State.mountUnloaded, hgo, hplatter, if_neg hne, hslot]
  rfl

/-- The demanded platter is turned over (R138). -/
theorem State.mountUnloaded_flips (hint : s.interrupted = false) (heq : id = want.platter) :
    (s.unloadDone d id).mountUnloaded d want = ((s.unloadDone d id).carry id).givePicker (.drive d) (some (.drive d)) true (.mountFlip d want) := by
  have hplatter : ((s.unloadDone d id).drive d).platter = some ⟨some id, sd⟩ := State.unloadDone_drive.trans hin
  have hgo : (s.unloadDone d id).interrupted = false := hint
  simp only [State.mountUnloaded, hgo, hplatter, if_pos heq]
  rfl

theorem State.exportUnloaded_moves (hint : s.interrupted = false) (y : Reply) :
    (s.unloadDone d id).exportUnloaded d y id = ((s.unloadDone d id).carry id).givePicker (.drive d) (some .mail) (sd == .s1) (.exportDrive y id d) := by
  have hplatter : ((s.unloadDone d id).drive d).platter = some ⟨some id, sd⟩ := State.unloadDone_drive.trans hin
  have hgo : (s.unloadDone d id).interrupted = false := hint
  simp only [State.exportUnloaded, hgo, hplatter]
  rfl

end

/-- The platter let go, and taken by the picker at once. -/
theorem State.unloadDone_carry (s : State) (d : DriveNo) (id : Nat) : (s.unloadDone d id).carry id =
    { s.unloadDone d id with
      cat := { s.cat with platters := updateKeyed Platter.id id (fun p => { p with loc := .picker, lastUnload := some s.clock.now }) s.cat.platters }
      lib := { (s.unloadDone d id).lib with picker := { s.lib.picker with held := some id } } } := by
  have htwice := updateKeyed_updateKeyed Platter.id id (fun p => { p with lastUnload := some s.clock.now }) (fun p => { p with loc := .picker })
    (fun _ => rfl) s.cat.platters
  exact congrArg (fun l => { s.unloadDone d id with
    cat := { s.cat with platters := l }
    lib := { (s.unloadDone d id).lib with picker := { s.lib.picker with held := some id } } }) htwice

/-- A demand goes back to WAITING with its waiters, and none is left without (R139, R135). -/
theorem State.unmount_waits {s : State} {ps : PlatterSide} (hq : ∀ h ∈ s.lib.demands, h.side = ps → h.waiters ≠ [])
    (hother : ∀ h ∈ s.lib.demands, h.mounting = none → h.waiters ≠ []) :
    s.unmount ps = { s with lib := { s.lib with demands := s.lib.demands.map (fun h => if h.side = ps then { h with mounting := none } else h) } } := by
  refine State.demands_kept (s := s.modDemand ps (fun q => { q with mounting := none })) (List.filter_eq_self.2 fun h hh => ?_)
  obtain ⟨h, hmem, rfl⟩ := List.mem_map.1 hh
  by_cases hside : h.side = ps
  · simp [hside, hq h hmem hside]
  · cases hm : h.mounting with
    | none => simp [hside, hother h hmem hm]
    | some e => simp [hside, hm]

/-- A piece that ends with the door open, its platter to be returned home: the picker is HALTED (R149, R158). -/
theorem State.queueReturn_halts {s : State} (d : DriveNo) (ha : s.agenda = []) (hd : s.lib.doorOpen = true) :
    (s.queueReturn d).endPiece.settle = { s with lib := { s.lib with
      returns := s.lib.returns ++ [d]
      picker := { state := .halted, held := none, move := none, since := none, piece := none } } } := by
  rw [State.endPiece_open (s := s.queueReturn d) hd, State.workOver, State.pickerFreed, if_pos (show (s.queueReturn d).lib.doorOpen = true from hd)]
  exact State.settle_nil _ ha

section
variable {s : State} {d : DriveNo} {id : Nat} (ha : s.agenda = []) (hd : s.lib.doorOpen = true)
include ha hd

/-- With the door open the demand goes back to WAITING, and the platter is to be returned home (R139, R149). -/
theorem State.mountUnloaded_interrupted {want : PlatterSide} (hq : ∀ h ∈ s.lib.demands, h.side = want → h.waiters ≠ [])
    (hother : ∀ h ∈ s.lib.demands, h.mounting = none → h.waiters ≠ []) :
    ((s.unloadDone d id).mountUnloaded d want).settle = { s.unloadDone d id with lib := { (s.unloadDone d id).lib with
      demands := s.lib.demands.map (fun h => if h.side = want then { h with mounting := none } else h)
      returns := s.lib.returns ++ [d]
      picker := { state := .halted, held := none, move := none, since := none, piece := none } } } := by
  have hint : (s.unloadDone d id).interrupted = true := by simp [State.interrupted, State.unloadDone, hd]
  rw [State.mountUnloaded, if_pos hint, State.unmount_waits (s := s.unloadDone d id) hq hother]
  exact State.queueReturn_halts (s := { s.unloadDone d id with lib := { (s.unloadDone d id).lib with
    demands := s.lib.demands.map (fun h => if h.side = want then { h with mounting := none } else h) } }) d ha hd

theorem State.exportUnloaded_interrupted {y : Reply} (hgen : (s.links.get y.link).resetCount = y.gen) :
    ((s.unloadDone d id).exportUnloaded d y id).settle = State.queued { s.unloadDone d id with lib := { (s.unloadDone d id).lib with
      returns := s.lib.returns ++ [d]
      picker := { state := .halted, held := none, move := none, since := none, piece := none } } } y .doorOpen .none := by
  have hint : (s.unloadDone d id).interrupted = true := by simp [State.interrupted, State.unloadDone, hd]
  rw [State.exportUnloaded, if_pos hint, State.answer_eq_queued (s.unloadDone d id) y .doorOpen hgen]
  exact State.queueReturn_halts (s := (s.unloadDone d id).queued y .doorOpen .none) d ha hd

end

/-- READY without waiters (R138, R124). -/
theorem readyReport_unwaited {s : State} {d : DriveNo} {ps : PlatterSide} (hs : s.Quiet) (hcmd : (s.lib.drives.get d).cmd = some .load)
    (hin : (s.lib.drives.get d).platter = some ⟨some ps.platter, ps.side⟩) (hwork : (s.lib.drives.get d).work = [])
    (hnone : s.demand? ps = none ∨ ∃ q, s.demand? ps = some q ∧ q.mounting = some d ∧ q.waiters = []) :
    exec (.driveReadyReport d) s = .next (s.loaded d ps []) := by
  have hidle : (s.loaded d ps []).runTask (.driveNext d) = s.loaded d ps [] := by
    have hdrive : ((s.loaded d ps []).drive d).work = [] := congrArg Drive.work (Six.get_set_same _ _ _)
    simp only [State.runTask, State.driveNext, hdrive, ite_self]
  have hreport : s.readyReport d = (s.loaded d ps []).later [.driveNext d] := by
    rw [State.readyReport_eq hcmd hin hwork]
    obtain hq | ⟨q, hq, -, hwaiters⟩ := hnone
    · rw [hq]
    · simp only [hq, hwaiters, List.foldl_nil]
  rw [exec_driveReadyReport hs, hreport, State.settle_later_one (s := s.loaded d ps []) hs.2 hidle hs.2]

theorem readyReport_untaken {s : State} {d : DriveNo} (hs : s.Quiet) (hcmd : (s.lib.drives.get d).cmd ≠ some .load) :
    exec (.driveReadyReport d) s = .next s := by
  have hnone : s.readyReport d = s := by
    simp only [State.readyReport]
    split
    · exact absurd ‹_› hcmd
    · rfl
  rw [exec_driveReadyReport hs, hnone, State.settle_nil s hs.2]

/-- Settles O49: READY without waiters, with retrieval waiters and for FIL, and UNLOADED of each piece that waits at the drive. -/
theorem driveReadyAndUnloaded : Obligations.DriveReadyAndUnloaded := by
  refine ⟨fun d s hs => ⟨fun id sd hcmd hin hwork hnone => ?unwaited, fun hcmd => readyReport_untaken hs hcmd⟩,
    fun d s id sd q r cls age ws o i v g hs hcmd hin hwork hq _ hwaiters hws hlen hitem hv hpos h1 hseg hof hfiller hstarted hstaged => ?fills,
    fun d s side w age u q f p x hs hcmd hin hwork hw _ hwaiters hu hside hslot hf hp hx => ?files,
    fun d s id sd p hs hcmd hst hin hdue hp => ⟨fun want hpiece => ?mounts, fun y hpiece => ?exports⟩⟩
  case unwaited =>
    refine (readyReport_unwaited hs (ps := ⟨id, sd⟩) hcmd hin hwork hnone).trans (congrArg _ ?_)
    rw [State.loaded, ← hwork]
  case fills =>
    have hinst : g.inst = v.inst := by simpa [State.segment?] using List.find?_some hseg
    have hbusy : (((s.loaded d ⟨id, sd⟩ (.fill v.inst :: ws.filterMap s.useOf)).filling d g r v).lib.drives.get d).state ≠ .ready := by
      rw [State.filling_drive]
      exact (by decide : DriveState.busy ≠ .ready)
    have hreport {t : State} := readyReport_fills (t := t) hs (ps := ⟨id, sd⟩) hcmd hin hwork hq hwaiters hws hlen hitem hv hseg hfiller hstarted
    refine ⟨fun hop => ?_, fun hop hnone => ?_⟩
    · refine (hreport (State.outTake_busy hop) hs.2 hbusy).trans (congrArg _ ?_)
      simp only [State.filling, State.reading, State.loaded, Six.get_set_same, Six.set_set]
      rfl
    · have htake := State.outTake_takes (s := (s.loaded d ⟨id, sd⟩ (.fill v.inst :: ws.filterMap s.useOf)).filling d g r v) hop
        (State.readyItem_setPhase hitem hpos h1 hnone) (State.segmentOf_filling hof hinst) hstaged
      refine (hreport htake hs.2 hbusy).trans (congrArg _ ((State.setPhase_setPhase { (s.loaded d ⟨id, sd⟩ (.fill v.inst :: ws.filterMap s.useOf)).reading d g r v with
        outChans := s.outChans.set r.link { OutChan.idle with
          chan := { state := .waiting, op := .item r, mode := some .sequential, next := 4096 + g.first, remaining := 0, action := .endItem } } } r .ready .delivering).trans ?_))
      simp only [State.reading, State.loaded, Six.get_set_same, Six.set_set]
      rfl
  case files => 
    subst hside
    have hreport {t : State} := readyReport_files (t := t) hs hcmd hin hwork hw hwaiters hu
    have hbusy {k : Drive} (hk : k.state = .busy) : ((s.lib.drives.set d k).get d).state ≠ .ready := by
      rw [Six.get_set_same, hk]
      decide
    refine ⟨fun hx' => ?_, fun hx' => ?_, fun fill hx' hopen hloc hroom hfailed => ?_⟩
    · refine (hreport (State.fileGiven_unchecked hslot hp ((congrArg SideRec.state hx).trans hx')) hs.2 (hbusy rfl)).trans rfl
    · refine (hreport (State.fileGiven_blank hslot hp ((congrArg SideRec.state hx).trans hx')) hs.2 (hbusy rfl)).trans rfl
    · refine (hreport (State.fileGiven_room hslot hp hf ((congrArg SideRec.state hx).trans hx') hopen hloc hroom hfailed) hs.2 (hbusy rfl)).trans rfl
  case mounts => 
    refine ⟨fun n hne hd hhome huse hslots hrise => ?_, fun heq hd => ?_, fun q hd hq hm hw honly hother => ?_⟩
    · have hint : s.interrupted = false := by simp [State.interrupted, hd, hdue]
      have hkept : insertKeyed SlotRec.slot ⟨n, .occupied id⟩ s.cat.slots = s.cat.slots := insertKeyed_slotUse huse hrise
      have hcat := s.cat.carriedHome_update id n (fun p => { p with lastUnload := some s.clock.now }) (fun _ => rfl)
      rw [hslots, hkept] at hcat
      rw [exec_mountUnloaded hst hin hs hcmd hpiece, State.mountUnloaded_evicts hin hint hne hp (.inl ⟨hhome, huse⟩), State.moveHome_eq,
        State.settle_nil _ (by exact hs.2)]
      exact congrArg (fun c => Host.Outcome.next (State.givePicker { s.unloadDone d id with
        cat := c
        lib := { (s.unloadDone d id).lib with picker := { s.lib.picker with held := some id } } } (.drive d) (some (.slot n)) (sd == .s1) (.mountEvict d want))) hcat
    · have hint : s.interrupted = false := by simp [State.interrupted, hd, hdue]
      rw [exec_mountUnloaded hst hin hs hcmd hpiece, State.mountUnloaded_flips hin hint heq, State.unloadDone_carry, State.settle_nil _ (by exact hs.2)]
      exact rfl
    · rw [exec_mountUnloaded hst hin hs hcmd hpiece, State.mountUnloaded_interrupted hs.2 hd (fun h hh hside => (honly h hh hside).symm ▸ hw) hother]
      rfl
  case exports => 
    refine ⟨fun hd => ?_, fun hd hgen => ?_⟩
    · have hint : s.interrupted = false := by simp [State.interrupted, hd, hdue]
      rw [exec_exportUnloaded hst hin hs hcmd hpiece, State.exportUnloaded_moves hin hint, State.unloadDone_carry, State.settle_nil _ (by exact hs.2)]
      exact rfl
    · rw [exec_exportUnloaded hst hin hs hcmd hpiece, State.exportUnloaded_interrupted hs.2 hd hgen]
      rfl

end Sys2Proof.Machine
end

section
/-!
PROOFS. Obligation O54, the residency timer's end: the arbiter runs with one WAITING demand.
-/
namespace Sys2Proof.Machine
set_option Elab.async false

/-! ## The arbiter with one WAITING demand -/

section
variable {s : State} {q : Demand}

/-- The one WAITING demand is the arbiter's choice where a drive is to be had for it (R136). -/
theorem State.arbiter_sole (hsole : s.lib.demands.filter (·.mounting.isNone) = [q]) {d : DriveNo} (hd : s.driveFor q = some d) :
    s.arbiter = s.grant q d := by
  have hranked : s.ranked [q] = [q] := rfl
  have hchoice : s.choice = some (q, d) := by
    simp only [State.choice, hsole, hranked, List.findSome?_cons, hd, Option.map_some]
  simp only [State.arbiter, hchoice]

/-- One WAITING demand, in the words of the statement. -/
theorem State.waiting_sole (hmem : q ∈ s.lib.demands) (hq : q.mounting = none)
    (hone : (s.lib.demands.filter (fun h => h.mounting.isNone)).length = 1) : s.lib.demands.filter (·.mounting.isNone) = [q] := by
  obtain ⟨h, hh⟩ := List.length_eq_one_iff.1 hone
  have hin : q ∈ s.lib.demands.filter (fun h => h.mounting.isNone) := List.mem_filter.2 ⟨hmem, by simp [hq]⟩
  rw [hh] at hin ⊢
  rw [List.mem_singleton.1 hin]

/-- The demanded platter in a slot and no drive EMPTY: a drive is to be had by an eviction alone (R137). -/
theorem State.driveFor_evicts {w : Platter} (hw : s.platter? q.side.platter = some w) {m : Nat} (hloc : w.loc = .slot m)
    (hempty : ∀ e, (s.lib.drives.get e).state ≠ .empty) : s.driveFor q = s.evictee := by
  have hl : s.locOf q.side.platter = some (.slot m) := by simp [State.locOf, hw, hloc]
  have hnone : DriveNo.all.find? (fun d => (s.drive d).state == .empty) = none :=
    List.find?_eq_none.2 fun e _ => by simpa [State.drive] using hempty e
  simp only [State.driveFor, hl, hnone]

/-- The one drive that may be evicted is the evictee. -/
theorem State.evictee_sole {d : DriveNo} (hd : s.evictable d = true) (hother : ∀ e, e ≠ d → s.evictable e = false) : s.evictee = some d := by
  have hfilter : DriveNo.all.filter s.evictable = [d] := by
    have hall (e : DriveNo) : s.evictable e = decide (e = d) := by
      by_cases he : e = d
      · simp [he, hd]
      · simp [he, hother e he]
    rw [funext hall]
    cases d <;> rfl
  rw [State.evictee, hfilter]
  rfl

/-- A grant of a drive that holds another platter, or the other side of the demanded one: UNLOAD is issued, and the picker waits there (R138). -/
theorem State.grant_unloads {d : DriveNo} {id : Nat} {sd : Side} (hin : (s.lib.drives.get d).platter = some ⟨some id, sd⟩) : s.grant q d =
    ((s.modDemand q.side (fun q => { q with mounting := some d })).command d .unload).waitAtDrive d
      (if id = q.side.platter then some (.drive d) else (s.evictSlot id).map .slot) (decide (id = q.side.platter) || sd == .s1) (.mountUnload d q.side) := by
  have hplatter : ((s.modDemand q.side (fun q => { q with mounting := some d })).drive d).platter = some ⟨some id, sd⟩ := hin
  simp only [State.grant, hplatter, Option.some.injEq, Option.bind_some]
  rfl

end

/-! ## The residency timer -/

/-- A drive's residency timer over (R124). -/
def State.residencyOver (s : State) (d : DriveNo) : State := s.modDrive d (fun r => { r with residency := none })

theorem State.residencyOver_drive (s : State) (d : DriveNo) :
    (s.residencyOver d).lib.drives.get d = { s.lib.drives.get d with residency := none } := Six.get_set_same _ _ _

theorem State.residencyOver_other (s : State) {d e : DriveNo} (h : e ≠ d) : (s.residencyOver d).lib.drives.get e = s.lib.drives.get e :=
  Six.get_set_ne _ _ _ _ h

section
variable {s : State} {d : DriveNo} (hs : s.Quiet)
include hs

theorem residency_runs (h : (s.lib.drives.get d).residency = none ∨ ∃ at0, (s.lib.drives.get d).residency = some at0 ∧ s.ref < at0 + 20000) :
    exec (.residencyExpiry d) s = .next s := by
  have hsame : State.residencyExpiry s d = s := by
    obtain h | ⟨at0, h, hlt⟩ := h
    · have hnone : (s.drive d).residency = none := h
      simp only [State.residencyExpiry, hnone]
    · have hsome : (s.drive d).residency = some at0 := h
      have hnot : s.passed at0 Config.residencyMs = false := decide_eq_false (Nat.not_le.2 hlt)
      simp only [State.residencyExpiry, hsome, hnot, Bool.false_eq_true, if_false]
  rw [exec_residencyExpiry hs, hsame, State.settle_nil s hs.2]

variable {at0 : Nat} (hres : (s.lib.drives.get d).residency = some at0) (hpast : at0 + 20000 ≤ s.ref)
include hres hpast

theorem residency_ends : exec (.residencyExpiry d) s = .next ((s.residencyOver d).later [.pickerNext]).settle := by
  have hsome : (s.drive d).residency = some at0 := hres
  have hnot : s.passed at0 Config.residencyMs = true := decide_eq_true hpast
  rw [exec_residencyExpiry hs]
  simp only [State.residencyExpiry, hsome, hnot, if_true]
  rfl

theorem residency_rests (hrest : s.PickerRests) : exec (.residencyExpiry d) s = .next (s.residencyOver d) := by
  have hnext : (s.residencyOver d).runTask .pickerNext = s.residencyOver d := State.pickerNext_rests (s := s.residencyOver d) hrest
  rw [residency_ends hs hres hpast, State.settle_later_one (s := s.residencyOver d) hs.2 hnext hs.2]

/-- The picker free for nothing else: the one WAITING demand is granted the drive (R136). -/
theorem residency_grants {q : Demand} (hidle : s.lib.picker.state = .idle) (hd : s.lib.doorOpen = false) (hsweep : s.lib.sweep.running = false)
    (hreturns : s.lib.returns = []) (hmedia : s.lib.media = []) (hsole : s.lib.demands.filter (·.mounting.isNone) = [q]) {id : Nat} {sd : Side}
    (hin : (s.lib.drives.get d).platter = some ⟨some id, sd⟩) (hfor : (s.residencyOver d).driveFor q = some d) :
    exec (.residencyExpiry d) s = .next ((((s.residencyOver d).modDemand q.side (fun q => { q with mounting := some d })).command d .unload).waitAtDrive d
      (if id = q.side.platter then some (.drive d) else (s.evictSlot id).map .slot) (decide (id = q.side.platter) || sd == .s1) (.mountUnload d q.side)) := by
  have hin' : ((s.residencyOver d).lib.drives.get d).platter = some ⟨some id, sd⟩ := by rw [State.residencyOver_drive]; exact hin
  have hnext := (State.pickerNext_arbiter (s := s.residencyOver d) hidle hd hsweep hs.1 hreturns hmedia).trans
    ((State.arbiter_sole (s := s.residencyOver d) hsole hfor).trans (State.grant_unloads hin'))
  rw [residency_ends hs hres hpast]
  exact congrArg _ (State.settle_later_one (s := s.residencyOver d) hs.2 hnext hs.2)

end

/-! ## The drive to be had -/

section
variable {s : State} {d : DriveNo} {q : Demand} {id : Nat} {sd : Side} {p : Platter}
  (hp : s.platter? id = some p) (hready : (s.lib.drives.get d).state = .ready) (hpin : (s.lib.drives.get d).pinned = false)
  (hwork : (s.lib.drives.get d).work = [])
include hp hready hpin hwork

theorem State.driveFor_turnsOver (hside : q.side.platter = id) (hloc : p.loc = .drive d) : (s.residencyOver d).driveFor q = some d := by
  have hl : (s.residencyOver d).locOf q.side.platter = some (.drive d) := by
    have hp' : (s.residencyOver d).platter? id = some p := hp
    simp [State.locOf, hside, hp', hloc]
  have hdrive := s.residencyOver_drive d
  simp only [State.driveFor, hl, State.drive, hdrive, hready, hpin, hwork]
  rfl

variable (hin : (s.lib.drives.get d).platter = some ⟨some id, sd⟩)
include hin

theorem State.driveFor_evictsOnly {w : Platter} (hw : s.platter? q.side.platter = some w) {m n : Nat} (hloc : w.loc = .slot m)
    (hhome : p.home = some n) (huse : s.cat.slotUse? n = some (.occupied id))
    (hother : ∀ e, (s.lib.drives.get e).state ≠ .empty ∧ (e = d ∨ (s.lib.drives.get e).state ≠ .ready ∨ (s.lib.drives.get e).residency ≠ none))
    (hsole : s.lib.demands.filter (·.mounting.isNone) = [q]) (hside : q.side ≠ ⟨id, sd⟩) : (s.residencyOver d).driveFor q = some d := by
  have hdrive := s.residencyOver_drive d
  have hslot : (s.cat.returnSlot p).isSome = true := by
    obtain rfl : p.id = id := (State.platter?_some hp).2
    rw [CatMem.returnSlot_eq (.inl ⟨hhome, huse⟩)]; rfl
  have hnone : (s.lib.demands.any (fun h => h.mounting.isNone && h.side == ⟨id, sd⟩)) = false := by
    refine List.any_eq_false.2 fun h hh hboth => ?_
    obtain ⟨hwaits, heq⟩ : h.mounting.isNone = true ∧ h.side = ⟨id, sd⟩ := by simpa using hboth
    have hmem : h ∈ s.lib.demands.filter (·.mounting.isNone) := List.mem_filter.2 ⟨hh, hwaits⟩
    rw [hsole, List.mem_singleton] at hmem
    exact hside (hmem ▸ heq)
  rw [State.driveFor_evicts (s := s.residencyOver d) hw hloc]
  · refine State.evictee_sole ?_ fun e he => ?_
    · have hp' : (s.residencyOver d).platter? id = some p := hp
      have hslot' : ((s.residencyOver d).cat.returnSlot p).isSome = true := hslot
      have hnone' : ((s.residencyOver d).lib.demands.any (fun h => h.mounting.isNone && h.side == ⟨id, sd⟩)) = false := hnone
      simp only [State.evictable, State.drive, hdrive, hready, hwork, hpin, hin, hp', hslot', hnone']
      rfl
    · have hkept := s.residencyOver_other he
      obtain hstate | hres := (hother e).2.resolve_left he
      · simp [State.evictable, State.drive, hkept, hstate]
      · simp [State.evictable, State.drive, hkept, hres]
  · intro e
    by_cases he : e = d
    · subst he
      rw [hdrive]
      exact (hother e).1
    · rw [s.residencyOver_other he]
      exact (hother e).1

end

end Sys2Proof.Machine
end

section
/-!
PROOFS. An item that must be read and meets no drive makes a mount demand (R91, R92, R133), and the demand is granted an EMPTY drive (R138 step 3).
-/
namespace Sys2Proof.Machine
set_option Elab.async false

/-! ## Staging space where there is nothing staged -/

/-- With nothing staged the first block is the lowest free run (R107, R108). -/
theorem makeRoom_empty {len : Nat} (h : len ≤ 4096) : makeRoom 0 [] len = ([], some 0) := by
  have hfree : runFree [] 0 len = true := by
    have hlen : len ≤ Config.ringBlocks := h
    simp [runFree, hlen]
  simp [makeRoom, findRun, hfree]

/-- The segment an item's grant creates: FILLING, the item its filler (R91). -/
def Segment.asked (r : ItemRef) (v : Resolved) : Segment :=
  { inst := v.inst, first := 0, len := v.loc.len, staged := 0, users := [r], fill := none, filler := some r, started := false }

section
variable {s : State} (hseg : s.segments = []) (hfifo : s.spaceFifo = [])
include hseg hfifo

theorem State.createSegment_first (r : ItemRef) (v : Resolved) :
    s.createSegment r v.inst 0 v.loc.len = { s with segments := [Segment.asked r v] } := by
  simp [State.createSegment, hseg, hfifo, Segment.asked]

theorem State.askSpace_grants (r : ItemRef) (o : Op) {v : Resolved} (hlen : v.loc.len ≤ 4096) : s.askSpace r o v =
    (State.setPhase { s with segments := [Segment.asked r v] } r .waitingMount).submit (s.sideOf v) (.item r o.cls o.admTime) := by
  have hroom : makeRoom s.segments.length s.segments v.loc.len = ([], some 0) := by
    rw [hseg]
    exact makeRoom_empty hlen
  have hsame : { s with segments := [] } = s := by rw [← hseg]
  have hnone : (!s.spaceFifo.isEmpty) = false := by rw [hfifo]; rfl
  simp only [State.askSpace, hnone, Bool.false_eq_true, if_false, hroom, hsame, State.granted, State.createSegment_first hseg hfifo]
  rfl

end

/-! ## The demand made -/

/-- A mount demand behind those that are held. -/
def State.withDemand (s : State) (q : Demand) : State := { s with lib := { s.lib with demands := s.lib.demands ++ [q] } }

/-- No demand for a side, and no drive with it at the head (R133, R134). -/
def State.Unasked (s : State) (ps : PlatterSide) : Prop := s.demand? ps = none ∧ ∀ d, ¬s.Faces d ps

theorem State.submit_asks {s : State} {ps : PlatterSide} (h : s.Unasked ps) (w : Waiter) :
    s.submit ps w = (s.withDemand { side := ps, mounting := none, waiters := [w] }).later [.pickerNext] := by
  have hmeet : s.meetIn ps = none := by
    rw [State.meetIn, State.mountedIn_eq_none h.2]
    rfl
  simp only [State.submit, h.1, hmeet]
  rfl

/-- The demand an item makes. -/
def Op.demandFor (o : Op) (ps : PlatterSide) : Demand := { side := ps, mounting := none, waiters := [.item o.firstRef o.cls o.admTime] }

/-- A new operation whose first item has its segment and waits for its mount. -/
def State.awaiting (s : State) (o : Op) (i : Item) (v : Resolved) : State :=
  State.withOp { s with segments := [Segment.asked o.firstRef v] } (o.begun { i with decode := some .mount, phase := .waitingMount } [])

section
variable {s : State} {o : Op} {i : Item} {v : Resolved} (ha : s.agenda = []) (hcur : o.current = 0) (hitems : o.items = [i])
  (hp : i.phase = .pending) (hv : i.resolved = some v) (hfree : s.NoOp o.reply.link o.reply.tag)
  (hd : s.decode v = .mount) (hseg : s.segments = []) (hfifo : s.spaceFifo = []) (hlen : v.loc.len ≤ 4096)
  (hnone : s.Unasked (s.sideOf v))
include ha hcur hitems hp hv hfree hd hseg hfifo hlen hnone

/-- A new operation's first item has the space and makes the demand, and the rest is the picker's (R90, R91, R92, R133). -/
theorem State.Works.demands {t : State} {n : Nat}
    (h : State.Works ((s.awaiting o i v).withDemand (o.demandFor (s.sideOf v))) [.pickerNext] t n) :
    State.Works (s.withOp o) [.nextTurn o.reply.link o.reply.tag] t (n + 2) := by
  have hturn := State.turn_asks (rest := []) hfree hp hv (.inl hd)
  rw [hd] at hturn
  have hspace := State.askSpace_grants (s := s.withOp (o.begun { i with decode := some .mount } [])) hseg hfifo o.firstRef (o.begun i []) hlen
  have hwaits := State.setPhase_begun (s := { s with segments := [Segment.asked o.firstRef v] }) (o := o) (i := { i with decode := some .mount })
    (rest := []) hfree .waitingMount
  have hsubmit := State.submit_asks (s := s.awaiting o i v) (ps := s.sideOf v) hnone (.item o.firstRef o.cls o.admTime)
  exact .piece ha (State.nextTurn_withOp hfree hcur hitems (Item.hasEnded_of_pending hp))
    (.piece ha ((hturn.trans hspace).trans ((congrArg (fun u => State.submit u (s.sideOf v) (.item o.firstRef o.cls o.admTime)) hwaits).trans hsubmit)) h)

end

/-! ## The grant of an EMPTY drive -/

section
variable {s : State} {q : Demand} {d : DriveNo}

/-- The demanded platter in a slot: the first EMPTY drive is to be had (R137). -/
theorem State.driveFor_first {p : Platter} (hp : s.platter? q.side.platter = some p) {n : Nat} (hloc : p.loc = .slot n)
    (hd : DriveNo.all.find? (fun d => decide ((s.lib.drives.get d).state = .empty)) = some d) : s.driveFor q = some d := by
  have hl : s.locOf q.side.platter = some (.slot n) := by simp [State.locOf, hp, hloc]
  have hfind : DriveNo.all.find? (fun d => (s.drive d).state == .empty) = some d := by
    rw [← hd]
    exact congrArg (fun f => DriveNo.all.find? f) (funext fun e => by rw [Bool.eq_iff_iff]; simp [State.drive])
  simp only [State.driveFor, hl, hfind]

/-- A grant of a drive with no platter in it: the demanded one is moved from its slot (R138 step 3). -/
theorem State.grant_fetches {p : Platter} (hp : s.platter? q.side.platter = some p) {n : Nat} (hloc : p.loc = .slot n)
    (hin : (s.lib.drives.get d).platter = none) : s.grant q d =
    ((s.modDemand q.side (fun q => { q with mounting := some d })).carry q.side.platter).givePicker (.slot n) (some (.drive d)) (q.side.side == .s1)
      (.mountFetch d q.side) := by
  have hplatter : ((s.modDemand q.side (fun q => { q with mounting := some d })).drive d).platter = none := hin
  have hl : (s.modDemand q.side (fun q => { q with mounting := some d })).locOf q.side.platter = some (.slot n) := by
    have hp' : (s.modDemand q.side (fun q => { q with mounting := some d })).platter? q.side.platter = some p := hp
    simp [State.locOf, hp', hloc]
  simp only [State.grant, hplatter, State.mountFetch, hl]

/-- The newest demand is changed alone. -/
theorem State.modDemand_newest (h : s.demand? q.side = none) (f : Demand → Demand) : (s.withDemand q).modDemand q.side f = s.withDemand (f q) := by
  have hothers : s.lib.demands.map (fun r => if r.side = q.side then f r else r) = s.lib.demands := by
    have hno := List.find?_eq_none.1 h
    exact (List.map_congr_left fun r hr => if_neg (by simpa using hno r hr)).trans (List.map_id _)
  simp only [State.modDemand, State.modDemands, State.modLib, State.withDemand, List.map_append, hothers, List.map_cons, if_true, List.map_nil]

/-- With the picker free and no other demand WAITING, a new demand is granted the first EMPTY drive (R136). -/
theorem State.pickerNext_fetches (hidle : s.lib.picker.state = .idle) (hd : s.lib.doorOpen = false) (hsweep : s.lib.sweep.running = false)
    (hpower : s.power = .running) (hreturns : s.lib.returns = []) (hmedia : s.lib.media = []) (hothers : ∀ h ∈ s.lib.demands, h.mounting ≠ none)
    (hq : q.mounting = none) {p : Platter} (hp : s.platter? q.side.platter = some p) {n : Nat} (hloc : p.loc = .slot n)
    (hfirst : DriveNo.all.find? (fun d => decide ((s.lib.drives.get d).state = .empty)) = some d) (hin : (s.lib.drives.get d).platter = none)
    (hnone : s.demand? q.side = none) : (s.withDemand q).pickerNext =
    ((s.withDemand { q with mounting := some d }).carry q.side.platter).givePicker (.slot n) (some (.drive d)) (q.side.side == .s1)
      (.mountFetch d q.side) := by
  have hsole : (s.withDemand q).lib.demands.filter (·.mounting.isNone) = [q] := by
    have hnil : s.lib.demands.filter (·.mounting.isNone) = [] := List.filter_eq_nil_iff.2 fun h hh => by simpa using hothers h hh
    simp [State.withDemand, List.filter_append, hnil, hq]
  have hfor : (s.withDemand q).driveFor q = some d := State.driveFor_first (s := s.withDemand q) hp hloc hfirst
  rw [State.pickerNext_arbiter (s := s.withDemand q) hidle hd hsweep hpower hreturns hmedia, State.arbiter_sole hsole hfor,
    State.grant_fetches (s := s.withDemand q) hp hloc hin, State.modDemand_newest hnone]

end

end Sys2Proof.Machine
end

section
/-!
PROOFS. Obligation O54: the residency timer's end (R124, R136, R137), and the FETCH that makes a demand (R133).
-/
namespace Sys2Proof.Machine
set_option Elab.async false

/-! ## The drive granted at the residency timer's end -/

/-- The state in which a demand has been granted a drive that is to be emptied first (R138 step 1). -/
theorem State.residencyOver_granted (s : State) (d : DriveNo) (q : Demand) (dst : Pos) (flip : Bool) :
    (((s.residencyOver d).modDemand q.side (fun q => { q with mounting := some d })).command d .unload).waitAtDrive d (some dst) flip (.mountUnload d q.side)
      = { s with lib := { s.lib with
          drives := s.lib.drives.set d { s.lib.drives.get d with state := .unloading, cmd := some .unload, reported := 0, since := s.ref, retry := false,
                                                                  residency := none }
          demands := s.lib.demands.map (fun h => if h.side = q.side then { h with mounting := some d } else h)
          picker := { s.lib.picker with state := .moving, move := some { src := .drive d, dst := some dst, flip := flip }, since := none,
                                        piece := some (.mountUnload d q.side) } } } := by
  simp only [State.residencyOver, State.command, State.modDrive, State.modDemand, State.modDemands, State.waitAtDrive, State.modPicker, State.modLib,
    Six.get_set_same, Six.set_set]

/-! ## The FETCH -/

/-- The item of a FETCH of a whole instrument. -/
def Item.whole (n : InstrNum) (current : Bool) : Item :=
  { named := n, current := current, sel := .all, resolved := none, range := none, quote := none, decode := none, phase := .pending, delivered := 0,
    receipt := none }

theorem parseItem_whole {n : InstrNum} {m : Nat} (hm : m = 1 ∨ m = 2) (hn : n.seq ≠ 0) :
    parseItem { inst := n, mode := m, selKind := 1, first := 0, last := 0 } = some (Item.whole n (decide (m = 1))) := by
  obtain rfl | rfl := hm <;> simp [parseItem, mode?, selection?, if_neg hn, Item.whole]

theorem class?_of {cl : Nat} (h : cl = 1 ∨ cl = 2) : class? cl = some (if cl = 1 then .counter else .bulk) := by
  obtain rfl | rfl := h <;> rfl

section
variable {s : State} {e : Entry} {loc : Location} {pages : Pages} (he : s.cat.entry? e.num = some e) (hstate : e.state = .recorded loc pages)
include he

/-- An instrument with no successor resolves to itself in either mode (R11, R84). -/
theorem State.resolve_last (hsucc : e.successor = none) (current : Bool) : s.resolve (Item.whole e.num current) = some (e.num, 0) := by
  cases current with
  | false => exact s.resolve_asLodged rfl
  | true =>
    have hlast : (s.cat.entry? e.num).bind (·.successor) = none := by rw [he]; exact hsucc
    have hfollow : s.cat.follow Config.maxChain e.num 0 = some (e.num, 0) := by
      simp only [Config.maxChain, CatMem.follow, hlast]
    exact hfollow

include hstate

/-- A VIEW of a whole unrestricted instrument that decode does not refuse is admitted (R83, R85, R86). -/
theorem State.admitted_whole (hsucc : e.successor = none) (hopen : e.restricted = false) (l : Link) (account : Nat) (current : Bool)
    (hd : s.decode ⟨e.num, 0, loc, pages⟩ = .mount) : s.admitted l .view account (Item.whole e.num current) =
      { Item.whole e.num current with resolved := some ⟨e.num, 0, loc, pages⟩, range := some (1, pages.small + pages.plan), decode := some .mount } := by
  have hloc : e.loc? ≠ none := by simp [Entry.loc?, hstate]
  have hnot : ¬(e.restricted = true ∧ s.rights.get l &&& 0x08#8 = 0#8) := by simp [hopen]
  have hcheck : s.checkItem l .view account true (Item.whole e.num current) =
      { Item.whole e.num current with resolved := some ⟨e.num, 0, loc, pages⟩, range := some (1, pages.small + pages.plan), decode := some .mount } := by
    rw [State.checkItem_resolved (.inl rfl) (State.namedFault_recorded he hloc) (State.resolve_last he hsucc current) he hstate, if_neg hnot,
      State.checkSelection_admits (range := (1, pages.small + pages.plan)) rfl (.inl rfl) (by simp [hd]), hd]
  simp only [State.admitted, hcheck]
  rfl

end

/-- The operation a FETCH of a whole instrument makes, a VIEW of it. -/
def State.viewing (s : State) (l : Link) (t : Nat) (req : FetchParams) (cls : MountClass) (i : Item) : Op :=
  s.opened (s.replyTo l t (.fetch req)) false .view 0 cls [i]

section
variable {s : State} {l : Link} {t m cl : Nat} {e : Entry} {loc : Location} {pages : Pages} {p : Platter} {n : Nat} {req : FetchParams}
  (hreq : req = { item := { inst := e.num, mode := m, selKind := 1, first := 0, last := 0 }, purpose := 1, account := 0, cls := cl })
  (h : s.Takes l t (.fetch req)) (hm : m = 1 ∨ m = 2) (hcl : cl = 1 ∨ cl = 2) (hseq : e.num.seq ≠ 0) (he : s.cat.entry? e.num = some e)
  (hstate : e.state = .recorded loc pages) (hsucc : e.successor = none) (hopen : e.restricted = false) (hp : s.platter? loc.platter = some p)
  (hloc : p.loc = .slot n) (hcanon : s.cat.canonId loc.platter = loc.platter) (hseg : s.segments = []) (hfifo : s.spaceFifo = [])
  (hlen : loc.len ≤ 4096) (hno : s.NoOp l t) (hdemand : s.demand? ⟨loc.platter, loc.side⟩ = none)
  (hout : ∀ d ∈ DriveNo.all, (s.lib.drives.get d).platter ≠ some ⟨some loc.platter, loc.side⟩) (hjam : s.lib.picker.state ≠ .jammed)

section
include hp hloc hcanon hseg hjam

theorem State.decode_inSlot (num : InstrNum) : s.decode ⟨num, 0, loc, pages⟩ = .mount := by
  have hside : s.platter? (s.sideOf ⟨num, 0, loc, pages⟩).platter = some p := (congrArg s.platter? hcanon).trans hp
  rw [State.decode_atHand (by simp [hseg]) hside (.inr ⟨n, hloc⟩), State.viaPicker, if_neg hjam]

end

include hreq h hm hcl hseq he hstate hsucc hopen hp hloc hcanon hseg hfifo hlen hno hdemand hout hjam

/-- The FETCH comes to the picker's turn, its operation, its segment and its demand made (R78, R90, R91, R133). -/
theorem fetch_demands {o : Op} {i : Item} (hi : i = { Item.whole e.num (decide (m = 1)) with
      resolved := some ⟨e.num, 0, loc, pages⟩, range := some (1, pages.small + pages.plan), decode := some .mount })
    (ho : o = s.viewing l t req (if cl = 1 then .counter else .bulk) i) {u : State} {k : Nat} (hk : k ≤ 4000)
    (hrest : State.Works (((s.tagTaken l t).awaiting o i ⟨e.num, 0, loc, pages⟩).withDemand (o.demandFor ⟨loc.platter, loc.side⟩)) [.pickerNext] u k) :
    exec (.fetch l t req) s = .next u := by
  have hd : s.decode ⟨e.num, 0, loc, pages⟩ = .mount := State.decode_inSlot hp hloc hcanon hseg hjam e.num
  have hside : (s.tagTaken l t).sideOf ⟨e.num, 0, loc, pages⟩ = ⟨loc.platter, loc.side⟩ :=
    congrArg (fun c => PlatterSide.mk c loc.side) hcanon
  have hunasked : (s.tagTaken l t).Unasked ⟨loc.platter, loc.side⟩ := ⟨hdemand, fun d hf => hout d (DriveNo.mem_all d) hf.2⟩
  have hadm : s.admitted l .view req.account (Item.whole e.num (decide (m = 1))) = i :=
    (State.admitted_whole he hstate hsucc hopen l req.account _ hd).trans hi.symm
  have hitem : parseItem req.item = some (Item.whole e.num (decide (m = 1))) := by rw [hreq]; exact parseItem_whole hm hseq
  have hcls : class? req.cls = some (if cl = 1 then .counter else .bulk) := by rw [hreq]; exact class?_of hcl
  have hpu : purpose? req.purpose = some .view := by rw [hreq]; rfl
  have hpending : i.phase = .pending := by rw [hi]; rfl
  have hquote : i.quote = none := by rw [hi]; rfl
  have hresolved : i.resolved = some ⟨e.num, 0, loc, pages⟩ := by rw [hi]
  have hnocopy : ([i].filter (fun j => j.quote.isSome)).length = 0 := by simp [hquote]
  have haccount : req.account = 0 := by rw [hreq]
  have hmakes := fetch_makesOp h hitem hpu hcls (by rw [hadm]; exact Item.hasEnded_of_pending hpending)
  rw [hadm, State.createOp_eq, hnocopy, State.withCopies_zero, haccount] at hmakes
  rw [← hside] at hrest hunasked
  have hworks := State.Works.demands (s := s.tagTaken l t) (o := o) h.idle (by rw [ho]; rfl) (by rw [ho]; rfl) hpending hresolved (by rw [ho]; exact hno)
    hd hseg hfifo hlen hunasked hrest
  rw [hmakes]
  subst ho
  exact congrArg Host.Outcome.next (hworks.settle (by omega))

end

end Sys2Proof.Machine
end

section
/-!
PROOFS. Obligation O54 settled.
-/
namespace Sys2Proof.Machine
set_option Elab.async false

/-- Settles O54: the arbiter's run at the timer's end by the one drive to be had, and the FETCH by its three pieces of work. -/
theorem residencyEndRunsArbiter : Obligations.ResidencyEndRunsArbiter := by
  unfold Obligations.ResidencyEndRunsArbiter
  refine ⟨fun s d hs => ⟨residency_runs hs, fun at0 hres hpast => ⟨residency_rests hs hres hpast, ?granted⟩⟩, ?fetch⟩
  case granted =>
    intro q hmem id sd hin p hp hidle hd hsweep hreturns hmedia _ hone hq hready hpin hwork granted
    have hsole := State.waiting_sole hmem hq hone
    refine ⟨fun w hw m hm n hhome hother huse hside hid hpid => ?evicts, fun hside hloc => ?turnsOver⟩
    case evicts =>
      have hfor := State.driveFor_evictsOnly hp hready hpin hwork hin hw hm hhome huse hother hsole hside
      have hslot : (s.evictSlot id).map Pos.slot = some (.slot n) := by
        rw [State.evictSlot, hp, Option.bind_some, CatMem.returnSlot_eq (.inl ⟨hhome, hpid.symm ▸ huse⟩), Option.map_some]
      rw [residency_grants hs hres hpast hidle hd hsweep hreturns hmedia hsole hin hfor, if_neg hid, hslot, decide_eq_false hid, Bool.false_or,
        State.residencyOver_granted]
    case turnsOver =>
      have hid : id = q.side.platter := by rw [hside]
      have hfor := State.driveFor_turnsOver hp hready hpin hwork hid.symm hloc
      rw [residency_grants hs hres hpast hidle hd hsweep hreturns hmedia hsole hin hfor, if_pos hid, decide_eq_true hid, Bool.true_or,
        State.residencyOver_granted]
  case fetch =>
    intro s l t e _ loc pages hstate m cl p hp n hloc req h hm hcl hseq he hsucc hopen _ hcanon hseg hfifo hlen hno hdemand hout hjam reply cls taken
    have hdemands {u : State} {k : Nat} := fetch_demands rfl h hm hcl hseq he hstate hsucc hopen hp hloc hcanon hseg hfifo hlen hno hdemand hout hjam
      rfl rfl (u := u) (k := k)
    refine ⟨fun hbusy => ?waits, fun d hidle hd hsweep hreturns hmedia hothers hfirst hin => ?fetches⟩
    case waits =>
      refine hdemands (k := 1) (by decide) (.brings h.idle (State.pickerNext_rests ?_) (.nothing h.idle))
      exact .inl hbusy
    case fetches =>
      have hnext (o : Op) (i : Item) (v : Resolved) := State.pickerNext_fetches (s := (s.tagTaken l t).awaiting o i v)
        (q := o.demandFor ⟨loc.platter, loc.side⟩) hidle hd hsweep h.1.1.1 hreturns hmedia hothers rfl hp hloc hfirst hin hdemand
      exact hdemands (k := 1) (by decide) (.brings h.idle (hnext _ _ _) (.nothing h.idle))

end Sys2Proof.Machine
end

section
/-!
PROOFS. The last item of an operation ends with the segment it made, whose fill has not started (R101, R110); and what the answers and events of the
library leave as it is.
-/
namespace Sys2Proof.Machine
set_option Elab.async false

/-! ## An item with the segment it made -/

/-- The segments of an instrument gone (R110). -/
def State.unstaged (s : State) (n : InstrNum) : State := { s with segments := s.segments.filter (fun h => decide (h.inst ≠ n)) }

theorem State.unstaged_post (s : State) (e : Event) (n : InstrNum) : (s.post e).unstaged n = (s.unstaged n).post e := by
  cases hp : s.power <;> simp only [State.unstaged, State.post, hp]

/-- A fill that stands on no work list is taken off none (R110). -/
theorem State.cancelFill_none {s : State} {n : InstrNum} (h : ∀ d, .fill n ∉ (s.lib.drives.get d).work) : s.cancelFill n = s := by
  have hnone (d : DriveNo) : (s.drive d).work.contains (.fill n) = false := by simpa [State.drive] using h d
  have hkept (l : List DriveNo) : l.foldl (fun s d => if (s.drive d).work.contains (.fill n) then s.removeUse d (.fill n) else s) s = s := by
    induction l with
    | nil => rfl
    | cons d l ih => rw [List.foldl_cons, hnone d, if_neg (by decide), ih]
  exact hkept DriveNo.all

section
variable {s : State} {g : Segment} {r : ItemRef} (hun : s.Unstarted g r)
include hun

theorem State.Unstarted.fill_nowhere (d : DriveNo) : .fill g.inst ∉ (s.lib.drives.get d).work := hun.2.2.2 d (DriveNo.mem_all d)

/-- The segment goes with the item that made it (R110). -/
theorem State.removeUnstarted_alone : s.removeUnstarted g r = (s.unstaged g.inst).later [.spaceTry] := by
  have hothers : g.users.filter (fun u => u ≠ r) = [] := by simp [hun.1.2.1]
  have hcancel : s.cancelFill g.inst = s := State.cancelFill_none hun.fill_nowhere
  simp only [State.removeUnstarted, hcancel, hothers, List.foldl_nil]
  rfl

/-- No other segment has the item as a user. -/
theorem State.unstaged_unused : ∀ h ∈ (s.unstaged g.inst).segments, r ∉ h.users := by
  intro h hh huse
  obtain ⟨hmem, hne⟩ := List.mem_filter.1 hh
  rw [hun.1.2.2 h hmem (.inl huse)] at hne
  simp at hne

/-- An item with nothing but the segment it made and its outbound channel leaves those (R101, R110). -/
theorem State.leaveAll_unstarted (hf : s.spaceFifo = []) (hn : s.NotWaiting r) : s.leaveAll r = ((s.unstaged g.inst).leaveAll r).later [.spaceTry] := by
  obtain ⟨⟨hmem, husers, honly⟩, hfiller, hstarted, hwork⟩ := id hun
  have hnone : s.spaceFifo.any (fun w => w.item == r) = false := by simp [hf]
  have hfind : s.segments.find? (fun g => g.users.contains r) = some g := by
    cases hfound : s.segments.find? (fun g => g.users.contains r) with
    | none => exact absurd (List.find?_eq_none.1 hfound g hmem) (by simp [husers])
    | some h =>
      have hh : r ∈ h.users := by simpa using List.find?_some hfound
      rw [honly h (List.mem_of_find?_eq_some hfound) (.inl hh)]
  rw [State.leaveAll_channel (s := s.unstaged g.inst) hf hn (State.unstaged_unused hun)]
  have hmine : g.filler = some r ∧ (!g.started) = true := ⟨hfiller, by simp [hstarted]⟩
  by_cases hop : (s.outChans.get r.link).chan.op = .item r
  · have hserves : s.serves r = true := by simp [State.serves, hop]
    have hfind' : (s.idleOut r.link).segments.find? (fun g => g.users.contains r) = some g := hfind
    have hun' : (s.idleOut r.link).Unstarted g r := hun
    have hop' : ((s.unstaged g.inst).outChans.get r.link).chan.op = .item r := hop
    simp only [State.leaveAll, hnone, Bool.false_eq_true, if_false, State.leaveDemands_notWaiting hn, hserves, if_true, hfind', if_pos hmine,
      State.removeUnstarted_alone hun', if_pos hop']
    rfl
  · have hserves : s.serves r = false := by simpa [State.serves] using hop
    have hop' : ¬((s.unstaged g.inst).outChans.get r.link).chan.op = .item r := hop
    simp only [State.leaveAll, hnone, Bool.false_eq_true, if_false, State.leaveDemands_notWaiting hn, hserves, hfind, if_pos hmine,
      State.removeUnstarted_alone hun, if_neg hop']

end

section
variable {s : State} {o : Op} {i : Item} {g : Segment} {st : Status} (hlast : s.AtLastItem o i) (hf : s.spaceFifo = []) (hn : s.NotWaiting o.ref)
  (hun : s.Unstarted g o.ref)
include hlast hf hn hun

theorem State.endItem_unstarted : s.endItem o.ref st =
    (State.itemEnded (s.unstaged g.inst) o i st).later [.spaceTry, .outTake o.reply.link, .nextTurn o.reply.link o.reply.tag] := by
  have hlast' : (s.unstaged g.inst).AtLastItem o i := hlast
  have hops := State.setPhase_last_ops hlast' st
  have hphase (x : State) : ((x.later [.spaceTry]).setPhase o.ref (.ended st)).later [.outTake o.ref.link, .nextTurn o.ref.link o.ref.tag] =
      (x.setPhase o.ref (.ended st)).later [.spaceTry, .outTake o.ref.link, .nextTurn o.ref.link o.ref.tag] :=
    State.later_later (x.setPhase o.ref (.ended st)) _ _
  have hcat (x : State) (f : CatMem → CatMem) : (x.later [.spaceTry]).modCat f = (x.modCat f).later [.spaceTry] := rfl
  have hitem := State.item?_ref hlast
  have hended : i.hasEnded = false := hlast.2.2.2.2.2.2.1
  simp only [State.endItem, hitem, hended, Bool.false_eq_true, if_false, State.leaveAll_unstarted hun hf hn,
    State.leaveAll_channel (s := s.unstaged g.inst) hf hn (State.unstaged_unused hun)]
  cases hq : i.quote with
  | none =>
    simp only [Option.isSome_none, Bool.false_eq_true, if_false, hphase, State.itemEnded, hq, ← hops]
    rfl
  | some v =>
    simp only [Option.isSome_some, if_true, hcat, hphase, State.itemEnded, hq, ← hops]
    rfl

/-- A last item that ends takes its segment and its operation with it (R100, R101, R110). -/
theorem State.Works.endItem_unstarted (ha : s.agenda = []) (hst : st ≠ .done) {t : State} {ts : List Task} {n : Nat}
    (h : State.Works ((s.unstaged g.inst).itemLost o i st) ts t n) : State.Works s (.endItem o.ref st :: ts) t (n + 1 + 1 + 1 + 1) := by
  have hlast' : (s.unstaged g.inst).AtLastItem o i := hlast
  have hnext := State.nextTurn_itemEnded (st := st) hlast'
  rw [Op.finish_itemEnded hlast' hst] at hnext
  exact .piece ha (State.endItem_unstarted hlast hf hn hun)
    (.rests ha (State.spaceTry_nil _ hf) (.rests ha (State.outTake_itemEnded hlast') (.brings ha hnext h)))

end

end Sys2Proof.Machine
end

section
/-!
PROOFS. Obligation O55: a jam of the picker (R131).
-/
namespace Sys2Proof.Machine
set_option Elab.async false

/-! ## The answers to the queued media requests -/

theorem State.queued_resetCount (s : State) (y : Reply) (st : Status) (b : Body) (l : Link) :
    ((s.queued y st b).links.get l).resetCount = (s.links.get l).resetCount := by
  by_cases h : l = y.link
  · subst h
    exact (congrArg LinkRec.resetCount (Three.get_set_same s.links y.link _)).trans rfl
  · exact congrArg LinkRec.resetCount (Three.get_set_ne _ _ _ _ h)

/-- A queued media request answered with a status: its response queued, or the outcome of an import made without a request (R130, R146). -/
def State.mediaTold (s : State) (st : Status) (m : MediaReq) : State := s.told m.reply? st 0

theorem State.mediaTold_resetCount (s : State) (st : Status) (m : MediaReq) (l : Link) :
    ((s.mediaTold st m).links.get l).resetCount = (s.links.get l).resetCount := by
  unfold State.mediaTold
  cases m.reply? with
  | none => rfl
  | some y => exact s.queued_resetCount y st .none l

theorem State.mediaAnswered_eq (s : State) (st : Status) :
    s.mediaAnswered st = s.lib.media.foldl (fun t m => t.mediaTold st m) (s.modLib (fun l => { l with media := [] })) := by
  have hstep : (fun (t : State) (m : MediaReq) => match m.reply? with
      | some y => t.queued y st .none
      | none => { t with lib := { t.lib with outcome := some { status := st, id := 0 } } }) = fun t m => t.mediaTold st m := by
    funext t m
    unfold State.mediaTold State.told
    cases m.reply? <;> rfl
  exact congrArg (fun f => s.lib.media.foldl f (s.modLib (fun l => { l with media := [] }))) hstep

/-- A queued media request refused as it was asked for (R130, R146). -/
def State.mediaRefused (s : State) (st : Status) : MediaReq → State
  | .importReq r => s.importEnds r st 0 0
  | .exportReq r _ => s.answer r st

theorem State.mediaRefused_eq_told {s : State} {st : Status} (hst : st ≠ .done) (m : MediaReq)
    (h : ∀ y ∈ m.reply?, (s.links.get y.link).resetCount = y.gen) : s.mediaRefused st m = s.mediaTold st m := by
  cases m with
  | importReq r => exact State.importEnds_eq_told h hst 0 0
  | exportReq r id => exact s.answer_eq_queued r st (h r rfl)

theorem State.refuseMedia_foldl (s : State) (st : Status) :
    s.refuseMedia st = s.lib.media.foldl (fun t m => t.mediaRefused st m) (s.modLib (fun l => { l with media := [] })) := by
  have hstep : (fun (t : State) (m : MediaReq) => match m with
      | .importReq r => t.importEnds r st 0 0
      | .exportReq r _ => t.answer r st) = fun t m => t.mediaRefused st m := by
    funext t m
    cases m <;> rfl
  exact congrArg (fun f => s.lib.media.foldl f (s.modLib (fun l => { l with media := [] }))) hstep

/-- Every queued request's link is as it was when the request was taken: the answers are the responses queued (R131, R148). -/
theorem State.refuseMedia_eq {s : State} (h : s.MediaCurrent) {st : Status} (hst : st ≠ .done) : s.refuseMedia st = s.mediaAnswered st := by
  have hfold (l : List MediaReq) (hl : ∀ m ∈ l, ∀ y ∈ m.reply?, (s.links.get y.link).resetCount = y.gen) (t : State)
      (ht : ∀ k, (t.links.get k).resetCount = (s.links.get k).resetCount) :
      l.foldl (fun t m => t.mediaRefused st m) t = l.foldl (fun t m => t.mediaTold st m) t := by
    induction l generalizing t with
    | nil => rfl
    | cons m l ih =>
      have hhead := State.mediaRefused_eq_told (s := t) hst m fun y hy => (ht y.link).trans (hl m (.head _) y hy)
      rw [List.foldl_cons, List.foldl_cons, hhead]
      exact ih (fun m hm => hl m (.tail _ hm)) _ fun k => (t.mediaTold_resetCount st m k).trans (ht k)
  rw [State.mediaAnswered_eq, State.refuseMedia_foldl]
  exact hfold s.lib.media h _ fun _ => rfl

/-- A change that the answers do not meet is made before or after them. -/
theorem State.mediaAnswered_comm (f : State → State) (st : Status) (htold : ∀ t m, f (t.mediaTold st m) = (f t).mediaTold st m)
    (hlib : ∀ t : State, (f t).lib.media = t.lib.media)
    (hmod : ∀ t : State, f (t.modLib (fun l => { l with media := [] })) = (f t).modLib (fun l => { l with media := [] }))
    (s : State) : (f s).mediaAnswered st = f (s.mediaAnswered st) := by
  have hfold (l : List MediaReq) (t : State) : l.foldl (fun t m => t.mediaTold st m) (f t) = f (l.foldl (fun t m => t.mediaTold st m) t) := by
    induction l generalizing t with
    | nil => rfl
    | cons m l ih => rw [List.foldl_cons, List.foldl_cons, ← htold, ih]
  rw [State.mediaAnswered_eq, State.mediaAnswered_eq, hlib, ← hmod, hfold]

theorem State.mediaAnswered_later (s : State) (st : Status) (ts : List Task) : (s.later ts).mediaAnswered st = (s.mediaAnswered st).later ts :=
  State.mediaAnswered_comm (State.later · ts) st (fun t m => by unfold State.mediaTold State.told; cases m.reply? <;> rfl) (fun _ => rfl) (fun _ => rfl) s

theorem State.mediaAnswered_unstaged (s : State) (st : Status) (n : InstrNum) : (s.unstaged n).mediaAnswered st = (s.mediaAnswered st).unstaged n :=
  State.mediaAnswered_comm (State.unstaged · n) st (fun t m => by unfold State.mediaTold State.told; cases m.reply? <;> rfl) (fun _ => rfl) (fun _ => rfl) s

/-- The answers change the links and the outcome of an import alone. -/
theorem State.mediaAnswered_frame (s : State) (st : Status) :
    ∃ k v, s.mediaAnswered st = { s with links := k, lib := { s.lib with media := [], outcome := v } } ∧
      ∀ l, (k.get l).resetCount = (s.links.get l).resetCount := by
  have hfold (l : List MediaReq) (t : State) : ∃ k v, l.foldl (fun t m => t.mediaTold st m) t = { t with links := k, lib := { t.lib with outcome := v } } ∧
      ∀ l, (k.get l).resetCount = (t.links.get l).resetCount := by
    induction l generalizing t with
    | nil => exact ⟨t.links, t.lib.outcome, rfl, fun _ => rfl⟩
    | cons m l ih =>
      obtain ⟨k, v, hrest, hcount⟩ := ih (t.mediaTold st m)
      refine ⟨k, v, ?_, fun l => (hcount l).trans (t.mediaTold_resetCount st m l)⟩
      rw [List.foldl_cons, hrest]
      unfold State.mediaTold State.told
      cases m.reply? <;> rfl
  rw [State.mediaAnswered_eq]
  exact hfold s.lib.media _

/-! ## The jam -/

/-- The picker JAMMED, with nothing in hand (R131). -/
def Picker.jam : Picker := { state := .jammed, held := none, move := none, since := none, piece := none }

/-- A jam told: every queued media request is answered, and MEDIA_ALERT posted (R131). -/
def State.jamTold (s : State) (m : Move) (lost : Option Nat) : State :=
  State.post (State.mediaAnswered { s with lib := { s.lib with picker := Picker.jam } } .pickerJammed) (.pickerJammed (some m) lost)

theorem State.jamTold_later (s : State) (m : Move) (lost : Option Nat) (ts : List Task) : (s.later ts).jamTold m lost = (s.jamTold m lost).later ts :=
  (congrArg (State.post · _) (State.mediaAnswered_later { s with lib := { s.lib with picker := Picker.jam } } .pickerJammed ts)).trans (State.post_later _ _ ts)

theorem State.jamTold_unstaged (s : State) (m : Move) (lost : Option Nat) (n : InstrNum) : (s.unstaged n).jamTold m lost = (s.jamTold m lost).unstaged n :=
  (congrArg (State.post · _) (State.mediaAnswered_unstaged { s with lib := { s.lib with picker := Picker.jam } } .pickerJammed n)).trans
    (State.unstaged_post _ _ n).symm

/-- The platter the picker has lost, where it has a record (R131; assumption log 56). -/
def State.lost (s : State) : Option Nat := s.lib.picker.held.filter (fun id => (s.platter? id).isSome)

/-- The platter lost is UNKNOWN (R131). -/
def State.withLost (s : State) : State := { s with cat := match s.lost with
  | some id => { s.cat with platters := updateKeyed Platter.id id (fun p => { p with loc := .unknown }) s.cat.platters }
  | none => s.cat }

theorem State.withLost_eq (s : State) : s.withLost = match s.lost with
    | some id => s.setLoc id .unknown
    | none => s := by
  unfold State.withLost
  cases s.lost <;> rfl

theorem State.jamTold_frame (s : State) (m : Move) (lost : Option Nat) :
    ∃ k e v, s.jamTold m lost = { s with links := k, startEvents := e, lib := { s.lib with picker := Picker.jam, media := [], outcome := v } } ∧
      ∀ l, (k.get l).resetCount = (s.links.get l).resetCount := by
  obtain ⟨k, v, hmedia, hcount⟩ := State.mediaAnswered_frame { s with lib := { s.lib with picker := Picker.jam } } .pickerJammed
  obtain ⟨k', e, hpost⟩ := State.post_frame (State.mediaAnswered { s with lib := { s.lib with picker := Picker.jam } } .pickerJammed)
    (.pickerJammed (some m) lost)
  have hlinks : (s.jamTold m lost).links = k' := congrArg State.links hpost
  refine ⟨k', e, v, ?_, fun l => ?_⟩
  · rw [State.jamTold, hpost, hmedia]
  · rw [← hlinks, State.jamTold, State.post_resetCount, hmedia]
    exact hcount l

/-- A jam in its steps: the platter lost, the demands and the piece of work, the picker, the media requests and the event, and what the loss and a
closing held bring. -/
theorem State.jam_steps (s : State) : s.jam =
    (fun u : State => if u.lib.sweepDue then u.startSweep else u)
      ((fun u : State => match s.lost with
        | some id => u.endDemands id .pickerJammed
        | none => u)
        (((State.modPicker ((match s.lost with
          | some id => s.setLoc id .unknown
          | none => s).jamDemands.jamPiece).clearMove (fun k => { k with state := .jammed, piece := none })).refuseMedia .pickerJammed).post
            (.pickerJammed s.lib.picker.move s.lost))) := (rfl)

section
variable {s t : State} {m : Move} (hmove : s.lib.picker.move = some m) (hpiece : s.withLost.jamDemands.jamPiece = t) (hdue : t.lib.sweepDue = false)
  (hmedia : t.MediaCurrent) (hdemands : ∀ id ∈ s.lost, ∀ q ∈ t.lib.demands, q.side.platter ≠ id)
include hmove hpiece hdue hmedia hdemands

/-- A jam, by what it makes of the demands and of the piece of work: where no demand for the platter lost is left, and no closing is held (R131). -/
theorem State.jam_eq : s.jam = t.jamTold m s.lost := by
  have htold : (State.modPicker t.clearMove (fun k => { k with state := .jammed, piece := none })).refuseMedia .pickerJammed =
      State.mediaAnswered { t with lib := { t.lib with picker := Picker.jam } } .pickerJammed :=
    State.refuseMedia_eq (s := { t with lib := { t.lib with picker := Picker.jam } }) hmedia (by decide)
  obtain ⟨k, e, v, hframe, -⟩ := State.jamTold_frame t m s.lost
  have hends (id : Nat) (hid : s.lost = some id) : (t.jamTold m s.lost).endDemands id .pickerJammed = t.jamTold m s.lost := by
    refine State.endDemands_none (fun q hq => hdemands id hid q ?_) _
    rw [hframe] at hq
    exact hq
  have hdue' : ¬(t.jamTold m s.lost).lib.sweepDue = true := by
    rw [hframe]
    exact ne_true_of_eq_false hdue
  rw [State.withLost_eq] at hpiece
  rw [State.jam_steps, hpiece, htold, hmove]
  refine Eq.trans (congrArg (fun u : State => if u.lib.sweepDue then u.startSweep else u) ?_) (if_neg hdue')
  split
  · rename_i id hid
    exact hends id hid
  · rfl

end

end Sys2Proof.Machine
end

section
/-!
PROOFS. Obligation O55: what a jam makes of the demands and of the piece of work (R131 steps 2 and 3).
-/
namespace Sys2Proof.Machine
set_option Elab.async false

/-! ## The demands -/

section
variable {s : State}

theorem State.jamDemands_none (h : s.lib.demands = []) : s.jamDemands = s := by
  have hkept : s.lib = { s.lib with demands := [] } := by rw [← h]
  unfold State.jamDemands
  simp only [h, List.filter_nil, List.flatMap_nil, List.foldl_nil, List.map_nil, State.pruneDemands, State.modDemands, State.modLib]
  rw [← hkept]

variable {q : Demand} (hq : s.lib.demands = [q]) (hout : ∀ d, ¬s.Faces d q.side)
include hq hout

theorem State.demands_needPicker : s.lib.demands.filter s.needsPicker = [q] := by
  have hneeds : s.needsPicker q = true := by
    rw [State.needsPicker, State.mountedIn_eq_none hout]
    rfl
  rw [hq]
  simp [hneeds]

/-- A demand that needs the picker goes with its one waiter, an item, which ends (R131 step 2). -/
theorem State.jamDemands_item {w : Waiter} (hw : q.waiters = [w]) {r : ItemRef} (hr : w.item? = some r) :
    s.jamDemands = State.later { s with lib := { s.lib with demands := [] } } [.endItem r .pickerJammed] := by
  have hhit := State.demands_needPicker hq hout
  cases w with
  | filing age => simp [Waiter.item?] at hr
  | item r' c a =>
    obtain rfl : r' = r := by simpa [Waiter.item?] using hr
    simp only [State.jamDemands, hhit, List.flatMap_cons, List.flatMap_nil, List.append_nil, hw]
    simp [State.pruneDemands, State.modDemands, State.modLib, State.later, hq, hw]

/-- A demand that needs the picker waits on with its filing waiter (R131 step 2). -/
theorem State.jamDemands_filing {age : Nat} (hw : q.waiters = [.filing age]) :
    s.jamDemands = { s with lib := { s.lib with demands := [{ q with mounting := none }] } } := by
  have hhit := State.demands_needPicker hq hout
  simp only [State.jamDemands, hhit, List.flatMap_cons, List.flatMap_nil, List.append_nil, hw]
  simp [State.pruneDemands, State.modDemands, State.modLib, hq, hw]

end

/-! ## The timer of the picker's command -/

section
variable {s : State} (hs : s.Quiet)
include hs

theorem jam_notYet (h : s.lib.picker.state ≠ .moving ∨ s.lib.picker.since = none ∨ ∃ since, s.lib.picker.since = some since ∧ s.ref < since + 25000) :
    exec .pickerMoveTimeout s = .next s := by
  have hsame : s.pickerTimeout = s := by
    unfold State.pickerTimeout
    split
    · rename_i t hstate hsince
      obtain h | h | ⟨since, h, hlt⟩ := h
      · exact absurd hstate h
      · rw [hsince] at h; cases h
      · obtain rfl : t = since := Option.some.inj (hsince.symm.trans h)
        have hnot : s.passed t Config.pickerMs = false := decide_eq_false (Nat.not_le.2 hlt)
        exact if_neg (ne_true_of_eq_false hnot)
    · rfl
  rw [exec_pickerMoveTimeout hs, hsame, State.settle_nil s hs.2]

variable {at0 : Nat} (hstate : s.lib.picker.state = .moving) (hsince : s.lib.picker.since = some at0) (hpast : at0 + 25000 ≤ s.ref)
include hstate hsince hpast

theorem jam_comes : exec .pickerMoveTimeout s = .next s.jam.settle := by
  have hpassed : s.passed at0 Config.pickerMs = true := decide_eq_true hpast
  rw [exec_pickerMoveTimeout hs]
  simp only [State.pickerTimeout, hstate, hsince, hpassed, if_true]

variable {m : Move} (hmove : s.lib.picker.move = some m) {t : State}
include hmove

/-- A jam that hands nothing over. -/
theorem jam_told (hpiece : s.withLost.jamDemands.jamPiece = t) (ha : t.agenda = []) (hdue : t.lib.sweepDue = false) (hmedia : t.MediaCurrent)
    (hdemands : ∀ id ∈ s.lost, ∀ q ∈ t.lib.demands, q.side.platter ≠ id) : exec .pickerMoveTimeout s = .next (t.jamTold m s.lost) := by
  obtain ⟨k, e, v, hframe, -⟩ := State.jamTold_frame t m s.lost
  rw [jam_comes hs hstate hsince hpast, State.jam_eq hmove hpiece hdue hmedia hdemands, State.settle_nil]
  rw [hframe]
  exact ha

/-- A jam that ends the one waiting item, the last of an operation, with its demand. -/
theorem jam_endsItem {o : Op} {i : Item} {g : Segment} (hpiece : s.withLost.jamDemands.jamPiece = t.later [.endItem o.ref .pickerJammed])
    (ha : t.agenda = []) (hdue : t.lib.sweepDue = false) (hmedia : t.MediaCurrent) (hdemands : t.lib.demands = []) (hlast : t.AtLastItem o i)
    (hf : t.spaceFifo = []) (hun : t.Unstarted g o.ref) :
    exec .pickerMoveTimeout s = .next (((t.unstaged g.inst).jamTold m s.lost).itemLost o i .pickerJammed) := by
  have hjam := State.jam_eq hmove hpiece hdue hmedia (fun id _ q hq => by rw [show (t.later _).lib.demands = [] from hdemands] at hq; cases hq)
  rw [State.jamTold_later] at hjam
  rw [jam_comes hs hstate hsince hpast, hjam, State.jamTold_unstaged]
  obtain ⟨hop, hsole, hgen, hrest⟩ := hlast
  obtain ⟨k, e, v, hframe, hcount⟩ := State.jamTold_frame t m s.lost
  have hnone {P : Demand → Prop} : ∀ q ∈ (t.jamTold m s.lost).lib.demands, P q := by
    rw [hframe]
    intro q hq
    rw [show _ = [] from hdemands] at hq
    cases hq
  have hlast' : (t.jamTold m s.lost).AtLastItem o i := by
    rw [hframe]
    exact ⟨hop, hsole, (hcount _).trans hgen, hrest⟩
  have hun' : (t.jamTold m s.lost).Unstarted g o.ref := by rw [hframe]; exact hun
  have hf' : (t.jamTold m s.lost).spaceFifo = [] := by rw [hframe]; exact hf
  have ha' : (t.jamTold m s.lost).agenda = [] := by rw [hframe]; exact ha
  have hworks := State.Works.endItem_unstarted hlast' hf' ⟨hnone, hnone⟩ hun' ha' (by decide : Status.pickerJammed ≠ .done) (.nothing ha')
  exact congrArg Host.Outcome.next (hworks.settle (by decide))

end

end Sys2Proof.Machine
end

section
/-!
PROOFS. Obligation O55: the pieces of work a jam ends (R131 step 3), each with no demand left.
-/
namespace Sys2Proof.Machine
set_option Elab.async false

section
variable {s : State}

theorem State.withLost_lib (s : State) : s.withLost.lib = s.lib := (rfl)

theorem State.emptied_left {d : DriveNo} (h : (s.lib.drives.get d).state ≠ .unloading) : s.emptied d = s := if_neg h

theorem State.MediaCurrent.queued (h : s.MediaCurrent) (y : Reply) (st : Status) (b : Body) : (s.queued y st b).MediaCurrent :=
  fun m hm y' hy => (s.queued_resetCount y st b y'.link).trans (h m hm y' hy)

/-! ### What the piece of work leaves -/

section
variable {p : Piece} (hp : s.lib.picker.piece = some p)
include hp

theorem State.jamPiece_sweep (h : p = .sweep) : s.jamPiece = { s with lib := { s.lib with sweep := { s.lib.sweep with running := false } } } := by
  subst h
  simp only [State.jamPiece, hp]
  rfl

theorem State.jamPiece_fetch {d : DriveNo} {ps : PlatterSide} (h : p = .mountFetch d ps) : s.jamPiece = s := by
  subst h
  simp only [State.jamPiece, hp]

theorem State.jamPiece_evict {d : DriveNo} {ps : PlatterSide} (h : p = .mountEvict d ps) : s.jamPiece = s.emptied d := by
  subst h
  simp only [State.jamPiece, hp]

theorem State.jamPiece_import {y : Option Reply} {id : Nat} (h : (p = .importLabel y ∧ id = 0) ∨ p = .importMove y id) :
    s.jamPiece = s.importEnds y .pickerJammed id 0 := by
  obtain ⟨rfl, rfl⟩ | rfl := h <;> simp only [State.jamPiece, hp]

theorem State.jamPiece_export {y : Reply} {id : Nat} (h : p = .exportMove y id) : s.jamPiece = s.answer y .pickerJammed := by
  subst h
  simp only [State.jamPiece, hp]

theorem State.jamPiece_exportDrive {y : Reply} {id : Nat} {d : DriveNo} (h : p = .exportDrive y id d) :
    s.jamPiece = (s.answer y .pickerJammed).emptied d := by
  subst h
  simp only [State.jamPiece, hp]

theorem State.jamPiece_home {d : DriveNo} (h : p = .homeMove d) : s.jamPiece = (s.answerReturn d .pickerJammed).emptied d := by
  subst h
  simp only [State.jamPiece, hp]

theorem State.jamPiece_homeLabel {d : DriveNo} (h : p = .homeLabel d) : s.jamPiece = s.answerReturn d .pickerJammed := by
  subst h
  simp only [State.jamPiece, hp]

end
end

/-! ### The jam with no demand -/

section
variable {s : State} (hs : s.Quiet) {at0 : Nat} (hstate : s.lib.picker.state = .moving) (hsince : s.lib.picker.since = some at0)
  (hpast : at0 + 25000 ≤ s.ref) {m : Move} (hmove : s.lib.picker.move = some m) (hdemands : s.lib.demands = [])
include hs hstate hsince hpast hmove hdemands

/-- What the piece of work leaves of the library and of the answers is told. -/
theorem jam_undemanded {t : State} (hpiece : s.withLost.jamPiece = t) (ha : t.agenda = []) (hdue' : t.lib.sweepDue = false) (hmedia' : t.MediaCurrent)
    (hdemands' : t.lib.demands = []) : exec .pickerMoveTimeout s = .next (t.jamTold m s.lost) := by
  refine jam_told hs hstate hsince hpast hmove ((congrArg State.jamPiece (State.jamDemands_none (s := s.withLost) hdemands)).trans hpiece) ha hdue' hmedia'
    fun id _ q hq => ?_
  rw [hdemands'] at hq
  cases hq

variable (hdue : s.lib.sweepDue = false) (hmedia : s.MediaCurrent)
include hdue hmedia

/-- A jam that answers one request of the picker's, the drives left in some way. -/
theorem jam_answers {y : Reply} {drives : Six Drive}
    (hpiece : s.withLost.jamPiece = State.queued { s.withLost with lib := { s.lib with drives := drives } } y .pickerJammed .none) :
    exec .pickerMoveTimeout s =
      .next (State.jamTold (State.queued { s.withLost with lib := { s.lib with drives := drives } } y .pickerJammed .none) m s.lost) :=
  jam_undemanded hs hstate hsince hpast hmove hdemands hpiece hs.2 hdue
    (State.MediaCurrent.queued (s := { s.withLost with lib := { s.lib with drives := drives } }) hmedia y _ _) hdemands

variable {p : Piece} (hp : s.lib.picker.piece = some p)
include hp

theorem jam_sweep (h : p = .sweep) : exec .pickerMoveTimeout s =
    .next (State.jamTold { s.withLost with lib := { s.lib with sweep := { s.lib.sweep with running := false } } } m s.lost) :=
  jam_undemanded hs hstate hsince hpast hmove hdemands (State.jamPiece_sweep hp h) hs.2 hdue hmedia hdemands

/-- An import's label read or move: its outcome, or its response. -/
theorem jam_import {y : Option Reply} {id : Nat} (h : (p = .importLabel y ∧ id = 0) ∨ p = .importMove y id)
    (hgen : ∀ r ∈ y, (s.links.get r.link).resetCount = r.gen) : exec .pickerMoveTimeout s = .next ((s.withLost.told y .pickerJammed id).jamTold m s.lost) := by
  have hpiece : s.withLost.jamPiece = s.withLost.told y .pickerJammed id :=
    (State.jamPiece_import (s := s.withLost) hp h).trans (State.importEnds_eq_told (s := s.withLost) hgen (by decide) id 0)
  refine jam_undemanded hs hstate hsince hpast hmove hdemands hpiece ((State.told_agenda _ _).trans hs.2) ?_ ?_ ?_
  · cases y <;> exact hdue
  · cases y with
    | none => exact hmedia
    | some r => exact State.MediaCurrent.queued (s := s.withLost) hmedia r _ _
  · cases y <;> exact hdemands

/-- A return-home of a drive that has become FAULT: a new DRIVE_RESET is its EJECT's to answer (R127, R128). -/
theorem jam_homeFault {d : DriveNo} (h : p = .homeMove d ∨ p = .homeLabel d) (hd : (s.lib.drives.get d).state = .fault) :
    exec .pickerMoveTimeout s = .next (s.withLost.jamTold m s.lost) := by
  have hdrive : ¬(s.withLost.drive d).state = .unloading := by simp [show (s.withLost.drive d).state = .fault from hd]
  have hnone : s.withLost.answerReturn d .pickerJammed = s.withLost := if_neg hdrive
  refine jam_undemanded hs hstate hsince hpast hmove hdemands ?_ hs.2 hdue hmedia hdemands
  obtain h | h := h
  · rw [State.jamPiece_home (s := s.withLost) hp h, hnone, State.emptied_left hdrive]
  · rw [State.jamPiece_homeLabel (s := s.withLost) hp h, hnone]

variable {y : Reply} (hgen : (s.links.get y.link).resetCount = y.gen)
include hgen

theorem jam_export {id : Nat} (h : p = .exportMove y id) : exec .pickerMoveTimeout s =
    .next (State.jamTold (s.withLost.queued y .pickerJammed .none) m s.lost) :=
  jam_answers hs hstate hsince hpast hmove hdemands hdue hmedia
    ((State.jamPiece_export (s := s.withLost) hp h).trans (s.withLost.answer_eq_queued y .pickerJammed hgen))

theorem jam_exportDrive {id : Nat} {d : DriveNo} (h : p = .exportDrive y id d) (hd : (s.lib.drives.get d).state = .unloading) :
    exec .pickerMoveTimeout s = .next (State.jamTold (State.queued { s.withLost with
      lib := { s.lib with drives := s.lib.drives.set d (Drive.vacant .empty) } } y .pickerJammed .none) m s.lost) := by
  refine jam_answers hs hstate hsince hpast hmove hdemands hdue hmedia ?_
  rw [State.jamPiece_exportDrive (s := s.withLost) hp h, s.withLost.answer_eq_queued y .pickerJammed hgen,
    State.emptied_unloading (s := s.withLost.queued y .pickerJammed .none) hd]
  rfl

section
variable {d : DriveNo} (hreset : (s.lib.drives.get d).reset = some y)
include hreset

/-- A return-home's move: its drive is EMPTY, and the DRIVE_RESET answered (R128). -/
theorem jam_home (h : p = .homeMove d) (hd : (s.lib.drives.get d).state = .unloading) :
    exec .pickerMoveTimeout s = .next (State.jamTold (State.queued { s.withLost with
      lib := { s.lib with drives := s.lib.drives.set d (Drive.vacant .empty) } } y .pickerJammed .none) m s.lost) := by
  have hdrive : (s.withLost.drive d).state = .unloading := hd
  refine jam_answers hs hstate hsince hpast hmove hdemands hdue hmedia ?_
  have hanswer := State.answerReset_eq_queued (s := s.withLost) hreset hgen .pickerJammed
  have hunloading : (((s.withLost.modDrive d (fun k => { k with reset := none })).queued y .pickerJammed .none).lib.drives.get d).state = .unloading :=
    (congrArg Drive.state (Six.get_set_same s.lib.drives d _)).trans hd
  rw [State.jamPiece_home (s := s.withLost) hp h, State.answerReturn, if_pos hdrive, hanswer, State.emptied_unloading hunloading]
  simp only [State.queued, State.modDrive, State.modLink, Six.set_set]
  rfl

/-- A return-home's label read: the platter stays, and the DRIVE_RESET is answered (R128). -/
theorem jam_homeLabel (h : p = .homeLabel d) (hd : (s.lib.drives.get d).state = .unloading) :
    exec .pickerMoveTimeout s = .next (State.jamTold (State.queued { s.withLost with
      lib := { s.lib with drives := s.lib.drives.set d { s.lib.drives.get d with reset := none } } } y .pickerJammed .none) m s.lost) := by
  have hdrive : (s.withLost.drive d).state = .unloading := hd
  refine jam_answers hs hstate hsince hpast hmove hdemands hdue hmedia ?_
  rw [State.jamPiece_homeLabel (s := s.withLost) hp h, State.answerReturn, if_pos hdrive,
    State.answerReset_eq_queued (s := s.withLost) hreset hgen .pickerJammed]
  rfl

end

end

end Sys2Proof.Machine
end

section
/-!
PROOFS. Obligation O55: the picker's move into a drive (R129, R138), and the sweep's label reads of a slot that is no platter's home (R151, R152).
-/
namespace Sys2Proof.Machine
set_option Elab.async false

/-! ## The move into a drive -/

section
variable {s : State} (hs : s.Quiet)
include hs

/-- A report that no move waits for is not taken (assumption log 43). -/
theorem move_untaken (h : s.lib.picker.state ≠ .moving ∨ s.lib.picker.since = none ∨ s.lib.picker.move = none) : exec .pickerMoveDone s = .next s := by
  have hnot : s.onCommand true = false := by
    obtain h | h | h := h <;> simp [State.onCommand, h]
  have hsame : s.moveDone = s := by simp only [State.moveDone, hnot, Bool.not_false, if_true]
  rw [exec_pickerMoveDone hs, hsame, State.settle_nil s hs.2]

/-- The demanded platter is in its drive, which loads it (R138 step 4). -/
theorem move_intoDrive {m : Move} {d : DriveNo} {ps : PlatterSide} (hstate : s.lib.picker.state = .moving) (hsince : s.lib.picker.since ≠ none)
    (hmove : s.lib.picker.move = some m) (hdst : m.dst ≠ none) (hpiece : s.lib.picker.piece = some (.mountFetch d ps))
    (hd : (s.lib.drives.get d).state ≠ .fault) (hn : s.NothingNext) :
    exec .pickerMoveDone s = .next (State.workOver { s with
      cat := { s.cat with platters := updateKeyed Platter.id ps.platter (fun r => { r with loc := .drive d }) s.cat.platters }
      lib := { s.lib with drives := s.lib.drives.set d { s.lib.drives.get d with
        platter := some ⟨some ps.platter, ps.side⟩, state := .loading, cmd := some .load, reported := 0, since := s.ref, retry := false } } }) := by
  have hdone : s.moveDone = (s.putInDrive d ps).endPiece := by
    simp only [State.moveDone, State.onCommand_move hmove hstate hsince hdst, Bool.not_true, Bool.false_eq_true, if_false, hpiece]
  have hput : s.putInDrive d ps = { s with
      cat := { s.cat with platters := updateKeyed Platter.id ps.platter (fun r => { r with loc := .drive d }) s.cat.platters }
      lib := { s.lib with drives := s.lib.drives.set d { s.lib.drives.get d with
        platter := some ⟨some ps.platter, ps.side⟩, state := .loading, cmd := some .load, reported := 0, since := s.ref, retry := false } } } := by
    have hnot : ¬(((s.setLoc ps.platter (.drive d)).modDrive d (fun r => { r with platter := some ⟨some ps.platter, ps.side⟩ })).drive d).state = .fault := by
      rw [show ((s.setLoc ps.platter (.drive d)).modDrive d (fun r => { r with platter := some ⟨some ps.platter, ps.side⟩ })).drive d = _ from
        Six.get_set_same _ _ _]
      exact hd
    rw [State.putInDrive, if_neg hnot, State.command, State.modDrive_modDrive]
    rfl
  rw [exec_pickerMoveDone hs, hdone, hput]
  exact congrArg Host.Outcome.next (State.endPiece_settle hs.2 hn)

end

/-! ## The sweep's label reads -/

/-- The sweep reads the next position, after slot 160 the mail slot (R151). -/
def State.sweepOn (s : State) (n : Nat) : State :=
  { s with lib := { s.lib with
    sweep := { s.lib.sweep with next := n + 1 }
    picker := { s.lib.picker with state := .moving, move := some { src := if n = 160 then .mail else .slot (n + 1), dst := none, flip := false },
                                  since := some s.ref, piece := some .sweep } } }

section
variable {s : State} {n : Nat}

theorem State.loseHome_none (h : ∀ p ∈ s.cat.platters, p.home ≠ some n) (other : Option Nat) : s.loseHome n other = s := by
  have hnone : s.cat.platters.find? (fun p => p.home == some n && some p.id != other) = none :=
    List.find?_eq_none.2 fun p hp => by simp [h p hp]
  simp only [State.loseHome, hnone]

section
variable (hs : s.Quiet) {m : Move} (hstate : s.lib.picker.state = .moving) (hsince : s.lib.picker.since ≠ none) (hmove : s.lib.picker.move = some m)
  (hdst : m.dst = none) (hpiece : s.lib.picker.piece = some .sweep) (hd : s.lib.doorOpen = false) (hdue : s.lib.sweepDue = false)
  (hnext : s.lib.sweep.next = n) (hn : n ≤ 160)
include hs hstate hsince hmove hdst hpiece hd hdue hnext hn

/-- The sweep goes on from a storage slot, what it found there noted. -/
theorem sweep_slot {rep : LabelReport} {c : CatMem} {w : Sweep} (hslot : s.sweepSlot n rep = { s with cat := c, lib := { s.lib with sweep := w } })
    (hw : w.next = n) : exec (.pickerLabelReport rep) s = .next (State.sweepOn { s with cat := c, lib := { s.lib with sweep := w } } n) := by
  have hreport : s.labelReport rep = s.sweepReport rep := by
    simp only [State.labelReport, State.onCommand_label hmove hstate hsince hdst, Bool.not_true, Bool.false_eq_true, if_false, hpiece]
  have hslots : n ≤ Config.storageSlots := hn
  have hon : ¬Config.storageSlots < n := Nat.not_lt.2 hn
  have hgoes : s.sweepReport rep = State.sweepOn { s with cat := c, lib := { s.lib with sweep := w } } n := by
    simp only [State.sweepReport, hnext, hslots, if_true, hslot, State.modSweep, State.modLib, State.interrupted, hd, hdue, Bool.or_false,
      Bool.false_eq_true, if_false, hon, State.sweepOn, hw]
    by_cases hlast : n = 160
    · rw [if_pos hlast, if_pos (show n = Config.storageSlots from hlast)]
      rfl
    · rw [if_neg hlast, if_neg (show ¬n = Config.storageSlots from hlast)]
      rfl
  rw [exec_pickerLabelReport hs, hreport, hgoes, State.settle_nil]
  exact hs.2

end

/-! ### What a read makes of a slot -/

theorem State.sweepSlot_free (h : s.cat.slotUse? n = none) : s.sweepSlot n .empty = s := by
  simp [State.sweepSlot, h]

theorem State.sweepSlot_cleared (h : s.cat.slotUse? n = some .foreignOccupied) : s.sweepSlot n .empty =
    { s with cat := { s.cat with slots := s.cat.slots.filter (fun r => decide (r.slot ≠ n)) } } := if_pos h

variable (hhome : ∀ p ∈ s.cat.platters, p.home ≠ some n)
include hhome

theorem State.sweepSlot_unlabeled : s.sweepSlot n (.label 0) = { s with
    cat := { s.cat with slots := insertKeyed SlotRec.slot ⟨n, .foreignOccupied⟩ s.cat.slots }
    lib := { s.lib with sweep := { s.lib.sweep with foreign := s.lib.sweep.foreign + 1, foundCount := s.lib.sweep.foundCount + 1 } } } := by
  have hkept := State.loseHome_none hhome none
  simp only [State.sweepSlot, State.sweepForeign, hkept]
  rfl

/-- The record of a platter met in a slot for the first time (R119). -/
theorem State.sweepSlot_new {id : Nat} (hid : id ≠ 0) (hnew : s.platter? id = none) (hfound : id ∉ s.lib.sweep.found)
    (hroom : s.cat.platters.length < 160) : s.sweepSlot n (.label id) = { s with
      cat := s.cat.addPlatter id n
      lib := { s.lib with sweep := { s.lib.sweep with
        found := s.lib.sweep.found ++ [id], foundCount := s.lib.sweep.foundCount + 1, created := s.lib.sweep.created + 1 } } } := by
  obtain ⟨k, rfl⟩ : ∃ k, id = k + 1 := ⟨id - 1, by omega⟩
  have hdup : s.isDuplicate (k + 1) = false := by simp [State.isDuplicate, State.locOf, hfound, hnew]
  have hfull : ¬((s.platter? (k + 1)).isNone = true ∧ Config.maxPlatters ≤ s.cat.platters.length) := fun h => Nat.not_le.2 hroom h.2
  have hkept := State.loseHome_none hhome (some (k + 1))
  have hnone : ¬((s.modSweep (fun w => { w with found := w.found ++ [k + 1], foundCount := w.foundCount + 1 })).platter? (k + 1)).isSome = true := by
    rw [show (s.modSweep _).platter? (k + 1) = none from hnew]
    decide
  simp only [State.sweepSlot, hdup, Bool.false_eq_true, if_false, if_neg hfull, State.sweepFound, hkept, if_neg hnone]
  rfl

end

end Sys2Proof.Machine
end

section
/-!
PROOFS. Obligation O55 settled.
-/
namespace Sys2Proof.Machine
set_option Elab.async false

theorem State.mediaAnswered_none {s : State} (h : s.lib.media = []) (st : Status) : s.mediaAnswered st = s := by
  have hkept : { s with lib := { s.lib with media := [] } } = s := by rw [← h]
  rw [State.mediaAnswered, h, List.foldl_nil, hkept]

section
variable {s : State} (hs : s.Quiet) {at0 : Nat} (hstate : s.lib.picker.state = .moving) (hsince : s.lib.picker.since = some at0)
  (hpast : at0 + 25000 ≤ s.ref) {m : Move} (hmove : s.lib.picker.move = some m) (hdue : s.lib.sweepDue = false) (hmedia : s.MediaCurrent)
  {d : DriveNo} {want : PlatterSide} {q : Demand} (hq : s.lib.demands = [q]) (hside : q.side = want)
  (hout : ∀ e ∈ DriveNo.all, (s.lib.drives.get e).platter ≠ some ⟨some want.platter, want.side⟩)
include hs hstate hsince hpast hmove hdue hmedia hq hside hout

/-- A fetch's jam: the demand's one waiter, an item, ends (R131 step 2). -/
theorem jam_fetch (hpiece : s.lib.picker.piece = some (.mountFetch d want)) {v : Waiter} (hv : q.waiters = [v]) {o : Op} {i : Item}
    {g : Segment} (hitem : v.item? = some o.ref) (hlast : s.AtLastItem o i) (hun : s.Unstarted g o.ref) (hf : s.spaceFifo = []) :
    exec .pickerMoveTimeout s =
      .next ((State.jamTold (State.unstaged { s.withLost with lib := { s.lib with demands := [] } } g.inst) m s.lost).itemLost o i .pickerJammed) := by
  have hfaces : ∀ e, ¬s.withLost.Faces e q.side := fun e h => hout e (DriveNo.mem_all e) (hside ▸ h.2)
  have hjam : s.withLost.jamDemands.jamPiece = State.later { s.withLost with lib := { s.lib with demands := [] } } [.endItem o.ref .pickerJammed] := by
    rw [State.jamDemands_item (s := s.withLost) hq hfaces hv hitem]
    exact State.jamPiece_fetch hpiece rfl
  exact jam_endsItem hs hstate hsince hpast hmove hjam hs.2 hdue hmedia rfl hlast hf hun

/-- An eviction's jam: the filing waiter stays, the demand WAITING, and the drive is EMPTY (R131 steps 2 and 3). -/
theorem jam_evict (hpiece : s.lib.picker.piece = some (.mountEvict d want)) {age : Nat} (hw : q.waiters = [.filing age])
    (hheld : s.lib.picker.held ≠ some want.platter) (hd : (s.lib.drives.get d).state = .unloading) :
    exec .pickerMoveTimeout s = .next (State.jamTold { s.withLost with lib := { s.lib with
      drives := s.lib.drives.set d (Drive.vacant .empty), demands := [{ q with mounting := none }] } } m s.lost) := by
  have hfaces : ∀ e, ¬s.withLost.Faces e q.side := fun e h => hout e (DriveNo.mem_all e) (hside ▸ h.2)
  refine jam_told hs hstate hsince hpast hmove ?_ hs.2 hdue hmedia fun id hid p hp hpid => ?_
  · rw [State.jamDemands_filing (s := s.withLost) hq hfaces hw]
    exact (State.jamPiece_evict (s := { s.withLost with lib := { s.lib with demands := [{ q with mounting := none }] } }) hpiece rfl).trans
      (State.emptied_unloading hd)
  · obtain rfl : p = { q with mounting := none } := by simpa using hp
    have hlost : s.lib.picker.held = some id := (Option.filter_eq_some_iff.1 hid).1
    exact hheld (by rw [hlost, ← hpid, ← hside])

end

/-- Settles O55: the move into a drive, the sweep's reads by what each makes of a slot, and the jam by the demands and the piece it ends. -/
theorem pickerReports : Obligations.PickerReports := by
  unfold Obligations.PickerReports
  refine ⟨fun s d want m since hs => ⟨?moved, move_untaken hs⟩, ?sweep, fun s hs => ⟨?fetchJam, jam_notYet hs⟩,
    fun s hs at0 hsince m hmove hstate hpast hdue hmedia => ⟨?fetch, ?evict, fun hdemands => ⟨?sweepJam, ?importLabel, ?importMove, ?answers, ?returns⟩⟩⟩
  case moved =>
    intro hstate hsince hmove hdst hpiece hd hdue hnext _
    exact move_intoDrive hs hstate (by rw [hsince]; exact Option.some_ne_none _) hmove hdst hpiece hd ⟨hdue, hnext⟩
  case sweep =>
    intro s m since hs hstate hsince hmove hdst hpiece hd hdue w n hn hhome next
    have hslot {rep : LabelReport} {c : CatMem} {w' : Sweep} := sweep_slot (n := n) (rep := rep) (c := c) (w := w') hs hstate
      (by rw [hsince]; exact Option.some_ne_none _) hmove hdst hpiece hd hdue rfl hn
    exact ⟨fun huse => hslot (State.sweepSlot_free huse) rfl, fun huse => hslot (State.sweepSlot_cleared huse) rfl,
      hslot (State.sweepSlot_unlabeled hhome) rfl, fun id hid hnew hfound hroom => hslot (State.sweepSlot_new hhome hid hnew hfound hroom) rfl⟩
  case fetchJam =>
    intro since m d want id p hstate hsince hpast hmove hheld hp hpiece hdemands hmedia hdue
    have hlost : s.lost = some id := by simp [State.lost, hheld, hp]
    have hjam := jam_undemanded hs hstate hsince hpast hmove hdemands (State.jamPiece_fetch (s := s.withLost) hpiece rfl) hs.2 hdue
      (fun m hm => by rw [show s.withLost.lib.media = [] from hmedia] at hm; cases hm) hdemands
    have hnone := State.mediaAnswered_none (s := { s.withLost with lib := { s.lib with picker := Picker.jam } }) hmedia .pickerJammed
    rw [hjam, State.jamTold, State.withLost_lib, hnone, State.withLost, hlost]
    rfl
  case fetch =>
    intro d want hpiece q _ v _ hq hside hv hout o _ i _ g _ hitem hlast hun hf
    exact jam_fetch hs hstate hsince hpast hmove hdue hmedia hq hside hout hpiece hv hitem hlast hun hf
  case evict =>
    intro d want hpiece q _ age hw hq hside hout hheld hd
    exact jam_evict hs hstate hsince hpast hmove hdue hmedia hq hside hout hpiece hw hheld hd
  case sweepJam => exact fun hpiece => jam_sweep hs hstate hsince hpast hmove hdemands hdue hmedia hpiece rfl
  case importLabel =>
    exact fun hpiece => jam_import hs hstate hsince hpast hmove hdemands hdue hmedia hpiece (.inl ⟨rfl, rfl⟩) nofun
  case importMove =>
    exact fun id hpiece => jam_import hs hstate hsince hpast hmove hdemands hdue hmedia hpiece (.inr rfl) nofun
  case answers =>
    intro y hgen answered
    have himport {id : Nat} {p : Piece} (hpiece : s.lib.picker.piece = some p) (h : (p = .importLabel (some y) ∧ id = 0) ∨ p = .importMove (some y) id) :
        exec .pickerMoveTimeout s = .next (answered s.lib.drives) :=
      jam_import hs hstate hsince hpast hmove hdemands hdue hmedia hpiece h (fun r hr => by cases hr; exact hgen)
    refine ⟨fun h => ?_, fun y' id d hpiece hy hd => ?_⟩
    · obtain hpiece | ⟨id, hpiece | hpiece⟩ := h
      · exact himport hpiece (.inl ⟨rfl, rfl⟩)
      · exact himport hpiece (.inr rfl)
      · exact jam_export hs hstate hsince hpast hmove hdemands hdue hmedia hpiece hgen rfl
    · subst hy
      exact jam_exportDrive hs hstate hsince hpast hmove hdemands hdue hmedia hpiece hgen rfl hd
  case returns =>
    intro d k y hreset hgen answered
    exact ⟨fun hd => ⟨fun hpiece => jam_home hs hstate hsince hpast hmove hdemands hdue hmedia hpiece hgen hreset rfl hd,
        fun hpiece => jam_homeLabel hs hstate hsince hpast hmove hdemands hdue hmedia hpiece hgen hreset rfl hd⟩,
      fun hd hpiece => hpiece.elim (fun h => jam_homeFault hs hstate hsince hpast hmove hdemands hdue hmedia h (.inl rfl) hd)
        (fun h => jam_homeFault hs hstate hsince hpast hmove hdemands hdue hmedia h (.inr rfl) hd)⟩

end Sys2Proof.Machine
end

section
/-!
PROOFS. Obligation O53: a drive becomes FAULT (R127), step by step.
-/
namespace Sys2Proof.Machine
set_option Elab.async false

/-! ## The report, and the second expiry of the command timer -/

section
variable {s : State} {d : DriveNo} (hs : s.Quiet)
include hs

/-- A report of a drive that is ABSENT, or FAULT with no command running, is not taken (assumption log 43). -/
theorem fault_untaken (h : (s.lib.drives.get d).state = .absent ∨ ((s.lib.drives.get d).state = .fault ∧ (s.lib.drives.get d).cmd = none)) :
    exec (.driveFaultReport d) s = .next s := by
  have hsame : s.faultReport d = s := by
    obtain h | ⟨h, hcmd⟩ := h
    · have hstate : (s.drive d).state = .absent := h
      simp only [State.faultReport, hstate]
    · have hstate : (s.drive d).state = .fault := h
      have hnone : (s.drive d).cmd.isSome = false := congrArg Option.isSome hcmd
      simp only [State.faultReport, hstate, hnone, Bool.false_eq_true, if_false]
  rw [exec_driveFaultReport hs, hsame, State.settle_nil s hs.2]

/-- Before 15 s, or with no command, the timer brings nothing (R126; assumption log 8). -/
theorem expiry_notYet (h : (s.lib.drives.get d).cmd = none ∨ s.ref < (s.lib.drives.get d).since + 15000) : exec (.driveCommandTimeout d) s = .next s := by
  have hnot : ((s.drive d).cmd.isSome && s.passed (s.drive d).since Config.driveMs) = false := by
    obtain h | h := h
    · rw [show (s.drive d).cmd = none from h]; rfl
    · rw [show s.passed (s.drive d).since Config.driveMs = false from decide_eq_false (Nat.not_le.2 h), Bool.and_false]
  have hsame : s.driveTimeout d = s := by simp only [State.driveTimeout, hnot, Bool.false_eq_true, if_false]
  rw [exec_driveCommandTimeout hs, hsame, State.settle_nil s hs.2]

section
variable (hcmd : (s.lib.drives.get d).cmd ≠ none) (hpast : (s.lib.drives.get d).since + 15000 ≤ s.ref)
include hcmd hpast

omit hs in
theorem State.driveTimeout_expires : s.driveTimeout d = if !(s.lib.drives.get d).retry then s.reissue d
    else if (s.lib.drives.get d).state = .fault then s.resetFailed d else s.faultDrive d true := by
  have hover : ((s.drive d).cmd.isSome && s.passed (s.drive d).since Config.driveMs) = true := by
    rw [show (s.drive d).cmd.isSome = true from Option.isSome_iff_ne_none.2 hcmd,
      show s.passed (s.drive d).since Config.driveMs = true from decide_eq_true hpast]
    rfl
  simp only [State.driveTimeout, hover, if_true]
  rfl

/-- The first expiry issues the command again (R126). -/
theorem expiry_first (hretry : (s.lib.drives.get d).retry = false) : exec (.driveCommandTimeout d) s = .next (s.reissue d).settle := by
  rw [exec_driveCommandTimeout hs, State.driveTimeout_expires hcmd hpast, hretry]
  rfl

/-- The second expiry of an EJECT fails the DRIVE_RESET (R128). -/
theorem expiry_eject (hretry : (s.lib.drives.get d).retry = true) (hstate : (s.lib.drives.get d).state = .fault) :
    exec (.driveCommandTimeout d) s = .next (s.resetFailed d).settle := by
  rw [exec_driveCommandTimeout hs, State.driveTimeout_expires hcmd hpast, hretry, if_pos hstate]
  rfl

end

/-- A FAULT report, or a command timer's second expiry, of a drive that is not FAULT makes it so (R126, R127). -/
theorem fault_comes {timeout : Bool}
    (h : timeout = true → (s.lib.drives.get d).cmd ≠ none ∧ (s.lib.drives.get d).since + 15000 ≤ s.ref ∧ (s.lib.drives.get d).retry = true)
    (habsent : (s.lib.drives.get d).state ≠ .absent) (hfault : (s.lib.drives.get d).state ≠ .fault) :
    exec (if timeout then .driveCommandTimeout d else .driveFaultReport d) s = .next (s.faultDrive d timeout).settle := by
  cases timeout with
  | true =>
    obtain ⟨hcmd, hpast, hretry⟩ := h rfl
    rw [if_pos rfl, exec_driveCommandTimeout hs, State.driveTimeout_expires hcmd hpast, hretry, if_neg hfault]
    rfl
  | false =>
    have hreport : s.faultReport d = s.faultDrive d false := by
      unfold State.faultReport
      split
      · rename_i hstate; exact absurd hstate habsent
      · rename_i hstate; exact absurd hstate hfault
      · rfl
    rw [if_neg (by decide), exec_driveFaultReport hs, hreport]

end

/-! ## The drive's record and channel -/

/-- A drive become FAULT, with what is inside it (R124, R127). -/
def Drive.faulted (k : Drive) (inside : Option InDrive) : Drive :=
  { k with state := .fault, platter := inside, loadTime := inside.bind (fun _ => k.loadTime), residency := inside.bind (fun _ => k.residency),
           cmd := none, reported := 0, retry := false, staleDone := false }

/-- A drive has become FAULT: its channel IDLE, and no return-home queued for it (R127). -/
def State.faulted (s : State) (d : DriveNo) (inside : Option InDrive) : State :=
  { s with
    lib := { s.lib with
      drives := s.lib.drives.set d ((s.lib.drives.get d).faulted inside)
      returns := s.lib.returns.filter (fun e => decide (e ≠ d)) }
    driveChans := s.driveChans.set d DriveChan.idle }

theorem State.faulted_drive (s : State) (d : DriveNo) (inside : Option InDrive) :
    (s.faulted d inside).lib.drives.get d = (s.lib.drives.get d).faulted inside := Six.get_set_same _ _ _

/-- The uses of a drive become FAULT end, and then the demands that are being mounted in it (R127 steps 1 and 2). -/
def State.faultLeaves (s : State) (d : DriveNo) (inside : Option InDrive) : State :=
  let t := (s.lib.drives.get d).work.foldl (fun s u => s.faultUse d u) (s.faulted d inside)
  (t.lib.demands.filter (fun q => q.mounting = some d)).foldl (fun t q => t.faultDemand (s.lib.drives.get d) q) t

/-- A drive becomes FAULT in its steps, with no DRIVE_RESET of it in progress. -/
theorem State.faultDrive_steps {s : State} {d : DriveNo} (hreset : (s.lib.drives.get d).reset = none) (timeout : Bool) :
    s.faultDrive d timeout = (fun inside : Option InDrive =>
      (((match inside.bind (·.id) with
        | some id => (s.faultLeaves d inside).endDemands id .mediaFault
        | none => s.faultLeaves d inside).post (.driveFault d inside timeout)).faultPiece d)) (if s.taken d then none else (s.lib.drives.get d).platter) := by
  have hnone : s.answerReset d .resetFailed = s := by
    have hreset' : (s.drive d).reset = none := hreset
    simp only [State.answerReset, hreset']
  unfold State.faultDrive
  rw [hnone]
  rfl

section
variable {s t : State} {d : DriveNo} (hreset : (s.lib.drives.get d).reset = none)
include hreset

/-- Where no demand is left for the platter inside, the event is posted, and the picker's piece ends (R127). -/
theorem State.faultDrive_inside (htaken : s.taken d = false) (hleaves : s.faultLeaves d (s.lib.drives.get d).platter = t)
    (hdemands : ∀ q ∈ t.lib.demands, ∀ p, (s.lib.drives.get d).platter = some p → p.id ≠ some q.side.platter) (timeout : Bool) :
    s.faultDrive d timeout = (t.post (.driveFault d (s.lib.drives.get d).platter timeout)).faultPiece d := by
  subst hleaves
  rw [State.faultDrive_steps hreset, htaken, if_neg (by decide)]
  refine congrArg (fun u : State => (u.post (.driveFault d (s.lib.drives.get d).platter timeout)).faultPiece d) ?_
  split
  · rename_i id hid
    obtain ⟨p, hp, hpid⟩ := Option.bind_eq_some_iff.1 hid
    exact State.endDemands_none (fun q hq heq => hdemands q hq p hp (hpid.trans (congrArg some heq.symm))) _
  · rfl

/-- A platter that the picker has taken is not inside (R127). -/
theorem State.faultDrive_taken (htaken : s.taken d = true) (hleaves : s.faultLeaves d none = t) (timeout : Bool) :
    s.faultDrive d timeout = (t.post (.driveFault d none timeout)).faultPiece d := by
  subst hleaves
  rw [State.faultDrive_steps hreset, htaken, if_pos rfl]
  rfl

end

/-- The picker's piece waits for no other drive's UNLOADED (R127 step 3). -/
theorem State.faultPiece_none {s : State} {d : DriveNo} (h : s.waitsAt d = false) : s.faultPiece d = s := by
  unfold State.waitsAt at h
  unfold State.faultPiece
  split
  · rename_i e ps hpiece
    rw [hpiece] at h
    exact if_neg (by simpa using h)
  · rename_i y id e hpiece
    rw [hpiece] at h
    exact if_neg (by simpa using h)
  · rfl

theorem State.post_waitsAt (s : State) (e : Event) (d : DriveNo) : (s.post e).waitsAt d = s.waitsAt d := by
  obtain ⟨k, v, hframe⟩ := s.post_frame e
  rw [hframe]
  rfl

end Sys2Proof.Machine
end

section
/-!
PROOFS. Obligation O53: a drive with nothing to lose, the drive an EXPORT unloads, a fill, and the demands that are being mounted (R127).
-/
namespace Sys2Proof.Machine
set_option Elab.async false

/-! ## No demand being mounted -/

theorem State.mounting_none {t : State} {d : DriveNo} (h : ∀ q ∈ t.lib.demands, q.mounting ≠ some d) :
    t.lib.demands.filter (fun q => q.mounting = some d) = [] :=
  List.filter_eq_nil_iff.2 fun q hq => by simpa using h q hq

section
variable {s : State} {d : DriveNo} (inside : Option InDrive) (hno : ∀ q ∈ s.lib.demands, q.mounting ≠ some d)
include hno

/-- With no use and no demand the FAULT is all (R127). -/
theorem State.faultLeaves_idle (hw : (s.lib.drives.get d).work = []) : s.faultLeaves d inside = s.faulted d inside := by
  simp only [State.faultLeaves, hw, List.foldl_nil]
  rw [State.mounting_none (t := s.faulted d inside) hno, List.foldl_nil]

/-- With one use and no demand the use ends (R127 step 1). -/
theorem State.faultLeaves_use {u : Use} {t : State} (hw : (s.lib.drives.get d).work = [u]) (huse : (s.faulted d inside).faultUse d u = t)
    (ht : t.lib.demands = s.lib.demands) : s.faultLeaves d inside = t := by
  simp only [State.faultLeaves, hw, List.foldl_cons, List.foldl_nil, huse]
  rw [State.mounting_none (t := t) (by rw [ht]; exact hno), List.foldl_nil]

end

/-! ## The picker's piece, and the event before it -/

theorem State.workOver_post (s : State) (e : Event) : (s.post e).workOver = s.workOver.post e := by
  cases hp : s.power <;> simp only [State.workOver, State.post, State.pickerFreed, hp]

theorem State.useFree_post (s : State) (e : Event) : (s.post e).useFree = s.useFree.post e := by
  cases hp : s.power <;> simp only [State.useFree, State.post, hp]

/-- An EXPORT whose drive becomes FAULT while it unloads is answered (R127 step 3; assumption log 25). -/
theorem State.faultPiece_export {s : State} {y : Reply} {id : Nat} {d : DriveNo} (hpiece : s.lib.picker.piece = some (.exportUnload y id d))
    (hgen : (s.links.get y.link).resetCount = y.gen) :
    s.faultPiece d = ((s.queued y (exportLostStatus s.freeCtr) .none).useFree).endPiece := by
  simp only [State.faultPiece, hpiece, if_true, s.answer_eq_queued y _ hgen]

/-- The wait for the UNLOADED of a mount sequence ends (R127 step 3). -/
theorem State.faultPiece_mount {s : State} {ps : PlatterSide} {d : DriveNo} (hpiece : s.lib.picker.piece = some (.mountUnload d ps)) :
    s.faultPiece d = s.endPiece := by
  simp only [State.faultPiece, hpiece, if_true]

section
variable {s : State} {d : DriveNo} (hs : s.Quiet) {timeout : Bool}
  (hcause : timeout = true → (s.lib.drives.get d).cmd ≠ none ∧ (s.lib.drives.get d).since + 15000 ≤ s.ref ∧ (s.lib.drives.get d).retry = true)
  (habsent : (s.lib.drives.get d).state ≠ .absent) (hfault : (s.lib.drives.get d).state ≠ .fault) (hreset : (s.lib.drives.get d).reset = none)
  (htaken : s.taken d = false) (hdemands : ∀ q ∈ s.lib.demands, ∀ p, (s.lib.drives.get d).platter = some p → p.id ≠ some q.side.platter)
  (hno : ∀ q ∈ s.lib.demands, q.mounting ≠ some d)
include hs hcause habsent hfault hreset htaken hdemands hno

/-- A drive with nothing to lose (R127). -/
theorem fault_idle (hw : (s.lib.drives.get d).work = []) (hwaits : s.waitsAt d = false) :
    exec (if timeout then .driveCommandTimeout d else .driveFaultReport d) s =
      .next ((s.faulted d (s.lib.drives.get d).platter).post (.driveFault d (s.lib.drives.get d).platter timeout)) := by
  have hleaves := State.faultLeaves_idle (s.lib.drives.get d).platter hno hw
  have hpiece := State.faultPiece_none ((State.post_waitsAt (s.faulted d (s.lib.drives.get d).platter)
    (.driveFault d (s.lib.drives.get d).platter timeout) d).trans hwaits)
  rw [fault_comes hs hcause habsent hfault, State.faultDrive_inside hreset htaken hleaves hdemands, hpiece, State.settle_nil]
  exact (State.post_agenda _ _).trans hs.2

/-- The drive an EXPORT unloads: the request is answered with a free status, and the picker is free (R127 step 3, R187). -/
theorem fault_exportUnload {y : Reply} {id : Nat} (hw : (s.lib.drives.get d).work = []) (hpiece : s.lib.picker.piece = some (.exportUnload y id d))
    (hgen : (s.links.get y.link).resetCount = y.gen) (hn : s.NothingNext) :
    exec (if timeout then .driveCommandTimeout d else .driveFaultReport d) s =
      .next (State.post (State.queued (State.workOver { s.faulted d (s.lib.drives.get d).platter with freeCtr := s.freeCtr + 1 }) y
        (exportLostStatus s.freeCtr) .none) (.driveFault d (s.lib.drives.get d).platter timeout)) := by
  obtain ⟨t, ht⟩ : ∃ t, t = s.faulted d (s.lib.drives.get d).platter := ⟨_, rfl⟩
  obtain ⟨e, he⟩ : ∃ e, e = Event.driveFault d (s.lib.drives.get d).platter timeout := ⟨_, rfl⟩
  have hleaves := (State.faultLeaves_idle (s.lib.drives.get d).platter hno hw).trans ht.symm
  obtain ⟨k, v, hframe⟩ := t.post_frame e
  have hgen' : ((t.post e).links.get y.link).resetCount = y.gen := by
    rw [State.post_resetCount, ht]
    exact hgen
  have hposted : (t.post e).lib.picker.piece = some (.exportUnload y id d) := by rw [hframe, ht]; exact hpiece
  have hfree : (t.post e).freeCtr = s.freeCtr := by rw [hframe, ht]; rfl
  obtain ⟨x, hx⟩ : ∃ x, x = ((t.post e).queued y (exportLostStatus s.freeCtr) .none).useFree := ⟨_, rfl⟩
  have hagenda : x.agenda = [] := by rw [hx, hframe, ht]; exact hs.2
  have hnext : x.NothingNext := by
    obtain ⟨hdue, hidle⟩ := hn
    rw [hx, hframe, ht]
    exact ⟨hdue, hidle.imp_right fun ⟨hreturns, hrest⟩ => ⟨congrArg (List.filter fun e => decide (e ≠ d)) hreturns, hrest⟩⟩
  have hfaults : s.faultDrive d timeout = x.endPiece := by
    rw [State.faultDrive_inside hreset htaken hleaves (by rw [ht]; exact hdemands), ← he, State.faultPiece_export hposted hgen', hfree, hx]
  rw [fault_comes hs hcause habsent hfault, hfaults, State.endPiece_settle hagenda hnext, hx, State.queued_post, State.useFree_post, State.workOver_post,
    ht, he]
  rfl

/-- A drive at a fill: the segment's one user ends MEDIA_FAULT (R94, R127 step 1; assumption log 58). -/
theorem fault_fill {g : Segment} {o : Op} {i : Item} (hmem : g ∈ s.segments) (hw : (s.lib.drives.get d).work = [.fill g.inst])
    (husers : g.users = [o.ref]) (honly : ∀ h ∈ s.segments, (o.ref ∈ h.users ∨ h.inst = g.inst) → h = g) (hlast : s.AtLastItem o i)
    (hn : s.NotWaiting o.ref) (hf : s.spaceFifo = []) (hrests : s.PickerRests) (hwaits : s.waitsAt d = false) :
    exec (if timeout then .driveCommandTimeout d else .driveFaultReport d) s =
      .next (State.post (State.itemLost ((s.faulted d (s.lib.drives.get d).platter).fillFailed d g.inst) o i .mediaFault)
        (.driveFault d (s.lib.drives.get d).platter timeout)) := by
  obtain ⟨e, he⟩ : ∃ e, e = Event.driveFault d (s.lib.drives.get d).platter timeout := ⟨_, rfl⟩
  obtain ⟨x, hx⟩ : ∃ x, x = (s.faulted d (s.lib.drives.get d).platter).fillFailed d g.inst := ⟨_, rfl⟩
  have huse : (s.faulted d (s.lib.drives.get d).platter).faultUse d (.fill g.inst) = x.later [.endItem o.ref .mediaFault, .spaceTry, .pickerNext] := by
    have hfails := State.failFill_eq (s := s.faulted d (s.lib.drives.get d).platter) (d := d) hmem (fun h hh hi => honly h hh (.inr hi))
      (by rw [State.faulted_drive]; exact hw)
    rw [husers, ← hx] at hfails
    exact hfails
  have hleaves := State.faultLeaves_use (s.lib.drives.get d).platter hno hw huse (by rw [hx]; rfl)
  have hfaults : s.faultDrive d timeout = (x.post e).later [.endItem o.ref .mediaFault, .spaceTry, .pickerNext] := by
    rw [State.faultDrive_inside hreset htaken hleaves (by rw [hx]; exact hdemands), ← he, State.post_later]
    exact State.faultPiece_none ((State.post_waitsAt x e d).trans (by rw [hx]; exact hwaits))
  obtain ⟨k, v, hframe⟩ := x.post_frame e
  have hagenda : (x.post e).agenda = [] := by rw [hframe, hx]; exact hs.2
  have hlast' : (x.post e).AtLastItem o i := by
    obtain ⟨hop, hsole, hgen, hrest⟩ := hlast
    refine ⟨by rw [hframe, hx]; exact hop, by rw [hframe, hx]; exact hsole, ?_, hrest⟩
    rw [State.post_resetCount, hx]
    exact hgen
  have hgone : ∀ h ∈ (x.post e).segments, o.ref ∉ h.users := by
    intro h hh huse
    rw [hframe, hx] at hh
    obtain ⟨hmem', hne⟩ := List.mem_filter.1 hh
    rw [honly h hmem' (.inl huse)] at hne
    simp at hne
  have hrests' : x.PickerRests := by
    rw [hx]
    exact hrests.imp_right fun ⟨hreturns, hrest⟩ => ⟨congrArg (List.filter fun e => decide (e ≠ d)) hreturns, hrest⟩
  have hlost : ((x.post e).itemLost o i .mediaFault) = (x.itemLost o i .mediaFault).post e := State.itemLost_post x e o i .mediaFault
  have hagenda' : ((x.post e).itemLost o i .mediaFault).agenda = [] := hagenda
  have hrest : State.Works ((x.post e).itemLost o i .mediaFault) [.spaceTry, .pickerNext] _ 2 :=
    .rests hagenda' (State.spaceTry_nil _ (by rw [hframe, hx]; exact hf))
      (.rests hagenda' (State.pickerNext_rests (by rw [hframe]; exact hrests')) (.nothing hagenda'))
  have hworks := State.Works.endItem hlast' hagenda (by rw [hframe, hx]; exact hf) (by rw [hframe, hx]; exact hn) hgone
    (by decide : Status.mediaFault ≠ .done) hrest
  rw [fault_comes hs hcause habsent hfault, hfaults, ← he, ← hx, ← hlost]
  exact congrArg Host.Outcome.next (hworks.settle (by decide))

end

end Sys2Proof.Machine
end

section
/-!
PROOFS. Obligation O53: the demand that is being mounted in a drive become FAULT (R127 steps 2 and 3). A list may hold one demand several times:
what its end hands over more than once brings nothing the second time.
-/
namespace Sys2Proof.Machine
set_option Elab.async false

/-! ## Work that brings nothing, after work that brings something -/

section
variable {s t : State} {ts us : List Task} {n : Nat}

theorem State.Works.settleFor_append (h : State.Works s ts t n) (m : Nat) (us : List Task) :
    State.settleFor (m + n) (s.later (ts ++ us)) = State.settleFor m (t.later us) := by
  induction h with
  | nothing ha => rfl
  | piece ha hrun _ ih => rw [← Nat.add_assoc, List.cons_append, State.settleFor_later _ _ _ _ ha, hrun, State.later_later, ← List.append_assoc, ih]

theorem State.settleFor_rests (ha : t.agenda = []) (hrest : ∀ w ∈ us, t.runTask w = t) (m : Nat) : State.settleFor m (t.later us) = t := by
  induction m generalizing us with
  | zero => cases t; simp_all [State.settleFor, State.later]
  | succ m ih =>
    cases us with
    | nil => rw [State.later_nil, State.settleFor_nil _ _ ha]
    | cons w us =>
      rw [State.settleFor_later _ _ _ _ ha, hrest w (.head _)]
      exact ih fun w hw => hrest w (.tail _ hw)

theorem State.Works.settle_rests (h : State.Works s ts t n) (hn : n ≤ 4096) (ha : t.agenda = []) (hrest : ∀ w ∈ us, t.runTask w = t) :
    (s.later (ts ++ us)).settle = t := by
  have hfuel : Config.agendaFuel = (4096 - n) + n := by rw [Nat.sub_add_cancel hn]; rfl
  rw [State.settle, hfuel, h.settleFor_append, State.settleFor_rests ha hrest]

end

/-- The item of an operation that is over ends no more (R100). -/
theorem State.endItem_gone {s : State} {o : Op} {i : Item} {st st' : Status} : (s.itemLost o i st).endItem o.ref st' = s.itemLost o i st := by
  have hop : (s.itemLost o i st).op? o.ref.link o.ref.tag = none :=
    List.find?_eq_none.2 fun p hp => by
      have hne : p.reply.link ≠ o.reply.link := by simpa using (List.mem_filter.1 hp).2
      simp [Op.ref, hne]
  have hitem : (s.itemLost o i st).item? o.ref = none := by simp [State.item?, hop]
  simp only [State.endItem, hitem]

/-! ## The demands that are being mounted -/

section
variable {t : State} {q : Demand}

/-- A demand with one waiter, an item, ends (R127 step 2). -/
theorem State.endDemand_item {w : Waiter} (hw : q.waiters = [w]) {r : ItemRef} (hr : w.item? = some r) (st : Status) :
    t.endDemand q st = (t.dropDemand q.side).later [.endItem r st] := by
  cases w with
  | filing age => simp [Waiter.item?] at hr
  | item r' c a =>
    obtain rfl : r' = r := by simpa [Waiter.item?] using hr
    simp only [State.endDemand, hw, List.foldl_cons, List.foldl_nil]

theorem State.dropDemand_twice (t : State) (ps : PlatterSide) (ts : List Task) :
    ((t.dropDemand ps).later ts).dropDemand ps = (t.dropDemand ps).later ts := by
  have htwice : (t.lib.demands.filter (fun q => decide (q.side ≠ ps))).filter (fun q => decide (q.side ≠ ps)) =
      t.lib.demands.filter (fun q => decide (q.side ≠ ps)) := by
    rw [List.filter_filter]
    simp
  exact State.demands_kept (s := (t.dropDemand ps).later ts) htwice

/-- A demand that a list holds again has gone, and its item is told once more. -/
theorem State.endDemands_again {f : State → Demand → State} {r : ItemRef} {st : Status}
    (hf : ∀ u : State, f u q = (u.dropDemand q.side).later [.endItem r st]) (l : List Demand) (hl : ∀ h ∈ l, h = q) (ts : List Task) :
    l.foldl f ((t.dropDemand q.side).later ts) = (t.dropDemand q.side).later (ts ++ List.replicate l.length (.endItem r st)) := by
  induction l generalizing ts with
  | nil => rw [List.foldl_nil, List.length_nil, List.replicate_zero, List.append_nil]
  | cons h l ih =>
    obtain rfl : h = q := hl h (.head _)
    rw [List.foldl_cons, hf, State.dropDemand_twice, State.later_later, ih (fun k hk => hl k (.tail _ hk)), List.length_cons, List.replicate_succ,
      List.append_assoc]
    rfl

end

section
variable {s : State} {d : DriveNo} {q : Demand} (inside : Option InDrive) (hw : (s.lib.drives.get d).work = []) (hmem : q ∈ s.lib.demands)
  (hmount : q.mounting = some d) (honly : ∀ h ∈ s.lib.demands, h.mounting = some d → h = q)
include hw hmem hmount honly

omit hw in
/-- The demands that are being mounted in the drive: one, so many times over. -/
theorem State.mounting_sole : ∃ l : List Demand, s.lib.demands.filter (fun h => h.mounting = some d) = q :: l ∧ ∀ h ∈ l, h = q := by
  have hall : ∀ h ∈ s.lib.demands.filter (fun h => h.mounting = some d), h = q := fun h hh =>
    honly h (List.mem_filter.1 hh).1 (by simpa using (List.mem_filter.1 hh).2)
  have hin : q ∈ s.lib.demands.filter (fun h => h.mounting = some d) := List.mem_filter.2 ⟨hmem, by simpa using hmount⟩
  cases hlist : s.lib.demands.filter (fun h => h.mounting = some d) with
  | nil => rw [hlist] at hin; cases hin
  | cons h l =>
    rw [hlist] at hall
    exact ⟨l, by rw [hall h (.head _)], fun k hk => hall k (.tail _ hk)⟩

/-- The one demand ends with its waiter (R127 step 2). -/
theorem State.faultLeaves_ends (hends : ∀ u : State, u.faultDemand (s.lib.drives.get d) q = u.endDemand q .mediaFault) {w : Waiter}
    (hwaits : q.waiters = [w]) {r : ItemRef} (hr : w.item? = some r) : ∃ n, s.faultLeaves d inside =
      ((s.faulted d inside).dropDemand q.side).later (.endItem r .mediaFault :: List.replicate n (.endItem r .mediaFault)) := by
  obtain ⟨l, hlist, hl⟩ := State.mounting_sole hmem hmount honly
  have hone (u : State) : u.faultDemand (s.lib.drives.get d) q = (u.dropDemand q.side).later [.endItem r .mediaFault] :=
    (hends u).trans (State.endDemand_item hwaits hr _)
  refine ⟨l.length, ?_⟩
  simp only [State.faultLeaves, hw, List.foldl_nil]
  rw [show (s.faulted d inside).lib.demands.filter (fun q => q.mounting = some d) = q :: l from hlist, List.foldl_cons, hone]
  exact State.endDemands_again hone l hl _

/-- The one demand goes back to WAITING (R127 step 3, R139). -/
theorem State.faultLeaves_unmounts (hends : ∀ u : State, u.faultDemand (s.lib.drives.get d) q = u.unmount q.side) (hawaited : s.DemandsAwaited)
    (hside : ∀ h ∈ s.lib.demands, h.side = q.side → h.waiters ≠ []) : s.faultLeaves d inside =
      { s.faulted d inside with lib := { (s.faulted d inside).lib with
        demands := s.lib.demands.map (fun h => if h.side = q.side then { h with mounting := none } else h) } } := by
  obtain ⟨l, hlist, hl⟩ := State.mounting_sole hmem hmount honly
  obtain ⟨u, hu⟩ : ∃ u, u = State.unmount (s.faulted d inside) q.side := ⟨_, rfl⟩
  have hfirst := State.unmount_waits (s := s.faulted d inside) hside hawaited
  have hside' : ∀ h ∈ u.lib.demands, h.side = q.side → h.waiters ≠ [] := by
    rw [hu, hfirst]
    intro h hh heq
    obtain ⟨k, hk, rfl⟩ := List.mem_map.1 hh
    by_cases hks : k.side = q.side
    · rw [if_pos hks]; exact hside k hk hks
    · rw [if_neg hks] at heq ⊢; exact absurd heq hks
  have hawaited' : ∀ h ∈ u.lib.demands, h.mounting = none → h.waiters ≠ [] := by
    rw [hu, hfirst]
    intro h hh hnone
    obtain ⟨k, hk, rfl⟩ := List.mem_map.1 hh
    by_cases hks : k.side = q.side
    · rw [if_pos hks]; exact hside k hk hks
    · rw [if_neg hks] at hnone ⊢; exact hawaited k hk hnone
  have htwice : u.unmount q.side = u := by
    rw [State.unmount_waits hside' hawaited']
    refine State.demands_kept ((List.map_congr_left fun h hh => ?_).trans (List.map_id _))
    rw [hu, hfirst] at hh
    obtain ⟨k, hk, rfl⟩ := List.mem_map.1 hh
    by_cases hks : k.side = q.side
    · simp only [if_pos hks, id_eq]
    · simp only [if_neg hks, id_eq]
  have hagain : ∀ l : List Demand, (∀ h ∈ l, h = q) → l.foldl (fun t q => t.faultDemand (s.lib.drives.get d) q) u = u := by
    intro l hl
    induction l with
    | nil => rfl
    | cons h l ih =>
      obtain rfl : h = q := hl h (.head _)
      rw [List.foldl_cons, hends, htwice]
      exact ih fun k hk => hl k (.tail _ hk)
  simp only [State.faultLeaves, hw, List.foldl_nil]
  rw [show (s.faulted d inside).lib.demands.filter (fun q => q.mounting = some d) = q :: l from hlist, List.foldl_cons, hends, ← hu, hagain l hl, hu]
  exact hfirst

end

end Sys2Proof.Machine
end

section
/-!
PROOFS. Obligation O53: a load, a flip and an eviction in a drive become FAULT (R127; assumption log 35).
-/
namespace Sys2Proof.Machine
set_option Elab.async false

/-! ## The waiter of a load or of a flip -/

section
variable {s : State} {d : DriveNo} {q : Demand} {o : Op} {i : Item} {g : Segment} (hs : s.Quiet) (hawaited : s.DemandsAwaited)
  (honly : ∀ h ∈ s.lib.demands, (h.side = q.side ∨ h.mounting = some d) → h = q) (hun : s.Unstarted g o.ref) (hlast : s.AtLastItem o i)
  (hothers : ∀ h ∈ s.lib.demands, ∀ w ∈ h.waiters, h ≠ q → w.item? ≠ some o.ref) (hf : s.spaceFifo = [])
include hs hawaited honly hun hlast hothers hf

/-- The waiter, the last item of its operation, ends with the segment it made. -/
theorem State.faulted_endsItem (inside : Option InDrive) (e : Event) (n : Nat) :
    ((((s.faulted d inside).dropDemand q.side).later (.endItem o.ref .mediaFault :: List.replicate n (.endItem o.ref .mediaFault))).post e).settle =
      State.post (State.itemLost (((s.faulted d inside).dropDemand q.side).unstaged g.inst) o i .mediaFault) e := by
  obtain ⟨x, hx⟩ : ∃ x, x = (s.faulted d inside).dropDemand q.side := ⟨_, rfl⟩
  obtain ⟨k, v, hframe⟩ := x.post_frame e
  have hwork (f : DriveNo) : (x.lib.drives.get f).work = (s.lib.drives.get f).work := by
    rw [hx]
    by_cases hfd : f = d
    · subst hfd; exact (congrArg Drive.work (s.faulted_drive f inside) :)
    · exact (congrArg Drive.work (Six.get_set_ne s.lib.drives _ _ ((s.lib.drives.get d).faulted inside) hfd) :)
  have hlast' : (x.post e).AtLastItem o i := by
    obtain ⟨hop, hsole, hgen, hrest⟩ := hlast
    refine ⟨by rw [hframe, hx]; exact hop, by rw [hframe, hx]; exact hsole, ?_, hrest⟩
    rw [State.post_resetCount, hx]
    exact hgen
  have hun' : (x.post e).Unstarted g o.ref := by
    obtain ⟨hsole, hfiller, hstarted, -⟩ := id hun
    refine ⟨by rw [hframe, hx]; exact hsole, hfiller, hstarted, fun f _ => ?_⟩
    rw [hframe]
    exact (hwork f).symm ▸ hun.fill_nowhere f
  have hnot : (x.post e).NotWaiting o.ref := by
    have hleft : ∀ h ∈ (x.post e).lib.demands, h ∈ s.lib.demands ∧ h ≠ q := by
      intro h hh
      rw [hframe, hx] at hh
      obtain ⟨hmem, hside⟩ := List.mem_filter.1 hh
      exact ⟨hmem, fun heq => by simp [heq] at hside⟩
    exact ⟨fun h hh hnone => hawaited h (hleft h hh).1 hnone, fun h hh w hw => hothers h (hleft h hh).1 w hw (hleft h hh).2⟩
  have hagenda : (x.post e).agenda = [] := by rw [hframe, hx]; exact hs.2
  have hworks := State.Works.endItem_unstarted hlast' (by rw [hframe, hx]; exact hf) hnot hun' hagenda (by decide : Status.mediaFault ≠ .done)
    (.nothing (s := ((x.post e).unstaged g.inst).itemLost o i .mediaFault) hagenda)
  have hrest : ∀ w ∈ List.replicate n (Task.endItem o.ref .mediaFault),
      (((x.post e).unstaged g.inst).itemLost o i .mediaFault).runTask w = ((x.post e).unstaged g.inst).itemLost o i .mediaFault := by
    intro w hw
    rw [(List.mem_replicate.1 hw).2]
    exact State.endItem_gone
  rw [← hx, State.post_later, ← State.itemLost_post, ← State.unstaged_post]
  exact hworks.settle_rests (by decide) hagenda hrest

variable (hmem : q ∈ s.lib.demands) (hmount : q.mounting = some d) (hw : (s.lib.drives.get d).work = []) {w : Waiter} (hwaiters : q.waiters = [w])
  (hitem : w.item? = some o.ref) (hreset : (s.lib.drives.get d).reset = none)
include hmem hmount hw hwaiters hitem hreset

/-- A load (R127 step 2). -/
theorem State.faultDrive_load (hstate : (s.lib.drives.get d).state = .loading) (htaken : s.taken d = false) (hwaits : s.waitsAt d = false)
    (hin : (s.lib.drives.get d).platter = some ⟨some q.side.platter, q.side.side⟩) (hsole : ∀ h ∈ s.lib.demands, h.side.platter = q.side.platter → h = q)
    (timeout : Bool) : (s.faultDrive d timeout).settle =
      State.post (State.itemLost (((s.faulted d (s.lib.drives.get d).platter).dropDemand q.side).unstaged g.inst) o i .mediaFault)
        (.driveFault d (s.lib.drives.get d).platter timeout) := by
  obtain ⟨n, hleaves⟩ := State.faultLeaves_ends (s.lib.drives.get d).platter hw hmem hmount (fun h hh hm => honly h hh (.inr hm))
    (fun u => u.faultDemand_load _ q (by rw [hstate]; decide)) hwaiters hitem
  rw [State.faultDrive_inside hreset htaken hleaves, State.faultPiece_none, State.faulted_endsItem hs hawaited honly hun hlast hothers hf]
  · rw [State.post_waitsAt]
    exact hwaits
  · intro h hh p hp
    obtain ⟨hmem', hside⟩ := List.mem_filter.1 hh
    obtain rfl : (⟨some q.side.platter, q.side.side⟩ : InDrive) = p := Option.some.inj (hin.symm.trans hp)
    intro heq
    have hsame : h = q := hsole h hmem' (Option.some.inj heq).symm
    simp [hsame] at hside

/-- A flip whose platter the picker holds: its move goes on (assumption log 35). -/
theorem State.faultDrive_flip {sd : Side} (hpiece : s.lib.picker.piece = some (.mountFlip d q.side))
    (hin : (s.lib.drives.get d).platter = some ⟨some q.side.platter, sd⟩) (timeout : Bool) : (s.faultDrive d timeout).settle =
      State.post (State.itemLost (((s.faulted d none).dropDemand q.side).unstaged g.inst) o i .mediaFault) (.driveFault d none timeout) := by
  have htaken : s.taken d = true := by simp [State.taken, hpiece]
  have hwaits : s.waitsAt d = false := by simp [State.waitsAt, hpiece]
  obtain ⟨n, hleaves⟩ := State.faultLeaves_ends none hw hmem hmount (fun h hh hm => honly h hh (.inr hm))
    (fun u => u.faultDemand_flip _ q sd hin) hwaiters hitem
  rw [State.faultDrive_taken hreset htaken hleaves, State.faultPiece_none, State.faulted_endsItem hs hawaited honly hun hlast hothers hf]
  rw [State.post_waitsAt]
  exact hwaits

end

/-! ## An eviction -/

/-- A drive become FAULT as it unloads another platter for a demand, which goes back to WAITING (R127 step 3, R139). -/
def State.evictionLost (s : State) (d : DriveNo) (ps : PlatterSide) : State :=
  { s.faulted d (s.lib.drives.get d).platter with lib := { (s.faulted d (s.lib.drives.get d).platter).lib with
    demands := s.lib.demands.map (fun h => if h.side = ps then { h with mounting := none } else h) } }

theorem State.evictionLost_noDrive {s : State} {d : DriveNo} (ps : PlatterSide)
    (h : ∀ e, e ≠ d → (s.lib.drives.get e).state ≠ .empty ∧ (s.lib.drives.get e).state ≠ .ready) (e : DriveNo) :
    ((s.evictionLost d ps).lib.drives.get e).state ≠ .empty ∧ ((s.evictionLost d ps).lib.drives.get e).state ≠ .ready := by
  by_cases hed : e = d
  · subst hed
    rw [show (s.evictionLost e ps).lib.drives.get e = _ from s.faulted_drive e (s.lib.drives.get e).platter]
    simp [Drive.faulted]
  · rw [show (s.evictionLost d ps).lib.drives.get e = s.lib.drives.get e from Six.get_set_ne _ _ _ _ hed]
    exact h e hed

/-- With no drive EMPTY or READY there is none to be had (R137). -/
theorem State.driveFor_none {s : State} (h : ∀ e, (s.lib.drives.get e).state ≠ .empty ∧ (s.lib.drives.get e).state ≠ .ready) (q : Demand) :
    s.driveFor q = none := by
  have hready (e : DriveNo) : ((s.drive e).state == .ready) = false := by simpa [State.drive] using (h e).2
  have hempty : DriveNo.all.find? (fun e => (s.drive e).state == .empty) = none :=
    List.find?_eq_none.2 fun e _ => by simpa [State.drive] using (h e).1
  have hevictable : DriveNo.all.filter s.evictable = [] := List.filter_eq_nil_iff.2 fun e _ => by simp [State.evictable, hready e]
  have hevictee : s.evictee = none := by
    rw [State.evictee, hevictable]
    rfl
  unfold State.driveFor
  split
  · rename_i e _
    simp only [hready e, Bool.false_and, Bool.false_eq_true, if_false]
  · rw [hempty]
    exact hevictee
  · rfl

/-- A picker asked for nothing but mounts begins none with no drive to be had (R130, R136). -/
theorem State.pickerNext_noDrive {s : State} (hreturns : s.lib.returns = []) (hmedia : s.lib.media = [])
    (h : ∀ e, (s.lib.drives.get e).state ≠ .empty ∧ (s.lib.drives.get e).state ≠ .ready) : s.pickerNext = s := by
  have hchoice : s.choice = none := List.findSome?_eq_none_iff.2 fun q _ => by rw [State.driveFor_none h, Option.map_none]
  unfold State.pickerNext
  split
  · simp only [hreturns, hmedia, State.arbiter, hchoice]
  · rfl

section
variable {s : State} {d : DriveNo} {q : Demand} {p : InDrive} (hs : s.Quiet) (hawaited : s.DemandsAwaited)
  (honly : ∀ h ∈ s.lib.demands, (h.side = q.side ∨ h.mounting = some d) → h = q) (hmem : q ∈ s.lib.demands) (hmount : q.mounting = some d)
  (hw : (s.lib.drives.get d).work = []) (hwaiters : q.waiters ≠ []) (hreset : (s.lib.drives.get d).reset = none)
  (hstate : (s.lib.drives.get d).state = .unloading) (htaken : s.taken d = false) (hin : (s.lib.drives.get d).platter = some p)
  (hother : ∀ h ∈ s.lib.demands, p.id ≠ some h.side.platter) (hpiece : s.lib.picker.piece = some (.mountUnload d q.side))
include hs hawaited honly hmem hmount hw hwaiters hreset hstate htaken hin hother hpiece

omit hs in
theorem State.faultDrive_eviction (timeout : Bool) :
    s.faultDrive d timeout = ((s.evictionLost d q.side).post (.driveFault d (s.lib.drives.get d).platter timeout)).endPiece := by
  have hside : ∀ h ∈ s.lib.demands, h.side = q.side → h.waiters ≠ [] := fun h hh hs => honly h hh (.inl hs) ▸ hwaiters
  have hleaves := State.faultLeaves_unmounts (s.lib.drives.get d).platter hw hmem hmount (fun h hh hm => honly h hh (.inr hm))
    (fun u => u.faultDemand_eviction _ q hstate (by rw [hin]; exact hother q hmem)) hawaited hside
  obtain ⟨k, v, hframe⟩ := (s.evictionLost d q.side).post_frame (.driveFault d (s.lib.drives.get d).platter timeout)
  rw [State.faultDrive_inside hreset htaken hleaves]
  · exact State.faultPiece_mount (s := (s.evictionLost d q.side).post _) (by rw [hframe]; exact hpiece)
  · intro h hh p' hp'
    obtain rfl : p = p' := Option.some.inj (hin.symm.trans hp')
    obtain ⟨h', hh', rfl⟩ := List.mem_map.1 hh
    have hne := hother h' hh'
    split
    · exact hne
    · exact hne

theorem State.faultDrive_eviction_open (hd : s.lib.doorOpen = true) (timeout : Bool) : (s.faultDrive d timeout).settle =
    (s.evictionLost d q.side).workOver.post (.driveFault d (s.lib.drives.get d).platter timeout) := by
  rw [State.faultDrive_eviction hawaited honly hmem hmount hw hwaiters hreset hstate htaken hin hother hpiece]
  obtain ⟨k, v, hframe⟩ := (s.evictionLost d q.side).post_frame (.driveFault d (s.lib.drives.get d).platter timeout)
  rw [State.endPiece_open (by rw [hframe]; exact hd), State.workOver_post, State.settle_nil]
  exact (State.post_agenda _ _).trans hs.2

theorem State.faultDrive_eviction_closed (hd : s.lib.doorOpen = false) (hdue : s.lib.sweepDue = false)
    (hreturns : s.lib.returns.filter (fun e => decide (e ≠ d)) = []) (hmedia : s.lib.media = [])
    (hdrives : ∀ e, e ≠ d → (s.lib.drives.get e).state ≠ .empty ∧ (s.lib.drives.get e).state ≠ .ready) (timeout : Bool) :
    (s.faultDrive d timeout).settle = (s.evictionLost d q.side).workOver.post (.driveFault d (s.lib.drives.get d).platter timeout) := by
  rw [State.faultDrive_eviction hawaited honly hmem hmount hw hwaiters hreset hstate htaken hin hother hpiece]
  obtain ⟨e, he⟩ : ∃ e, e = Event.driveFault d (s.lib.drives.get d).platter timeout := ⟨_, rfl⟩
  obtain ⟨k, v, hframe⟩ := (s.evictionLost d q.side).workOver.post_frame e
  obtain ⟨k', v', hframe'⟩ := (s.evictionLost d q.side).post_frame e
  have hagenda : ((s.evictionLost d q.side).workOver.post e).agenda = [] := (State.post_agenda _ _).trans hs.2
  rw [← he, State.endPiece_closed (by rw [hframe']; exact hd) (by rw [hframe']; exact hdue), State.workOver_post]
  have hlib : ((s.evictionLost d q.side).workOver.post e).lib = (s.evictionLost d q.side).workOver.lib := by rw [hframe]
  refine State.settle_later_one hagenda (State.pickerNext_noDrive ?_ ?_ ?_) hagenda
  · rw [hlib]; exact hreturns
  · rw [hlib]; exact hmedia
  · rw [hlib]; exact State.evictionLost_noDrive q.side hdrives

end

end Sys2Proof.Machine
end

section
/-!
PROOFS. Obligation O53: a pass in a drive become FAULT: a failed attempt, and the head back at the side test, where the side is closed (R65, R127).
-/
namespace Sys2Proof.Machine
set_option Elab.async false

/-! ## The test that closes the side -/

/-- A side closed at the side test (R65). -/
def State.sideClosed (s : State) (ps : PlatterSide) : State := { s.modSide ps (fun x => { x with state := x.state.closed }) with lastFiling := some ps }

theorem State.sideClosed_post (s : State) (e : Event) (ps : PlatterSide) : (s.post e).sideClosed ps = (s.sideClosed ps).post e := by
  cases hp : s.power <;> simp only [State.sideClosed, State.modSide_eq, State.post, hp]

theorem State.modFiling_post (s : State) (e : Event) (q : FSlot) (f : Filing → Filing) : (s.post e).modFiling q f = (s.modFiling q f).post e := by
  cases hp : s.power <;> simp only [State.modFiling, State.setFiling, State.post, hp]

/-- An OPEN side that does not take the filing is closed, and another is searched for (R65). -/
theorem State.headTurn_closes {s : State} {q : FSlot} {f : Filing} (hu : s.filUse = none) (hh : s.head? = some (q, f)) (hs : f.state = .queued)
    {ps : PlatterSide} {fill : Nat} (ho : s.openSide = some (ps, fill)) (husable : s.usable f ps fill = false) :
    s.headTurn = (s.sideClosed ps).later [.sideSearch] := by
  simp only [State.headTurn, hu, hh, hs, ho, husable, ne_eq, not_true_eq_false, if_false, Bool.false_eq_true]
  rfl

/-- A platter in a drive that is FAULT is not to be had (R65). -/
theorem State.unreachable_of_fault {s : State} {id : Nat} {p : Platter} (hp : s.platter? id = some p) {d : DriveNo} (hloc : p.loc = .drive d)
    (hfault : (s.lib.drives.get d).state = .fault) : s.reachable id = false := by
  have hnot := (State.reachable_iff hp).not.2 (by simp [hloc, hfault])
  simpa using hnot

/-! ## The failed attempt -/

/-- A failed attempt that ends FIL's use of the drive, the head QUEUED again (R74, R75). -/
def State.attemptLost (s : State) (d : DriveNo) (q : FSlot) (g : Filing) (ps : PlatterSide) : State :=
  { ((s.cmdEnded d).modSide ps SideRec.failOnce).filLeft d with filings := s.filings.set q (some { g with state := .queued, extent := none }) }

section
variable {s : State} {d : DriveNo} {u : FilUse} {q : FSlot} {f : Filing} {c : Commit} {p : Platter} {fill : Nat}
  (hq : u.slot = some q) (hf : s.filings.get q = some f) (hc : f.commit = some c) (hp : s.platter? u.side.platter = some p)
  (hopen : (p.sideRec u.side.side).state = .opened fill) (hab : c.abandonPending = false) (hfailed : c.failed = [])
  (hfails : (p.sideRec u.side.side).fails = 0) (ho : s.openSide = some (u.side, fill)) (hloc : p.loc = .drive d)
  (hfault : (s.lib.drives.get d).state = .fault) (hw : (s.lib.drives.get d).work = [.filing])
  (hplatter : (s.lib.drives.get d).platter = some ⟨some u.side.platter, u.side.side⟩) (hd : s.demand? u.side = none)

section
include hp hfails hopen ho in
/-- After a first failure the side is still OPEN (R74). -/
theorem State.openSide_failedOnce : ((s.cmdEnded d).modSide u.side SideRec.failOnce).openSide = some (u.side, fill) :=
  State.openSide_modSide (s := s.cmdEnded d) hp hopen ho (by simp [SideRec.failOnce, hfails])

include hfault in
theorem State.cmdEnded_fault : ((s.cmdEnded d).lib.drives.get d).state = .fault := by
  rw [State.cmdEnded_drive, Drive.ended]
  simp [hfault]

end

include hq hf hc hp hopen hab hfailed hfails ho hloc hfault hw hplatter hd in
/-- The attempt cannot go on in a drive that is FAULT (R75). -/
theorem State.failAttempt_faulted : s.failAttempt d u = (s.attemptLost d q (f.failedOn c u.side) u.side).later [.pickerNext, .pickerNext, .headTurn] := by
  obtain ⟨v, hv⟩ : ∃ v, v = s.attemptCounted d q (f.failedOn c u.side) u.side := ⟨_, rfl⟩
  have hdrive : v.lib.drives.get d = (s.lib.drives.get d).ended := by rw [hv]; exact s.cmdEnded_drive d
  have hfault' : (v.lib.drives.get d).state = .fault := by rw [hv]; exact State.cmdEnded_fault hfault
  have hopen' : v.openSide = some (u.side, fill) := by rw [hv]; exact State.openSide_failedOnce hp hopen hfails ho
  have hplatter' : v.platter? u.side.platter = some (p.modSide u.side.side SideRec.failOnce) := by
    rw [hv]
    exact State.platter?_modSide_same (s := s.cmdEnded d) hp _
  have hnot : v.sideTakes u.side fill (f.failedOn c u.side).blocks = false := by
    simp only [State.sideTakes, State.unreachable_of_fault hplatter' ((Platter.modSide_loc ..).trans hloc) hfault', Bool.false_and]
  have hfiling : v.filings.get q = some (f.failedOn c u.side) := by rw [hv]; exact Four.get_set_same _ _ _
  have hcommit : (f.failedOn c u.side).commit = some { c with attempts := c.attempts + 1, failed := [u.side] } := by simp [Filing.failedOn, hfailed]
  have hone : ¬2 ≤ [u.side].length := by simp
  have hleft : v.endFilUse d = (v.filLeft d).later [.pickerNext, .pickerNext] :=
    State.endFilUse_eq (ps := u.side) (by rw [hdrive]; exact hw) (by rw [hdrive]; exact hplatter) (by rw [hv]; exact hd)
  have hlost : (v.filLeft d).modFiling q (fun f => { f with state := .queued, extent := none }) = s.attemptLost d q (f.failedOn c u.side) u.side := by
    simp only [State.modFiling, State.setFiling, State.filLeft, hfiling, Option.map_some]
    rw [hv]
    simp only [State.attemptLost, State.attemptCounted, State.filLeft, Four.set_set]
  rw [State.failAttempt_eq hf hc hq, ← hv]
  simp only [State.afterFailure, hfiling, hcommit, hab, Bool.false_eq_true, if_false, if_neg hone, hopen', hnot, and_false, hleft]
  rw [← hlost]
  exact State.later_later ((v.filLeft d).modFiling q (fun f => { f with state := .queued, extent := none })) _ _

variable (hothers : s.OthersShut u.side) (huniq : ∀ r ∈ s.cat.platters, r.id = p.id → r = p) (hqueue : s.commitQueue.head? = some q)
  (hrests : s.PickerRests) (ha : s.agenda = [])
include hp hopen hfails ho hloc hfault hothers huniq hqueue hrests ha

/-- The head's side is closed at the side test, and the head waits for media (R65, R66, R69). -/
theorem State.attemptLost_settle (e : Event) :
    (((s.attemptLost d q (f.failedOn c u.side) u.side).post e).later [.pickerNext, .pickerNext, .headTurn]).settle =
      State.post (State.post (State.modFiling ((s.attemptLost d q (f.failedOn c u.side) u.side).sideClosed u.side) q
        (fun f => { f with state := .waitingMedia })) e) (.noBlankMedia q f.inst) := by
  obtain ⟨g, hg⟩ : ∃ g, g = { f.failedOn c u.side with state := .queued, extent := none } := ⟨_, rfl⟩
  obtain ⟨w, hwv⟩ : ∃ w, w = s.attemptLost d q (f.failedOn c u.side) u.side := ⟨_, rfl⟩
  obtain ⟨k, v, hframe⟩ := w.post_frame e
  have hagenda : (w.post e).agenda = [] := by rw [hframe, hwv]; exact ha
  have hpicker : (w.post e).pickerNext = w.post e := State.pickerNext_rests (by rw [hframe, hwv]; exact hrests)
  have hget : (w.post e).filings.get q = some g := by rw [hframe, hwv, hg]; exact Four.get_set_same _ _ _
  have huse : (w.post e).filUse = none := by rw [hframe, hwv]; rfl
  have hhead := State.head?_of (s := w.post e) (by rw [hframe, hwv]; exact hqueue) hget
  have hopen' : (w.post e).openSide = some (u.side, fill) := by
    rw [hframe, hwv]
    exact State.openSide_failedOnce hp hopen hfails ho
  have hplatter' : (w.post e).platter? u.side.platter = some (p.modSide u.side.side SideRec.failOnce) := by
    rw [hframe, hwv]
    exact State.platter?_modSide_same (s := s.cmdEnded d) hp _
  have hfault' : ((w.post e).lib.drives.get d).state = .fault := by
    rw [hframe, hwv]
    exact (congrArg Drive.state (Six.get_set_same _ _ _)).trans (State.cmdEnded_fault hfault)
  have hnot : (w.post e).usable g u.side fill = false := by
    simp only [State.usable, State.sideTakes, State.unreachable_of_fault hplatter' ((Platter.modSide_loc ..).trans hloc) hfault', Bool.false_and]
  have hturn := State.headTurn_closes huse hhead (by rw [hg]) hopen' hnot
  have honce : (w.post e).OthersShut u.side := by
    rw [hframe, hwv]
    exact State.OthersShut.modSide (s := s.cmdEnded d) hothers _
  have hone : ∀ r ∈ (w.post e).cat.platters, r.id = (p.modSide u.side.side SideRec.failOnce).id → r = p.modSide u.side.side SideRec.failOnce := by
    obtain ⟨r, -, hid, -, honly⟩ : (w.post e).Stands u.side _ := by
      rw [hframe, hwv]
      exact State.stands_modSide (s := s.cmdEnded d) hp huniq SideRec.failOnce
    obtain ⟨hmem, hid'⟩ := State.platter?_some hplatter'
    obtain rfl := honly _ hmem (hid'.trans hid.symm)
    exact honly
  have hstate : ((p.modSide u.side.side SideRec.failOnce).sideRec u.side.side).state.closed = .full fill := by
    have hkept : (SideRec.failOnce (p.sideRec u.side.side)).state = .opened fill := by simp [SideRec.failOnce, hfails, hopen]
    rw [Platter.sideRec_modSide, hkept]
    rfl
  have hstands := State.stands_modSide hplatter' hone (fun x => { x with state := x.state.closed })
  rw [hstate] at hstands
  have hfind : ((w.post e).sideClosed u.side).findSide g = none :=
    State.findSide_shut (s := (w.post e).sideClosed u.side) (honce.modSide _) hstands rfl g
  have hsearch := State.sideSearch_waits (s := (w.post e).sideClosed u.side) huse hhead hfind
  have hworks : State.Works (w.post e) [.pickerNext, .pickerNext, .headTurn] _ 4 :=
    .rests hagenda hpicker (.rests hagenda hpicker (.piece hagenda hturn (.brings (w := .sideSearch) hagenda hsearch
      (.nothing ((State.post_agenda _ _).trans ?_)))))
  · rw [← hwv]
    refine (hworks.settle (by decide)).trans ?_
    rw [State.sideClosed_post, State.modFiling_post, hg]
    rfl
  · exact hagenda

end

/-! ## The state that is left -/

section
variable {s : State} {d : DriveNo} {u : FilUse} {q : FSlot} {f : Filing} {c : Commit} {p : Platter} {fill : Nat}
  (hp : s.platter? u.side.platter = some p) (hopen : (p.sideRec u.side.side).state = .opened fill) (hfailed : c.failed = [])
  (hfails : (p.sideRec u.side.side).fails = 0) (huniq : ∀ r ∈ s.cat.platters, r.id = p.id → r = p)
include hp hopen hfailed hfails huniq

/-- The side FULL at its fill point with one failure, and the head waiting for media. -/
theorem State.attemptLost_closed (inside : Option InDrive) :
    State.modFiling (((s.faulted d inside).attemptLost d q (f.failedOn c u.side) u.side).sideClosed u.side) q (fun f => { f with state := .waitingMedia }) =
      { s with
        cat := { s.cat with
          platters := updateKeyed Platter.id u.side.platter (fun p => p.modSide u.side.side (fun _ => { state := .full fill, fails := 1 })) s.cat.platters }
        filings := s.filings.set q (some { f with
          state := .waitingMedia, extent := none, commit := some { c with attempts := c.attempts + 1, failed := [u.side] } })
        lib := { s.lib with
          drives := s.lib.drives.set d ((s.lib.drives.get d).faulted inside).left
          returns := s.lib.returns.filter (fun e => decide (e ≠ d)) }
        driveChans := s.driveChans.set d DriveChan.idle
        lastFiling := some u.side
        filUse := none } := by
  have hsides := State.updateKeyed_only hp
    (g := fun p' => p'.modSide u.side.side (fun x => { state := x.failOnce.state.closed, fails := x.failOnce.fails }))
    (h := fun p' => p'.modSide u.side.side (fun _ => { state := .full fill, fails := 1 })) huniq
    (Platter.modSide_congr (by simp [SideRec.failOnce, hfails, hopen, SideState.closed, SideState.fill?]))
  have hcommit : (f.failedOn c u.side).commit = some { c with attempts := c.attempts + 1, failed := [u.side] } := by simp [Filing.failedOn, hfailed]
  simp only [State.modFiling, State.setFiling, State.sideClosed, State.attemptLost, State.filLeft, State.modSide_eq, State.cmdEnded, State.faulted,
    Six.get_set_same, Six.set_set, Four.get_set_same, Four.set_set, Option.map_some, updateKeyed_modSide_twice]
  rw [hsides, hcommit]
  rfl

end

/-! ## The pass -/

section
variable {s : State} {d : DriveNo} (hs : s.Quiet) {timeout : Bool}
  (hcause : timeout = true → (s.lib.drives.get d).cmd ≠ none ∧ (s.lib.drives.get d).since + 15000 ≤ s.ref ∧ (s.lib.drives.get d).retry = true)
  (habsent : (s.lib.drives.get d).state ≠ .absent) (hfault : (s.lib.drives.get d).state ≠ .fault) (hreset : (s.lib.drives.get d).reset = none)
  (htaken : s.taken d = false) (hdemands : ∀ q ∈ s.lib.demands, ∀ p, (s.lib.drives.get d).platter = some p → p.id ≠ some q.side.platter)
  (hno : ∀ q ∈ s.lib.demands, q.mounting ≠ some d) (hwaits : s.waitsAt d = false)
  {u : FilUse} {q : FSlot} {f : Filing} {c : Commit} {p : Platter} {fill : Nat} (hu : s.filUse = some u) (hq : u.slot = some q)
  (hf : s.filings.get q = some f) (hc : f.commit = some c) (hp : s.platter? u.side.platter = some p)
  (hopen : (p.sideRec u.side.side).state = .opened fill) (hw : (s.lib.drives.get d).work = [.filing])
  (hstage : u.stage = .erase d ∨ u.stage = .write d ∨ u.stage = .verify d) (hab : c.abandonPending = false) (hfailed : c.failed = [])
  (hfails : (p.sideRec u.side.side).fails = 0) (ho : s.openSide = some (u.side, fill)) (hloc : p.loc = .drive d)
  (hplatter : (s.lib.drives.get d).platter = some ⟨some u.side.platter, u.side.side⟩) (hothers : s.OthersShut u.side)
  (hqueue : s.commitQueue.head? = some q) (huniq : ∀ r ∈ s.cat.platters, r.id = p.id → r = p) (hrests : s.PickerRests)
include hs hcause habsent hfault hreset htaken hdemands hno hwaits hu hq hf hc hp hopen hw hstage hab hfailed hfails ho hloc hplatter hothers hqueue
  huniq hrests

theorem fault_pass : exec (if timeout then .driveCommandTimeout d else .driveFaultReport d) s = .next (State.post (State.post (State.modFiling
    (((s.faulted d (s.lib.drives.get d).platter).attemptLost d q (f.failedOn c u.side) u.side).sideClosed u.side) q
      (fun f => { f with state := .waitingMedia })) (.driveFault d (s.lib.drives.get d).platter timeout)) (.noBlankMedia q f.inst)) := by
  obtain ⟨t, ht⟩ : ∃ t, t = s.faulted d (s.lib.drives.get d).platter := ⟨_, rfl⟩
  have hdrive : t.lib.drives.get d = (s.lib.drives.get d).faulted (s.lib.drives.get d).platter := by rw [ht]; exact s.faulted_drive d _
  have hdemand : t.demand? u.side = none := by
    rw [ht]
    refine List.find?_eq_none.2 fun h hh heq => ?_
    have hside : h.side = u.side := by simpa using heq
    exact hdemands h hh _ hplatter (by rw [hside])
  have hends : t.faultUse d .filing = (t.attemptLost d q (f.failedOn c u.side) u.side).later [.pickerNext, .pickerNext, .headTurn] := by
    have huse : t.filUse = some u := by rw [ht]; exact hu
    have hpass : t.filFault d u = t.failAttempt d u := by
      obtain h | h | h := hstage <;> simp only [State.filFault, h]
    simp only [State.faultUse, huse, hpass]
    exact State.failAttempt_faulted hq (by rw [ht]; exact hf) hc (by rw [ht]; exact hp) hopen hab hfailed hfails (by rw [ht]; exact ho) hloc
      (by rw [hdrive]; rfl) (by rw [hdrive]; exact hw) (by rw [hdrive]; exact hplatter) hdemand
  have huses : (s.faulted d (s.lib.drives.get d).platter).faultUse d .filing =
      (t.attemptLost d q (f.failedOn c u.side) u.side).later [.pickerNext, .pickerNext, .headTurn] := by rw [← ht]; exact hends
  have hleaves := State.faultLeaves_use (s.lib.drives.get d).platter hno hw huses (by rw [ht]; rfl)
  rw [fault_comes hs hcause habsent hfault, State.faultDrive_inside hreset htaken hleaves, State.post_later, State.faultPiece_none,
    State.attemptLost_settle (s := t) (by rw [ht]; exact hp) hopen hfails (by rw [ht]; exact ho) hloc (by rw [hdrive]; rfl) (by rw [ht]; exact hothers)
      (by rw [ht]; exact huniq) (by rw [ht]; exact hqueue) ?_ (by rw [ht]; exact hs.2), ht]
  · rw [ht]
    exact hrests.imp_right fun ⟨hreturns, hrest⟩ => ⟨congrArg (List.filter fun e => decide (e ≠ d)) hreturns, hrest⟩
  · refine (State.post_waitsAt (t.attemptLost d q (f.failedOn c u.side) u.side) _ d).trans ?_
    rw [ht]
    exact hwaits
  · rw [ht]
    exact hdemands

end

end Sys2Proof.Machine
end

section
/-!
PROOFS. Obligation O53: the command issued again, the EJECT that fails, and the obligation settled.
-/
namespace Sys2Proof.Machine
set_option Elab.async false

/-! ## The first expiry -/

/-- A drive's command is issued again (R126). -/
def State.commandAgain (s : State) (d : DriveNo) : State :=
  { s with lib := { s.lib with drives := s.lib.drives.set d { s.lib.drives.get d with retry := true, since := s.ref } } }

section
variable {s : State} {d : DriveNo}

theorem State.reissue_command (h : ∀ u, s.filUse = some u → u.stage ≠ .write d) : s.reissue d = s.commandAgain d := by
  unfold State.reissue
  dsimp only
  split
  · rename_i ps e q t w huse
    have hne : ¬e = d := fun heq => h _ huse (congrArg FilStage.write heq)
    rw [if_neg hne]
    rfl
  · rfl

/-- A write pass goes back to the first block not yet reported (R126; assumption log 11). -/
theorem State.reissue_write {u : FilUse} (hu : s.filUse = some u) {q : FSlot} (hq : u.slot = some q) (hstage : u.stage = .write d) {e : Location}
    (he : s.extentOf q = e) : s.reissue d = { s.commandAgain d with
      driveChans := s.driveChans.set d { s.driveChans.get d with chan := { (s.driveChans.get d).chan with
        next := s.ringPos q (s.lib.drives.get d).reported, remaining := e.len - (s.lib.drives.get d).reported } } } := by
  obtain ⟨ps, g, slot, t, w⟩ := u
  subst hq hstage he
  simp only [State.reissue, State.modDrive, hu, if_true]
  rw [← hu]
  rfl

end

/-! ## The EJECT that fails -/

/-- A DRIVE_RESET whose EJECT has failed is answered; the drive stays FAULT (R128). -/
theorem State.resetFailed_eq {s : State} {d : DriveNo} {y : Reply} (hreset : (s.lib.drives.get d).reset = some y)
    (hstate : (s.lib.drives.get d).state = .fault) (hgen : (s.links.get y.link).resetCount = y.gen) :
    s.resetFailed d = State.queued { s with lib := { s.lib with drives := s.lib.drives.set d { s.lib.drives.get d with
      cmd := none, reported := 0, retry := false, reset := none } } } y .resetFailed .none := by
  have hkept : ((s.endCmd d).lib.drives.get d).reset = some y := (congrArg Drive.reset (Six.get_set_same _ _ _)).trans hreset
  rw [State.resetFailed, State.answerReset_eq_queued hkept hgen, State.endCmd, State.modDrive_modDrive]
  simp only [State.modDrive, hstate]
  rfl

/-! ## The statement -/

/-- What an eviction lost leaves, the picker's piece over. -/
theorem State.evictionLost_workOver {s : State} {d : DriveNo} (hw : (s.lib.drives.get d).work = []) (ps : PlatterSide) :
    (s.evictionLost d ps).workOver = { s with
      lib := { s.lib with
        drives := s.lib.drives.set d { (s.lib.drives.get d).faulted (s.lib.drives.get d).platter with work := [] }
        returns := s.lib.returns.filter (fun e => decide (e ≠ d))
        demands := s.lib.demands.map (fun h => if h.side = ps then { h with mounting := none } else h)
        picker := { state := if s.lib.doorOpen then .halted else .idle, held := none, move := none, since := none, piece := none } }
      driveChans := s.driveChans.set d DriveChan.idle } := by
  have hwork : { (s.lib.drives.get d).faulted (s.lib.drives.get d).platter with work := [] } = (s.lib.drives.get d).faulted (s.lib.drives.get d).platter := by
    rw [← hw]
    rfl
  rw [hwork]
  rfl

/-- Settles O53: by what the drive was at: nothing, an EXPORT's unload, a fill, a pass, a load, an eviction or a flip; and the timer's two expiries. -/
theorem driveBecomesFault : Obligations.DriveBecomesFault := by
  unfold Obligations.DriveBecomesFault
  refine ⟨fun s d hs => ⟨fault_untaken hs, fun timeout hcause habsent hfault hreset htaken hdemands => ⟨?idle, ?exportUnload, ?fill, ?pass⟩,
    fun timeout hcause hreset htaken hw hawaited q hmem hmount honly => ⟨?load, ?eviction⟩, ?flip⟩,
    fun s d hs => ⟨fun hcmd hpast hretry => ⟨?again, ?writeAgain⟩, ?eject, expiry_notYet hs⟩⟩
  case idle =>
    intro hw hno hwaits
    have hidle := fault_idle hs hcause habsent hfault hreset htaken hdemands hno hw hwaits
    simp only [State.faulted, Drive.faulted, hw] at hidle
    exact hidle
  case exportUnload =>
    intro y id hpiece hw hno hgen hn
    obtain ⟨hframe, hbusy⟩ := exportLostStatus_not_refusal s.freeCtr
    refine ⟨exportLostStatus s.freeCtr, hframe, hbusy, ?_⟩
    have hends := fault_exportUnload hs hcause habsent hfault hreset htaken hdemands hno hw hpiece hgen hn
    simp only [State.faulted, Drive.faulted, hw] at hends
    exact hends
  case fill =>
    intro g hmem o _ i _ hw husers honly hlast hn hf hrests hno hwaits
    have hends := fault_fill hs hcause habsent hfault hreset htaken hdemands hno hmem hw husers honly hlast hn hf hrests hwaits
    simp only [State.faulted, State.fillFailed, Six.get_set_same, Six.set_set] at hends
    exact hends
  case pass =>
    intro u hu q hq f hf c hc p hp fill hopen hw hstage hab hfailed hfails ho hloc hplatter hothers hqueue huniq hrests hno hwaits
    have hid : p.id = u.side.platter := (State.platter?_some hp).2
    rw [hid] at hplatter
    have hends := fault_pass hs hcause habsent hfault hreset htaken hdemands hno hwaits hu hq hf hc hp hopen hw hstage hab hfailed hfails ho hloc hplatter
      hothers hqueue huniq hrests
    rw [State.attemptLost_closed hp hopen hfailed hfails huniq] at hends
    rw [hid]
    exact hends
  case load =>
    intro o _ i _ g hg hcmd hstate hin hsole w _ hwaiters hitem husers hfiller hstarted hone hwork hlast hothers hf hwaits
    have hun : s.Unstarted g o.ref := ⟨⟨hg, husers, hone⟩, hfiller, hstarted, fun e _ => hwork e⟩
    have hends := State.faultDrive_load hs hawaited honly hun hlast hothers hf hmem hmount hw hwaiters hitem hreset hstate htaken hwaits hin hsole timeout
    rw [fault_comes hs (fun h => ⟨by rw [hcmd]; exact Option.some_ne_none _, hcause h⟩) (by rw [hstate]; decide) (by rw [hstate]; decide), hends]
    simp only [State.faulted, Drive.faulted, hw]
    rfl
  case eviction =>
    intro p hin hcmd hstate hpiece hother hwaiters freed
    have hcomes := fault_comes hs (timeout := timeout) (fun h => ⟨by rw [hcmd]; exact Option.some_ne_none _, hcause h⟩) (by rw [hstate]; decide)
      (by rw [hstate]; decide)
    refine ⟨fun hd => ?_, fun hd hdue hreturns hmedia hdrives => ?_⟩
    · have hends := State.faultDrive_eviction_open hs hawaited honly hmem hmount hw hwaiters hreset hstate htaken hin hother hpiece hd timeout
      have hhalted : (if s.lib.doorOpen then PickerState.halted else .idle) = .halted := if_pos hd
      rw [hcomes, hends, State.evictionLost_workOver hw, hhalted]
      rfl
    · have hends := State.faultDrive_eviction_closed hs hawaited honly hmem hmount hw hwaiters hreset hstate htaken hin hother hpiece hd hdue hreturns
        hmedia hdrives timeout
      have hidle : (if s.lib.doorOpen then PickerState.halted else .idle) = .idle := if_neg (ne_true_of_eq_false hd)
      rw [hcomes, hends, State.evictionLost_workOver hw, hidle]
      rfl
  case flip =>
    intro q hmem w _ o _ i _ g _ sd hpiece hstate hin hreset hw hmount honly hwaiters hitem hun hlast hawaited hothers hf
    have hends := State.faultDrive_flip hs hawaited honly hun hlast hothers hf hmem hmount hw hwaiters hitem hreset hpiece hin false
    have hcomes := fault_comes hs (d := d) (timeout := false) (by nofun) (by rw [hstate]; decide) (by rw [hstate]; decide)
    rw [hends] at hcomes
    exact hcomes
  case again =>
    intro hstage
    rw [expiry_first hs hcmd hpast hretry, State.reissue_command hstage, State.settle_nil]
    · rfl
    · exact hs.2
  case writeAgain =>
    intro u hu q hq f hf e he hstage
    have hextent : s.extentOf q = e := by simp [State.extentOf, hf, he]
    rw [expiry_first hs hcmd hpast hretry, State.reissue_write hu hq hstage hextent, State.settle_nil]
    · rfl
    · exact hs.2
  case eject =>
    intro y hreset hstate hgen
    have hfailed := State.resetFailed_eq hreset hstate hgen
    refine ⟨fun hcmd => ?_, fun hcmd hpast hretry => ?_⟩
    · have hreport : s.faultReport d = s.resetFailed d := by
        have hstate' : (s.drive d).state = .fault := hstate
        have hsome : (s.drive d).cmd.isSome = true := Option.isSome_iff_ne_none.2 hcmd
        simp only [State.faultReport, hstate', hsome, if_true]
      rw [exec_driveFaultReport hs, hreport, hfailed, State.settle_nil]
      exact hs.2
    · rw [expiry_eject hs hcmd hpast hretry hstate, hfailed, State.settle_nil]
      exact hs.2

end Sys2Proof.Machine
end

section
/-!
PROOFS. The library's holdings: the ids of its platter records, the picker's piece of work and the platter it holds. They say how many records there are
and which one the picker brings (R119). One lemma for each operation of the units that leaves them alone.
-/
namespace Sys2Proof.Machine
set_option Elab.async false

/-- The ids of the platter records, in their order. -/
def CatMem.ids (c : CatMem) : List Nat := c.platters.map Platter.id

/-- The ids of the platter records, the picker's piece of work, and the platter it holds. -/
structure Holdings where
  ids : List Nat
  piece : Option Piece
  held : Option Nat

/-- The holdings of a state. -/
def State.holdings (s : State) : Holdings := ⟨s.cat.ids, s.lib.picker.piece, s.lib.picker.held⟩

@[simp] theorem State.holdings_mk
    pending power ref cat update absentMode reserved clock lines settings rights links startEvents filings commitQueue lastFiling filUse
    mapReads ops mem ring ringNext segments spaceFifo driveChans inChans outChans lib agenda freeCtr :
    State.holdings (.mk pending power ref cat update absentMode reserved clock lines settings rights links startEvents filings commitQueue lastFiling filUse
        mapReads ops mem ring ringNext segments spaceFifo driveChans inChans outChans lib agenda freeCtr) =
      ⟨cat.ids, lib.picker.piece, lib.picker.held⟩ := (rfl)

@[simp] theorem Holdings.eta (x : Holdings) : Holdings.mk x.ids x.piece x.held = x := (rfl)
@[simp] theorem State.cat_ids (s : State) : s.cat.ids = s.holdings.ids := (rfl)
@[simp] theorem State.picker_piece (s : State) : s.lib.picker.piece = s.holdings.piece := (rfl)
@[simp] theorem State.picker_held (s : State) : s.lib.picker.held = s.holdings.held := (rfl)

/-! ## Catalogue memory -/

section
variable (c : CatMem)

@[simp] theorem CatMem.ids_mk
    marker storedCount table folios lastStamp lastNumber platters slots substs active pendingSched accounts period grand snapshot target :
    CatMem.ids (.mk marker storedCount table folios lastStamp lastNumber platters slots substs active pendingSched accounts period grand snapshot
        target) = platters.map Platter.id := (rfl)

@[simp] theorem CatMem.map_id : c.platters.map Platter.id = c.ids := (rfl)

theorem CatMem.ids_length : c.ids.length = c.platters.length := List.length_map _

/-- The id of a platter with a record is among the ids, and no other id is. -/
theorem CatMem.mem_ids {id : Nat} : id ∈ c.ids ↔ (findKeyed Platter.id id c.platters).isSome = true := by
  simp [CatMem.ids, findKeyed, -CatMem.map_id]

/-- Platter records changed in place keep their ids. -/
theorem map_id_updateKeyed (id : Nat) (f : Platter → Platter) (hf : ∀ p, (f p).id = p.id) (l : List Platter) :
    (updateKeyed Platter.id id f l).map Platter.id = l.map Platter.id := by
  rw [updateKeyed, List.map_map]
  refine List.map_congr_left fun p _ => ?_
  dsimp only [Function.comp_apply]
  split
  · exact hf p
  · rfl

@[simp] theorem CatMem.modEntry_ids (n : InstrNum) (f : Entry → Entry) : (c.modEntry n f).ids = c.ids := (rfl)
@[simp] theorem CatMem.openEntry_ids (n : InstrNum) (q : FSlot) : (c.openEntry n q).ids = c.ids := (rfl)
@[simp] theorem CatMem.withdrawEntry_ids (n : InstrNum) : (c.withdrawEntry n).ids = c.ids := (rfl)
@[simp] theorem CatMem.addLodged_ids (n : InstrNum) (t : Stamp) (src : Source) : (c.addLodged n t src).ids = c.ids := (rfl)
@[simp] theorem CatMem.releaseEntry_ids (n : InstrNum) : (c.releaseEntry n).ids = c.ids := by unfold CatMem.releaseEntry; split <;> rfl
@[simp] theorem CatMem.setClaims_ids (n : InstrNum) (ts : List InstrNum) : (c.setClaims n ts).ids = c.ids := (rfl)
@[simp] theorem CatMem.recordEntry_ids (n : InstrNum) (loc : Location) (pg : Pages) (res : Bool) (fs : List Nat) :
    (c.recordEntry n loc pg res fs).ids = c.ids := (rfl)
@[simp] theorem CatMem.restored_ids (p : RestoreParams) (v : Source × Location × Bool × Option InstrNum) : (c.restored p v).ids = c.ids := by
  obtain ⟨e, f, hf, h⟩ := c.restored_eq p v
  rw [h]
  exact map_id_updateKeyed _ f hf _
@[simp] theorem CatMem.ready_ids : c.ready.ids = c.ids := (rfl)
@[simp] theorem CatMem.close_ids (sec : Nat) : (c.close sec).ids = c.ids := (rfl)
@[simp] theorem CatMem.raiseCopy_ids (code : Nat) : (c.raiseCopy code).ids = c.ids := (rfl)
@[simp] theorem CatMem.releaseCopy_ids (code : Nat) : (c.releaseCopy code).ids = c.ids := (rfl)
@[simp] theorem CatMem.accrue_ids (code : Nat) (q : Quote) : (c.accrue code q).ids = c.ids := (rfl)
@[simp] theorem CatMem.countCopy_ids (n : InstrNum) : (c.countCopy n).ids = c.ids := (rfl)
@[simp] theorem CatMem.copyMade_ids (account : Nat) (q : Quote) (n : InstrNum) : (c.copyMade account q n).ids = c.ids := (rfl)
@[simp] theorem CatMem.modAccount_ids (code : Nat) (f : Account → Account) : (c.modAccount code f).ids = c.ids := (rfl)
@[simp] theorem CatMem.resetAccount_ids (code : Nat) : (c.resetAccount code).ids = c.ids := (rfl)
@[simp] theorem CatMem.deleteAccount_ids (code : Nat) : (c.deleteAccount code).ids = c.ids := (rfl)
@[simp] theorem CatMem.setSlot_ids (n : Nat) (u : Option SlotUse) : (c.setSlot n u).ids = c.ids := by cases u <;> rfl
@[simp] theorem CatMem.giveHome_ids (id n : Nat) : (c.giveHome id n).ids = c.ids := 
  map_id_updateKeyed id (fun p => { p with home := some n }) (fun _ => rfl) c.platters
@[simp] theorem CatMem.substitute_ids (old new : Nat) : (c.substitute old new).ids = c.ids := by
  simp only [CatMem.substitute]
  split
  · rfl
  · rw [CatMem.ids_mk, map_id_updateKeyed old _ (by intro; rfl), map_id_updateKeyed new _ (by intro; rfl)]
    rfl

end

variable (s : State)

/-- A platter with a record is one whose id is among the ids. -/
theorem State.mem_ids {id : Nat} : id ∈ s.holdings.ids ↔ (s.platter? id).isSome = true := s.cat.mem_ids

/-- A chain of changes that leave the holdings alone leaves them alone. -/
theorem State.foldl_holdings {α : Type} (f : State → α → State) (hf : ∀ s a, (f s a).holdings = s.holdings) (l : List α) (s : State) :
    (l.foldl f s).holdings = s.holdings := by
  induction l generalizing s with
  | nil => rfl
  | cons a l ih => exact (ih _).trans (hf s a)

@[simp] theorem State.modCat_holdings (f : CatMem → CatMem) : (s.modCat f).holdings = { s.holdings with ids := (f s.cat).ids } := (rfl)
@[simp] theorem State.modLib_holdings (f : Library → Library) :
    (s.modLib f).holdings = ⟨s.holdings.ids, (f s.lib).picker.piece, (f s.lib).picker.held⟩ := (rfl)
@[simp] theorem State.modPicker_holdings (f : Picker → Picker) :
    (s.modPicker f).holdings = ⟨s.holdings.ids, (f s.lib.picker).piece, (f s.lib.picker).held⟩ := (rfl)
/-- A platter record changed in place, its id kept. -/
@[simp] theorem State.modPlatter_holdings (id : Nat) (f : Platter → Platter) (hf : ∀ p, (f p).id = p.id) : (s.modPlatter id f).holdings = s.holdings :=
  congrArg (Holdings.mk · _ _) (map_id_updateKeyed id f hf _)
@[simp] theorem State.setLoc_holdings (id : Nat) (l : PlatterLoc) : (s.setLoc id l).holdings = s.holdings :=
  s.modPlatter_holdings id _ fun _ => rfl
@[simp] theorem State.modSide_holdings (ps : PlatterSide) (f : SideRec → SideRec) : (s.modSide ps f).holdings = s.holdings :=
  s.modPlatter_holdings ps.platter _ fun p => p.modSide_id ps.side f
@[simp] theorem State.setSide_holdings (ps : PlatterSide) (st : SideState) : (s.setSide ps st).holdings = s.holdings :=
  s.modSide_holdings ps _
@[simp] theorem State.carry_holdings (id : Nat) : (s.carry id).holdings = { s.holdings with held := some id } :=
  congrArg (fun x => { x with held := some id }) (s.setLoc_holdings id .picker)

/-! ## Records of single units -/

@[simp] theorem State.setFiling_holdings (q : FSlot) (f : Option Filing) : (s.setFiling q f).holdings = s.holdings := (rfl)
@[simp] theorem State.modFiling_holdings (q : FSlot) (f : Filing → Filing) : (s.modFiling q f).holdings = s.holdings := (rfl)
@[simp] theorem State.modCommit_holdings (q : FSlot) (f : Commit → Commit) : (s.modCommit q f).holdings = s.holdings := (rfl)
@[simp] theorem State.freeSlot_holdings (q : FSlot) : (s.freeSlot q).holdings = s.holdings := (rfl)
@[simp] theorem State.markSlot_holdings (q : FSlot) (m : Mark) : (s.markSlot q m).holdings = s.holdings := (rfl)
@[simp] theorem State.appendRing_holdings (q : FSlot) (ext : Nat) : (s.appendRing q ext).holdings = s.holdings := (rfl)

@[simp] theorem State.later_holdings (ts : List Task) : (s.later ts).holdings = s.holdings := (rfl)
@[simp] theorem State.modLink_holdings (l : Link) (f : LinkRec → LinkRec) : (s.modLink l f).holdings = s.holdings := (rfl)
@[simp] theorem State.modLine_holdings (q : LineNo) (f : Line → Line) : (s.modLine q f).holdings = s.holdings := (rfl)
@[simp] theorem State.modDrive_holdings (d : DriveNo) (f : Drive → Drive) : (s.modDrive d f).holdings = s.holdings := (rfl)
@[simp] theorem State.modDriveChan_holdings (d : DriveNo) (f : DriveChan → DriveChan) : (s.modDriveChan d f).holdings = s.holdings := (rfl)
@[simp] theorem State.setInChan_holdings (l : Link) (c : InChan) : (s.setInChan l c).holdings = s.holdings := (rfl)
@[simp] theorem State.modOutChan_holdings (l : Link) (f : OutChan → OutChan) : (s.modOutChan l f).holdings = s.holdings := (rfl)
@[simp] theorem State.modOp_holdings (l : Link) (t : Nat) (f : Op → Op) : (s.modOp l t f).holdings = s.holdings := (rfl)
@[simp] theorem State.modItem_holdings (r : ItemRef) (f : Item → Item) : (s.modItem r f).holdings = s.holdings := (rfl)
@[simp] theorem State.setPhase_holdings (r : ItemRef) (p : Phase) : (s.setPhase r p).holdings = s.holdings := (rfl)
@[simp] theorem State.modSegment_holdings (n : InstrNum) (f : Segment → Segment) : (s.modSegment n f).holdings = s.holdings := (rfl)
@[simp] theorem State.useFree_holdings : s.useFree.holdings = s.holdings := (rfl)
@[simp] theorem State.releaseInst_holdings (n : InstrNum) (q : FSlot) : (s.releaseInst n q).holdings = s.holdings := by
  simp only [State.releaseInst]; split <;> simp

/-! ## Responses, events and records of single units -/

@[simp] theorem State.respond_holdings (r : Reply) (st : Status) (b : Body) : (s.respond r st b).holdings = s.holdings := by
  simp only [State.respond]; (repeat' split) <;> simp
@[simp] theorem State.answer_holdings (r : Reply) (st : Status) : (s.answer r st).holdings = s.holdings := s.respond_holdings r st .none

/-! ## Settings memory -/

@[simp] theorem State.beginWrite_holdings : s.beginWrite.holdings = s.holdings := by
  simp only [State.beginWrite]; (repeat' split) <;> simp
@[simp] theorem State.askWrite_holdings (c : SettingsChange) (r : Reply) : (s.askWrite c r).holdings = s.holdings := by simp [State.askWrite]
@[simp] theorem State.endWrite_holdings (ok : Bool) : (s.endWrite ok).holdings = s.holdings := by
  simp only [State.endWrite]; (repeat' split) <;> simp
@[simp] theorem State.pressRelease_holdings (q : LineNo) : (s.pressRelease q).holdings = s.holdings := (rfl)
@[simp] theorem State.printerAccept_holdings (q : LineNo) : (s.printerAccept q).holdings = s.holdings := (rfl)
@[simp] theorem State.printerRelease_holdings (q : LineNo) : (s.printerRelease q).holdings = s.holdings := (rfl)

/-! ## The ring, staging and the library -/

@[simp] theorem State.touchSegment_holdings (n : InstrNum) : (s.touchSegment n).holdings = s.holdings := by
  simp only [State.touchSegment]; (repeat' split) <;> simp
@[simp] theorem State.joinSegment_holdings (r : ItemRef) (n : InstrNum) : (s.joinSegment r n).holdings = s.holdings := by simp [State.joinSegment]
@[simp] theorem State.createSegment_holdings (r : ItemRef) (n : InstrNum) (first len : Nat) :
    (s.createSegment r n first len).holdings = s.holdings := by
  have hjoin := fun (l : List ItemRef) (s : State) => State.foldl_holdings (fun s o => s.joinSegment o n) (fun s o => by simp) l s
  simp only [State.createSegment]; split <;> simp [hjoin]
@[simp] theorem State.dropSegment_holdings (n : InstrNum) : (s.dropSegment n).holdings = s.holdings := (rfl)
@[simp] theorem State.idleOut_holdings (l : Link) : (s.idleOut l).holdings = s.holdings := (rfl)
@[simp] theorem State.leaveSegment_holdings (r : ItemRef) (g : Segment) : (s.leaveSegment r g).holdings = s.holdings := by
  simp only [State.leaveSegment]; (repeat' split) <;> simp
@[simp] theorem State.command_holdings (d : DriveNo) (c : DriveCmd) : (s.command d c).holdings = s.holdings := (rfl)
@[simp] theorem State.endCmd_holdings (d : DriveNo) : (s.endCmd d).holdings = s.holdings := (rfl)
@[simp] theorem State.idleChan_holdings (d : DriveNo) : (s.idleChan d).holdings = s.holdings := (rfl)
@[simp] theorem State.appendUse_holdings (d : DriveNo) (u : Use) : (s.appendUse d u).holdings = s.holdings := (rfl)
@[simp] theorem State.removeUse_holdings (d : DriveNo) (u : Use) : (s.removeUse d u).holdings = s.holdings := by
  simp only [State.removeUse]; (repeat' split) <;> simp
@[simp] theorem State.handOver_holdings (d : DriveNo) (w : Waiter) : (s.handOver d w).holdings = s.holdings := by
  simp only [State.handOver]; (repeat' split) <;> simp
@[simp] theorem State.modDemands_holdings (f : List Demand → List Demand) : (s.modDemands f).holdings = s.holdings := (rfl)
@[simp] theorem State.modDemand_holdings (ps : PlatterSide) (f : Demand → Demand) : (s.modDemand ps f).holdings = s.holdings := (rfl)
@[simp] theorem State.dropDemand_holdings (ps : PlatterSide) : (s.dropDemand ps).holdings = s.holdings := (rfl)
@[simp] theorem State.joinDemand_holdings (q : Demand) (w : Waiter) : (s.joinDemand q w).holdings = s.holdings := by
  simp only [State.joinDemand]; (repeat' split) <;> simp
@[simp] theorem State.newDemand_holdings (ps : PlatterSide) (w : Waiter) : (s.newDemand ps w).holdings = s.holdings := (rfl)
@[simp] theorem State.submit_holdings (ps : PlatterSide) (w : Waiter) : (s.submit ps w).holdings = s.holdings := by
  simp only [State.submit]; (repeat' split) <;> simp
@[simp] theorem State.pruneDemands_holdings : s.pruneDemands.holdings = s.holdings := (rfl)
@[simp] theorem State.leaveDemands_holdings (r : ItemRef) : (s.leaveDemands r).holdings = s.holdings := (rfl)
@[simp] theorem State.leaveFiling_holdings : s.leaveFiling.holdings = s.holdings := (rfl)
@[simp] theorem State.meet_holdings (d : DriveNo) (q : Demand) : (s.meet d q).holdings = s.holdings :=
  State.foldl_holdings _ (fun s w => by simp) _ _
@[simp] theorem State.meetMounted_holdings (d : DriveNo) : (s.meetMounted d).holdings = s.holdings := by
  simp only [State.meetMounted]; (repeat' split) <;> simp
@[simp] theorem State.endFilUse_holdings (d : DriveNo) : (s.endFilUse d).holdings = s.holdings := by simp [State.endFilUse]
@[simp] theorem State.endDemands_holdings (platter : Nat) (st : Status) : (s.endDemands platter st).holdings = s.holdings :=
  (State.foldl_holdings _ (fun s w => by cases w <;> simp) _ _).trans (by simp)
@[simp] theorem State.queueReturn_holdings (d : DriveNo) : (s.queueReturn d).holdings = s.holdings := (rfl)
@[simp] theorem State.unmount_holdings (ps : PlatterSide) : (s.unmount ps).holdings = s.holdings := (rfl)
@[simp] theorem State.answerReset_holdings (d : DriveNo) (st : Status) : (s.answerReset d st).holdings = s.holdings := by
  simp only [State.answerReset]; (repeat' split) <;> simp
@[simp] theorem State.answerReturn_holdings (d : DriveNo) (st : Status) : (s.answerReturn d st).holdings = s.holdings := by
  simp only [State.answerReturn]; (repeat' split) <;> simp
@[simp] theorem State.importEnds_holdings (r : Option Reply) (st : Status) (id slot : Nat) : (s.importEnds r st id slot).holdings = s.holdings := by
  simp only [State.importEnds]; (repeat' split) <;> simp
@[simp] theorem State.askImport_holdings (r : Option Reply) : (s.askImport r).holdings = s.holdings := by
  simp only [State.askImport]; (repeat' split) <;> simp
@[simp] theorem State.serveMail_holdings : s.serveMail.holdings = s.holdings := by
  simp only [State.serveMail]; (repeat' split) <;> simp

/-! ## Filing -/

@[simp] theorem State.demandSide_holdings (q : FSlot) (ps : PlatterSide) : (s.demandSide q ps).holdings = s.holdings := by
  simp only [State.demandSide]; (repeat' split) <;> simp
@[simp] theorem State.dropUse_holdings (q : FSlot) : (s.dropUse q).holdings = s.holdings := by
  simp only [State.dropUse]; (repeat' split) <;> simp
@[simp] theorem State.pass_holdings (d : DriveNo) (p : Passed) : (s.pass d p).holdings = s.holdings := (rfl)
@[simp] theorem State.setChan_holdings (d : DriveNo) (c : Chan) : (s.setChan d c).holdings = s.holdings := (rfl)
@[simp] theorem State.stage_holdings (g : FilStage) : (s.stage g).holdings = s.holdings := (rfl)
@[simp] theorem State.startCheck_holdings (d : DriveNo) (q : FSlot) : (s.startCheck d q).holdings = s.holdings := (rfl)
@[simp] theorem State.startHeader_holdings (d : DriveNo) (q : FSlot) : (s.startHeader d q).holdings = s.holdings := (rfl)
@[simp] theorem State.leaveSide_holdings (d : DriveNo) (next : Task) : (s.leaveSide d next).holdings = s.holdings := by simp [State.leaveSide]
@[simp] theorem State.headerErased_holdings (d : DriveNo) (u : FilUse) : (s.headerErased d u).holdings = s.holdings := by simp [State.headerErased]
@[simp] theorem State.startWrite_holdings (d : DriveNo) (q : FSlot) : (s.startWrite d q).holdings = s.holdings := by simp [State.startWrite]
@[simp] theorem State.startVerify_holdings (d : DriveNo) (q : FSlot) : (s.startVerify d q).holdings = s.holdings := by simp [State.startVerify]

/-! ## Retrieval -/

@[simp] theorem State.cancelFill_holdings (n : InstrNum) : (s.cancelFill n).holdings = s.holdings := by
  unfold State.cancelFill
  exact State.foldl_holdings _ (fun s d => by split <;> simp) _ _
@[simp] theorem State.removeUnstarted_holdings (g : Segment) (r : ItemRef) : (s.removeUnstarted g r).holdings = s.holdings := by
  unfold State.removeUnstarted
  exact (State.foldl_holdings _ (fun s u => by dsimp only; split <;> simp) _ _).trans (by simp)
@[simp] theorem State.leaveAll_holdings (r : ItemRef) : (s.leaveAll r).holdings = s.holdings := by
  simp only [State.leaveAll]; (repeat' split) <;> simp
@[simp] theorem State.nextTurn_holdings (l : Link) (t : Nat) : (s.nextTurn l t).holdings = s.holdings := by
  simp only [State.nextTurn]; (repeat' split) <;> simp
@[simp] theorem State.granted_holdings (r : ItemRef) (o : Op) (v : Resolved) (first : Nat) : (s.granted r o v first).holdings = s.holdings := by
  simp [State.granted]
@[simp] theorem State.askSpace_holdings (r : ItemRef) (o : Op) (v : Resolved) : (s.askSpace r o v).holdings = s.holdings := by
  simp only [State.askSpace]; (repeat' split) <;> simp
@[simp] theorem State.startFill_holdings (d : DriveNo) (n : InstrNum) : (s.startFill d n).holdings = s.holdings := by
  simp only [State.startFill]; (repeat' split) <;> simp
@[simp] theorem State.failUsers_holdings (g : Segment) : (s.failUsers g).holdings = s.holdings := (rfl)
@[simp] theorem State.failFill_holdings (d : DriveNo) (n : InstrNum) : (s.failFill d n).holdings = s.holdings := by
  simp only [State.failFill]; (repeat' split) <;> simp
@[simp] theorem State.endFill_holdings (d : DriveNo) (n : InstrNum) : (s.endFill d n).holdings = s.holdings := by simp [State.endFill]
@[simp] theorem State.outTake_holdings (l : Link) : (s.outTake l).holdings = s.holdings := by
  simp only [State.outTake]; (repeat' split) <;> simp
@[simp] theorem State.advanceOut_holdings (l : Link) (g : Segment) : (s.advanceOut l g).holdings = s.holdings := (rfl)
@[simp] theorem State.reportStaged_holdings (g : Segment) : (s.reportStaged g).holdings = s.holdings :=
  State.foldl_holdings _ (fun s l => by split <;> simp) _ _
@[simp] theorem State.offerFrame_holdings (l : Link) : (s.offerFrame l).holdings = s.holdings := by
  simp only [State.offerFrame]; (repeat' split) <;> simp

/-! ## Drives, picker, door and mail slot -/

@[simp] theorem State.endDemand_holdings (q : Demand) (st : Status) : (s.endDemand q st).holdings = s.holdings :=
  (State.foldl_holdings _ (fun s w => by cases w <;> simp) _ _).trans (by simp)
@[simp] theorem State.faultDemand_holdings (was : Drive) (q : Demand) : (s.faultDemand was q).holdings = s.holdings := by
  simp only [State.faultDemand]; (repeat' split) <;> simp
@[simp] theorem State.resetFailed_holdings (d : DriveNo) : (s.resetFailed d).holdings = s.holdings := by simp [State.resetFailed]
@[simp] theorem State.reissue_holdings (d : DriveNo) : (s.reissue d).holdings = s.holdings := by
  simp only [State.reissue]; (repeat' split) <;> simp
@[simp] theorem State.vacate_holdings (d : DriveNo) : (s.vacate d).holdings = s.holdings := (rfl)
@[simp] theorem State.ejected_holdings (d : DriveNo) : (s.ejected d).holdings = s.holdings := by
  simp only [State.ejected]; (repeat' split) <;> simp
@[simp] theorem State.countBlock_holdings (d : DriveNo) : (s.countBlock d).holdings = s.holdings := (rfl)
@[simp] theorem State.holdBlock_holdings (d : DriveNo) (b : List Byte) : (s.holdBlock d b).holdings = s.holdings := (rfl)
@[simp] theorem State.carryHeader_holdings (d : DriveNo) : (s.carryHeader d).holdings = s.holdings := (rfl)
@[simp] theorem State.residencyExpiry_holdings (d : DriveNo) : (s.residencyExpiry d).holdings = s.holdings := by
  simp only [State.residencyExpiry]; (repeat' split) <;> simp
@[simp] theorem State.stageBlock_holdings (d : DriveNo) (n : InstrNum) : (s.stageBlock d n).holdings = s.holdings := by
  simp only [State.stageBlock]; (repeat' split) <;> simp
@[simp] theorem State.serveIn_holdings (l : Link) : (s.serveIn l).holdings = s.holdings := by
  simp only [State.serveIn]; (repeat' split) <;> simp
@[simp] theorem State.emptied_holdings (d : DriveNo) : (s.emptied d).holdings = s.holdings := by
  simp only [State.emptied]; (repeat' split) <;> simp
@[simp] theorem State.modSweep_holdings (f : Sweep → Sweep) : (s.modSweep f).holdings = s.holdings := (rfl)
@[simp] theorem State.jamDemands_holdings : s.jamDemands.holdings = s.holdings := by
  simp only [State.jamDemands, State.pruneDemands_holdings, State.modDemands_holdings]
  exact State.foldl_holdings _ (fun s w => by cases w <;> simp) _ _
@[simp] theorem State.jamPiece_holdings : s.jamPiece.holdings = s.holdings := by
  simp only [State.jamPiece]; (repeat' split) <;> simp
@[simp] theorem State.refuseMedia_holdings (st : Status) : (s.refuseMedia st).holdings = s.holdings :=
  (State.foldl_holdings _ (fun s m => by cases m <;> simp) _ _).trans (by simp)
@[simp] theorem State.mailFilled_holdings : s.mailFilled.holdings = s.holdings := by
  simp only [State.mailFilled]; (repeat' split) <;> simp

/-! ## Frames -/

@[simp] theorem State.refuseFrame_holdings (l : Link) (tag : Option Nat) (code : Nat) (st : Status) :
    (s.refuseFrame l tag code st).holdings = s.holdings := by simp [State.refuseFrame]
@[simp] theorem State.badFrame_holdings (l : Link) (f : BadFrame) : (s.badFrame l f).holdings = s.holdings := by simp [State.badFrame]
@[simp] theorem State.responseSend_holdings (l : Link) : (s.responseSend l).holdings = s.holdings := by
  simp only [State.responseSend]; (repeat' split) <;> simp
@[simp] theorem State.responseAccepted_holdings (l : Link) : (s.responseAccepted l).holdings = s.holdings := by
  simp only [State.responseAccepted]; (repeat' split) <;> simp

/-! ## The library -/

/-! ## Filing: slots, attempts and turns -/

@[simp] theorem State.headTurn_holdings : s.headTurn.holdings = s.holdings := by
  simp only [State.headTurn]; (repeat' split) <;> simp
@[simp] theorem State.startErase_holdings (d : DriveNo) (q : FSlot) (f : Filing) (ps : PlatterSide) (fill : Nat) :
    (s.startErase d q f ps fill).holdings = s.holdings := by simp [State.startErase]
@[simp] theorem State.allocate_holdings (d : DriveNo) (q : FSlot) (ps : PlatterSide) : (s.allocate d q ps).holdings = s.holdings := by
  simp only [State.allocate]; (repeat' split) <;> simp
@[simp] theorem State.fileGiven_holdings (d : DriveNo) : (s.fileGiven d).holdings = s.holdings := by
  simp only [State.fileGiven]; (repeat' split) <;> simp
@[simp] theorem State.endCheck_holdings (d : DriveNo) (u : FilUse) (blank : Bool) : (s.endCheck d u blank).holdings = s.holdings := by
  simp only [State.endCheck]; (repeat' split) <;> simp
@[simp] theorem State.headerWritten_holdings (d : DriveNo) (u : FilUse) : (s.headerWritten d u).holdings = s.holdings := by
  simp only [State.headerWritten]; (repeat' split) <;> simp
@[simp] theorem State.admitCommit_holdings (r : Reply) (q : FSlot) (p : CommitParams) (res : Bool) (fs : List Nat) (ts : List InstrNum) :
    (s.admitCommit r q p res fs ts).holdings = s.holdings := by
  simp only [State.admitCommit]; split <;> simp

/-! ## Retrieval: items, turns and deliveries -/

@[simp] theorem State.createOp_holdings (r : Reply) (bundle : Bool) (pu : Purpose) (account : Nat) (cls : MountClass) (items : List Item) :
    (s.createOp r bundle pu account cls items).holdings = s.holdings := by
  have hraise := fun (l : List Item) (s : State) => State.foldl_holdings (fun s _ => s.modCat (fun c => c.raiseCopy account))
    (fun s _ => by simp) l s
  simp [State.createOp, hraise]
@[simp] theorem State.endItem_holdings (r : ItemRef) (st : Status) : (s.endItem r st).holdings = s.holdings := by
  simp only [State.endItem]; (repeat' split) <;> simp
@[simp] theorem State.itemDone_holdings (r : ItemRef) : (s.itemDone r).holdings = s.holdings := by
  simp only [State.itemDone]; (repeat' split) <;> simp
@[simp] theorem State.abortOps_holdings (l : Link) : (s.abortOps l).holdings = s.holdings := by
  simp only [State.abortOps]
  refine State.foldl_holdings _ (fun s o => ?_) _ _
  refine State.foldl_holdings _ (fun s p => ?_) _ _
  (repeat' split) <;> simp
@[simp] theorem State.turn_holdings (r : ItemRef) : (s.turn r).holdings = s.holdings := by
  simp only [State.turn]; (repeat' split) <;> simp
@[simp] theorem State.spaceTry_holdings : s.spaceTry.holdings = s.holdings := by
  simp only [State.spaceTry]; (repeat' split) <;> simp
@[simp] theorem State.driveNext_holdings (d : DriveNo) : (s.driveNext d).holdings = s.holdings := by
  simp only [State.driveNext]; (repeat' split) <;> simp
@[simp] theorem State.checkMap_holdings (l : Link) (r : ItemRef) (g : Segment) (v : Resolved) (range : Nat × Nat) :
    (s.checkMap l r g v range).holdings = s.holdings := by
  simp only [State.checkMap]; (repeat' split) <;> simp
@[simp] theorem State.dataAccepted_holdings (l : Link) : (s.dataAccepted l).holdings = s.holdings := by
  simp only [State.dataAccepted]; (repeat' split) <;> simp
@[simp] theorem State.deliveryTimeout_holdings (l : Link) : (s.deliveryTimeout l).holdings = s.holdings := by
  simp only [State.deliveryTimeout]; (repeat' split) <;> simp

/-! ## Drives -/

@[simp] theorem State.readyReport_holdings (d : DriveNo) : (s.readyReport d).holdings = s.holdings := by
  simp only [State.readyReport]; (repeat' split) <;> simp
@[simp] theorem State.setUnloadTime_holdings (d : DriveNo) : (s.setUnloadTime d).holdings = s.holdings := by
  simp only [State.setUnloadTime]; (repeat' split) <;> simp
/-! ## The picker -/

@[simp] theorem State.putInDrive_holdings (d : DriveNo) (ps : PlatterSide) : (s.putInDrive d ps).holdings = s.holdings := by
  simp only [State.putInDrive]; (repeat' split) <;> simp
/-! ## The sweep, jams and the mail slot -/

@[simp] theorem State.loseHome_holdings (n : Nat) (other : Option Nat) : (s.loseHome n other).holdings = s.holdings := by
  simp only [State.loseHome]; (repeat' split) <;> simp
@[simp] theorem State.sweepForeign_holdings (n : Nat) : (s.sweepForeign n).holdings = s.holdings := by simp [State.sweepForeign]
@[simp] theorem State.exportComplete_holdings (id : Nat) : (s.exportComplete id).holdings = s.holdings := by
  rw [State.exportComplete, State.later_holdings, State.setLoc_holdings, State.modCat_holdings]
  split <;> simp
@[simp] theorem State.sweepMail_holdings (rep : LabelReport) : (s.sweepMail rep).holdings = s.holdings := by
  simp only [State.sweepMail]; (repeat' split) <;> simp
@[simp] theorem State.mailEmptied_holdings : s.mailEmptied.holdings = s.holdings := by
  simp only [State.mailEmptied]; (repeat' split) <;> simp
@[simp] theorem State.post_holdings (e : Event) : (s.post e).holdings = s.holdings := by
  unfold State.post; split <;> rfl
@[simp] theorem State.postLow_holdings : s.postLow.holdings = s.holdings := by
  simp only [State.postLow]; (repeat' split) <;> simp

/-! ## Presses refused -/

@[simp] theorem State.refusePress_holdings (q : LineNo) (why : RefuseReason) : (s.refusePress q why).holdings = s.holdings := by
  simp [State.refusePress]

/-! ## Filing -/

@[simp] theorem State.sideSearch_holdings : s.sideSearch.holdings = s.holdings := by
  simp only [State.sideSearch]; (repeat' split) <;> simp
@[simp] theorem State.mediaRetry_holdings : s.mediaRetry.holdings = s.holdings := by
  simp only [State.mediaRetry]; (repeat' split) <;> simp

/-! ## Retrieval -/

@[simp] theorem State.stagingFault_holdings (l : Link) (g : Segment) : (s.stagingFault l g).holdings = s.holdings := by
  simp only [State.stagingFault]; (repeat' split) <;> simp

/-! ## Drives, picker, door and mail slot -/

@[simp] theorem State.fillParity_holdings (d : DriveNo) (n : InstrNum) : (s.fillParity d n).holdings = s.holdings := by simp [State.fillParity]
@[simp] theorem State.post_lib (e : Event) : (s.post e).lib = s.lib := by unfold State.post; split <;> rfl
@[simp] theorem State.doorOpens_holdings : s.doorOpens.holdings = s.holdings := by
  simp only [State.doorOpens]; (repeat' split) <;> simp
/-! ## Stamps, accounts and the period close -/

@[simp] theorem State.closePeriod_holdings : s.closePeriod.holdings = s.holdings := by
  simp [State.closePeriod]
@[simp] theorem State.testClose_holdings : s.testClose.holdings = s.holdings := by
  unfold State.testClose; split <;> simp
@[simp] theorem State.tick_holdings : s.tick.holdings = s.holdings := by
  unfold State.tick; split <;> simp
@[simp] theorem State.issue_holdings (n : InstrNum) (t : Stamp) (src : Source) : (s.issue n t src).holdings = s.holdings := by
  simp [State.issue]

/-! ## Attempts to file -/

@[simp] theorem State.serveMapRead_holdings (parity : Bool) : (s.serveMapRead parity).holdings = s.holdings := by
  simp only [State.serveMapRead]; (repeat' split) <;> simp

/-! ## Outbound channels -/

@[simp] theorem State.serveOut_holdings (l : Link) (parity : Bool) : (s.serveOut l parity).holdings = s.holdings := by
  simp only [State.serveOut]; (repeat' split) <;> simp

/-! ## Work handed over -/

/-! ## The sweep, jams and the mail slot -/

/-! ## Link reset -/

@[simp] theorem State.resetEdge_holdings (l : Link) : (s.resetEdge l).holdings = s.holdings := by
  simp [State.resetEdge]
@[simp] theorem State.linkReset_holdings (l : Link) : (s.linkReset l).holdings = s.holdings := by
  simp only [State.linkReset]; (repeat' split) <;> simp

/-! ## Requests, presses and the close target -/

@[simp] theorem State.pressInput_holdings (q : LineNo) : (s.pressInput q).holdings = s.holdings := by
  simp only [State.pressInput, State.takePress]; (repeat' split) <;> simp
@[simp] theorem State.closeReached_holdings : s.closeReached.holdings = s.holdings := by
  unfold State.closeReached; (repeat' split) <;> simp

end Sys2Proof.Machine
end

section
/-!
PROOFS. The library map holds no more than 160 records (R119): one is inserted by the sweep, which tests for room, or for the new platter the picker
brings, for which room was found when its label was read and which nothing else fills meanwhile.
-/
namespace Sys2Proof.Machine
set_option Elab.async false

/-! ## What the picker brings -/

namespace Holdings

/-- The platter whose record, where it has none, is made when the picker puts it down. -/
def brings (x : Holdings) : Option Nat :=
  match x.piece with
  | some (.importMove _ id) => some id
  | some (.homeMove _) => x.held
  | _ => none

/-- No more than 160 records, and room for that of a new platter the picker brings (R119). -/
def Fit (x : Holdings) : Prop :=
  x.ids.length ≤ Config.maxPlatters ∧ ∀ id, x.brings = some id → id ∉ x.ids → x.ids.length < Config.maxPlatters

variable {x : Holdings}

theorem Fit.le (h : x.Fit) : x.ids.length ≤ Config.maxPlatters := h.1

/-- With nothing new to bring, the number of records alone matters. -/
theorem fit_iff_le (h : ∀ id, x.brings = some id → id ∈ x.ids) : x.Fit ↔ x.ids.length ≤ Config.maxPlatters :=
  ⟨fun hx => hx.1, fun hx => ⟨hx, fun id hid hn => absurd (h id hid) hn⟩⟩

/-- A piece of work other than the two that bring platters. -/
theorem fit_iff_of_brings_none (h : x.brings = none) : x.Fit ↔ x.ids.length ≤ Config.maxPlatters :=
  fit_iff_le fun id hid => by rw [h] at hid; cases hid

/-- Room suffices whatever the picker does. -/
theorem fit_of_lt (h : x.ids.length < Config.maxPlatters) : x.Fit := ⟨h.le, fun _ _ _ => h⟩

/-- A picker that holds nothing any more. -/
theorem Fit.drop (h : x.Fit) : Fit { x with held := none } := by
  refine ⟨h.1, fun id hid hn => h.2 id ?_ hn⟩
  obtain ⟨ids, piece, held⟩ := x
  rcases piece with _ | p
  · cases hid
  · cases p <;> first | exact hid | cases hid

@[simp] theorem fit_no_piece {ids : List Nat} {held : Option Nat} : Fit ⟨ids, none, held⟩ ↔ ids.length ≤ Config.maxPlatters :=
  fit_iff_of_brings_none rfl
@[simp] theorem fit_homeMove_none {ids : List Nat} {d : DriveNo} : Fit ⟨ids, some (.homeMove d), none⟩ ↔ ids.length ≤ Config.maxPlatters :=
  fit_iff_of_brings_none rfl

end Holdings

/-- Of the pieces of work, the moves of an import and of a return home alone bring a platter. -/
@[simp] theorem Holdings.fit_piece {ids : List Nat} {p : Piece} {held : Option Nat} (himport : ∀ y id, p ≠ .importMove y id)
    (hhome : ∀ d, p ≠ .homeMove d) : Holdings.Fit ⟨ids, some p, held⟩ ↔ ids.length ≤ Config.maxPlatters := by
  refine Holdings.fit_iff_of_brings_none ?_
  cases p
  case importMove y id => exact absurd rfl (himport y id)
  case homeMove d => exact absurd rfl (hhome d)
  all_goals rfl

theorem State.bringing_iff (s : State) (id : Nat) : s.Bringing id ↔ s.holdings.brings = some id := by
  simp only [State.Bringing, Holdings.brings, State.holdings]
  cases s.lib.picker.piece with
  | none => simp
  | some p => cases p <;> simp

/-- The statement's property is that of the holdings, and of the image in the update record. -/
theorem State.plattersFit_iff (s : State) :
    s.PlattersFit ↔ s.holdings.Fit ∧ ∀ m, s.update = .complete m → m.ids.length ≤ Config.maxPlatters := by
  have hlen : s.holdings.ids.length = s.cat.platters.length := s.cat.ids_length
  have hmem : ∀ id, s.platter? id = none ↔ id ∉ s.holdings.ids := fun id => by
    rw [s.mem_ids, Bool.not_eq_true, Option.isSome_eq_false_iff, Option.isNone_iff_eq_none]
  simp only [State.PlattersFit, State.CatHas, State.bringing_iff, Holdings.Fit, hlen, hmem, CatMem.ids_length]
  tauto

/-! ## Pieces of work begun and ended -/

section
variable (s : State)

@[simp] theorem State.givePicker_holdings (src : Pos) (dst : Option Pos) (flip : Bool) (p : Piece) :
    (s.givePicker src dst flip p).holdings = ⟨s.holdings.ids, some p, s.holdings.held⟩ := (rfl)
@[simp] theorem State.waitAtDrive_holdings (d : DriveNo) (dst : Option Pos) (flip : Bool) (p : Piece) :
    (s.waitAtDrive d dst flip p).holdings = ⟨s.holdings.ids, some p, s.holdings.held⟩ := (rfl)
@[simp] theorem State.clearMove_holdings : s.clearMove.holdings = ⟨s.holdings.ids, s.holdings.piece, none⟩ := (rfl)
@[simp] theorem State.startSweep_holdings : s.startSweep.holdings = ⟨s.holdings.ids, some .sweep, none⟩ := (rfl)

@[simp] theorem State.endPiece_ids : s.endPiece.holdings.ids = s.holdings.ids := by
  simp only [State.endPiece]; (repeat' split) <;> simp
/-- Once its piece of work is over the picker brings nothing. -/
@[simp] theorem State.endPiece_fit : s.endPiece.holdings.Fit ↔ s.holdings.ids.length ≤ Config.maxPlatters := by
  simp only [State.endPiece]; (repeat' split) <;> simp
@[simp] theorem State.moveHome_holdings (d : DriveNo) (id n : Nat) (sd : Side) (p : Piece) :
    (s.moveHome d id n sd p).holdings = ⟨s.holdings.ids, some p, some id⟩ := by simp [State.moveHome]

end

end Sys2Proof.Machine
end

section
/-!
PROOFS. Every step keeps the library map within 160 records (R119): the operations that file, read or write leave the holdings alone, and those of the
picker keep them within bounds.
-/
namespace Sys2Proof.Machine
set_option Elab.async false

section
variable (s : State)

/-! ## Filing -/

@[simp] theorem State.discardSlot_holdings (q : FSlot) (n : InstrNum) : (s.discardSlot q n).holdings = s.holdings := by simp [State.discardSlot]
@[simp] theorem State.abandonSlot_holdings (q : FSlot) : (s.abandonSlot q).holdings = s.holdings := by
  simp only [State.abandonSlot]; (repeat' split) <;> simp
@[simp] theorem State.recordCommit_holdings (d : DriveNo) (q : FSlot) (f : Filing) (c : Commit) (l : Location) :
    (s.recordCommit d q f c l).holdings = s.holdings := by simp [State.recordCommit]
@[simp] theorem State.eraseDone_holdings (d : DriveNo) (q : FSlot) : (s.eraseDone d q).holdings = s.holdings := by
  simp only [State.eraseDone]; split <;> simp
@[simp] theorem State.writeDone_holdings (d : DriveNo) (q : FSlot) : (s.writeDone d q).holdings = s.holdings := by
  simp only [State.writeDone]; split <;> simp
@[simp] theorem State.verifyDone_holdings (d : DriveNo) (q : FSlot) : (s.verifyDone d q).holdings = s.holdings := by
  simp only [State.verifyDone]; (repeat' split) <;> simp
@[simp] theorem State.afterFailure_holdings (d : DriveNo) (q : FSlot) (ps : PlatterSide) : (s.afterFailure d q ps).holdings = s.holdings := by
  simp only [State.afterFailure, State.writeFailed]; (repeat' split) <;> simp
@[simp] theorem State.failAttempt_holdings (d : DriveNo) (u : FilUse) : (s.failAttempt d u).holdings = s.holdings := by
  simp only [State.failAttempt]; split <;> simp
@[simp] theorem State.headerFailed_holdings (d : DriveNo) (u : FilUse) : (s.headerFailed d u).holdings = s.holdings := by
  simp only [State.headerFailed]; split <;> simp
@[simp] theorem State.filFault_holdings (d : DriveNo) (u : FilUse) : (s.filFault d u).holdings = s.holdings := by
  simp only [State.filFault]; (repeat' split) <;> simp
@[simp] theorem State.idleExpiry_holdings (q : FSlot) : (s.idleExpiry q).holdings = s.holdings := by
  simp only [State.idleExpiry]; (repeat' split) <;> simp

/-! ## Drives and the port -/

@[simp] theorem State.faultUse_holdings (d : DriveNo) (u : Use) : (s.faultUse d u).holdings = s.holdings := by
  simp only [State.faultUse]; (repeat' split) <;> simp
@[simp] theorem State.compare_holdings (d : DriveNo) (u : FilUse) (q : FSlot) : (s.compare d u q).holdings = s.holdings := by
  simp only [State.compare]; (repeat' split) <;> simp
@[simp] theorem State.blockReport_holdings (d : DriveNo) (b : BlockReport) : (s.blockReport d b).holdings = s.holdings := by
  simp only [State.blockReport]; (repeat' split) <;> simp
@[simp] theorem State.doneReport_holdings (d : DriveNo) : (s.doneReport d).holdings = s.holdings := by
  simp only [State.doneReport]; (repeat' split) <;> simp
@[simp] theorem State.mediumError_holdings (d : DriveNo) : (s.mediumError d).holdings = s.holdings := by
  simp only [State.mediumError]; (repeat' split) <;> simp
@[simp] theorem State.unreadable_holdings (d : DriveNo) : (s.unreadable d).holdings = s.holdings := by
  simp only [State.unreadable]; (repeat' split) <;> simp
@[simp] theorem State.serveDrive_holdings (d : DriveNo) (parity : Bool) : (s.serveDrive d parity).holdings = s.holdings := by
  simp only [State.serveDrive, State.readRing]; (repeat' split) <;> simp
@[simp] theorem State.portMove_holdings (parity : Bool) : (s.portMove parity).holdings = s.holdings := by
  simp only [State.portMove]; (repeat' split) <;> simp

/-! ## Platters put down -/

/-- A new record adds at most one. -/
theorem CatMem.addPlatter_ids_le (c : CatMem) (id n : Nat) : (c.addPlatter id n).ids.length ≤ c.ids.length + 1 := by
  rw [CatMem.ids_length, CatMem.ids_length]
  exact length_insertKeyed Platter.id (Platter.new id n) c.platters

end

section
variable {s : State} (h : s.holdings.Fit)
include h

/-! ## The picker's next piece of work -/

omit h in
@[simp] theorem State.mountFetch_fit (d : DriveNo) (ps : PlatterSide) :
    (s.mountFetch d ps).holdings.Fit ↔ s.holdings.ids.length ≤ Config.maxPlatters := by
  simp only [State.mountFetch]; (repeat' split) <;> simp
omit h in
@[simp] theorem State.grant_fit (q : Demand) (d : DriveNo) : (s.grant q d).holdings.Fit ↔ s.holdings.ids.length ≤ Config.maxPlatters := by
  simp only [State.grant]; (repeat' split) <;> simp
@[simp] theorem State.arbiter_fit : s.arbiter.holdings.Fit := by
  simp only [State.arbiter]; split <;> simp [h, h.le]

/-- A return home brings a known platter, none, or a new one for whose record there is room. -/
theorem State.homeMove_fit (d : DriveNo) (new : Option Nat)
    (hnew : ∀ id, new = some id → id ∈ s.holdings.ids ∨ s.holdings.ids.length < Config.maxPlatters) : (s.homeMove d new).holdings.Fit := by
  unfold State.homeMove
  split
  · simp [h.le]
  · rename_i id sd _
    split
    · rename_i p hp
      split
      · rw [State.moveHome_holdings]
        refine (Holdings.fit_iff_le fun k hk => ?_).2 h.le
        obtain rfl : p.id = k := Option.some.inj hk
        obtain ⟨i, -, hi⟩ := Option.bind_eq_some_iff.1 hp
        obtain ⟨-, rfl⟩ := findKeyed_some Platter.id i _ p hi
        exact s.mem_ids.2 (Option.isSome_of_eq_some hi)
      · simp [h.le]
    · split
      · refine ⟨h.le, fun k hk hn => ?_⟩
        exact (hnew k hk).resolve_left hn
      · simp [h.le]

@[simp] theorem State.startReturn_fit (d : DriveNo) : (s.startReturn d).holdings.Fit := by
  unfold State.startReturn
  split
  · simp [h.le]
  · exact State.homeMove_fit h d none (fun _ hid => nomatch hid)
  · simp [h]
@[simp] theorem State.startMedia_fit (m : MediaReq) : (s.startMedia m).holdings.Fit := by
  simp only [State.startMedia]; (repeat' split) <;> simp [h, h.le]
@[simp] theorem State.pickerNext_fit : s.pickerNext.holdings.Fit := by
  unfold State.pickerNext
  split
  · split
    · exact State.startReturn_fit (by simpa using h) _
    · split
      · exact State.startMedia_fit (by simpa using h) _
      · exact State.arbiter_fit h
  · exact h

/-! ## Drives -/

@[simp] theorem State.faultPiece_fit (d : DriveNo) : (s.faultPiece d).holdings.Fit := by
  simp only [State.faultPiece]; (repeat' split) <;> simp [h, h.le]
@[simp] theorem State.faultDrive_fit (d : DriveNo) (timeout : Bool) : (s.faultDrive d timeout).holdings.Fit := by
  have huses := fun (l : List Use) (s : State) => State.foldl_holdings (fun s u => s.faultUse d u) (fun s u => by simp) l s
  have hdemands := fun (was : Drive) (l : List Demand) (s : State) => State.foldl_holdings (fun s q => s.faultDemand was q) (fun s q => by simp) l s
  simp only [State.faultDrive]
  refine State.faultPiece_fit ?_ d
  (repeat' split) <;> simp [hdemands, huses, h]
@[simp] theorem State.faultReport_fit (d : DriveNo) : (s.faultReport d).holdings.Fit := by
  simp only [State.faultReport]; (repeat' split) <;> simp [h]
@[simp] theorem State.driveTimeout_fit (d : DriveNo) : (s.driveTimeout d).holdings.Fit := by
  simp only [State.driveTimeout]; (repeat' split) <;> simp [h]
@[simp] theorem State.mountUnloaded_fit (d : DriveNo) (ps : PlatterSide) : (s.mountUnloaded d ps).holdings.Fit := by
  simp only [State.mountUnloaded]; (repeat' split) <;> simp [h.le]
@[simp] theorem State.exportUnloaded_fit (d : DriveNo) (r : Reply) (id : Nat) : (s.exportUnloaded d r id).holdings.Fit := by
  simp only [State.exportUnloaded]; (repeat' split) <;> simp [h.le]
@[simp] theorem State.unloadedReport_fit (d : DriveNo) : (s.unloadedReport d).holdings.Fit := by
  simp only [State.unloadedReport]; (repeat' split) <;> simp [h]

/-! ## Moves done -/

omit h in
@[simp] theorem State.evicted_fit (d : DriveNo) (ps : PlatterSide) :
    (s.evicted d ps).holdings.Fit ↔ s.holdings.ids.length ≤ Config.maxPlatters := by
  simp only [State.evicted]; (repeat' split) <;> simp

/-- A new platter is put down: the record made for it is one of 160 at most. -/
theorem State.addPlatter_le {id : Nat} (n : Nat) (hb : s.holdings.brings = some id) (hnew : ¬ (s.platter? id).isSome = true) :
    (s.cat.addPlatter id n).ids.length ≤ Config.maxPlatters :=
  (s.cat.addPlatter_ids_le id n).trans (h.2 id hb fun hm => hnew (s.mem_ids.1 hm))

theorem State.returned_fit (d : DriveNo) (hp : s.lib.picker.piece = some (.homeMove d)) : (s.returned d).holdings.Fit := by
  simp only [State.returned, State.endPiece_fit, State.later_holdings, State.emptied_holdings, State.answerReturn_holdings]
  split
  · rename_i id hheld
    split
    · simp [h.le]
    · rename_i hnew
      exact State.addPlatter_le h _ (by rw [Holdings.brings, show s.holdings.piece = _ from hp]; exact hheld) hnew
  · simp [h.le]

theorem State.importMoved_fit (r : Option Reply) (id : Nat) (hp : s.lib.picker.piece = some (.importMove r id)) :
    (s.importMoved r id).holdings.Fit := by
  simp only [State.importMoved, State.endPiece_fit, State.later_holdings, State.importEnds_holdings]
  split
  · simp [h.le]
  · rename_i hnew
    exact State.addPlatter_le h _ (by rw [Holdings.brings, show s.holdings.piece = _ from hp]) hnew

omit h in
@[simp] theorem State.exportMoved_fit (r : Reply) (id : Nat) : (s.exportMoved r id).holdings.Fit ↔ s.holdings.ids.length ≤ Config.maxPlatters := by
  simp [State.exportMoved]

@[simp] theorem State.moveDone_fit : s.moveDone.holdings.Fit := by
  unfold State.moveDone
  split
  · exact h
  · split
    case h_4 d hp => exact State.returned_fit h d hp
    case h_5 r id hp => exact State.importMoved_fit h r id hp
    all_goals simp [h, h.le]

/-! ## Labels read -/

omit h in
/-- The id a return home goes on with is of a known platter, or there is room for its record (R158). -/
theorem State.homeLabelId_room {rep : LabelReport} {id : Nat} (hid : s.homeLabelId rep = some id) :
    id ∈ s.holdings.ids ∨ s.holdings.ids.length < Config.maxPlatters := by
  unfold State.homeLabelId at hid
  split at hid
  · rename_i n
    have hloc : ∀ l, s.locOf (n + 1) = some l → n + 1 ∈ s.holdings.ids := fun l hl => by
      obtain ⟨p, hp, -⟩ := Option.map_eq_some_iff.1 hl
      exact s.mem_ids.2 (Option.isSome_of_eq_some hp)
    split at hid
    · rename_i hl
      obtain rfl := Option.some.inj hid
      exact .inl (hloc _ hl)
    · rename_i hl
      obtain rfl := Option.some.inj hid
      exact .inl (hloc _ hl)
    · cases hid
    · split at hid
      · rename_i hroom
        exact .inr (s.cat.ids_length.trans_lt hroom)
      · cases hid
  · cases hid

@[simp] theorem State.homeLabelled_fit (d : DriveNo) (rep : LabelReport) : (s.homeLabelled d rep).holdings.Fit := by
  have hclear : s.clearMove.holdings.Fit := h.drop
  unfold State.homeLabelled
  dsimp only
  split
  · simp [h.le]
  · split
    all_goals
      split
      · simp [h.le]
      · exact State.homeMove_fit (by simpa using hclear) d _ fun id hid => by simpa using State.homeLabelId_room hid

omit h in
theorem State.importSlot_room {n m : Nat} (hok : s.importSlot n = .ok m) (hnew : ¬ (s.platter? n).isSome = true) :
    s.holdings.ids.length < Config.maxPlatters := by
  have hnone : s.platter? n = none := by simpa using hnew
  unfold State.importSlot at hok
  simp only [hnone] at hok
  split at hok
  · cases hok
  split at hok
  · cases hok
  split at hok
  · cases hok
  rename_i hroom
  rw [show s.holdings.ids.length = s.cat.platters.length from s.cat.ids_length]
  exact Nat.lt_of_not_le hroom

/-- A platter whose label an import has read has a record, or there is room for its record (R142). -/
theorem State.importTaken_fit {n m : Nat} (r : Option Reply) (hok : s.importSlot n = .ok m) :
    ((State.modLib (if (s.platter? n).isSome then (s.modCat (fun c => c.giveHome n m)).carry n
        else s.modPicker (fun k => { k with held := some n })) (fun l => { l with mail := .empty })).givePicker .mail (some (.slot m)) false
      (.importMove r n)).holdings.Fit := by
  rw [State.givePicker_holdings, State.modLib_holdings]
  split
  · rename_i hknown
    refine (Holdings.fit_iff_le fun k hk => ?_).2 (by simpa using h.le)
    obtain rfl := Option.some.inj hk
    simpa using s.mem_ids.2 hknown
  · rename_i hnew
    exact Holdings.fit_of_lt (State.importSlot_room hok hnew)

@[simp] theorem State.importLabelled_fit (r : Option Reply) (rep : LabelReport) : (s.importLabelled r rep).holdings.Fit := by
  cases rep <;>
  · simp only [State.importLabelled]
    split
    · simp [h.le]
    · rename_i hok
      split
      · simp [h.le]
      · exact State.importTaken_fit h r hok

/-! ## The sweep -/

/-- A platter found by the sweep has a record, or there is room for its record. -/
theorem State.sweepFound_le (n id : Nat) (hroom : id ∈ s.holdings.ids ∨ s.holdings.ids.length < Config.maxPlatters) :
    (s.sweepFound n id).holdings.ids.length ≤ Config.maxPlatters := by
  have hlost : ((s.loseHome n (some id)).modSweep fun w => { w with found := w.found ++ [id], foundCount := w.foundCount + 1 }).holdings =
      s.holdings := (State.modSweep_holdings ..).trans (State.loseHome_holdings ..)
  unfold State.sweepFound
  dsimp only
  split
  · simp [h.le]
  · rename_i hnew
    rw [← State.mem_ids, hlost] at hnew
    rw [State.modSweep_holdings, State.modCat_holdings]
    refine (CatMem.addPlatter_ids_le _ _ _).trans ?_
    rw [State.cat_ids, hlost]
    exact hroom.resolve_left hnew

/-- The sweep makes a record only where there is room for it (R152). -/
theorem State.sweepSlot_le (n : Nat) (rep : LabelReport) : (s.sweepSlot n rep).holdings.ids.length ≤ Config.maxPlatters := by
  unfold State.sweepSlot
  split
  · split <;> simp [h.le]
  · simp [h.le]
  · rename_i k
    split
    · simp [h.le]
    · split
      · simp [h.le]
      · rename_i hfull
        refine State.sweepFound_le h n (k + 1) (or_iff_not_imp_left.2 fun hnew => ?_)
        refine Nat.lt_of_not_le fun hle => hfull ⟨?_, s.cat.ids_length ▸ hle⟩
        simpa [State.mem_ids] using hnew

omit h in
@[simp] theorem State.sweepEnd_fit : s.sweepEnd.holdings.Fit ↔ s.holdings.ids.length ≤ Config.maxPlatters := by
  have hgone := fun (l : List Nat) (s : State) => State.foldl_holdings (fun s id => (s.setLoc id .unknown).later [.unreachable id .offline])
    (fun s id => by simp) l s
  have hback := fun (l : List DriveNo) (s : State) => State.foldl_holdings (fun s d => s.queueReturn d) (fun s d => by simp) l s
  simp [State.sweepEnd, hgone, hback]

@[simp] theorem State.sweepReport_fit (rep : LabelReport) : (s.sweepReport rep).holdings.Fit := by
  have hslot := State.sweepSlot_le h s.lib.sweep.next rep
  simp only [State.sweepReport]
  (repeat' split) <;> simp [hslot, h.le]
@[simp] theorem State.labelReport_fit (rep : LabelReport) : (s.labelReport rep).holdings.Fit := by
  simp only [State.labelReport]; (repeat' split) <;> simp [h]

/-! ## Jams and the door -/

@[simp] theorem State.jam_fit : s.jam.holdings.Fit := by
  simp only [State.jam]; (repeat' split) <;> simp [h.le]
@[simp] theorem State.pickerTimeout_fit : s.pickerTimeout.holdings.Fit := by
  simp only [State.pickerTimeout]; (repeat' split) <;> simp [h]
@[simp] theorem State.doorCloses_fit : s.doorCloses.holdings.Fit := by
  simp only [State.doorCloses]; (repeat' split) <;> simp [h, h.le]

/-! ## Work handed over -/

@[simp] theorem State.runTask_fit (t : Task) : (s.runTask t).holdings.Fit := by
  cases t <;> simp [State.runTask, h]
omit h in
theorem State.settleFor_fit (n : Nat) (s : State) (h : s.holdings.Fit) : (State.settleFor n s).holdings.Fit := by
  induction n generalizing s with
  | zero => exact h
  | succ n ih =>
    unfold State.settleFor
    split
    · exact h
    · exact ih _ (State.runTask_fit (s := { s with agenda := [] }) h _)
@[simp] theorem State.settle_fit : s.settle.holdings.Fit := State.settleFor_fit _ s h

/-! ## Requests and frames -/

omit h in
/-- No request changes the holdings but by the work it hands over. -/
@[simp] theorem State.handle_holdings (s : State) (r : Reply) (q : Request) : (s.handle r q).holdings = s.holdings := by
  cases q <;>
    simp only [State.handle, handleLookup, handlePendingList, handleFolioSearch, handleRestore, handleCatalogueReady, handleSettingsSet,
      handleClockRead, handleClockLoad, handleClockStep, handleClockTrim, handleCloseTargetSet, handleLodge, State.answerSchedules, handleScheduleSet,
      State.answerAccount, accountCreate, accountChange, accountReset, accountDelete, handleAccountSet, handleAccountRead, handlePeriodTake,
      handlePeriodClear, handleImport, handleExport, handleSubstitute, handleDriveReset, handleOpenFiling, handleFeed, State.admitFeed, handleCommit,
      handleAbandon, handleWithdraw, handleCloseSide, handleFetch, handleBundle, handleQuote, handleStatus, handleRightsSet, handleEventsRead,
      handleEventsAck, handleEventsEnable]
  all_goals (repeat' split) <;> simp

omit h in
@[simp] theorem State.route_holdings (s : State) (r : Reply) (q : Request) : (s.route r q).holdings = s.holdings := by
  unfold State.route; (repeat' split) <;> simp
omit h in
@[simp] theorem State.takeRequest_holdings (s : State) (l : Link) (tag : Nat) (q : Request) : (s.takeRequest l tag q).holdings = s.holdings := by
  simp only [State.takeRequest]; (repeat' split) <;> simp
@[simp] theorem State.takeInput_fit (l : Link) (i : LaneInput) : (s.takeInput l i).holdings.Fit := by
  cases i <;> simp [State.takeInput, h]

@[simp] theorem State.drain_fit (l : Link) : (s.drain l).holdings.Fit :=
  State.drain_keeps (P := fun s => s.holdings.Fit) (fun s l i _ hs _ => State.takeInput_fit (by simpa using hs) l i) s l h
@[simp] theorem State.drainAll_fit : s.drainAll.holdings.Fit := State.drain_fit (State.drain_fit (State.drain_fit h .l0) .l1) .l2
@[simp] theorem State.arrive_fit (l : Link) (i : LaneInput) : (s.arrive l i).holdings.Fit := by
  unfold State.arrive; (repeat' split) <;> simp [h]
@[simp] theorem State.linkRelease_fit (l : Link) : (s.linkRelease l).holdings.Fit := by simp [State.linkRelease, h]
@[simp] theorem State.linksStart_fit : s.linksStart.holdings.Fit := by
  have hpost := fun (l : List Event) (s : State) => State.foldl_holdings (fun s e => s.post e) (fun s e => by simp) l s
  unfold State.linksStart
  split
  · refine State.drainAll_fit (State.settle_fit ?_)
    split <;> simp [hpost, h, h.le]
  · exact h
@[simp] theorem State.whenPowered_fit {t : State} (ht : t.holdings.Fit) : (s.whenPowered t).holdings.Fit := by
  unfold State.whenPowered; split
  · exact ht
  · exact h

/-- A command other than those of the supply keeps the holdings within bounds. -/
theorem exec_fit {i : Instr} {t : State} (hon : ∀ p, i ≠ .powerOn p) (hoff : ∀ c, i ≠ .powerFail c) (hi : exec i s = .next t) :
    t.holdings.Fit := by
  cases hq : requestOf i with
  | some v =>
    obtain ⟨l, g, q⟩ := v
    rw [exec_request i l g q hq s] at hi
    obtain rfl := Host.Outcome.next.inj hi
    exact State.settle_fit (State.arrive_fit h _ _)
  | none =>
    cases i <;> simp only [requestOf, reduceCtorEq] at hq
    case powerOn p => exact absurd rfl (hon p)
    case powerFail c => exact absurd rfl (hoff c)
    case bufferPortMove =>
      obtain rfl := Host.Outcome.next.inj hi
      exact State.settle_fit (State.drainAll_fit (State.settle_fit (by simpa using h)))
    all_goals
      obtain rfl := Host.Outcome.next.inj hi
      refine State.settle_fit ?_
      try split
      all_goals simp [h]

end

/-! ## The supply -/

/-- The image the update record gets has the records of catalogue memory (R22). -/
@[simp] theorem State.imageOf_ids (s : State) (c : UpdateChange) : (s.imageOf c).ids = s.holdings.ids := by
  cases c
  case close =>
    have hclose : ∀ k : Clock, (if s.cat.target.reached k then s.cat.close k.now.sec else s.cat).ids = s.cat.ids := fun k => by split <;> simp
    exact hclose _
  case createFor q l => cases q <;> simp only [State.imageOf] <;> (repeat' split) <;> simp
  all_goals
    simp only [State.imageOf]
    (repeat' split) <;> simp

/-- Kept memory is started with the records it holds, or emptied (R23). -/
theorem CatMem.started_ids_le (c : CatMem) (found : MemoryFound) : (c.started found).ids.length ≤ c.ids.length := by
  unfold CatMem.started
  split
  · exact Nat.le_of_eq rfl
  · exact Nat.zero_le _

/-- After a power failure the picker brings nothing, and the image has the records of memory (R22, R26). -/
theorem State.PlattersFit.powerFail {s : State} (hs : s.PlattersFit) (c : PowerCut) : (s.powerFail c).PlattersFit := by
  by_cases hoff : s.power = .off
  · rwa [s.powerFail_off c hoff]
  · obtain ⟨hfit, -⟩ := s.plattersFit_iff.1 hs
    have hholds : (s.powerFail c).holdings = ⟨s.holdings.ids, none, none⟩ := by rw [State.powerFail, if_neg hoff]; rfl
    have hupdate : (s.powerFail c).update = s.cutRecord c := congrArg Books.update (s.powerFail_books c hoff)
    refine (State.plattersFit_iff _).2 ⟨?_, fun m hm => ?_⟩
    · rw [hholds]
      exact Holdings.fit_no_piece.2 hfit.le
    · rw [hupdate] at hm
      cases c <;> cases hm
      rw [State.imageOf_ids]
      exact hfit.le

/-- The mechanics are found with a picker that has no work. -/
theorem State.startMechanics_holdings (s : State) (p : PowerOn) : (s.startMechanics p).holdings = ⟨s.holdings.ids, none, none⟩ := by
  have hloc : ∀ (f : Platter → PlatterLoc) (l : List Platter), (l.map fun q => { q with loc := f q }).map Platter.id = l.map Platter.id :=
    fun f l => List.map_map.trans (List.map_congr_left fun _ _ => rfl)
  unfold State.startMechanics
  dsimp only
  (repeat' split) <;> simp [hloc, State.startLibrary, Library.start]

/-- Power-on starts from memory or from the image, with a picker that has no work (R22, R156, R157). -/
theorem State.PlattersFit.powerOn {s : State} (hs : s.PlattersFit) (p : PowerOn) : (s.powerOn p).PlattersFit := by
  by_cases hoff : s.power = .off
  · obtain ⟨hfit, himage⟩ := s.plattersFit_iff.1 hs
    have hreplay : s.replay.ids.length ≤ Config.maxPlatters := by
      unfold State.replay
      split
      · rename_i m hm
        exact himage m hm
      · exact hfit.le
    have hmemory : (s.startMemory p).holdings.ids = (s.replay.started p.memory).ids := rfl
    have hupdate : (s.powerOn p).update = .clear := (s.powerOn_leads p hoff).update_eq
    refine (State.plattersFit_iff _).2 ⟨?_, fun m hm => by rw [hupdate] at hm; cases hm⟩
    rw [State.powerOn, if_pos hoff, State.startMechanics_holdings, State.testClose_holdings, hmemory]
    exact Holdings.fit_no_piece.2 ((s.replay.started_ids_le p.memory).trans hreplay)
  · rwa [s.powerOn_on p hoff]

/-- Work handed over leaves the update record alone. -/
theorem State.PlattersFit.settle {s : State} (hs : s.PlattersFit) : s.settle.PlattersFit := by
  obtain ⟨hfit, himage⟩ := s.plattersFit_iff.1 hs
  have hupdate : s.settle.update = s.update := (State.settle_leads (.refl s.books)).update_eq
  exact (State.plattersFit_iff _).2 ⟨State.settle_fit hfit, by rwa [hupdate]⟩

/-- Every command keeps the library map within its bound. -/
theorem exec_plattersFit {i : Instr} {s t : State} (hs : s.PlattersFit) (h : exec i s = .next t) : t.PlattersFit := by
  by_cases hon : ∃ p, i = .powerOn p
  · obtain ⟨p, rfl⟩ := hon
    obtain rfl := Host.Outcome.next.inj h
    exact (hs.powerOn p).settle
  by_cases hoff : ∃ c, i = .powerFail c
  · obtain ⟨c, rfl⟩ := hoff
    obtain rfl := Host.Outcome.next.inj h
    exact (hs.powerFail c).settle
  · have hon' : ∀ p, i ≠ .powerOn p := fun p hp => hon ⟨p, hp⟩
    have hoff' : ∀ c, i ≠ .powerFail c := fun c hc => hoff ⟨c, hc⟩
    obtain ⟨hfit, himage⟩ := s.plattersFit_iff.1 hs
    have hupdate : t.update = s.update := (exec_leads hon' hoff' h).update_eq
    exact (State.plattersFit_iff _).2 ⟨exec_fit hfit hon' hoff' h, by rwa [hupdate]⟩

/-- Settles O9: a record is made by the sweep, which tests for room, or when the picker puts down a new platter, for which there was room when its label
was read; meanwhile no other record is made. -/
theorem libraryMapFitsKept : Obligations.LibraryMapFitsKept := by
  intro s t hs hstep
  unfold step at hstep
  split at hstep
  · obtain rfl := Host.Outcome.next.inj hstep
    exact hs
  · rename_i rest _
    exact exec_plattersFit (s := { s with pending := rest }) hs hstep

end Sys2Proof.Machine
end
